-- ==== Sys2Proof/Word.lean ====
section
/-!
DEFINITION. The word types of the E9 (00, R9: every multi-byte structure is little-endian; 01, R30: addresses are
52 bits wide and are kept as natural numbers once computed) and the one shape of sparse table the state uses.
-/

namespace Sys2Proof

/-- One byte. -/
abbrev Byte := BitVec 8
/-- A 16-bit word. -/
abbrev W16 := BitVec 16
/-- A 32-bit word. -/
abbrev W32 := BitVec 32
/-- A 64-bit word: every BAR0 register (16, R376) and every descriptor word. -/
abbrev W64 := BitVec 64

/-- A sparse table: entries by rising key, each key once. -/
abbrev KV (α : Type) := List (Nat × α)

end Sys2Proof
end

