-- ==== Sys2Proof/Machine/Operands.lean ====
section
/-!
DEFINITION. The operand types that commands carry, and the outputs the block drives.
-/

namespace Sys2Proof

/-- A configuration register of the PCIe function that the spec names (15, R347–R350, R364); any other is named by
its dword offset. -/
inductive CfgReg
  | vendorDevice
  | classRevision
  /-- BAR0–BAR5, one dword each. -/
  | bar (n : Nat)
  | command
  | deviceControl
  | deviceControl2
  | msixControl
  /-- The Resizable BAR control of BAR2: log₂ of its size. -/
  | bar2Size
  /-- The expansion-ROM BAR: there is no expansion ROM (15, R348). -/
  | expansionRom
  /-- Readiness Time Reporting 1 and 2 (15, Table 15-1). -/
  | readiness1
  | readiness2
  | other (dword : Nat)
deriving DecidableEq, Repr

/-- The classes in which a memory channel holds its reads (06, R163): every read of Finder; scrub and checkpoint reads;
every other. -/
inductive ReadCls
  | lc
  | bulk
  | bg
deriving DecidableEq, Repr

/-- A read that waits at a channel and whose bank timing allows issue: its class, its bytes within one sector, and how
long it has waited in ns (06, R163; 07, R170). -/
structure ChanRead where
  cls : ReadCls
  a : Nat
  n : Nat
  waited : Nat
deriving DecidableEq, Repr

/-- What training a DRAM channel or a NAND interface finds (19, R456, Table 19-6). -/
structure TrainResult where
  /-- The saved settings meet Table 19-3; those of cold training do. -/
  warmOk : Bool
  coldOk : Bool
  ms : Nat
  eyeUi : Nat
  eyeMv : Nat
  lane : Nat
deriving DecidableEq, Repr

/-- What Almanac reads in phase 2 (19, R453, R454). -/
structure Measured where
  /-- The lowest rail out of its warning limits, and temperature sensor at its shutdown limit. -/
  badRail : Option Nat
  badTemp : Option Nat
  /-- The identities read, in device order. -/
  ids : List Byte
  /-- GDDR7 devices absent or of another kind; the lowest channel of such an LPDDR5X package; such NAND interfaces. -/
  badDevs : List Nat
  badLp : Option Nat
  badNand : List Nat
  /-- Present mean temperatures in °C. -/
  tG : Int
  tL : Int
  /-- Ports whose cable and pluggable identity are the ones saved. -/
  portsSame : Nat
deriving DecidableEq, Repr

/-- The reset inputs (19, R464; 21, R509). -/
inductive ResetPin
  | perstLow
  | perstHigh
  | modReset
deriving DecidableEq, Repr

/-- What one read of a page of a NAND frame finds: the errors of its eight sectors as the light code sees them
(position 0–135 to the bits that differ), and the number of wrong parity symbols of the page (18, R444; 17, R399). -/
structure NandRead where
  sectors : List (List (Nat × Nat))
  parity : Nat
deriving DecidableEq, Repr

/-- A page of a NAND frame: the granule's address at capture, the page's first sector in it, and the reads at
read-retry levels 0 to 7 (18, R444). -/
structure NandPage where
  granule : Nat
  sector : Nat
  levels : List NandRead
deriving DecidableEq, Repr

/-- What a host TLP carries beside its address and data: the T bit of a secured stream, the poison mark, and whether it
is an AtomicOp request in place of a read or a write (15, R350, Tables 15-1 and 15-6). -/
structure Tlp where
  tee : Bool
  poisoned : Bool
  atomic : Bool
deriving DecidableEq, Repr

/-- The PCIe events of Table 15-5 but for PERST#. -/
inductive PcieEvent
  | hotReset
  | linkDown
  | flr
  | wake
deriving DecidableEq, Repr

end Sys2Proof
end

