-- ==== Sys2Proof/Syntax.lean ====
section
/-!
DEFINITION. The commands the block takes: one constructor for each row of spec/opcode_table.json, with the operand
types they carry.
-/

namespace Sys2Proof

/-- The commands and events of the block: one constructor for each row of the opcode table, in table order. A
constructor's docstring names the row and the chapter and rule that govern it; operands that the row takes from
outside (what a sender writes, what a wire carries, what an instrument reads) are the constructor's fields. -/
inductive Instr
  /-- REGISTER_WRITE (16, R376). -/
  | registerWrite (off : Nat) (width : Nat) (v : W64) (tlp : Tlp)
  /-- TQ_DOORBELL (05, R117). -/
  | tqDoorbell (v : W64) (tlp : Tlp)
  /-- TQ_CPL_HEAD (05, R119). -/
  | tqCplHead (v : W64) (tlp : Tlp)
  /-- STASH_DOORBELL (08, R193). -/
  | stashDoorbell (v : W64) (tlp : Tlp)
  /-- GUARD_DOORBELL (09, R211). -/
  | guardDoorbell (v : W64) (tlp : Tlp)
  /-- APERTURE_BASE_WRITE (15, R349). -/
  | apertureBaseWrite (v : W64) (tlp : Tlp)
  /-- BNC_IN_TAIL_WRITE (15, R365). -/
  | bncInTailWrite (v : W64) (tlp : Tlp)
  /-- BNC_OUT_HEAD_WRITE (15, R365). -/
  | bncOutHeadWrite (v : W64) (tlp : Tlp)
  /-- MBX_DOORBELL (16, R382). -/
  | mbxDoorbell (m : Fin 16) (v : W64) (tlp : Tlp)
  /-- MBX_DONE_CLEAR (16, R380). -/
  | mbxDoneClear (v : W64) (meets : W64) (tlp : Tlp)
  /-- ERR_SUMMARY_CLEAR (16, R380). -/
  | errSummaryClear (v : W64) (meets : W64) (tlp : Tlp)
  /-- EVT_HEAD_WRITE (16, R379). -/
  | evtHeadWrite (v : W64) (tlp : Tlp)
  /-- APERTURE_READ (15, R349). -/
  | apertureRead (off : Nat) (n : Nat) (tlp : Tlp)
  /-- APERTURE_WRITE (15, R350). -/
  | apertureWrite (off : Nat) (bs : List Byte) (tlp : Tlp)
  /-- PCIE_CONFIG_REQUEST (15, R352). -/
  | pcieConfigRequest (reg : CfgReg) (w : Option W32)
  /-- PERST (19, R464). -/
  | perst (pin : ResetPin)
  /-- PCIE_FUNCTION_RESET (15, R351). -/
  | pcieFunctionReset (ev : PcieEvent)
  /-- HOST_COMPLETION (15, R350). -/
  | hostCompletion (id : Nat) (st : Fin 4) (bytes : List Byte)
  /-- HOST_COMPLETION_TIMEOUT (15, R350). -/
  | hostCompletionTimeout (id : Nat)
  /-- GET_DEVICE_INFO (16, R392). -/
  | getDeviceInfo (m : Fin 16)
  /-- NOP (16, R392). -/
  | nop (m : Fin 16)
  /-- SET_EVENT_RING (16, R394). -/
  | setEventRing (m : Fin 16)
  /-- CREATE_QUEUE (05, R115). -/
  | createQueue (m : Fin 16)
  /-- DESTROY_QUEUE (05, R116). -/
  | destroyQueue (m : Fin 16)
  /-- HALT_STREAM (04, R96). -/
  | haltStream (m : Fin 16)
  /-- RESUME_STREAM (04, R96). -/
  | resumeStream (m : Fin 16)
  /-- RESET_STREAM (04, R96). -/
  | resetStream (m : Fin 16)
  /-- SET_CLASS_SHARES (05, R122). -/
  | setClassShares (m : Fin 16)
  /-- LOAD_LAYER_PROGRAM (04, R113). -/
  | loadLayerProgram (m : Fin 16)
  /-- UNLOAD_LAYER_PROGRAM (05, R116). -/
  | unloadLayerProgram (m : Fin 16)
  /-- SET_COELOSTAT_CONFIG (06, R151). -/
  | setCoelostatConfig (m : Fin 16)
  /-- SET_MEMORY_INTERLEAVE (07, R173). -/
  | setMemoryInterleave (m : Fin 16)
  /-- SNAPSHOT_DIRTY_AT_BOUNDARY (07, R180). -/
  | snapshotDirtyAtBoundary (m : Fin 16)
  /-- SNAPSHOT_DIRTY_NOW (07, R180). -/
  | snapshotDirtyNow (m : Fin 16)
  /-- SNAPSHOT_DIRTY_RELEASE (07, R180). -/
  | snapshotDirtyRelease (m : Fin 16)
  /-- READ_DIRTY_MAP (07, R181). -/
  | readDirtyMap (m : Fin 16)
  /-- CONFIGURE_STASH (08, R191). -/
  | configureStash (m : Fin 16)
  /-- CONFIGURE_NUMERICS (09, R211). -/
  | configureNumerics (m : Fin 16)
  /-- SET_RNG_SEED (09, R219). -/
  | setRngSeed (m : Fin 16)
  /-- READ_WATCH (09, R224). -/
  | readWatch (m : Fin 16)
  /-- SET_WATCH (09, R224). -/
  | setWatch (m : Fin 16)
  /-- CONFIGURE_PHOTOMETER (10, R231). -/
  | configurePhotometer (m : Fin 16)
  /-- CONFIGURE_SPECTROGRAPH (11, R266). -/
  | configureSpectrograph (m : Fin 16)
  /-- CONFIGURE_EPHEMERIS (12, R277). -/
  | configureEphemeris (m : Fin 16)
  /-- READ_PORT_STATUS (13, R305). -/
  | readPortStatus (m : Fin 16)
  /-- RETRAIN_PORT (13, R306). -/
  | retrainPort (m : Fin 16)
  /-- SET_PORT_CONFIG (13, R309). -/
  | setPortConfig (m : Fin 16)
  /-- SET_TOPOLOGY (13, R313). -/
  | setTopology (m : Fin 16)
  /-- SET_GLOBAL_LINK (13, R313). -/
  | setGlobalLink (m : Fin 16)
  /-- SET_ROUTING (13, R316). -/
  | setRouting (m : Fin 16)
  /-- SET_MODULE_ID (14, R323). -/
  | setModuleId (m : Fin 16)
  /-- CREATE_COMMUNICATOR (14, R324). -/
  | createCommunicator (m : Fin 16)
  /-- DESTROY_COMMUNICATOR (14, R324). -/
  | destroyCommunicator (m : Fin 16)
  /-- SWITCH_LAYOUT (14, R336). -/
  | switchLayout (m : Fin 16)
  /-- SET_SITE_MAP (14, R340). -/
  | setSiteMap (m : Fin 16)
  /-- CLEAR_FENCE (14, R343). -/
  | clearFence (m : Fin 16)
  /-- SET_BUDDY (14, R344). -/
  | setBuddy (m : Fin 16)
  /-- IMPORT_WEIGHTS (15, R368). -/
  | importWeights (m : Fin 16)
  /-- IMPORT_CHUNK_DONE (15, R368). -/
  | importChunkDone (ok : Bool) (bs : List Byte)
  /-- SET_SCRUB_RATE (17, R409). -/
  | setScrubRate (m : Fin 16)
  /-- SET_FLIP_MASK (17, R422). -/
  | setFlipMask (m : Fin 16)
  /-- READ_ERROR_LOG (17, R423). -/
  | readErrorLog (m : Fin 16)
  /-- SET_REPAIR_MAP (17, R416). -/
  | setRepairMap (m : Fin 16)
  /-- WRITE_CHECKPOINT_FULL (18, R430). -/
  | writeCheckpointFull (m : Fin 16)
  /-- WRITE_CHECKPOINT_INCREMENTAL (18, R431). -/
  | writeCheckpointIncremental (m : Fin 16)
  /-- RESTORE_CHECKPOINT_LOCAL (18, R437). -/
  | restoreCheckpointLocal (m : Fin 16)
  /-- RESTORE_CHECKPOINT_BUDDY (18, R442). -/
  | restoreCheckpointBuddy (m : Fin 16)
  /-- LIST_CHECKPOINTS (18, R448). -/
  | listCheckpoints (m : Fin 16)
  /-- DELETE_CHECKPOINT (18, R448). -/
  | deleteCheckpoint (m : Fin 16)
  /-- READ_STORE_HEALTH (18, R447). -/
  | readStoreHealth (m : Fin 16)
  /-- RESET_MODULE_FULL (19, R464). -/
  | resetModuleFull (m : Fin 16)
  /-- RESET_MODULE_COMPUTE (19, R467). -/
  | resetModuleCompute (m : Fin 16)
  /-- RESET_MODULE_CLUSTER (19, R468). -/
  | resetModuleCluster (m : Fin 16)
  /-- SAVE_TRAINING (19, R455). -/
  | saveTraining (m : Fin 16) (ok : Bool)
  /-- RUN_TRAFFIC_TEST (19, R477). -/
  | runTrafficTest (m : Fin 16)
  /-- TRAFFIC_TEST_END (19, R477). -/
  | trafficTestEnd (errors : Nat) (first : W64)
  /-- RUN_MARGINING (19, R478). -/
  | runMargining (m : Fin 16)
  /-- MARGINING_DONE (19, R478). -/
  | marginingDone (temp : Int) (pass : Bool) (lanes : List (Nat × Nat × Nat × Nat))
  /-- SET_COLLIMATION (19, R469). -/
  | setCollimation (m : Fin 16)
  /-- READ_BRINGUP_REPORT (19, R463). -/
  | readBringupReport (m : Fin 16)
  /-- SET_TIME_SOURCE_LOAD (20, R483). -/
  | setTimeSourceLoad (m : Fin 16)
  /-- SET_TIME_SOURCE_PPS (20, R483). -/
  | setTimeSourcePps (m : Fin 16)
  /-- READ_TIME_STATUS (20, R495). -/
  | readTimeStatus (m : Fin 16)
  /-- CONFIGURE_MONITOR (20, R499). -/
  | configureMonitor (m : Fin 16)
  /-- READ_HISTOGRAM (20, R501). -/
  | readHistogram (m : Fin 16)
  /-- READ_SENSORS (20, R495). -/
  | readSensors (m : Fin 16)
  /-- SET_POWER_LIMIT (21, R516). -/
  | setPowerLimit (m : Fin 16)
  /-- READ_SCHED_COUNTERS (16, R393). -/
  | readSchedCounters (m : Fin 16)
  /-- READ_STREAM_COUNTERS (16, R393). -/
  | readStreamCounters (m : Fin 16)
  /-- READ_MEMORY_COUNTERS (16, R393). -/
  | readMemoryCounters (m : Fin 16)
  /-- READ_STASH_COUNTERS (16, R393). -/
  | readStashCounters (m : Fin 16)
  /-- READ_NUMERIC_COUNTERS (16, R393). -/
  | readNumericCounters (m : Fin 16)
  /-- READ_PHOTOMETER_COUNTERS (16, R393). -/
  | readPhotometerCounters (m : Fin 16)
  /-- READ_SPECTRO_COUNTERS (16, R393). -/
  | readSpectroCounters (m : Fin 16)
  /-- READ_EPHEMERIS_COUNTERS (16, R393). -/
  | readEphemerisCounters (m : Fin 16)
  /-- READ_FABRIC_COUNTERS (16, R393). -/
  | readFabricCounters (m : Fin 16)
  /-- READ_COLLECTIVE_COUNTERS (16, R393). -/
  | readCollectiveCounters (m : Fin 16)
  /-- READ_HOST_COUNTERS (16, R393). -/
  | readHostCounters (m : Fin 16)
  /-- READ_RELIABILITY_COUNTERS (16, R393). -/
  | readReliabilityCounters (m : Fin 16)
  /-- MAILBOX_COMMAND_TIMEOUT (16, R386). -/
  | mailboxCommandTimeout (m : Fin 16)
  /-- ALMANAC_HEARTBEAT_TICK (16, R376). -/
  | almanacHeartbeatTick
  /-- ALMANAC_FAILED (16, R387). -/
  | almanacFailed
  /-- MSIX_MODERATION_EXPIRY (16, R398). -/
  | msixModerationExpiry (vec : Nat)
  /-- DESCRIPTOR_FETCH (04, R110). -/
  | descriptorFetch (q : Nat)
  /-- TASK_ADMIT (05, R120). -/
  | taskAdmit (die : Fin 2)
  /-- CORE_SELECT (05, R126). -/
  | coreSelect (core : Fin 512) (vec : Bool)
  /-- STEAL_ATTEMPT (05, R129). -/
  | stealAttempt (core : Fin 512) (idle : Nat)
  /-- STEAL_DESCRIPTOR_MOVED (05, R131). -/
  | stealDescriptorMoved (core : Fin 512)
  /-- LEND_START (05, R140). -/
  | lendStart (t : Nat)
  /-- ACCOUNTING_PERIOD_END (05, R124). -/
  | accountingPeriodEnd
  /-- DEFICIT_BROADCAST (05, R125). -/
  | deficitBroadcast
  /-- MATRIX_TASK_START (03, R73). -/
  | matrixTaskStart (t : Nat)
  /-- STATS_TASK_START (04, R100). -/
  | statsTaskStart (t : Nat)
  /-- VECTOR_TASK_START (03, R77). -/
  | vectorTaskStart (t : Nat)
  /-- SLICE_LANDED (06, R149). -/
  | sliceLanded (t : Nat) (op : Fin 2) (slice : Nat)
  /-- RESULT_DRAIN (03, R69). -/
  | resultDrain (t : Nat) (b : Nat)
  /-- WRITEBACK_ACCEPTED (06, R150). -/
  | writebackAccepted (t : Nat)
  /-- GATHER_TASK (06, R153). -/
  | gatherTask (c : Fin 32)
  /-- SCATTER_TASK (06, R156). -/
  | scatterTask (c : Fin 32)
  /-- TRANSFER_TASK (06, R159). -/
  | transferTask (c : Fin 32)
  /-- SPECTRO_TASK (11, R245). -/
  | spectroTask (c : Fin 32)
  /-- OPTIM_TASK (12, R290). -/
  | optimTask (die : Fin 2)
  /-- COLLECTIVE_TASK (14, R329). -/
  | collectiveTask (die : Fin 2)
  /-- SEM_WAIT (05, R121). -/
  | semWait (t : Nat)
  /-- SEM_SIGNAL (04, R104). -/
  | semSignal (t : Nat)
  /-- TIMER_TASK (04, R104). -/
  | timerTask (t : Nat)
  /-- TIMER_EXPIRED (20, R482). -/
  | timerExpired (t : Nat)
  /-- STEP_MARK (04, R105). -/
  | stepMark (t : Nat)
  /-- STEP_BOUNDARY (12, R292). -/
  | stepBoundary (t : Nat)
  /-- TASK_COMPLETE (04, R95). -/
  | taskComplete (t : Nat) (cycles : Nat) (stall : Nat)
  /-- SEM_WAIT_TIMEOUT (05, R142). -/
  | semWaitTimeout (t : Nat)
  /-- PARK_TOKEN_FREE (05, R137). -/
  | parkTokenFree (t : Nat)
  /-- WATCH_RESEND (05, R138). -/
  | watchResend (t : Nat)
  /-- STASH_S_BIND (08, R195). -/
  | stashSBind (slot : Nat)
  /-- STASH_S_FWD_DONE (08, R198). -/
  | stashSFwdDone (slot : Nat)
  /-- STASH_S_BWD_NEED (08, R198). -/
  | stashSBwdNeed (slot : Nat)
  /-- STASH_S_RC_DONE (08, R198). -/
  | stashSRcDone (slot : Nat)
  /-- STASH_S_FREE (08, R199). -/
  | stashSFree (slot : Nat)
  /-- STASH_COPY_DONE (08, R200). -/
  | stashCopyDone (slot : Nat)
  /-- GUARD_TRIGGER (09, R214). -/
  | guardTrigger (slot : Nat)
  /-- GUARD_RANGE_COMPLETE (09, R214). -/
  | guardRangeComplete (slot : Nat)
  /-- FOLD_SWAP (10, R236). -/
  | foldSwap
  /-- FOLD_START (10, R237). -/
  | foldStart (slot : Nat)
  /-- FOLD_PUBLISH (10, R237). -/
  | foldPublish (slot : Nat)
  /-- PHOTOMETER_HOLD (10, R240). -/
  | photometerHold (c : Fin 32)
  /-- PHOTOMETER_HOLD_RELEASE (11, R252). -/
  | photometerHoldRelease (c : Fin 32)
  /-- ASSEMBLER_PASS_DONE (11, R253). -/
  | assemblerPassDone (c : Fin 32)
  /-- SPECTRO_DECISION (11, R257). -/
  | spectroDecision (c : Fin 32)
  /-- SPECTRO_DEADLINE (11, R264). -/
  | spectroDeadline (c : Fin 32)
  /-- OPERATOR_APPLY_DONE (11, R262). -/
  | operatorApplyDone (c : Fin 32)
  /-- SPECTRO_WRITE_OUT (11, R270). -/
  | spectroWriteOut (c : Fin 32)
  /-- TABLE_HOLD (11, R270). -/
  | tableHold (die : Fin 2)
  /-- TABLE_HOLD_RELEASE (11, R270). -/
  | tableHoldRelease
  /-- CODEWORD_RECEIVED (13, R300). -/
  | codewordReceived (port : Fin 30) (ok : Bool) (seqLo : Byte) (lpos : Fin 16) (fec : List Nat) (flits : List (List Nat))
  /-- LINK_FLIT_RECEIVED (13, R300). -/
  | linkFlitReceived (port : Fin 30) (words : List Nat)
  /-- LINK_FLIT_DUE (13, R301). -/
  | linkFlitDue (port : Fin 30)
  /-- PORT_SIGNAL_DETECT (13, R302). -/
  | portSignalDetect (port : Fin 30)
  /-- PORT_TRAIN_DONE (13, R302). -/
  | portTrainDone (port : Fin 30) (good : Nat)
  /-- PORT_LENGTH_DONE (13, R303). -/
  | portLengthDone (port : Fin 30) (samples : List (Nat × Nat)) (medium : Nat) (turn : Nat)
  /-- CAPS_RECORD_RECEIVED (13, R304). -/
  | capsRecordReceived (port : Fin 30) (words : List Nat)
  /-- PORT_DEGRADE (13, R306). -/
  | portDegrade (port : Fin 30) (lane : Fin 4) (otherGood : Bool)
  /-- PORT_DOWN (13, R306). -/
  | portDown (port : Fin 30)
  /-- PACKET_FORWARD (13, R317). -/
  | packetForward (port : Fin 30) (hop : Nat)
  /-- PACKET_INJECT (13, R316). -/
  | packetInject
  /-- INBOUND_WRITE (13, R318). -/
  | inboundWrite
  /-- INBOUND_READ_REQ (13, R318). -/
  | inboundReadReq
  /-- READ_RSP_RECEIVED (05, R136). -/
  | readRspReceived
  /-- WRITE_ACK_RECEIVED (13, R319). -/
  | writeAckReceived
  /-- INBOUND_SEM_OP (13, R319). -/
  | inboundSemOp
  /-- INBOUND_SEM_WATCH (05, R138). -/
  | inboundSemWatch
  /-- WATCH_RSP_RECEIVED (05, R142). -/
  | watchRspReceived
  /-- INBOUND_WATCH_CANCEL (05, R138). -/
  | inboundWatchCancel
  /-- COLL_DATA_RECEIVED (14, R331). -/
  | collDataReceived
  /-- COLL_FREE_RECEIVED (14, R329). -/
  | collFreeReceived
  /-- COLL_ABORT_RECEIVED (14, R334). -/
  | collAbortReceived
  /-- COLLECTIVE_TIMEOUT (14, R335). -/
  | collectiveTimeout (t : Nat)
  /-- FABRIC_TIMEOUT (13, R320). -/
  | fabricTimeout (t : Nat)
  /-- PORT_STATES_RECEIVED (13, R315). -/
  | portStatesReceived
  /-- PORT_STATES_SEND (13, R315). -/
  | portStatesSend
  /-- PEER_REPORT_STALE (13, R315). -/
  | peerReportStale (member : Fin 8)
  /-- SITE_STATE_RECEIVED (14, R341). -/
  | siteStateReceived
  /-- SITE_STATE_SEND (14, R341). -/
  | siteStateSend
  /-- SITE_VIEW_STALE (14, R341). -/
  | siteViewStale
  /-- BUDDY_BEAT_SEND (14, R344). -/
  | buddyBeatSend
  /-- BUDDY_BEAT_RECEIVED (14, R344). -/
  | buddyBeatReceived
  /-- BUDDY_LOST (14, R344). -/
  | buddyLost
  /-- MIRROR_CREDIT_RECEIVED (14, R344). -/
  | mirrorCreditReceived
  /-- MIRROR_BEGIN_RECEIVED (18, R440). -/
  | mirrorBeginReceived
  /-- MIRROR_GRANULE_RECEIVED (18, R440). -/
  | mirrorGranuleReceived
  /-- MIRROR_COMMIT_RECEIVED (18, R440). -/
  | mirrorCommitReceived
  /-- MIRROR_ABORT_RECEIVED (18, R440). -/
  | mirrorAbortReceived
  /-- MIRROR_DONE_RECEIVED (18, R440). -/
  | mirrorDoneReceived
  /-- RESTORE_REQ_RECEIVED (18, R442). -/
  | restoreReqReceived
  /-- CHANNEL_READ (07, R170). -/
  | channelRead (chan : Nat) (rs : List ChanRead)
  /-- CHANNEL_WRITE (07, R170). -/
  | channelWrite (a : Nat) (bs : List Byte)
  /-- CHANNEL_WRITE_DRAIN (06, R163). -/
  | channelWriteDrain (chan : Nat)
  /-- METADATA_WRITEBACK (07, R170). -/
  | metadataWriteback (chan : Nat)
  /-- STRONG_CODE_DECISION (17, R403). -/
  | strongCodeDecision (a : Nat)
  /-- SURVEY_PAGE_VISIT (17, R408). -/
  | surveyPageVisit (chan : Nat)
  /-- CHANNEL_TRAINING_LOST (17, R410). -/
  | channelTrainingLost (chan : Nat)
  /-- BRIDGE_LANE_ERROR (17, R411). -/
  | bridgeLaneError (die : Fin 2) (group : Fin 150) (lane : Fin 21)
  /-- REPAIR_START (17, R417). -/
  | repairStart
  /-- REPAIR_PEER_RETRY (17, R417). -/
  | repairPeerRetry (page : Nat)
  /-- REPAIR_DONE (17, R417). -/
  | repairDone (page : Nat)
  /-- REPAIR_FAILED (17, R419). -/
  | repairFailed (page : Nat)
  /-- CAPTURE_ON_DEMAND (18, R433). -/
  | captureOnDemand (a : Nat) (ns : Nat)
  /-- STAGING_DRAIN (18, R433). -/
  | stagingDrain (n : Nat) (blocks : List Nat)
  /-- CHECKPOINT_COMMIT (18, R434). -/
  | checkpointCommit
  /-- RESTORE_DONE (18, R437). -/
  | restoreDone (n : Nat)
  /-- STORE_REPAIR_READ (18, R438). -/
  | storeRepairRead (page : Nat)
  /-- NAND_FRAME_READ (18, R444). -/
  | nandFrameRead (gen : Nat) (block : Nat) (frame : List NandPage)
  /-- STORE_BLOCK_REFRESH (18, R445). -/
  | storeBlockRefresh (block : Nat) (into : Nat) (live : Nat)
  /-- NAND_PROGRAM_FAIL (18, R446). -/
  | nandProgramFail (block : Nat) (cause : Fin 3)
  /-- STORE_DAY_TICK (18, R447). -/
  | storeDayTick
  /-- STORE_RECLAIM_DONE (19, R460). -/
  | storeReclaimDone (blocks : List Nat)
  /-- BRINGUP_START (19, R451). -/
  | bringupStart
  /-- FIRMWARE_BOOT (19, R453). -/
  | firmwareBoot
  /-- MEASURE_DONE (19, R453). -/
  | measureDone (found : Measured)
  /-- BRIDGE_TRAIN_DONE (19, R458). -/
  | bridgeTrainDone (lanes : List (Nat × Nat)) (failed : Option Nat) (delay : Nat) (warmOk : Bool)
  /-- DRAM_TRAIN_DONE (19, R456). -/
  | dramTrainDone (tier : Fin 2) (ch : Nat) (res : TrainResult)
  /-- NAND_TRAIN_DONE (19, R456). -/
  | nandTrainDone (n : Fin 8) (res : TrainResult)
  /-- STORE_INDEX_LOADED (19, R460). -/
  | storeIndexLoaded (repaired : List (Nat × Nat)) (noSpares : Nat)
  /-- PORT_WINDOW_CLOSE (19, R459). -/
  | portWindowClose
  /-- TIER_FILL_DONE (07, R173). -/
  | tierFillDone (t : Fin 2)
  /-- BRINGUP_READY (19, R461). -/
  | bringupReady
  /-- SETTINGS_SAVE (19, R455). -/
  | settingsSave (ok : Bool)
  /-- COMPUTE_RESET_DONE (19, R467). -/
  | computeResetDone
  /-- CLUSTER_RESET_DONE (19, R468). -/
  | clusterResetDone
  /-- COLLIMATION_DRAIN_END (19, R471). -/
  | collimationDrainEnd
  /-- COLLIMATION_CLEAR_DONE (19, R472). -/
  | collimationClearDone
  /-- COLLIMATION_MEMORY_TEST_DONE (19, R474). -/
  | collimationMemoryTestDone (banks : List Nat) (multi : Bool)
  /-- COLLIMATION_BLOCK_DONE (19, R474). -/
  | collimationBlockDone (same : Bool) (retest : Bool)
  /-- COLLIMATION_RESTORE_DONE (19, R473). -/
  | collimationRestoreDone
  /-- GET_VERSION (15, R356). -/
  | getVersion
  /-- GET_CAPABILITIES (15, R356). -/
  | getCapabilities
  /-- NEGOTIATE_ALGORITHMS (15, R356). -/
  | negotiateAlgorithms (ok : Bool)
  /-- GET_DIGESTS (15, R356). -/
  | getDigests
  /-- GET_CERTIFICATE (15, R356). -/
  | getCertificate (slot : Nat) (off : Nat) (n : Nat)
  /-- CHALLENGE (15, R356). -/
  | challenge (slot : Nat) (nonce : List Byte)
  /-- GET_MEASUREMENTS (15, R360). -/
  | getMeasurements (sess : Option Nat) (op : Nat) (sign : Bool) (nonce : List Byte)
  /-- KEY_EXCHANGE (15, R356). -/
  | keyExchange (slot : Nat)
  /-- FINISH (15, R356). -/
  | finish (sid : Nat) (ok : Bool)
  /-- HEARTBEAT (15, R356). -/
  | heartbeat (sid : Nat)
  /-- KEY_UPDATE (15, R356). -/
  | keyUpdate (sid : Nat)
  /-- END_SESSION (15, R356). -/
  | endSession (sid : Nat)
  /-- SPDM_SESSION_IDLE (15, R356). -/
  | spdmSessionIdle (sid : Nat)
  /-- SPDM_UNSUPPORTED_REQUEST (15, R356). -/
  | spdmUnsupportedRequest (sess : Option Nat)
  /-- SET_SESSION_SCOPE (15, R360). -/
  | setSessionScope (sess : Option Nat) (rsv : Nat) (n : Nat)
  /-- ENTER_TENANT (15, R365). -/
  | enterTenant (sess : Option Nat) (rsv : Nat) (inBase : Nat) (inLog : Nat) (outBase : Nat) (outLog : Nat) (inHeadWord : Nat) (outTailWord : Nat)
  /-- EXIT_TENANT (15, R374). -/
  | exitTenant (sess : Option Nat) (rsv : Nat)
  /-- INSTALL_KEY (15, R367). -/
  | installKey (sess : Option Nat) (rsv : Nat) (slot : Nat) (kind : Nat) (keyId : Nat) (key : List Byte)
  /-- DESTROY_KEY (15, R367). -/
  | destroyKey (sess : Option Nat) (rsv : Nat) (slot : Nat)
  /-- SET_PEER_MAP (15, R355). -/
  | setPeerMap (sess : Option Nat) (rsv : Nat) (map : List Byte)
  /-- INSTALL_MEMBERSHIP (15, R362). -/
  | installMembership (sess : Option Nat) (rsv : Nat) (cert : List Byte)
  /-- GET_MEMBERSHIP_PROOF (15, R363). -/
  | getMembershipProof (sess : Option Nat) (rsv : Nat) (nonce : List Byte)
  /-- VENDOR_OPCODE_INVALID (15, R357). -/
  | vendorOpcodeInvalid (sess : Option Nat) (opcode : Nat)
  /-- GET_TDISP_VERSION (15, R364). -/
  | getTdispVersion (sess : Option Nat)
  /-- GET_TDISP_CAPABILITIES (15, R364). -/
  | getTdispCapabilities (sess : Option Nat)
  /-- LOCK_INTERFACE_REQUEST (15, R364). -/
  | lockInterfaceRequest (sess : Option Nat)
  /-- GET_DEVICE_INTERFACE_REPORT (15, R364). -/
  | getDeviceInterfaceReport (sess : Option Nat)
  /-- GET_DEVICE_INTERFACE_STATE (15, R364). -/
  | getDeviceInterfaceState (sess : Option Nat)
  /-- START_INTERFACE_REQUEST (15, R364). -/
  | startInterfaceRequest (sess : Option Nat)
  /-- STOP_INTERFACE_REQUEST (15, R364). -/
  | stopInterfaceRequest (sess : Option Nat)
  /-- IDE_KM_QUERY (15, R364). -/
  | ideKmQuery (sess : Nat)
  /-- IDE_KM_KEY_PROG (15, R364). -/
  | ideKmKeyProg (sess : Nat) (stream : Nat) (set : Nat) (sub : Nat) (dir : Nat)
  /-- IDE_KM_K_SET_GO (15, R364). -/
  | ideKmKSetGo (sess : Nat) (stream : Nat) (set : Nat) (sub : Nat) (dir : Nat)
  /-- IDE_KM_K_SET_STOP (15, R364). -/
  | ideKmKSetStop (sess : Nat) (stream : Nat) (set : Nat) (sub : Nat) (dir : Nat)
  /-- IDE_INTEGRITY_FAILURE (15, R364). -/
  | ideIntegrityFailure (stream : Fin 2) (integrity : Bool)
  /-- TENANT_SCRUB_DONE (15, R373). -/
  | tenantScrubDone
  /-- BOUNCE_RECORD_FAIL (15, R366). -/
  | bounceRecordFail
  /-- BOUNCE_NOP (15, R366). -/
  | bounceNop (seq : Nat) (len : Nat)
  /-- BOUNCE_WRITE (15, R366). -/
  | bounceWrite (seq : Nat) (addr : Nat) (bs : List Byte)
  /-- BOUNCE_REG (15, R366). -/
  | bounceReg (seq : Nat) (len : Nat) (off : Nat) (v : W64)
  /-- BOUNCE_EXPORT (15, R366). -/
  | bounceExport (seq : Nat) (len : Nat) (addr : Nat) (n : Nat)
  /-- BOUNCE_RECORD_INVALID (15, R366). -/
  | bounceRecordInvalid (seq : Nat) (len : Nat)
  /-- PPS_EDGE (20, R486). -/
  | ppsEdge (sub : Fin 16)
  /-- TIME_HOLDOVER (20, R489). -/
  | timeHoldover
  /-- SENSOR_SAMPLE (20, R497). -/
  | sensorSample (kind : Nat) (index : Nat) (value : Int) (set : Nat)
  /-- POWER_CONTROL_SAMPLE (21, R517). -/
  | powerControlSample
  /-- PROTECTIVE_SHUTDOWN (21, R520). -/
  | protectiveShutdown (cause : Nat) (kind : Nat) (index : Nat) (value : Nat)
  /-- POWER_DOWN (21, R515). -/
  | powerDown
  /-- PWR_EN_CHANGE (21, R515). -/
  | pwrEnChange (high : Bool)
  /-- MAIN_POWER_CHANGE (21, R512). -/
  | mainPowerChange (mv : Nat) (held : Nat)
  /-- AUX_POWER_UP (21, R514). -/
  | auxPowerUp (mv : Nat)
  /-- AUX_POWER_LOSS (21, R530). -/
  | auxPowerLoss
  /-- MAIN_RAILS_UP (21, R514). -/
  | mainRailsUp
  /-- CAGE_MODULE_INSERT (21, R510). -/
  | cageModuleInsert (port : Fin 30) (mw : Nat)
  /-- SET_ENDPOINT_ID (21, R524). -/
  | setEndpointId (eid : Nat)
  /-- GET_ENDPOINT_ID (21, R524). -/
  | getEndpointId
  /-- GET_MCTP_VERSION_SUPPORT (21, R524). -/
  | getMctpVersionSupport (msgType : Nat)
  /-- GET_MESSAGE_TYPE_SUPPORT (21, R524). -/
  | getMessageTypeSupport
  /-- GET_VENDOR_MESSAGE_SUPPORT (21, R524). -/
  | getVendorMessageSupport
  /-- ENABLE_PORT (21, R527). -/
  | enablePort (tag : W16) (rsv : Nat)
  /-- DISABLE_PORT (21, R527). -/
  | disablePort (tag : W16) (rsv : Nat)
  /-- REG_READ (21, R526). -/
  | regRead (tag : W16) (rsv : Nat) (off : Nat)
  /-- REG_WRITE (21, R527). -/
  | regWrite (tag : W16) (rsv : Nat) (off : Nat) (value : W64)
  /-- READ_HW_STATUS (21, R526). -/
  | readHwStatus (tag : W16) (rsv : Nat)
  /-- POWER_CONTROL_OFF (21, R527). -/
  | powerControlOff (tag : W16) (rsv : Nat)
  /-- POWER_CONTROL_ON (21, R527). -/
  | powerControlOn (tag : W16) (rsv : Nat)
  /-- POWER_CONTROL_CYCLE (21, R527). -/
  | powerControlCycle (tag : W16) (rsv : Nat)
  /-- FW_WRITE (21, R528). -/
  | fwWrite (tag : W16) (rsv : Nat) (off : Nat) (bytes : List Byte)
  /-- FW_COMMIT (21, R528). -/
  | fwCommit (tag : W16) (rsv : Nat) (size : Nat) (image : Option (Nat × Nat))
  /-- MEM_ACCESS_ENABLE (21, R527). -/
  | memAccessEnable (tag : W16) (rsv : Nat)
  /-- MEM_ACCESS_DISABLE (21, R527). -/
  | memAccessDisable (tag : W16) (rsv : Nat)
  /-- MEM_READ (21, R526). -/
  | memRead (tag : W16) (rsv : Nat) (adr : Nat)
  /-- MEM_WRITE (21, R527). -/
  | memWrite (tag : W16) (rsv : Nat) (adr : Nat) (bytes : List Byte)
  /-- DOE_DISCOVERY (15, R347). -/
  | doeDiscovery (index : Nat)
  /-- JTAG_UNLOCK (21, R509). -/
  | jtagUnlock (unlock : Bool)
  /-- MIRROR_RING_DRAINED (14, R344). -/
  | mirrorRingDrained
deriving DecidableEq, Repr

end Sys2Proof
end

