-- ==== Sys2Proof/Decode.lean ====
section
/-!
DEFINITION. The command that a word spells by the table's bits. No row of spec/opcode_table.json gives bits: the
E9's commands are register writes, packets, requests and events, and no one word spells any of them. So no word
spells a command.
-/

namespace Sys2Proof

/-- The command of a word by the table's bits: none, because no row of the table has bits. -/
def decodeTableWord (_nbits _w : Nat) : Option Instr := none

end Sys2Proof
end

