-- ==== Sys2Proof/Machine/Table.lean ====
section
/-!
DEFINITION. Reading and writing the sparse tables (`KV`) of the state, and bit fields of words.
-/

namespace Sys2Proof.Machine

/-- The entry of key `k`, if there is one. -/
def kvFind {α : Type} (k : Nat) : KV α → Option α
  | [] => none
  | (j, x) :: t => if j = k then some x else kvFind k t

/-- The entry of key `k`, or `d` where there is none. -/
def kvGet {α : Type} (d : α) (k : Nat) (t : KV α) : α := (kvFind k t).getD d

/-- Put `x` at key `k`, keeping the keys rising. -/
def kvSet {α : Type} (k : Nat) (x : α) : KV α → KV α
  | [] => [(k, x)]
  | (j, y) :: t => if k < j then (k, x) :: (j, y) :: t else if k = j then (k, x) :: t else (j, y) :: kvSet k x t

/-- Remove key `k`. -/
def kvDel {α : Type} (k : Nat) : KV α → KV α
  | [] => []
  | (j, y) :: t => if k = j then t else (j, y) :: kvDel k t

/-- Change the entry of key `k`, starting from `d` where there is none. -/
def kvMod {α : Type} (d : α) (k : Nat) (f : α → α) (t : KV α) : KV α := kvSet k (f (kvGet d k t)) t

/-- Change the entry of key `k` where there is one. -/
def kvUpd {α : Type} (k : Nat) (f : α → α) : KV α → KV α
  | [] => []
  | (j, y) :: t => if k = j then (j, f y) :: t else (j, y) :: kvUpd k f t

/-- Does key `k` have an entry? -/
def kvHas {α : Type} (k : Nat) (t : KV α) : Bool := (kvFind k t).isSome

/-- A table whose default entry `d` is never listed: writing `d` removes the key. -/
def kvPut {α : Type} [DecidableEq α] (d : α) (k : Nat) (x : α) (t : KV α) : KV α :=
  if x = d then kvDel k t else kvSet k x t

/-- A set of numbers, rising: put one in. -/
def setIns (k : Nat) : List Nat → List Nat
  | [] => [k]
  | j :: t => if k < j then k :: j :: t else if k = j then j :: t else j :: setIns k t

/-- A set of numbers, rising: take one out. -/
def setDel (k : Nat) : List Nat → List Nat
  | [] => []
  | j :: t => if k = j then t else j :: setDel k t

/-- Bits `hi..lo` of a number. -/
def bits (x : Nat) (hi lo : Nat) : Nat := x / 2 ^ lo % 2 ^ (hi + 1 - lo)

/-- Bit `i` of a number. -/
def bit (x : Nat) (i : Nat) : Bool := x / 2 ^ i % 2 = 1

/-- A truth value as a bit. -/
def b2n (b : Bool) : Nat := if b then 1 else 0

/-- The position of the lowest bit set in `x` below `n`. -/
def lowBit (x n : Nat) : Option Nat := (List.range n).find? (bit x)

/-- Two's complement reading of the low `n` bits of `x`. -/
def toSigned (n x : Nat) : Int := if x % 2 ^ n < 2 ^ (n - 1) then ((x % 2 ^ n : Nat) : Int) else ((x % 2 ^ n : Nat) : Int) - 2 ^ n

/-- The low `n` bits of `x` in two's complement. -/
def ofSigned (n : Nat) (x : Int) : Nat := (x % 2 ^ n).toNat

/-- The least multiple of `a` not below `x`. -/
def alignUp (x a : Nat) : Nat := (x + a - 1) / a * a

/-- `x` is a multiple of `a`. -/
def aligned (x a : Nat) : Bool := x % a == 0

/-- The quotient rounded up. -/
def ceilDiv (x a : Nat) : Nat := (x + a - 1) / a

/-- The little-endian bytes of `x`, `n` of them (00, R9). -/
def leBytes : Nat → Nat → List Byte
  | 0, _ => []
  | n + 1, x => BitVec.ofNat 8 x :: leBytes n (x / 256)

/-- The number that little-endian bytes spell (00, R9). -/
def ofLE : List Byte → Nat
  | [] => 0
  | b :: t => b.toNat + 256 * ofLE t

/-- The little-endian bytes of a list of 64-bit words. -/
def wordBytes (ws : List Nat) : List Byte := ws.flatMap (leBytes 8)

/-- Words 0, 1, … of a byte list, eight bytes each. -/
def bytesWords : List Byte → List Nat
  | b0 :: b1 :: b2 :: b3 :: b4 :: b5 :: b6 :: b7 :: t => ofLE [b0, b1, b2, b3, b4, b5, b6, b7] :: bytesWords t
  | [] => []
  | t => [ofLE t]

end Sys2Proof.Machine
end

