-- ==== Sys2Proof/Machine/AddrMap.lean ====
section
/-!
DEFINITION. The device physical address map and the rights of each initiator (01, R30–R32), the interleave of the
DRAM tiers (07, R169–R172).
-/

namespace Sys2Proof.Machine

/-- The regions of Table 1-7. -/
inductive Region
  | gddr7
  | lpddr
  | coreSram
  | clusterSram
  | sems
  | control
  | hostWin
deriving DecidableEq, Repr

/-- The first address of each region and the first above it (Table 1-7). -/
def Region.lo : Region → Nat
  | .gddr7 => 0
  | .lpddr => 0x10000000000
  | .coreSram => 0x20000000000
  | .clusterSram => 0x20020000000
  | .sems => 0x30000000000
  | .control => 0x38000000000
  | .hostWin => 0x8000000000000

def Region.hi : Region → Nat
  | .gddr7 => 0x3A00000000
  | .lpddr => 0x17400000000
  | .coreSram => 0x20020000000
  | .clusterSram => 0x20030000000
  | .sems => 0x30000020000
  | .control => 0x38100000000
  | .hostWin => 0x10000000000000

/-- All regions. -/
def Region.all : List Region := [.gddr7, .lpddr, .coreSram, .clusterSram, .sems, .control, .hostWin]

/-- The region of an address; none where it is reserved (R30). -/
def regionOf (a : Nat) : Option Region := Region.all.find? fun r => r.lo ≤ a && a < r.hi

/-- The reserved gaps of Table 1-7. -/
def gaps : List (Nat × Nat) :=
  [(0x3A00000000, 0x10000000000), (0x17400000000, 0x20000000000), (0x20030000000, 0x30000000000),
   (0x30000020000, 0x38000000000), (0x38100000000, 0x8000000000000), (0x10000000000000, 0x20000000000000)]

/-- The first reserved address of an access. -/
def firstReserved (a n : Nat) : Option Nat :=
  (gaps.filterMap fun g => if max a g.1 < min (a + n) g.2 then some (max a g.1) else none).head?

/-- The initiators of Table 1-8. -/
inductive Initiator
  | engine (core : Nat)
  | vector (core : Nat)
  | coelostat (cluster : Nat)
  | finder
  | transfer
  | semTask
  | ephemeris
  | spectro (cluster : Nat)
  | remote
  | host
  | almanac
deriving DecidableEq, Repr

/-- The core of a core-SRAM address, and the cluster of a cluster-SRAM address (Table 1-7). -/
def coreOf (a : Nat) : Nat := (a - 0x20000000000) / 0x100000
def clusterOf (a : Nat) : Nat := (a - 0x20020000000) / 0x800000

/-- Table 1-8: may the initiator reach this address of this region? -/
def mayReach (i : Initiator) (r : Region) (a : Nat) : Bool :=
  match i, r with
  | .engine k, .coreSram => coreOf a == k
  | .vector k, .coreSram => coreOf a == k
  | .vector k, .clusterSram => clusterOf a == k / 16
  | .coelostat _, .gddr7 => true
  | .coelostat _, .lpddr => true
  | .coelostat c, .coreSram => coreOf a / 16 == c
  | .coelostat c, .clusterSram => clusterOf a == c
  | .finder, .control => false
  | .finder, _ => true
  | .transfer, .sems => false
  | .transfer, .control => false
  | .transfer, _ => true
  | .semTask, .sems => true
  | .ephemeris, .gddr7 => true
  | .ephemeris, .lpddr => true
  | .spectro _, .gddr7 => true
  | .spectro _, .lpddr => true
  | .spectro c, .clusterSram => clusterOf a == c
  | .remote, .gddr7 => true
  | .remote, .lpddr => true
  | .remote, .sems => true
  | .host, .gddr7 => true
  | .host, .lpddr => true
  | .almanac, _ => true
  | _, _ => false

/-- The address faults of R32. -/
inductive AddrFault
  | reserved
  | denied
deriving DecidableEq, Repr

/-- The first address above `a` where the rights within its region may change: the next core or the next cluster. -/
def nextUnit (i : Initiator) (r : Region) (a : Nat) : Nat :=
  match r, i with
  | .coreSram, .coelostat _ => (a / 0x1000000 + 1) * 0x1000000
  | .coreSram, _ => (a / 0x100000 + 1) * 0x100000
  | .clusterSram, _ => (a / 0x800000 + 1) * 0x800000
  | _, _ => r.hi

/-- R32: an access of `n` bytes at `a`, checked for rights: the fault and the first faulting address. Of an access that
straddles two regions the first faulting address is taken to be its own first address (DESIGN CHOICE: 04, Table 4-11,
gives only the first faulting address; log entry 117). -/
def checkAccess (i : Initiator) (a n : Nat) : Option (AddrFault × Nat) :=
  if n = 0 then none
  else
    match firstReserved a n with
    | some x => some (.reserved, x)
    | none =>
      match regionOf a with
      | none => some (.reserved, a)
      | some r =>
        if !mayReach i r a then some (.denied, a)
        else if a + n > r.hi then some (.denied, a)
        else if !mayReach i r (a + n - 1) then some (.denied, nextUnit i r a)
        else none

/-- A DRAM location: tier (0 GDDR7, 1 LPDDR5X), channel and channel offset. -/
structure Loc where
  tier : Nat
  ch : Nat
  off : Nat
deriving DecidableEq, Repr

/-- The bits of x folded by XOR in groups of `w` (R172); `n` bounds the groups. -/
def foldBits (w : Nat) : Nat → Nat → Nat
  | 0, _ => 0
  | n + 1, y => (y % 2 ^ w) ^^^ foldBits w n (y / 2 ^ w)

/-- R172: the channel and channel offset of an address in a tier's usable window, with the boundaries in GiB. -/
def dramDecode (bg bl : Nat) (a : Nat) : Loc :=
  let tier := if a < 0x10000000000 then 0 else 1
  let base := if tier = 0 then 0 else 0x10000000000
  let cap := if tier = 0 then 232 * 2 ^ 30 else 464 * 2 ^ 30
  let n := if tier = 0 then 256 else 64
  let wb := if tier = 0 then 8 else 6
  let bnd := (if tier = 0 then bg else bl) * 2 ^ 30
  let o := a - base
  let half := (cap - bnd) / 2
  let d := if o ≥ bnd + half then 1 else 0
  let inMod : Bool := o < bnd
  let x := if inMod then o / 2 ^ 11 else (o - bnd - d * half) / 2 ^ 11
  let w := if inMod then wb else wb - 1
  let lo := if inMod then 0 else bnd / n
  let first := if inMod then 0 else d * (n / 2)
  let f := foldBits w 8 (x / 2 ^ w)
  { tier := tier, ch := first + ((x ^^^ f) % 2 ^ w), off := lo + x / 2 ^ w * 2 ^ 11 + o % 2 ^ 11 }

/-- The inverse of R172: the address of a channel offset. -/
def dramEncode (bg bl : Nat) (l : Loc) : Nat :=
  let base := if l.tier = 0 then 0 else 0x10000000000
  let cap := if l.tier = 0 then 232 * 2 ^ 30 else 464 * 2 ^ 30
  let n := if l.tier = 0 then 256 else 64
  let wb := if l.tier = 0 then 8 else 6
  let bnd := (if l.tier = 0 then bg else bl) * 2 ^ 30
  let inMod : Bool := l.off < bnd / n
  let half := (cap - bnd) / 2
  let d := if inMod then 0 else l.ch / (n / 2)
  let w := if inMod then wb else wb - 1
  let lo := if inMod then 0 else bnd / n
  let first := if inMod then 0 else d * (n / 2)
  let y := (l.off - lo) / 2 ^ 11
  let x := y * 2 ^ w + ((l.ch - first) ^^^ foldBits w 8 y) % 2 ^ w
  base + (if inMod then 0 else bnd + d * half) + x * 2 ^ 11 + l.off % 2 ^ 11

/-- The number of a channel: 256 × tier + channel. -/
def Loc.chan (l : Loc) : Nat := 256 * l.tier + l.ch
/-- R169: the frame, the sector and the page of a channel offset, and the raw channel address. -/
def Loc.frame (l : Loc) : Nat := l.off / 59392
def Loc.sector (l : Loc) : Nat := l.off % 59392 / 256
def Loc.page (l : Loc) : Nat := l.off % 59392 / 2048
def Loc.raw (l : Loc) : Nat := l.frame * 65536 + l.off % 59392

/-- The number of a frame on the module, of a sector and of a page. -/
def frameKey (chan frame : Nat) : Nat := chan * 2 ^ 20 + frame
def Loc.frameKey (l : Loc) : Nat := Machine.frameKey l.chan l.frame
def Loc.sectorKey (l : Loc) : Nat := l.frameKey * 256 + l.sector
def Loc.pageKey (l : Loc) : Nat := l.frameKey * 32 + l.page

/-- The index of a channel in counters of scope channel: g000–g255, then p00–p63 (16, R393). -/
def Loc.cidx (l : Loc) : Nat := 256 * l.tier + l.ch

/-- The die of a channel (01, Table 1-3). -/
def Loc.die (l : Loc) : Nat := if l.tier = 0 then l.ch / 128 else l.ch / 32

/-- An address in the usable window of a DRAM tier. -/
def inDram (a : Nat) : Bool := regionOf a == some .gddr7 || regionOf a == some .lpddr

/-- The tier of a DRAM address. -/
def tierOf (a : Nat) : Nat := if a < 0x10000000000 then 0 else 1

end Sys2Proof.Machine
end

