-- ==== Sys2Proof/Machine/Codes.lean ====
section
/-!
DEFINITION. The light code and the strong code of chapter 17 (R399–R404), over error patterns. Both codes are linear,
so the syndromes of a stored codeword are those of the bits in which it differs from what was written: the state
keeps those bits, and the classification of R400 is computed from them.
-/

namespace Sys2Proof.Machine

/-- x × α in GF(2¹⁶) with x¹⁶ + x¹² + x³ + x + 1 (R399). -/
def gfX (a : W16) : W16 := if a.msb then (a <<< 1) ^^^ 0x100B else a <<< 1

/-- α^n × a. -/
def gfPow (a : W16) : Nat → W16
  | 0 => a
  | n + 1 => gfX (gfPow a n)

/-- The syndrome S_j of an error pattern: position to the bits that differ (R400). -/
def syndrome (j : Nat) (e : KV Nat) : W16 :=
  e.foldl (fun acc p => acc ^^^ gfPow (BitVec.ofNat 16 p.2) (j * p.1)) 0

/-- What the light code says of a sector (R400). -/
inductive Light
  | clean
  | corrected (pos : Nat) (bits : Nat)
  | uncorrectable
deriving DecidableEq, Repr

/-- R400: the classification of a sector whose codeword has the error pattern `e`. -/
def lightCode (e : KV Nat) : Light :=
  let s0 := syndrome 0 e
  let s1 := syndrome 1 e
  let s2 := syndrome 2 e
  let s3 := syndrome 3 e
  if s0 = 0 ∧ s1 = 0 ∧ s2 = 0 ∧ s3 = 0 then .clean
  else if s0 = 0 then .uncorrectable
  else
    match (List.range 136).find? (fun k => s1 == gfPow s0 k && s2 == gfPow s1 k && s3 == gfPow s2 k) with
    | some k => .corrected k s0.toNat
    | none => .uncorrectable

/-- XOR bits into one position of an error pattern; a position with no bits left is not listed. -/
def errXor (pos bits : Nat) (e : KV Nat) : KV Nat := kvPut 0 pos (kvGet 0 pos e ^^^ bits) e

/-- The error pattern left after the light code's correction, and whether it was correctable. -/
def lightApply (e : KV Nat) : Light → Option (KV Nat)
  | .clean => some e
  | .corrected k b => some (errXor k b e)
  | .uncorrectable => none

/-- A sector is served by the light code alone: clean or corrected, and its tag verifies. A tag verifies exactly when
no bit of the corrected ciphertext and tag differs from what was written (log entry 30). -/
def lightServes (e : KV Nat) : Bool :=
  match lightApply e (lightCode e) with
  | some r => r.all fun p => decide (p.1 < 4)
  | none => false

/-- R402: `t` symbol errors and `f` erased symbols are corrected whenever 2t + f ≤ 32. -/
def strongCorrects (t f : Nat) : Bool := decide (2 * t + f ≤ 32)

/-- CRC-32C (Castagnoli) over bytes (04, Table 4-13; 17, Table 17-1). -/
def crc32cByte (c : W32) (b : Byte) : W32 :=
  (List.range 8).foldl (fun c _ => if c.getLsbD 0 then (c >>> 1) ^^^ 0x82F63B78 else c >>> 1) (c ^^^ (b.setWidth 32))

/-- CRC-32C of a byte list: initial value and final XOR all ones. -/
def crc32c (bs : List Byte) : W32 := ~~~ (bs.foldl crc32cByte 0xFFFFFFFF)

end Sys2Proof.Machine
end

