-- ==== Sys2Proof/Machine/Events.lean ====
section
/-!
DEFINITION. The codes of the events (16, Table 16-10; 17, Table 17-7; 18; 19, Table 19-12; 20, Table 20-8; 21, Table 21-17) and of the statuses
(16, Table 16-6; 04, Table 4-12).
-/

namespace Sys2Proof.Machine.Ev

/-- Table 16-10. -/
def eventsLost := 0x0001
def mailboxDoorbellInvalid := 0x0002
def dirtySwapped := 0x0003
def queueDoorbellInvalid := 0x0101
def streamHalted := 0x0102
def deficitBound := 0x0103
def stashDoorbellInvalid := 0x0201
def stashEntryInvalid := 0x0202
def stashFallback := 0x0203
def stashExhausted := 0x0204
def microbatchImbalance := 0x0205
def guardDoorbellInvalid := 0x0301
def guardEntryInvalid := 0x0302
def guardStepStale := 0x0303
def guardAbandoned := 0x0304
def overflowReplay := 0x0305
def overflowUnresolved := 0x0306
def updateRatioAlarm := 0x0307
def zeroGradientRun := 0x0308
def statsTargetInvalid := 0x0401
def factorFoldSkipped := 0x0402
def foldSwapLate := 0x0403
def spectroInfeasible := 0x0411
def spectroCapReached := 0x0412
def tableStaleExceeded := 0x0413
def tableAgeExceeded := 0x0414
def optimRecordInvalid := 0x0421
def gradientSkipped := 0x0422
def portDown := 0x0501
def portUp := 0x0502
def portDegraded := 0x0503
def portMiswired := 0x0504
def portPartnerIncompatible := 0x0505
def fabricMalformed := 0x0506
def routeUnreachable := 0x0507
def remoteSignalFailed := 0x0508
def collEpochMismatch := 0x0511
def partitionFenced := 0x0512
def fenceCleared := 0x0513
def buddyLost := 0x0514
def buddyRestored := 0x0515
def tenantEntered := 0x0601
def tenantScrubbed := 0x0602
def bounceRecordInvalid := 0x0603
def dramTagFail := 0x0604
def ideIntegrityFail := 0x0605
def membershipStale := 0x0606

/-- Table 17-7. -/
def dramUncorrectable := 0x0701
def sramUncorrectable := 0x0702
def frameWatch := 0x0703
def frameRetired := 0x0704
def scrubPassDone := 0x0705
def repairDone := 0x0706
def repairFailed := 0x0707
def stepAborted := 0x0708
def channelFailed := 0x0709
def bridgeLaneSpared := 0x070A
def bridgeFailed := 0x070B
def flipApplied := 0x070C

/-- Table 18-9. -/
def checkpointCommitted := 0x0801
def mirrorDone := 0x0802
def mirrorFailed := 0x0803
def mirrorReceived := 0x0804
def storeDataLost := 0x0805
def storeBlockRetired := 0x0806
def storeReserveLow := 0x0807
def storeWearBudget := 0x0808

/-- Table 19-12. -/
def bringupDone := 0x0901
def bringupFailed := 0x0902
def spareDeviceUsed := 0x0903
def settingsSaved := 0x0904
def resetDone := 0x0905
def collimationFailed := 0x0906
def collimationSkipped := 0x0907
def clusterRetired := 0x0908
def trafficTestDone := 0x0909

/-- Table 20-8. -/
def timeAcquired := 0x0A01
def timeStepped := 0x0A02
def timeLocked := 0x0A03
def timeHoldover := 0x0A04
def timeExcursion := 0x0A05
def sensorWarning := 0x0A06
def sensorCleared := 0x0A07
def monitorStopped := 0x0A08

/-- Table 21-17. -/
def powerLimited := 0x0A80
def thermalThrottle := 0x0A81
def throttleCleared := 0x0A82
def powerLimitUnmet := 0x0A83
def protectiveShutdown := 0x0A84
def cagePowerRefused := 0x0A85
def mgmtPortChanged := 0x0A86
def firmwareStaged := 0x0A87

end Sys2Proof.Machine.Ev

namespace Sys2Proof.Machine.St

/-- Command statuses (16, Table 16-6). -/
def ok := 0x0000
def opcodeUnknown := 0x0001
def argReserved := 0x0002
def argInvalid := 0x0003
def busy := 0x0004
def configBusy := 0x0005
def bufferSmall := 0x0006
def addrReserved := 0x0007
def addrDenied := 0x0008
def addrMisaligned := 0x0009
def timeout := 0x000A
def resetAborted := 0x000B
def tenantEnded := 0x000C
def tenantRefused := 0x000D
def notTenant := 0x000E
def notReady := 0x000F
def poisoned := 0x0010
def lpBadMagic := 0x0100
def lpVersion := 0x0101
def lpMemberMismatch := 0x0102
def lpSize := 0x0103
def lpCrc := 0x0104
def lpSectionBounds := 0x0105
def lpLimit := 0x0106
def lpTemplateInvalid := 0x0107
def lpPatchInvalid := 0x0108
def lpStageInvalid := 0x0109
def lpStageConflict := 0x010A
def lpNoSpace := 0x010B
def lpUnknown := 0x010C
def lpInUse := 0x010D
def lpRecordInvalid := 0x010E
def queueArgInvalid := 0x0110
def queueInUse := 0x0111
def queueBusy := 0x0112
def streamClassConflict := 0x0113
def memArgInvalid := 0x0200
def memBusy := 0x0201
def watchArgInvalid := 0x0300
def photometerArgInvalid := 0x0400
def spectroArgInvalid := 0x0401
def ephemerisArgInvalid := 0x0402
def portArgInvalid := 0x0500
def commArgInvalid := 0x0501
def commBusy := 0x0502
def fenceSpanning := 0x0503
def importHeaderInvalid := 0x0600
def importKeyMismatch := 0x0601
def importTagFail := 0x0602
def ckptManifestInvalid := 0x0800
def ckptIdInUse := 0x0801
def ckptNotFound := 0x0802
def ckptNoParent := 0x0803
def ckptManifestChanged := 0x0804
def ckptManifestMismatch := 0x0805
def ckptNoSpace := 0x0806
def ckptKeyRequired := 0x0807
def ckptKeyMismatch := 0x0808
def ckptNoBuddy := 0x0809
def ckptBuddyLost := 0x080A
def ckptHasChildren := 0x080B
def ckptDataLost := 0x080C
def ckptStoreFailed := 0x080D
def trainingNotSavable := 0x0900
def settingsWriteFailed := 0x0901
def monitorArgInvalid := 0x0A00
def monitorRefused := 0x0A01

end Sys2Proof.Machine.St

namespace Sys2Proof.Machine.Ts

/-- Completion statuses of tasks (04, Table 4-12). -/
def ok := 0x00
def timeout := 0x01
def deadlineMissed := 0x02
def infeasible := 0x03
def taskTypeReserved := 0x10
def descFieldInvalid := 0x11
def formatReserved := 0x12
def formatCombination := 0x13
def layoutInvalid := 0x14
def tileShapeInvalid := 0x15
def tileTooLong := 0x16
def accModeReserved := 0x17
def vectorOpReserved := 0x18
def vectorExtent := 0x19
def sramOverrun := 0x1A
def pinInvalid := 0x1B
def addrReserved := 0x20
def addrDenied := 0x21
def addrMisaligned := 0x22
def semOverflow := 0x28
def qExponentReserved := 0x30
def momentCodeReserved := 0x31
def momentScaleReserved := 0x32
def splitPairReserved := 0x33
def poisoned := 0x34
def stashExhausted := 0x38
def aborted := 0x39

/-- Does a status halt the stream (Table 4-12)? -/
def halts (st : Nat) : Bool :=
  st == timeout || (0x10 ≤ st && st ≤ 0x33 && st != 0x34) || st == stashExhausted

end Sys2Proof.Machine.Ts
end

