-- ==== Sys2Proof/Config.lean ====
section
/-!
DEFINITION. What one implementation fixes and the spec leaves open: opaque constants, whose values nothing in Lean
can see. Each is named in a row of notes/assumptions.
-/

namespace Sys2Proof

/-- A free value for draw number `n` of the state's counter. DESIGN CHOICE: log entry 3. -/
opaque Config.free : Nat → Nat

/-- Which of the FP32 values within 2 ulp of the exact one the vector unit's fixed approximation gives, for function
code `op` and input pattern `x` (03, R78). DESIGN CHOICE: log entry 10. -/
opaque Config.vecChoice : Nat → Nat → Nat

/-- The module serial and the security version number of the fuses (15, Table 15-10). DESIGN CHOICE: log entry 11. -/
opaque Config.serial : W64
opaque Config.svn : BitVec 8

/-- The production fuse of the debug record and the retired-cluster map as the fuses have it at manufacture
(15, Table 15-10; 17, R413). DESIGN CHOICE: log entry 11. -/
opaque Config.fuseLocked : Bool
opaque Config.fuseRetired : BitVec 32

/-- SHA-384 of a byte list, and the digests of the images that measurement blocks 1 to 4 report (15, Table 15-9).
DESIGN CHOICE: log entry 12. -/
opaque Config.sha384 : List Byte → BitVec 384
opaque Config.imageDigest : Nat → BitVec 384

/-- Byte `i` of a signature by the identity key over a byte list (15, R363). DESIGN CHOICE: log entry 12. -/
opaque Config.signByte : List Byte → Nat → Byte

/-- Byte `i` of the ciphertext or tag of a sealed record: key, sequence number, direction (15, R365).
DESIGN CHOICE: log entry 12. -/
opaque Config.sealByte : Nat → Nat → Nat → Nat → Byte

/-- The certificate chain of slot 0, and byte `i` of a body that the spec leaves to its standard, by the number of the
message (15, R356, R364). DESIGN CHOICE: log entry 12. -/
opaque Config.certChain : List Byte
opaque Config.spdmByte : Nat → Nat → Byte

/-- Responses of this module that its router's response queue holds (13, R308). DESIGN CHOICE: log entry 110. -/
opaque Config.respSlots : Nat

/-- Packets of this module that a port queue takes of one virtual channel: the injection credits of 05, R139. DESIGN
CHOICE: log entry 111. -/
opaque Config.injSlots : Nat

/-- The local semaphore s_fold, to which an epoch's last fold adds 1 and whose number no section gives (10, R239).
DESIGN CHOICE: log entry 88. -/
opaque Config.foldSem : BitVec 14

/-- Byte `i` of a scratch region after the Spectrograph has worked in it; the first argument is a free value drawn then
(11, R249, R255). DESIGN CHOICE: log entry 89. -/
opaque Config.scratchByte : Nat → Nat → Byte

/-- Sealing of a store granule under a storage key (18, R435): byte `i` of its 256 ciphertext sectors and 256 tags, from
the root key, the generation, the granule's address at capture and the plaintext; what unsealing gives byte for byte; and
whether a sector's tag verifies. DESIGN CHOICE: log entry 91. -/
opaque Config.storeSeal : List Byte → Nat → Nat → List Byte → Nat → Byte
opaque Config.storeOpen : List Byte → Nat → Nat → List Byte → Nat → Byte
opaque Config.storeTagOk : List Byte → Nat → Nat → List Byte → Nat → Bool

end Sys2Proof
end

