-- ==== Sys2Proof/Machine/Num.lean ====
section
/-!
DEFINITION. The number formats of chapter 02 and the named FP32 operations of Table 2-5, on bit patterns kept as
natural numbers, with the sticky flags of R57; the random generator of chapter 09 (R219–R222).
-/

namespace Sys2Proof.Machine

/-- The sticky flags of an element (02, R57). -/
structure Flags where
  sat : Bool := false
  flush : Bool := false
  nan : Bool := false
deriving DecidableEq, Repr

/-- Flags gathered from two steps of one element. -/
def Flags.or (a b : Flags) : Flags := ⟨a.sat || b.sat, a.flush || b.flush, a.nan || b.nan⟩

/-- No flag. -/
def Flags.none : Flags := {}

/-- A rounding: to nearest even (R36), or stochastic with 16 random bits (R37, R222). -/
inductive Rnd
  | rne
  | sr (u : Nat)
deriving DecidableEq, Repr

/-- A floating-point value: ± m × 2^e, an infinity or a NaN. -/
inductive FV
  | nan
  | inf (neg : Bool)
  | fin (neg : Bool) (m : Nat) (e : Int)
deriving DecidableEq, Repr

/-- A floating-point format: precision with the hidden bit, fraction bits in the pattern, exponent of the smallest
normal, subnormals or not, and the special values of Table 2-2. -/
structure FFmt where
  width : Nat
  frac : Nat
  bias : Nat
  subn : Bool
  hasInf : Bool
  canonNan : Nat
  maxFin : Nat
deriving DecidableEq, Repr

/-- FP32 (Table 2-2). -/
def ffp32 : FFmt := ⟨32, 23, 127, false, true, 0x7FC00000, 0x7F7FFFFF⟩
/-- BF16. -/
def fbf16 : FFmt := ⟨16, 7, 127, false, true, 0x7FC0, 0x7F7F⟩
/-- FP8 E4M3. -/
def fe4m3 : FFmt := ⟨8, 3, 7, true, false, 0x7F, 0x7E⟩
/-- FP8 E5M2. -/
def fe5m2 : FFmt := ⟨8, 2, 15, true, true, 0x7E, 0x7B⟩

/-- The format of a code of Table 2-1, for the floating-point codes. -/
def ffmtOf : Nat → Option FFmt
  | 0 => some ffp32
  | 1 => some fbf16
  | 2 => some fe4m3
  | 3 => some fe5m2
  | _ => none

/-- Element size in bytes of a format code (03, Table 3-1); 0 where it is no tensor format. -/
def esizeOf : Nat → Nat
  | 0 => 4
  | 1 => 2
  | 2 => 1
  | 3 => 1
  | 8 => 2
  | 9 => 2
  | 10 => 4
  | _ => 0

/-- Block size in bytes of a format code (03, Table 3-1). -/
def bbytesOf (f : Nat) : Nat := 1024 * esizeOf f

/-- The number of bits of `m`. -/
def bitLen (m : Nat) : Nat := if m = 0 then 0 else m.log2 + 1

/-- The value of a pattern, and whether a non-zero subnormal was read as zero (R39, R40, R42). -/
def fdecode (f : FFmt) (x : Nat) : FV × Flags :=
  let neg := bit x (f.width - 1)
  let ex := bits x (f.width - 2) f.frac
  let fr := x % 2 ^ f.frac
  let exMax := 2 ^ (f.width - 1 - f.frac) - 1
  let mag := x % 2 ^ (f.width - 1)
  let emin : Int := 1 - (f.bias : Int)
  if mag ≤ f.maxFin then
    if ex = 0 then
      if f.subn then (.fin neg fr (emin - f.frac), {}) else (.fin neg 0 0, { flush := fr ≠ 0 })
    else (.fin neg (2 ^ f.frac + fr) ((ex : Int) - f.bias - f.frac), {})
  else if f.hasInf ∧ ex = exMax ∧ fr = 0 then (.inf neg, {})
  else (.nan, {})

/-- m × 2^e on the grid 2^q: the multiple of the grid step, rounded (R36, R222). -/
def roundGrid (r : Rnd) (m : Nat) (e q : Int) : Nat :=
  if q ≤ e then m * 2 ^ (e - q).toNat
  else
    let d := (q - e).toNat
    let n := m / 2 ^ d
    let rem := m % 2 ^ d
    match r with
    | .rne => if 2 * rem > 2 ^ d ∨ (2 * rem = 2 ^ d ∧ n % 2 = 1) then n + 1 else n
    | .sr u => if rem * 65536 / 2 ^ d + u ≥ 65536 then n + 1 else n

/-- a × 2^ea against b × 2^eb. -/
def magGt (a : Nat) (ea : Int) (b : Nat) (eb : Int) : Bool :=
  if ea ≥ eb then a * 2 ^ (ea - eb).toNat > b else a > b * 2 ^ (eb - ea).toNat

/-- The sign bit of a format. -/
def fsign (f : FFmt) (neg : Bool) : Nat := if neg then 2 ^ (f.width - 1) else 0

/-- The pattern of an infinity (formats that have one). -/
def finfPat (f : FFmt) : Nat := (2 ^ (f.width - 1 - f.frac) - 1) * 2 ^ f.frac

/-- The pattern of n × 2^q, a value on the format's grid and in its range. -/
def fpack (f : FFmt) (n : Nat) (q : Int) : Nat :=
  if n = 0 then 0
  else
    let k : Int := (bitLen n : Int) - 1 + q
    let emin : Int := 1 - (f.bias : Int)
    if k < emin then
      let g : Int := emin - f.frac
      if q ≥ g then n * 2 ^ (q - g).toNat else n / 2 ^ (g - q).toNat
    else
      let sh : Int := q - (k - f.frac)
      let s := if sh ≥ 0 then n * 2 ^ sh.toNat else n / 2 ^ (-sh).toNat
      (k + f.bias).toNat * 2 ^ f.frac + (s - 2 ^ f.frac)

/-- The exact value ± m × 2^e rounded into a format: its pattern and the flags (R36–R40, R57, Table 2-4). `sat` is
the descriptor's overflow bit. -/
def fround (f : FFmt) (r : Rnd) (sat neg : Bool) (m : Nat) (e : Int) : Nat × Flags :=
  if m = 0 then (fsign f neg, {})
  else
    let k : Int := (bitLen m : Int) - 1 + e
    let emin : Int := 1 - (f.bias : Int)
    let q : Int := if f.subn ∧ k < emin then emin - f.frac else k - f.frac
    let n := roundGrid r m e q
    let (mf, ef) : Nat × Int :=
      (2 ^ f.frac + f.maxFin % 2 ^ f.frac, (f.maxFin / 2 ^ f.frac : Nat) - (f.bias : Int) - f.frac)
    if magGt n q mf ef then
      (fsign f neg + (if f.hasInf ∧ !sat then finfPat f else f.maxFin), { sat := true })
    else if n = 0 then (fsign f neg, { flush := true })
    else if !f.subn ∧ magGt 1 emin n q then (fsign f neg, { flush := true })
    else (fsign f neg + fpack f n q, {})

/-- A value converted into a format (Table 2-4). -/
def fenc (f : FFmt) (r : Rnd) (sat : Bool) : FV → Nat × Flags
  | .nan => (f.canonNan, { nan := true })
  | .inf neg => if f.hasInf then (fsign f neg + finfPat f, {}) else (fsign f neg + f.maxFin, { sat := true })
  | .fin neg m e => fround f r sat neg m e

/-- One conversion of Table 2-4 between floating-point formats. -/
def fconv (src dst : FFmt) (r : Rnd) (sat : Bool) (x : Nat) : Nat × Flags :=
  let (v, a) := fdecode src x
  let (y, b) := fenc dst r sat v
  (y, a.or b)

/-- The value of an FP32 pattern, subnormals read as zero. -/
def f32v (x : Nat) : FV := (fdecode ffp32 x).1

/-- An FP32 result of a step of R45: RNE, overflow to infinity. -/
def f32r (v : FV) : Nat × Flags := fenc ffp32 .rne false v

/-- Exact signed mantissa of a finite value at exponent `q`, for q ≤ e. -/
def atExp (neg : Bool) (m : Nat) (e q : Int) : Int :=
  let x : Int := ((m * 2 ^ (e - q).toNat : Nat) : Int)
  if neg then -x else x

/-- x + y exactly, with IEEE's sign of an exact zero (R39). -/
def fvAdd : FV → FV → FV
  | .nan, _ => .nan
  | _, .nan => .nan
  | .inf a, .inf b => if a = b then .inf a else .nan
  | .inf a, _ => .inf a
  | _, .inf b => .inf b
  | .fin a m e, .fin b n d =>
    let q := min e d
    let s := atExp a m e q + atExp b n d q
    if s = 0 then .fin (a && b) 0 0 else .fin (decide (s < 0)) s.natAbs q

/-- The sign of a value inverted. -/
def fvNeg : FV → FV
  | .nan => .nan
  | .inf a => .inf (!a)
  | .fin a m e => .fin (!a) m e

/-- x × y exactly. -/
def fvMul : FV → FV → FV
  | .nan, _ => .nan
  | _, .nan => .nan
  | .inf a, .inf b => .inf (xor a b)
  | .inf a, .fin b n _ => if n = 0 then .nan else .inf (xor a b)
  | .fin a m _, .inf b => if m = 0 then .nan else .inf (xor a b)
  | .fin a m e, .fin b n d => .fin (xor a b) (m * n) (e + d)

/-- x ÷ y, exact up to a last bit that is set when a remainder was dropped: enough for one RNE rounding to FP32. -/
def fvDiv : FV → FV → FV
  | .nan, _ => .nan
  | _, .nan => .nan
  | .inf _, .inf _ => .nan
  | .inf a, .fin b _ _ => .inf (xor a b)
  | .fin a _ _, .inf b => .fin (xor a b) 0 0
  | .fin a m e, .fin b n d =>
    if n = 0 then (if m = 0 then .nan else .inf (xor a b))
    else if m = 0 then .fin (xor a b) 0 0
    else
      let k := bitLen n + 40
      let num := m * 2 ^ k
      .fin (xor a b) (2 * (num / n) + b2n (decide (num % n ≠ 0))) (e - d - k - 1)

/-- √x under the same terms. -/
def fvSqrt : FV → FV
  | .nan => .nan
  | .inf true => .nan
  | .inf false => .inf false
  | .fin a m e =>
    if m = 0 then .fin a 0 0
    else if a then .nan
    else
      let k : Nat := if (e - 80) % 2 = 0 then 80 else 81
      let num := m * 2 ^ k
      let r := num.sqrt
      .fin false (2 * r + b2n (decide (r * r ≠ num))) ((e - k) / 2 - 1)

/-- Which inputs of a step were non-zero subnormals read as zero (R57). -/
def inFlush (xs : List Nat) : Flags := { flush := xs.any fun x => (fdecode ffp32 x).2.flush }

/-- A result pattern with the flags of its rounding and of its inputs. -/
def step32 (v : FV) (ins : List Nat) : Nat × Flags :=
  let (y, a) := f32r v
  (y, a.or (inFlush ins))

/-- fp32_add of Table 2-5, with flags. -/
def addF (a b : Nat) : Nat × Flags := step32 (fvAdd (f32v a) (f32v b)) [a, b]
/-- fp32_sub. -/
def subF (a b : Nat) : Nat × Flags := step32 (fvAdd (f32v a) (fvNeg (f32v b))) [a, b]
/-- fp32_mul. -/
def mulF (a b : Nat) : Nat × Flags := step32 (fvMul (f32v a) (f32v b)) [a, b]
/-- fp32_fma, rounded once. -/
def fmaF (a b c : Nat) : Nat × Flags := step32 (fvAdd (fvMul (f32v a) (f32v b)) (f32v c)) [a, b, c]
/-- fp32_div. -/
def divF (a b : Nat) : Nat × Flags := step32 (fvDiv (f32v a) (f32v b)) [a, b]
/-- fp32_sqrt. -/
def sqrtF (a : Nat) : Nat × Flags := step32 (fvSqrt (f32v a)) [a]

/-- Patterns alone, for algorithms whose flags nothing reads. -/
def fadd (a b : Nat) : Nat := (addF a b).1
def fsub (a b : Nat) : Nat := (subF a b).1
def fmul (a b : Nat) : Nat := (mulF a b).1
def ffma (a b c : Nat) : Nat := (fmaF a b c).1
def fdiv (a b : Nat) : Nat := (divF a b).1
def fsqrt (a : Nat) : Nat := (sqrtF a).1

/-- The sign bit cleared. -/
def fabs (a : Nat) : Nat := a % 2 ^ 31
/-- The sign bit inverted. -/
def fneg (a : Nat) : Nat := if bit a 31 then a - 2 ^ 31 else a + 2 ^ 31

/-- An FP32 pattern is a NaN. -/
def fisNan (a : Nat) : Bool := f32v a = .nan
/-- An FP32 pattern is an infinity. -/
def fisInf (a : Nat) : Bool := f32v a = .inf true || f32v a = .inf false
/-- A zero, or a subnormal read as one. -/
def fisZero (a : Nat) : Bool :=
  match f32v a with
  | .fin _ 0 _ => true
  | _ => false

/-- The order of two numbers (not NaN): −0 below +0 (R41). -/
def fvLe : FV → FV → Bool
  | .nan, _ => false
  | _, .nan => false
  | .inf a, y => a || y == .inf false
  | _, .inf b => !b
  | .fin a m e, .fin b n d =>
    let q := min e d
    let x := atExp a m e q
    let y := atExp b n d q
    if x = 0 ∧ y = 0 then a || !b else decide (x ≤ y)

/-- a > b by value, zeros equal, false for a NaN. -/
def fgt (a b : Nat) : Bool :=
  match f32v a, f32v b with
  | .nan, _ => false
  | _, .nan => false
  | .fin _ 0 _, .fin _ 0 _ => false
  | x, y => !fvLe x y

/-- a = b by value: +0 equals −0, a NaN equals nothing. -/
def feq (a b : Nat) : Bool := !fisNan a && !fisNan b && !fgt a b && !fgt b a

/-- fp32_max of R41, inputs canonicalised as read. -/
def fmax (a b : Nat) : Nat :=
  if fisNan a || fisNan b then 0x7FC00000
  else (f32r (if fvLe (f32v a) (f32v b) then f32v b else f32v a)).1

/-- fp32_min of R41. -/
def fmin (a b : Nat) : Nat :=
  if fisNan a || fisNan b then 0x7FC00000
  else (f32r (if fvLe (f32v a) (f32v b) then f32v a else f32v b)).1

/-- fp32_from_int. -/
def ffromInt (i : Int) : Nat := (f32r (.fin (decide (i < 0)) i.natAbs 0)).1

/-- A value rounded to an integer. -/
def fvToInt (r : Rnd) : FV → Option Int
  | .fin neg m e => let n : Int := roundGrid r m e 0; some (if neg then -n else n)
  | _ => none

/-- int_from_fp32, with the rounding given (RNE in Table 2-5; SR in R52). -/
def intFromF32 (r : Rnd) (x : Nat) : Int :=
  match f32v x with
  | .nan => 0
  | .inf neg => if neg then -2 ^ 31 else 2 ^ 31 - 1
  | v => max (-2 ^ 31) (min (2 ^ 31 - 1) ((fvToInt r v).getD 0))

/-- FP32 1.0. -/
def f1 : Nat := 0x3F800000

/-- An FP32 constant ± m × 2^e, rounded. -/
def fconst (neg : Bool) (m : Nat) (e : Int) : Nat := (f32r (.fin neg m e)).1

/-! The random generator (09, R219–R221). -/

/-- Rotate a 64-bit word left. -/
def rotl64 (x : W64) (n : Nat) : W64 := x.rotateLeft n

/-- One round of R219. -/
def rngRound (seed : W64) (p : W64 × W64) (r : Nat) : W64 × W64 :=
  let k := seed ^^^ (BitVec.ofNat 64 (r + 1) * 0x0101010101010101)
  let x := (p.1.rotateRight 8 + p.2) ^^^ k
  (x, rotl64 p.2 12 ^^^ x)

/-- The generator of R219: ten rounds. -/
def rng (seed x y : W64) : W64 × W64 := (List.range 10).foldl (rngRound seed) (x, y)

/-- The 16 random bits of element `e` (R220, R221). -/
def rngBits (seed step : W64) (stream tag e : Nat) : Nat :=
  let y := BitVec.ofNat 64 (stream * 2 ^ 56 + tag * 2 ^ 28 + e / 8 % 2 ^ 28)
  let (a, b) := rng seed step y
  let o := a.toNat * 2 ^ 64 + b.toNat
  o / 2 ^ (16 * (e % 8)) % 65536

/-- What a task draws its bits from (R220). -/
structure RngCtx where
  seed : W64
  step : W64
  stream : Nat
  tag : Nat
deriving DecidableEq, Repr

/-- The rounding of element `e`, rnd 0 RNE or 1 SR (Table 2-1). -/
def RngCtx.rnd (c : RngCtx) (rnd e : Nat) : Rnd :=
  if rnd = 1 then .sr (rngBits c.seed c.step c.stream c.tag e) else .rne

/-! Fixed-point formats (02, R46, R47). -/

/-- Round an integer m at 2^-k to the nearest integer, ties to even. -/
def rneShift (m : Int) (k : Nat) : Int :=
  let n : Int := roundGrid .rne m.natAbs 0 k
  if m < 0 then -n else n

/-- Clamp to a signed range of `w` bits, and whether it clamped. -/
def clampS (w : Nat) (x : Int) : Int × Bool :=
  if x > 2 ^ (w - 1) - 1 then (2 ^ (w - 1) - 1, true)
  else if x < -2 ^ (w - 1) then (-2 ^ (w - 1), true)
  else (x, false)

/-- FP32 → Q1.31 with exponent e (Table 2-4). -/
def f32ToQ (e : Int) (x : Nat) : Int × Flags :=
  match fdecode ffp32 x with
  | (.nan, _) => (0, { nan := true })
  | (.inf neg, _) => (if neg then -2 ^ 31 else 2 ^ 31 - 1, { sat := true })
  | (.fin neg m d, fl) =>
    let n : Int := roundGrid .rne m (d + 31 - e) 0
    let (v, c) := clampS 32 (if neg then -n else n)
    (v, { sat := c, flush := fl.flush || decide (m ≠ 0 ∧ n = 0) })

/-- Q1.31 with exponent e → FP32. -/
def qToF32 (e : Int) (v : Int) : Nat × Flags := f32r (.fin (decide (v < 0)) v.natAbs (e - 31))

/-- A Q16.48 accumulation: one product of two Q1.31 elements, rounded at 2^-48 and added (R47). -/
def q48Mac (acc : Int) (a b : Int) : Int × Bool := clampS 64 (acc + rneShift (a * b) 14)

/-- Q16.48 with exponent ea → Q1.31 with exponent e. -/
def q48ToQ (ea e : Int) (a : Int) : Int × Flags :=
  let n : Int := roundGrid .rne a.natAbs (ea - 48 + 31 - e) 0
  let (v, c) := clampS 32 (if a < 0 then -n else n)
  (v, { sat := c, flush := decide (a ≠ 0 ∧ n = 0) })

/-- Q16.48 → FP32. -/
def q48ToF32 (ea : Int) (a : Int) : Nat × Flags := f32r (.fin (decide (a < 0)) a.natAbs (ea - 48))

/-! Split-master pair (02, R53–R55). -/

/-- R54: the pair (h, l) of an FP32 pattern, and whether it was clamped. -/
def splitPair (m : Nat) : Nat × Int × Bool :=
  let s := bit m 31
  let a := m % 2 ^ 31
  if a > 0x7F800000 then (0x7FC0, 0, false)
  else
    let lim := if s then 0x7F7F8000 else 0x7F7F7FFF
    let c := decide (a > lim)
    let a := min a lim
    let hi := a / 65536
    let lo := a % 65536
    let sb := if s then 32768 else 0
    if s then
      if lo > 0x8000 then (sb + (hi + 1), (65536 - lo : Nat), c) else (sb + hi, -(lo : Int), c)
    else
      if lo ≥ 0x8000 then (hi + 1, (lo : Int) - 65536, c) else (hi, (lo : Int), c)

/-- R55: the FP32 pattern of a pair, or none for a reserved one. -/
def joinPair (h : Nat) (l : Int) : Option Nat :=
  let s := bit h 15
  let hm := h % 32768
  if hm = 0x7F80 then none
  else if hm ≥ 1 ∧ hm ≤ 0x7F then none
  else if hm = 0 ∧ l ≠ 0 then none
  else if hm > 0x7F80 then (if l = 0 then some 0x7FC00000 else none)
  else
    let a : Int := if s then (hm : Int) * 65536 - l else (hm : Int) * 65536 + l
    if a ≠ 0 ∧ a < 0x00800000 then none
    else some ((if s then 2 ^ 31 else 0) + a.toNat)

/-! Moment formats (02, R49–R52). -/

/-- FP32 127.0 and 255.0. -/
def f127 : Nat := 0x42FE0000
def f255 : Nat := 0x437F0000

/-- Is a block scale reserved (R51)? −0 is read as +0, and so is what R39 reads as −0; a NaN must be the canonical one. -/
def scaleReserved (s : Nat) : Bool :=
  if fisNan s then s ≠ 0x7FC00000 else fisInf s || (bit s 31 && decide (s % 2 ^ 31 ≥ 2 ^ 23))

/-- A valid block scale as it is read: −0 is +0 (R51). -/
def scaleRead (s : Nat) : Nat := s % 2 ^ 31

/-- The element an M1 code stands for (R49, R51). -/
def m1Value (s : Nat) (c : Int) : Nat :=
  if fisNan s then 0x7FC00000 else fdiv (fmul (ffromInt c) (scaleRead s)) f127

/-- The element an M2 code stands for (R50, R51). -/
def m2Value (s : Nat) (u : Nat) : Nat :=
  if fisNan s then 0x7FC00000
  else
    let r := fdiv (fmul (ffromInt u) (scaleRead s)) f255
    fmul r r

/-- R52 for first moments: codes and scale of 128 elements; `r i` is the rounding of element i. -/
def m1Encode (r : Nat → Rnd) (m : List Nat) : List Int × Nat :=
  let s := m.foldl (fun s x => fmax s (fabs x)) 0
  if fisNan s || fisInf s then (m.map fun _ => 0, 0x7FC00000)
  else ((List.range m.length).zipWith
    (fun i x => if fisZero s then 0 else intFromF32 (r i) (fmul (fdiv x s) f127)) m, s)

/-- R52 for second moments. -/
def m2Encode (r : Nat → Rnd) (v : List Nat) : List Int × Nat :=
  let rt := v.map fsqrt
  let s := rt.foldl fmax 0
  if fisNan s || fisInf s then (v.map fun _ => 0, 0x7FC00000)
  else ((List.range v.length).zipWith
    (fun i x => if fisZero s then 0 else intFromF32 (r i) (fmul (fdiv x s) f255)) rt, s)

end Sys2Proof.Machine
end

