-- ==== Sys2Proof/Machine/Counters.lean ====
section
/-!
DEFINITION. The counters of Tables 5-6, 6-7, 7-8, 8-7, 9-10, 10-4, 11-13, 12-5, 13-14, 14-8, 15-17 and 17-8: their
names, scopes, widths and table order. They are unsigned and stop at their largest value (05, R144).
-/

namespace Sys2Proof.Machine

/-- The counters, in the order of their tables. -/
inductive Counter
  -- Table 5-6
  | consumed
  | deficit
  | lentIn
  | waitRunqFull
  | waitCplFull
  | waitParkFull
  | waitOffline
  | admitted
  | completed
  | stealsL1
  | stealsL2
  | stealsL3
  | stolenFrom
  | unstage
  | lendRefused
  | watchRetry
  | lateArrival
  | parkHigh
  -- Table 6-7
  | stageBytes
  | mcastHits
  | mcastEvictLive
  | wbBytes
  | unitBytes
  | oob
  | finderReads
  | finderWrites
  | finderFull
  | lcGuard
  | aged
  -- Table 7-8
  | rdData
  | wrData
  | metaBytes
  | rmw
  | turnarounds
  | refreshNs
  | prefetchBytes
  | bridgeRd
  | bridgeWr
  | dirtyActive
  -- Table 8-7
  | bindsPool
  | bindsRecompute
  | fallbackOffload
  | fallbackRecompute
  | exhausted
  | offloads
  | reloads
  | offloadBytes
  | reloadBytes
  | offloadCancel
  | bindWait
  | reloadWait
  | orderWait
  | patched
  | gHigh
  | lHigh
  | imbalance
  -- Table 9-10
  | guardsDone
  | probes
  | replayE5m2
  | replayBf16
  | unresolved
  | abandoned
  | stale
  | scaleWait
  | updateNs
  | ratioAlarms
  | zeroAlarms
  | watchDropped
  -- Table 10-4
  | statsTasks
  | addBytes
  | droppedTasks
  | droppedBlocks
  | tokens
  | folds
  | foldsIdle
  | foldsSkipped
  | foldBytes
  | foldHoldWait
  | swapLate
  | holdsRefused
  | listIndices
  -- Table 11-13
  | spTasks
  | spArrayBusy
  | products
  | iterations
  | fresh
  | capped
  | carried
  | sameSource
  | deadlineMissed
  | infeasible
  | readBytes
  | writeBytes
  | holdWait
  | buildHoldWait
  | operatorWait
  | commits
  | staleBoundaries
  | ageEvents
  | staleEvents
  -- Table 12-5
  | epTasks
  | elements
  | epArrayBusy
  | precondIdentity
  | skipped
  | stateWait
  | openFull
  | commitWait
  | digests
  | ratioDropped
  -- Table 13-14
  | txFlits
  | rxFlits
  | fecCorrected
  | uncorrectable
  | replays
  | creditStall
  | extBytes
  | transitPackets
  | injectedPackets
  | ejectedPackets
  | nonminimal
  | detours
  | lostPackets
  | crcDrop
  | malformed
  | unroutable
  | lateRsp
  | fabricTimeouts
  -- Table 14-8
  | collDone
  | collFailed
  | txLines
  | rxLines
  | adds
  | landingWait
  | abortsRx
  | switches
  | epochDrop
  | fenceDrop
  | mirrorBytes
  -- Table 15-17
  | hostRdBytes
  | hostWrBytes
  | dmaRdBytes
  | dmaWrBytes
  | hostUr
  | hostPoisoned
  | cplTimeouts
  | bounceIn
  | bounceOut
  | importBytes
  | importTagFail
  | tagFail
  | scrubs
  -- Table 17-8
  | ceLight
  | ceStrong
  | ue
  | metaRebuilt
  | poisoned
  | scrubPages
  | scrubRewrites
  | flips
  | sramCe
  | sramUe
  | lanesSpared
  | poisonTasks
  | reexec
  | repairs
  | repairFailed
  | stepAborts
  | repairWait
  | retiredFrames
deriving DecidableEq, Repr

/-- What a counter is kept for each of (16, R393). `pool` of Table 8-7 has one counter a pool, named apart here. -/
inductive CScope
  | core
  | cluster
  | die
  | cls
  | stream
  | port
  | lane
  | tier
  | channel
  | module
deriving DecidableEq, Repr

/-- How many counters a scope has (16, R393). -/
def CScope.count : CScope → Nat
  | .core => 512
  | .cluster => 32
  | .die => 2
  | .cls => 16
  | .stream => 256
  | .port => 30
  | .lane => 120
  | .tier => 2
  | .channel => 320
  | .module => 1

/-- The scope of a counter. -/
def Counter.scope : Counter → CScope
  | .consumed => .cls
  | .deficit => .cls
  | .lentIn => .cls
  | .waitRunqFull => .stream
  | .waitCplFull => .stream
  | .waitParkFull => .stream
  | .waitOffline => .stream
  | .admitted => .stream
  | .completed => .stream
  | .stealsL1 => .core
  | .stealsL2 => .core
  | .stealsL3 => .core
  | .stolenFrom => .core
  | .unstage => .core
  | .lendRefused => .die
  | .watchRetry => .die
  | .lateArrival => .die
  | .parkHigh => .die
  | .stageBytes => .cluster
  | .mcastHits => .cluster
  | .mcastEvictLive => .cluster
  | .wbBytes => .cluster
  | .unitBytes => .cluster
  | .oob => .cluster
  | .finderReads => .die
  | .finderWrites => .die
  | .finderFull => .die
  | .lcGuard => .die
  | .aged => .die
  | .rdData => .channel
  | .wrData => .channel
  | .metaBytes => .channel
  | .rmw => .channel
  | .turnarounds => .channel
  | .refreshNs => .channel
  | .prefetchBytes => .die
  | .bridgeRd => .die
  | .bridgeWr => .die
  | .dirtyActive => .tier
  | .bindsPool => .module
  | .bindsRecompute => .module
  | .fallbackOffload => .module
  | .fallbackRecompute => .module
  | .exhausted => .module
  | .offloads => .module
  | .reloads => .module
  | .offloadBytes => .module
  | .reloadBytes => .module
  | .offloadCancel => .module
  | .bindWait => .module
  | .reloadWait => .module
  | .orderWait => .module
  | .patched => .module
  | .gHigh => .module
  | .lHigh => .module
  | .imbalance => .module
  | .guardsDone => .module
  | .probes => .module
  | .replayE5m2 => .module
  | .replayBf16 => .module
  | .unresolved => .module
  | .abandoned => .module
  | .stale => .module
  | .scaleWait => .module
  | .updateNs => .module
  | .ratioAlarms => .module
  | .zeroAlarms => .module
  | .watchDropped => .module
  | .statsTasks => .core
  | .addBytes => .cluster
  | .droppedTasks => .module
  | .droppedBlocks => .module
  | .tokens => .module
  | .folds => .module
  | .foldsIdle => .module
  | .foldsSkipped => .module
  | .foldBytes => .core
  | .foldHoldWait => .module
  | .swapLate => .module
  | .holdsRefused => .module
  | .listIndices => .module
  | .spTasks => .cluster
  | .spArrayBusy => .cluster
  | .products => .cluster
  | .iterations => .cluster
  | .fresh => .cluster
  | .capped => .cluster
  | .carried => .cluster
  | .sameSource => .cluster
  | .deadlineMissed => .cluster
  | .infeasible => .cluster
  | .readBytes => .cluster
  | .writeBytes => .cluster
  | .holdWait => .cluster
  | .buildHoldWait => .cluster
  | .operatorWait => .cluster
  | .commits => .module
  | .staleBoundaries => .module
  | .ageEvents => .module
  | .staleEvents => .module
  | .epTasks => .die
  | .elements => .die
  | .epArrayBusy => .die
  | .precondIdentity => .die
  | .skipped => .die
  | .stateWait => .die
  | .openFull => .die
  | .commitWait => .module
  | .digests => .die
  | .ratioDropped => .die
  | .txFlits => .port
  | .rxFlits => .port
  | .fecCorrected => .lane
  | .uncorrectable => .port
  | .replays => .port
  | .creditStall => .port
  | .extBytes => .port
  | .transitPackets => .die
  | .injectedPackets => .die
  | .ejectedPackets => .die
  | .nonminimal => .die
  | .detours => .die
  | .lostPackets => .port
  | .crcDrop => .die
  | .malformed => .die
  | .unroutable => .die
  | .lateRsp => .die
  | .fabricTimeouts => .die
  | .collDone => .die
  | .collFailed => .die
  | .txLines => .die
  | .rxLines => .die
  | .adds => .die
  | .landingWait => .die
  | .abortsRx => .die
  | .switches => .module
  | .epochDrop => .die
  | .fenceDrop => .module
  | .mirrorBytes => .module
  | .hostRdBytes => .module
  | .hostWrBytes => .module
  | .dmaRdBytes => .module
  | .dmaWrBytes => .module
  | .hostUr => .module
  | .hostPoisoned => .module
  | .cplTimeouts => .module
  | .bounceIn => .module
  | .bounceOut => .module
  | .importBytes => .module
  | .importTagFail => .module
  | .tagFail => .channel
  | .scrubs => .module
  | .ceLight => .channel
  | .ceStrong => .channel
  | .ue => .channel
  | .metaRebuilt => .channel
  | .poisoned => .channel
  | .scrubPages => .channel
  | .scrubRewrites => .channel
  | .flips => .channel
  | .sramCe => .cluster
  | .sramUe => .cluster
  | .lanesSpared => .die
  | .poisonTasks => .die
  | .reexec => .die
  | .repairs => .module
  | .repairFailed => .module
  | .stepAborts => .module
  | .repairWait => .module
  | .retiredFrames => .tier

/-- The width of a counter in bits. -/
def Counter.width : Counter → Nat
  | .consumed => 64
  | .deficit => 64
  | .lentIn => 64
  | .waitRunqFull => 64
  | .waitCplFull => 64
  | .waitParkFull => 64
  | .waitOffline => 64
  | .admitted => 64
  | .completed => 64
  | .stealsL1 => 32
  | .stealsL2 => 32
  | .stealsL3 => 32
  | .stolenFrom => 32
  | .unstage => 32
  | .lendRefused => 32
  | .watchRetry => 32
  | .lateArrival => 32
  | .parkHigh => 16
  | .stageBytes => 64
  | .mcastHits => 64
  | .mcastEvictLive => 32
  | .wbBytes => 64
  | .unitBytes => 64
  | .oob => 64
  | .finderReads => 64
  | .finderWrites => 64
  | .finderFull => 64
  | .lcGuard => 32
  | .aged => 32
  | .rdData => 64
  | .wrData => 64
  | .metaBytes => 64
  | .rmw => 64
  | .turnarounds => 64
  | .refreshNs => 64
  | .prefetchBytes => 64
  | .bridgeRd => 64
  | .bridgeWr => 64
  | .dirtyActive => 32
  | .bindsPool => 64
  | .bindsRecompute => 64
  | .fallbackOffload => 32
  | .fallbackRecompute => 32
  | .exhausted => 32
  | .offloads => 64
  | .reloads => 64
  | .offloadBytes => 64
  | .reloadBytes => 64
  | .offloadCancel => 32
  | .bindWait => 64
  | .reloadWait => 64
  | .orderWait => 64
  | .patched => 64
  | .gHigh => 32
  | .lHigh => 32
  | .imbalance => 32
  | .guardsDone => 64
  | .probes => 32
  | .replayE5m2 => 32
  | .replayBf16 => 32
  | .unresolved => 32
  | .abandoned => 32
  | .stale => 32
  | .scaleWait => 64
  | .updateNs => 64
  | .ratioAlarms => 32
  | .zeroAlarms => 32
  | .watchDropped => 32
  | .statsTasks => 64
  | .addBytes => 64
  | .droppedTasks => 32
  | .droppedBlocks => 32
  | .tokens => 64
  | .folds => 64
  | .foldsIdle => 64
  | .foldsSkipped => 64
  | .foldBytes => 64
  | .foldHoldWait => 64
  | .swapLate => 32
  | .holdsRefused => 32
  | .listIndices => 64
  | .spTasks => 64
  | .spArrayBusy => 64
  | .products => 64
  | .iterations => 64
  | .fresh => 32
  | .capped => 32
  | .carried => 32
  | .sameSource => 32
  | .deadlineMissed => 32
  | .infeasible => 32
  | .readBytes => 64
  | .writeBytes => 64
  | .holdWait => 64
  | .buildHoldWait => 64
  | .operatorWait => 64
  | .commits => 64
  | .staleBoundaries => 64
  | .ageEvents => 32
  | .staleEvents => 32
  | .epTasks => 64
  | .elements => 64
  | .epArrayBusy => 64
  | .precondIdentity => 32
  | .skipped => 32
  | .stateWait => 64
  | .openFull => 64
  | .commitWait => 64
  | .digests => 64
  | .ratioDropped => 32
  | .txFlits => 64
  | .rxFlits => 64
  | .fecCorrected => 64
  | .uncorrectable => 64
  | .replays => 64
  | .creditStall => 64
  | .extBytes => 64
  | .transitPackets => 64
  | .injectedPackets => 64
  | .ejectedPackets => 64
  | .nonminimal => 64
  | .detours => 64
  | .lostPackets => 64
  | .crcDrop => 64
  | .malformed => 64
  | .unroutable => 64
  | .lateRsp => 32
  | .fabricTimeouts => 32
  | .collDone => 64
  | .collFailed => 64
  | .txLines => 64
  | .rxLines => 64
  | .adds => 64
  | .landingWait => 64
  | .abortsRx => 32
  | .switches => 32
  | .epochDrop => 64
  | .fenceDrop => 64
  | .mirrorBytes => 64
  | .hostRdBytes => 64
  | .hostWrBytes => 64
  | .dmaRdBytes => 64
  | .dmaWrBytes => 64
  | .hostUr => 32
  | .hostPoisoned => 32
  | .cplTimeouts => 32
  | .bounceIn => 64
  | .bounceOut => 64
  | .importBytes => 64
  | .importTagFail => 32
  | .tagFail => 32
  | .scrubs => 32
  | .ceLight => 64
  | .ceStrong => 32
  | .ue => 32
  | .metaRebuilt => 32
  | .poisoned => 32
  | .scrubPages => 64
  | .scrubRewrites => 64
  | .flips => 32
  | .sramCe => 64
  | .sramUe => 32
  | .lanesSpared => 32
  | .poisonTasks => 64
  | .reexec => 64
  | .repairs => 32
  | .repairFailed => 32
  | .stepAborts => 32
  | .repairWait => 64
  | .retiredFrames => 32

/-- The counter tables that the READ_*_COUNTERS commands return (16, Table 16-8). -/
inductive CTable
  | sched
  | stream
  | memory
  | stash
  | numeric
  | photometer
  | spectro
  | ephemeris
  | fabric
  | collective
  | host
  | reliability
deriving DecidableEq, Repr

/-- The rows of a counter table in table order, the counters of a row in the order it names them; the counters of
one row are expanded together over their scope, one counter after the other (16, R393). -/
def CTable.rows : CTable → List Counter
  | .sched => [.consumed, .deficit, .lentIn, .waitRunqFull, .waitCplFull, .waitParkFull, .waitOffline, .admitted, .completed, .stealsL1, .stealsL2, .stealsL3, .stolenFrom, .unstage, .lendRefused, .watchRetry, .lateArrival, .parkHigh]
  | .stream => [.stageBytes, .mcastHits, .mcastEvictLive, .wbBytes, .unitBytes, .oob, .finderReads, .finderWrites, .finderFull, .lcGuard, .aged]
  | .memory => [.rdData, .wrData, .metaBytes, .rmw, .turnarounds, .refreshNs, .prefetchBytes, .bridgeRd, .bridgeWr, .dirtyActive]
  | .stash => [.bindsPool, .bindsRecompute, .fallbackOffload, .fallbackRecompute, .exhausted, .offloads, .reloads, .offloadBytes, .reloadBytes, .offloadCancel, .bindWait, .reloadWait, .orderWait, .patched, .gHigh, .lHigh, .imbalance]
  | .numeric => [.guardsDone, .probes, .replayE5m2, .replayBf16, .unresolved, .abandoned, .stale, .scaleWait, .updateNs, .ratioAlarms, .zeroAlarms, .watchDropped]
  | .photometer => [.statsTasks, .addBytes, .droppedTasks, .droppedBlocks, .tokens, .folds, .foldsIdle, .foldsSkipped, .foldBytes, .foldHoldWait, .swapLate, .holdsRefused, .listIndices]
  | .spectro => [.spTasks, .spArrayBusy, .products, .iterations, .fresh, .capped, .carried, .sameSource, .deadlineMissed, .infeasible, .readBytes, .writeBytes, .holdWait, .buildHoldWait, .operatorWait, .commits, .staleBoundaries, .ageEvents, .staleEvents]
  | .ephemeris => [.epTasks, .elements, .epArrayBusy, .precondIdentity, .skipped, .stateWait, .openFull, .commitWait, .digests, .ratioDropped]
  | .fabric => [.txFlits, .rxFlits, .fecCorrected, .uncorrectable, .replays, .creditStall, .extBytes, .transitPackets, .injectedPackets, .ejectedPackets, .nonminimal, .detours, .lostPackets, .crcDrop, .malformed, .unroutable, .lateRsp, .fabricTimeouts]
  | .collective => [.collDone, .collFailed, .txLines, .rxLines, .adds, .landingWait, .abortsRx, .switches, .epochDrop, .fenceDrop, .mirrorBytes]
  | .host => [.hostRdBytes, .hostWrBytes, .dmaRdBytes, .dmaWrBytes, .hostUr, .hostPoisoned, .cplTimeouts, .bounceIn, .bounceOut, .importBytes, .importTagFail, .tagFail, .scrubs]
  | .reliability => [.ceLight, .ceStrong, .ue, .metaRebuilt, .poisoned, .scrubPages, .scrubRewrites, .flips, .sramCe, .sramUe, .lanesSpared, .poisonTasks, .reexec, .repairs, .repairFailed, .stepAborts, .repairWait, .retiredFrames]

/-- The number of a counter, its place in the list of all of them. -/
def Counter.num (c : Counter) : Nat := c.ctorIdx

/-- The key of the counter of index `i` in the state's sparse table of counters. -/
def Counter.key (c : Counter) (i : Nat) : Nat := c.num * 65536 + i

/-- Counters held: key to value, zero where none is listed. -/
abbrev Ctrs := KV Nat

/-- The value of a counter. -/
def Ctrs.get (t : Ctrs) (c : Counter) (i : Nat) : Nat := kvGet 0 (c.key i) t

/-- Add to a counter, which stops at its largest value (R144). -/
def Ctrs.add (t : Ctrs) (c : Counter) (i n : Nat) : Ctrs :=
  kvPut 0 (c.key i) (min (t.get c i + n) (2 ^ c.width - 1)) t

/-- Raise a high-water counter. -/
def Ctrs.high (t : Ctrs) (c : Counter) (i n : Nat) : Ctrs :=
  kvPut 0 (c.key i) (min (max (t.get c i) n) (2 ^ c.width - 1)) t

/-- Clear every counter but those of one kind. -/
def Ctrs.clearBut (t : Ctrs) (keep : Counter → Bool) (all : List Counter) : Ctrs :=
  t.filter fun e => all.any fun c => keep c && c.num == e.1 / 65536

end Sys2Proof.Machine
end

