-- ==== Sys2Proof/Machine/Out.lean ====
section
/-!
DEFINITION. What the block drives outwards: the model's own record of it (`State.sent`), newest first.
-/

namespace Sys2Proof.Machine

/-- One thing the block has sent. -/
inductive Out
  /-- An MSI-X message of a vector (16, R398). -/
  | msix (vec : Nat)
  /-- Data of a host read (15, R349). -/
  | hostData (bytes : List Byte)
  /-- Data of a host read that met poison: a poisoned completion (log entry 96). -/
  | hostPoison (bytes : List Byte)
  /-- A completion with Unsupported Request (15, R348, R349). -/
  | hostUR
  /-- A completion with Request Retry Status (15, R352). -/
  | hostRRS
  /-- A configuration completion. -/
  | cfgData (v : W32)
  /-- A DOE object: its type and bytes (15, R347). -/
  | doe (kind : Nat) (body : List Byte)
  /-- An SPDM response: its request's name code, an error code (0 none) and the body (15, R356). -/
  | spdm (req : String) (err : Nat) (body : List Byte)
  /-- A response to a Zorwitra vendor message (15, R357). -/
  | vendor (opcode status : Nat) (body : List Byte)
  /-- A TDISP or IDE_KM response (15, R364). -/
  | tdisp (req : String) (err : Nat) (body : List Byte)
  /-- A management-port response (21, R524–R528). -/
  | mctp (req : String) (code : Nat) (body : List Byte)
  /-- A codeword: its control field (13, Table 13-3) and its flits of eight words each (R299, R310). -/
  | codeword (port : Nat) (control : Nat) (flits : List (List Nat))
  /-- A link-level item of a port: a flit, a control message, a training action (13, R300–R306). -/
  | link (port : Nat) (what : String) (words : List Nat)
  /-- A pin, rail, clock or device action (19–21). -/
  | pin (name : String) (v : Nat)
deriving DecidableEq, Repr

end Sys2Proof.Machine
end

