-- ==== Sys2Proof/Machine/PartsBoot.lean ====
section
/-!
DEFINITION. The parts of the state that chapter 19 names: the bring-up phase and its report, the saved training
settings, the reset in progress, Collimation and the field tests; and the parts that chapter 21 names: power, the
power controller, the hardware status record and the management port. The value a field has after a FULL reset (for
the hardware status record: at the return of AUX_54V) is the default written beside it.
-/

namespace Sys2Proof.Machine

/-- The header of one copy of the saved training settings (19, Table 19-2). Magic, version, size and crc are correct
in every copy that is held: one that is not is held as absent. The body is the firmware's own (log entry 19). -/
structure Saved where
  savedAt : Nat
  memId : Nat
  serial : W64
  fw : W32
  gen : Nat
  ports : Nat
  tG : Int
  tL : Int
  gs0 : Nat
  gs1 : Nat
  stepping : Nat
deriving DecidableEq, Repr

/-- A channel record of the bring-up report (19, Table 19-6). -/
structure ChanRec where
  trainMs : Nat := 0
  eyeUi : Nat := 0
  eyeMv : Nat := 0
  lane : Nat := 0
  ppr : Nat := 0
  failed : Bool := false
  spare : Bool := false
  fallback : Bool := false
  warm : Bool := false
  trained : Bool := false
deriving DecidableEq, Repr

/-- The bring-up report's summary, but for the fields that other state holds (19, Table 19-5). -/
structure Report where
  /-- The saved header is valid, and the bridge trained warm (the warm mask, with the channel records). -/
  headerOk : Bool := false
  bridgeWarm : Bool := false
  gs0 : Nat := 0xFF
  gs1 : Nat := 0xFF
  storeState : Nat := 0
  cause : Nat := 0
  unit : Nat := 0
  portsActive : Nat := 0
  lanesSpared : Nat := 0
  fallbacks : Nat := 0
  pprRows : Nat := 0
  tBoot : Nat := 0
  tBridge : Nat := 0
  tLpddr : Nat := 0
  tGddr : Nat := 0
  tStore : Nat := 0
  tReady : Nat := 0
  colFailures : Nat := 0
  colSkipped : Nat := 0
  colSlices : Nat := 0
  /-- Channel records that differ from zero, 0–327. -/
  chans : KV ChanRec := []
deriving DecidableEq, Repr

/-- How far the bring-up in progress has come (19, Table 19-1). -/
structure BootRun where
  /-- TCLK cycle of t = 0. -/
  t0 : Nat
  /-- The saved settings that are valid for this bring-up (R454). -/
  saved : Option Saved := none
  /-- Tiers that train cold because of their temperature, ports that do (R454). -/
  coldG : Bool := true
  coldL : Bool := true
  coldPorts : Nat := 0x3FFFFFFF
  memId : Nat := 0
  tG : Int := 0
  tL : Int := 0
  /-- GDDR7 devices that the measuring found absent or unlike (R453). -/
  badDevs : List Nat := []
  /-- NAND interfaces whose package the measuring found absent or unlike. -/
  badNand : List Nat := []
  measured : Bool := false
  bridge : Bool := false
  /-- Channels (256 × tier + channel) whose training ended, and NAND interfaces. -/
  chansDone : List Nat := []
  nandDone : List Nat := []
  index : Bool := false
  window : Bool := false
  filled : List Nat := []
  /-- Some item completed cold training (R455). -/
  cold : Bool := false
deriving DecidableEq, Repr

/-- A COMPUTE or CLUSTER reset in progress (19, R464–R468). -/
structure ResetRun where
  /-- 1 COMPUTE, 2 CLUSTER (DEV_STATUS.resetting). -/
  scope : Nat
  cluster : Nat
  /-- The mailbox of the RESET_MODULE that caused it; none for a PCIe event. -/
  mbx : Option Nat
  since : Nat
  /-- The Chronograph time of its acceptance. -/
  at_ : Nat
  /-- Tiers it fills. -/
  fills : Nat
  /-- A CLUSTER reset still waits for the operator application of the cluster's SPECTRO task. -/
  waiting : Bool
deriving DecidableEq, Repr

/-- How far a Collimation slice has come (19, R473). -/
inductive ColPhase
  | drain
  | clear
  | march
  /-- Logic blocks that remain. -/
  | logic (left : Nat)
  | restore
deriving DecidableEq, Repr

/-- Scan is enabled for the cluster (R472). -/
def ColPhase.scans : ColPhase → Bool
  | .march => true
  | .logic _ => true
  | .restore => true
  | _ => false

/-- The Collimation slice in progress (19, R470–R474). -/
structure Slice where
  cluster : Nat
  phase : ColPhase
  /-- n of R473, fixed when the slice began (R469). -/
  blocks : Nat
  /-- Why the cluster is to be retired at the restore step: 1 logic, 2 memory (Table 19-12). -/
  retire : Option Nat
deriving DecidableEq, Repr

/-- A traffic test or a margin sweep in progress (19, R477, R478). -/
structure FieldTest where
  mbx : Nat
  margin : Bool
  chan : Nat
  pattern : Nat
  dest : Nat
  len : Nat
deriving DecidableEq, Repr

/-- Bring-up, reset and self-test (19). -/
structure Boot where
  /-- DEV_STATUS.phase and .ready (Table 16-3). -/
  phase : Nat := 0
  ready : Bool := false
  run : Option BootRun := none
  report : Report := {}
  /-- The two copies in the boot flash (R454). -/
  copyA : Option Saved := none
  copyB : Option Saved := none
  /-- A save is due because an item completed cold training (R455). -/
  saveDue : Bool := false
  reset : Option ResetRun := none
  /-- The Chronograph sideband delay that bridge training measured (R458; 01, R29). -/
  sideDelay : Nat := 0
  /-- The retired-cluster map (R461, R474), and the part that the soft-repair list carries across FULL resets. -/
  retired : BitVec 32 := 0
  retiredSoft : BitVec 32 := 0
  colEnable : Bool := true
  colPeriod : Nat := 300
  colBudget : Nat := 120
  colNext : Nat := 0
  /-- Cycle at which the previous slice started; at readiness, of readiness (R470; 20, R482). -/
  colLast : Nat := 0
  /-- The block at which the next slice on a cluster continues (R473). -/
  colBlock : KV Nat := []
  slice : Option Slice := none
  test : Option FieldTest := none
deriving DecidableEq, Repr

/-- The main rails (21, Table 21-15, power). -/
inductive Rails
  | standby
  | up
  | on
  | down
deriving DecidableEq, Repr

/-- A firmware image of the boot flash: the version and svn that its verification reads (19, R453; 21, R528). -/
structure Image where
  version : Nat
  svn : Nat
deriving DecidableEq, Repr

/-- A protective shutdown or the latched cause behind one (21, R520, Table 21-15). -/
structure ShutCause where
  cause : Nat := 0
  kind : Nat := 0
  index : Nat := 0
  value : Nat := 0
deriving DecidableEq, Repr

/-- Module hardware (21). -/
structure Power where
  /-- The auxiliary rails are up (R514). -/
  auxUp : Bool := false
  auxMv : Nat := 0
  mainMv : Nat := 0
  rails : Rails := .standby
  /-- The level on J1 S3: an open pin reads high (R507). -/
  pwrEn : Bool := true
  pwrGood : Bool := false
  /-- PERST# is asserted: the module pulls it low (R508). -/
  perst : Bool := true
  /-- The COMMANDED latch of POWER_CONTROL (R527), and a cycle that returns the rails by itself. -/
  commanded : Bool := false
  cycle : Bool := false
  latched : ShutCause := {}
  /-- A cause whose condition still persists (R520). -/
  active : Bool := false
  /-- A shutdown for POWER or TEMPERATURE waits its 100 µs: since when. -/
  shutAt : Option Nat := none
  /-- The power controller (R516–R518): limit in W, ceiling and target in MHz. -/
  limit : Nat := 2600
  ceil : Nat := 2050
  target : Nat := 2050
  good : Nat := 0
  /-- CCLK in MHz: 900 until readiness (R517). -/
  cclk : Nat := 900
  /-- Since when T is below the ceiling. -/
  belowAt : Option Nat := none
  /-- Consecutive samples with T = 900 and p > lim, their sum, and whether POWER_LIMIT_UNMET has been posted. -/
  unmet : Nat := 0
  unmetSum : Nat := 0
  unmetPosted : Bool := false
  /-- The management port (R524–R527). -/
  eid : Nat := 0
  mpOwner : Bool := false
  mpNow : Bool := false
  mpEver : Bool := false
  /-- The bytes of boot-flash image B as FW_WRITE leaves them, and both images as verification reads them; none where
  the image does not verify (R528). DESIGN CHOICE: what they are before any command (log entry 104). -/
  flashB : List Host.Cell := []
  imageA : Option Image := some ⟨0x00040002, Config.svn.toNat⟩
  imageB : Option Image := none
  /-- The image that booted (15, Table 15-9, index 2). -/
  running : Option Image := none
  /-- Modules in the cages: declared power in mW (R510). -/
  cages : KV Nat := []
deriving DecidableEq, Repr

end Sys2Proof.Machine
end

