-- ==== Sys2Proof/Machine/PartsEphem.lean ====
section
/-!
DEFINITION. The parts of the state that chapter 12 names: the hyperparameter table, the accepted queues, the open-record
tables, the ratio partials. The value a field has after a FULL reset is the default written beside it.
-/

namespace Sys2Proof.Machine

/-- An open-record entry of a Kronecker record (12, R285). -/
structure OpenRec where
  die : Nat
  /-- The state record's address and the table. -/
  record : Nat
  table : Nat
  /-- The admission order of the task that opened it. -/
  age : Nat
  /-- 1 or 2. -/
  pass : Nat := 1
  count : Nat := 0
  /-- Not answered yet; answered with a generation; or refused: the identity. -/
  hold : Option (Option Nat) := none
  /-- A pass-1 task was skipped (R289). -/
  skip : Bool := false
deriving DecidableEq, Repr

/-- A ratio partial (12, R294): the sums, absent from a Kronecker pass 1, and z. -/
structure RatioPart where
  die : Nat
  entry : Nat
  first : Nat
  sums : Option (Nat × Nat)
  z : Bool
deriving DecidableEq, Repr

/-- Both Ephemeris units (12). -/
structure Ephem where
  /-- The hyperparameter records, eight words each (R277). -/
  hyper : List (List Nat) := []
  /-- Accepted tasks of both dies, in acceptance order, each with the cycle of its acceptance (R290). -/
  accepted : List (Nat × Nat) := []
  openRecs : List OpenRec := []
  partials : List RatioPart := []
  /-- Table holds of closed entries, still to be released: table and generation (R270, R285). -/
  releases : List (Nat × Nat) := []
deriving DecidableEq, Repr

/-- Put a task in its die's accepted queue of 64 at a cycle, where there is room; `mine` says which tasks are of that die
(R275). -/
def Ephem.accept (x : Ephem) (mine : Nat → Bool) (t now : Nat) : Ephem :=
  if x.accepted.any (fun p => p.1 == t) || decide (x.accepted.countP (fun p => mine p.1) ≥ 64) then x
  else { x with accepted := x.accepted ++ [(t, now)] }

end Sys2Proof.Machine
end

