-- ==== Sys2Proof/Machine/PartsFabric.lean ====
section
/-!
DEFINITION. The parts of the state that chapters 13 and 14 name: packets, ports and their links, routing state,
communicators and open collectives, the site map and the fence, the buddy. The value a field has after a FULL reset
is the default written beside it.
-/

namespace Sys2Proof.Machine

/-- Packet types (13, Table 13-10); `other` is a reserved type. -/
inductive PType
  | write
  | readReq
  | readRsp
  | writeAck
  | semOp
  | semWatch
  | watchRsp
  | watchCancel
  | collData
  | collCtrl
  | mgmt
  | other (v : Nat)
deriving DecidableEq, Repr

/-- A packet: the header of Table 13-9 and its data flits. -/
structure Packet where
  typ : PType
  cls : Nat := 0
  level : Nat := 0
  det : Bool := true
  ack : Bool := false
  val : Bool := false
  igroup : Nat := 0
  dst : Nat
  src : Nat
  flow : Nat := 0
  glink : Nat := 0
  addr : Nat := 0
  token : Nat := 0
  tdie : Nat := 0
  lenM1 : Nat := 0
  status : Nat := 0
  op : Nat := 0
  operand : Nat := 0
  coll : Nat := 0
  mgmt : List Nat := [0, 0, 0]
  data : List Byte := []
  /-- The reserved fields of qw0, qw1 and qw7 as they were received. -/
  rsv : List Nat := [0, 0, 0]
  /-- The CRC received agrees with header and data. -/
  crcOk : Bool := true
deriving DecidableEq, Repr

/-- A packet of this module that waits to be injected: the die of the requesting unit, the task it is sent for, and
the die of its in-group hop where the sender fixes it (14, R330). -/
structure Inject where
  pkt : Packet
  die : Nat
  task : Option Nat := none
  viaDie : Option Nat := none
deriving DecidableEq, Repr

/-- A packet at a port's output: transit or injected. -/
structure OutPkt where
  pkt : Packet
  transit : Bool
  /-- The task that an injected packet was sent for. -/
  task : Option Nat := none
deriving DecidableEq, Repr

/-- Port states (13, Table 13-5, coded as in Table 13-7). -/
inductive PortSt
  | down
  | detect
  | train
  | length
  | caps
  | active
  | failed
deriving DecidableEq, Repr

/-- A codeword sent and not acknowledged (13, R299, R300): its sequence number, the position of its link flit (15: none),
its flits of eight words each, and how many packets end in it. -/
structure Codeword where
  seq : BitVec 24
  lpos : Nat
  flits : List (List Nat)
  ends : Nat
deriving DecidableEq, Repr

/-- A port and its link (13). -/
structure Port where
  st : PortSt := .down
  /-- 0 none, 1 lanes 0–1, 2 lanes 2–3, 3 all four. -/
  lanes : Nat := 0
  /-- The lanes that the last training found good, bit i for lane i (R302, Table 13-6). -/
  good : Nat := 0
  /-- The lanes that training may use: 3 all, 1 or 2 the pair a degrade left (R306). -/
  usable : Nat := 3
  /-- The training in progress uses saved settings (R302). -/
  warm : Bool := false
  /-- The port left service by a degrade, and PORT_DEGRADED has been posted for it. -/
  degrading : Bool := false
  miswired : Bool := false
  peerResetting : Bool := false
  incompatible : Bool := false
  /-- qw0 of the partner's last capability record; none before one was accepted since the last training. -/
  partner : Nat := 0
  partnerKnown : Bool := false
  capsTries : Nat := 0
  downCount : Nat := 0
  extMib : Nat := 0
  rxRing : Nat := 0
  replayRing : Nat := 0
  oneWay : Nat := 0
  length : Nat := 0
  /-- This end's marker turnaround, in 0.25 ns (Table 13-6). -/
  turn : Nat := 0
  /-- 0 none, 1 copper, 2 optical, 3 unknown. -/
  medium : Nat := 0
  /-- Sequence number of the next codeword sent, and of the next one expected (R299, R300). -/
  txSeq : BitVec 24 := 0
  rxSeq : BitVec 24 := 0
  /-- A codeword was not accepted: those after it are discarded until a replay (R300). -/
  nakked : Bool := false
  ackOwed : Bool := false
  /-- Flits of packets that the next codewords carry, and whether each ends its packet. -/
  cw : List (List Nat × Bool) := []
  /-- Codewords sent and not acknowledged, oldest first. -/
  replay : List Codeword := []
  /-- The codeword last named by a NAK, and how often it has been. -/
  nakSeq : BitVec 24 := 0
  nakCount : Nat := 0
  /-- Credits towards the partner: reserved of each VC, shared; and the totals it announced (R309). -/
  vcCr : Vector Nat 8 := Vector.replicate 8 0
  sharedCr : Nat := 0
  vcCr0 : Nat := 0
  sharedCr0 : Nat := 0
  /-- Flits held of each VC in the receive buffer, and credit returns owed. -/
  rxUsed : Vector Nat 8 := Vector.replicate 8 0
  vcOwed : Vector Nat 8 := Vector.replicate 8 0
  sharedOwed : Nat := 0
  /-- Of the flits held, those that lie in the receive ring of the extension, and the ring's next flit (R309). -/
  rxExt : Nat := 0
  rxAt : Nat := 0
  /-- Flits (eight words each) of a packet received in part. -/
  part : List (List Nat) := []
  /-- Packets received whole that wait for the router, and packets that wait to be sent. -/
  rx : List Packet := []
  txq : List OutPkt := []
  /-- Arbitration of R312: packets sent since an LC one, transit grants in a row, packets sent in all, and the number of
  the last one of each VC, 0 for none. -/
  sinceLc : Nat := 3
  transitRun : Nat := 0
  grants : Nat := 0
  served : Vector Nat 8 := Vector.replicate 8 0
  /-- Since which cycle packets wait for credits alone (Table 13-14, credit_stall). -/
  stall : Option Nat := none
deriving DecidableEq, Repr

/-- A communicator (14, R324). -/
structure Comm where
  ranks : List Nat
  own : Nat
  epoch : Nat
  timeoutUs : Nat
  slot64k : Nat
  /-- Collectives admitted since creation or the last epoch switch (R329). -/
  count : Nat := 0
  stale : Bool := false
  /-- FREEs received and not used: rank and sequence number. -/
  frees : List (Nat × Nat) := []
  /-- Sequences this module sent data in whose FREE has not come: rank and sequence number (R336). -/
  owed : List (Nat × Nat) := []
  /-- ABORTs observed before admission: sequence number and module (R334). -/
  aborts : List (Nat × Nat) := []
  /-- Chunks landed: sequence number, phase (0 reduce, 1 gather), rank, and offset in the slot. -/
  landed : List (Nat × Nat × Nat × Nat) := []
deriving DecidableEq, Repr

/-- A segment of a collective's tensor (14, Table 14-3). -/
structure Seg where
  off : Nat
  ext : Nat
  pad : Nat
deriving DecidableEq, Repr

/-- A collective that an engine has admitted (14, R329–R333). -/
structure Coll where
  task : Nat
  comm : Nat
  die : Nat
  /-- Its number since the epoch began; its sequence number is this mod 2^16. -/
  num : Nat
  segs : List Seg
  /-- Ranks to which the reduce contribution, or the gather segment, has been sent. -/
  sentReduce : List Nat := []
  sentGather : List Nat := []
  /-- The own segment's result is written. -/
  reduced : Bool := false
  /-- Ranks whose gather segment has been copied to dst. -/
  copied : List Nat := []
  lines : Nat := 0
  /-- Since when it waits for a FREE. -/
  blocked : Option Nat := none
deriving DecidableEq, Repr

/-- The Orrery and the collectives (13, 14). -/
structure Fabric where
  /-- The module id (14, R323) and N of SET_TOPOLOGY (13, R313). -/
  id : Option Nat := none
  groups : Option Nat := none
  ports : KV Port := []
  /-- The global link table: global index to target group and the peer's index (R313). -/
  links : KV (Nat × Nat) := []
  /-- thr of R316 in flits and the fabric timeout in µs (R320). -/
  thr : Nat := 512
  timeoutUs : Nat := 10000
  /-- The port states that group peers last reported, and when (R315). -/
  peers : KV (Nat × Nat) := []
  inject : List Inject := []
  /-- READ_REQs injected whose first answer has not come: module, address, and the cycle of injection (20, Table 20-6). -/
  asked : List (Nat × Nat × Nat) := []
  /-- Packets ejected to this module that wait for their unit, with the port they came by. -/
  inbox : List (Nat × Packet) := []
  /-- When FABRIC_MALFORMED, ROUTE_UNREACHABLE and COLL_EPOCH_MISMATCH were last posted, by port, group, communicator. -/
  lastMalformed : KV Nat := []
  lastUnreach : KV Nat := []
  lastEpoch : KV Nat := []
  comms : KV Comm := []
  colls : List Coll := []
  /-- The site map, its enable, the fence's arming, and the fence time while it is in force (14, R340–R343). -/
  siteMap : Vector W64 2 := Vector.replicate 2 0
  siteEn : Bool := false
  armed : Bool := false
  fenced : Option Nat := none
  /-- The view of the other groups at this site: count and time of the last report (R341). -/
  siteView : KV (Nat × Nat) := []
  /-- The buddy (14, R344). -/
  buddy : Option Nat := none
  ringBase : Nat := 0
  ringBytes : Nat := 0
  rate : Nat := 0
  beatAt : Nat := 0
  buddyLost : Bool := false
  /-- Mirror-ring space that may still be sent into, and the next offset in the buddy's ring. -/
  credit : Nat := 0
  mirrorAt : Nat := 0
  /-- The offset in this module's own ring from which incoming mirror data is taken next. -/
  drainAt : Nat := 0
deriving DecidableEq, Repr

end Sys2Proof.Machine
end

