-- ==== Sys2Proof/Machine/PartsHost.lean ====
section
/-!
DEFINITION. The parts of the state that chapters 15 and 16 name: the mailboxes and the register window, the flag
registers and their counters, the event ring, the PCIe function, the security block and the bounce engine. The
value a field has after a FULL reset is the default written beside it.
-/

namespace Sys2Proof.Machine

/-- MBX_STATE.state (16, Table 16-3). -/
inductive MbxSt
  | idle
  | busy
  | done
deriving DecidableEq, Repr

/-- One mailbox (16, R377, Table 16-2), with the copy that Almanac takes of an accepted command (R382). -/
structure Mailbox where
  /-- MBX_CMD: [31:16] seq, [15:0] opcode. -/
  cmd : W64 := 0
  /-- MBX_ARG0–7. -/
  args : Vector W64 8 := Vector.replicate 8 0
  /-- MBX_STATE.status of the last completed command. -/
  status : W16 := 0
  /-- MBX_STATE.done_seq. -/
  doneSeq : W16 := 0xFFFF
  /-- MBX_STATE.run_seq. -/
  runSeq : W16 := 0
  /-- MBX_STATE.state. -/
  st : MbxSt := .idle
  /-- MBX_RES0–3. -/
  res : Vector W64 4 := Vector.replicate 4 0
  /-- The opcode copied on acceptance (R382). -/
  accOp : Nat := 0
  /-- The argument words copied on acceptance (R382). -/
  accArgs : Vector W64 8 := Vector.replicate 8 0
  /-- A long command whose background work has begun (R384). -/
  started : Bool := false
  /-- What a long command reports as its progress in MBX_RES0 (R386). -/
  progress : Nat := 0
  /-- The accepted command came through the management port (R390). -/
  fromPort : Bool := false
  /-- The cycle that accepted it (R386). -/
  accAt : Nat := 0
deriving DecidableEq, Repr

/-- An event record before it is given its count (16, Table 16-9). -/
structure EvRec where
  code : Nat
  time : Nat
  payload : List Nat
deriving DecidableEq, Repr

/-- Almanac's part of chapter 16. -/
structure Almanac where
  mbx : Vector Mailbox 16 := Vector.replicate 16 {}
  /-- The mailboxes whose accepted short commands Almanac has still to execute, in the order it observed their
  doorbells (R384). -/
  shortQ : List Nat := []
  /-- Doorbells written before Almanac runs: mailbox and value (log entry 21). -/
  bells : List (Nat × Nat) := []
  /-- ALMANAC_HEARTBEAT (Table 16-1). -/
  heartbeat : W64 := 0
  /-- DEV_STATUS.almanac_failed (R387). -/
  failed : Bool := false
  /-- Almanac has stopped at an error in its private SRAM (17, Table 17-3): its heartbeat no longer changes. -/
  stopped : Bool := false
  /-- EVT_TAIL and EVT_HEAD (Table 16-1), and the value EVT_TAIL held when SET_EVENT_RING completed (R379). -/
  evtTail : W32 := 0
  evtHead : W32 := 0
  evtFloor : W32 := 0
  /-- The event ring: base and log₂ of its records (R394). -/
  ring : Option (Nat × Nat) := none
  /-- Almanac's pending buffer of at most 1,024 records (R395). -/
  pendingEv : List EvRec := []
  /-- The lost count (R396). -/
  lost : Nat := 0
  /-- MBX_DONE: done and missed bits (Table 16-4). -/
  mbxDone : W16 := 0
  mbxMissed : W16 := 0
  /-- ERR_SUMMARY: flags 0–4 and their missed bits (Table 16-4). -/
  errFlags : BitVec 5 := 0
  errMissed : BitVec 5 := 0
  /-- MBX_DONE_COUNT0–3 and ERR_COUNT0–1, one 16-bit counter a flag (Table 16-4). -/
  doneCount : Vector W16 16 := Vector.replicate 16 0
  errCount : Vector W16 5 := Vector.replicate 5 0
deriving DecidableEq, Repr

/-- One MSI-X table entry as PCIe lays it out (16, R376). -/
structure MsixEntry where
  addr : W64 := 0
  data : W32 := 0
  /-- PRESUMED (PCIe): vector control bit 0, the mask bit, is 1 after reset. -/
  ctrl : W32 := 1
deriving DecidableEq, Repr

/-- A bounce record in clear (15, Table 15-13). -/
structure BounceRec where
  kind : Nat
  addr : Nat
  arg : Nat
  payload : List Byte
deriving DecidableEq, Repr

/-- The bounce rings of TENANT_BOUNCE (15, R365; 16, Table 16-5 page 3). Offsets carry the wrap bit beside them. -/
structure Bounce where
  inBase : Nat := 0
  inLog : Nat := 0
  outBase : Nat := 0
  outLog : Nat := 0
  /-- Host bus addresses of the head words. -/
  inHeadWord : Nat := 0
  outTailWord : Nat := 0
  /-- BNC_IN_TAIL and BNC_OUT_HEAD, [30] wrap, [29:0] offset. -/
  inTail : W64 := 0
  outHead : W64 := 0
  /-- BNC_IN_HEAD and BNC_OUT_TAIL. -/
  inHead : W64 := 0
  outTail : W64 := 0
  /-- The sequence number expected inbound and the next one outbound. -/
  seqIn : Nat := 0
  seqOut : Nat := 0
  /-- Outbound records that wait for room (R366). -/
  waiting : List BounceRec := []
deriving DecidableEq, Repr

/-- A device read of the host window that waits for its completion (15, R350). -/
structure HostRead where
  task : Nat
  addr : Nat
  len : Nat
  /-- Where its data goes: a fabric global address. -/
  dst : Nat
  since : Nat
deriving DecidableEq, Repr

/-- The PCIe function (15, R347–R352). -/
structure HostIf where
  /-- log₂ of the BAR2 size: 2 TiB after reset (Table 15-2). -/
  bar2Log : Nat := 41
  /-- APERTURE_BASE (R349). -/
  winBase : W64 := 0
  /-- Completion Timeout in ns: 50 ms after reset (R350). -/
  cplTimeout : Nat := 50000000
  /-- Configuration registers that software has written (R347); their values after reset are PCIe's own. -/
  cfg : KV W32 := []
  /-- MSI-X enable and function mask of the MSI-X capability. PRESUMED (PCIe): both 0 after reset. -/
  msixEnable : Bool := false
  msixFnMask : Bool := false
  msix : KV MsixEntry := []
  pba : W64 := 0
  /-- Device reads of the host window that are outstanding. -/
  reads : KV HostRead := []
  /-- Those that wait: at most 1,024 are outstanding (Table 15-1). -/
  readQ : List HostRead := []
  /-- The action of a PCIe event runs: configuration requests get Request Retry Status (R352). -/
  retry : Bool := false
  /-- Device errors seen by AER as Unsupported Request (R349). -/
  aerUR : Bool := false
  /-- Completion-ring vectors: when each was last signalled, and whether an advance waits (R398). -/
  vecLast : KV Nat := []
  vecWait : KV Bool := []
deriving DecidableEq, Repr

/-- The security modes (15, R353). -/
inductive Mode
  | openMode
  | tenantIde
  | tenantBounce
deriving DecidableEq, Repr

/-- The TDISP states of the one TDI (15, R364). -/
inductive Tdisp
  | configUnlocked
  | configLocked
  | run
  | error
deriving DecidableEq, Repr

/-- An SPDM session (15, R356, R360). -/
structure Session where
  id : Nat
  /-- KEY_EXCHANGE has been answered and FINISH has completed the handshake. -/
  secured : Bool := false
  /-- The count SET_SESSION_SCOPE set; 1 when none was (R360). -/
  scope : Nat := 1
  /-- A signed GET_MEASUREMENTS response or a membership proof has been received in it (R367). -/
  attested : Bool := false
  /-- How many KEY_UPDATEs its keys have had. -/
  updates : Nat := 0
  /-- TCLK cycle of its last message (R356; 20, R482). -/
  last : Nat := 0
deriving DecidableEq, Repr

/-- A key slot (15, R367). -/
structure KeySlot where
  storage : Bool
  keyId : Nat
  key : List Byte
deriving DecidableEq, Repr

/-- A selective IDE stream (15, Table 15-12). -/
structure IdeStream where
  /-- Keys programmed: 8 × key set + 2 × sub-stream + direction. -/
  prog : List Nat := []
  /-- Keys activated by K_SET_GO, numbered alike. -/
  go : List Nat := []
  secure : Bool := false
deriving DecidableEq, Repr

/-- What started a tenant scrub (16, Table 16-10, TENANT_SCRUBBED). -/
inductive ScrubTrigger
  | lock
  | stop
  | enter
  | exit
  | sessionEnd
  | error
  | pcie
deriving DecidableEq, Repr

/-- A vendor, TDISP or IDE request that Shutter answers when a scrub ends (15, R374); `sess` is the session that
carried it, none outside any. -/
inductive SecReq
  | setScope (sess : Option Nat) (rsv count : Nat)
  | enterTenant (sess : Option Nat) (rsv : Nat) (rings : Bounce)
  | exitTenant (sess : Option Nat) (rsv : Nat)
  | installKey (sess : Option Nat) (rsv slot kind keyId : Nat) (key : List Byte)
  | destroyKey (sess : Option Nat) (rsv slot : Nat)
  | setPeerMap (sess : Option Nat) (rsv : Nat) (map : List Byte)
  | installMembership (sess : Option Nat) (rsv : Nat) (cert : List Byte)
  | tdispVersion (sess : Option Nat)
  | tdispCapabilities (sess : Option Nat)
  | lock (sess : Option Nat)
  | report (sess : Option Nat)
  | state (sess : Option Nat)
  | start (sess : Option Nat)
  | stop (sess : Option Nat)
deriving DecidableEq, Repr

/-- The tenant scrub in progress (15, R373). -/
structure Scrub where
  trigger : ScrubTrigger
  target : Mode
  tdisp : Tdisp
  /-- The bounce rings that ENTER_TENANT named. -/
  rings : Option Bounce := none
  /-- Requests that are answered when the scrub ends, oldest first (R374). -/
  waiting : List SecReq := []
deriving DecidableEq, Repr

/-- The progress of an IMPORT_WEIGHTS (15, R368). -/
structure Import where
  mbx : Nat
  /-- The container's address. -/
  src : Nat
  dest : Nat
  cid : Nat
  length : Nat
  chunks : Nat
  next : Nat
deriving DecidableEq, Repr

/-- Shutter, the security block (15). -/
structure Sec where
  mode : Mode := .openMode
  tdisp : Tdisp := .configUnlocked
  scrub : Option Scrub := none
  sessions : List Session := []
  /-- The scope of requests outside any session (R360). -/
  openScope : Nat := 1
  owner : Option Nat := none
  /-- The held membership certificate and the state digest's inputs it was matched to (R362). -/
  membership : Option (List Byte) := none
  keys : KV KeySlot := []
  /-- The bounce keys: the index of the free value each was derived with (R365). -/
  bounceKeys : Option Nat := none
  ide : KV IdeStream := []
  /-- The peer map, as the rising list of module ids set (R355). -/
  peers : List Nat := []
  /-- The generation of the DRAM keys: the DRBG draws new ones at each FULL reset and tenant scrub (R369). -/
  dramKeys : Nat := 0
  /-- Tenant entries since the FULL reset (Table 15-10). -/
  epoch : W32 := 0
  /-- The debug record (Table 15-10). `locked` is fused at manufacture. -/
  jtagNow : Bool := false
  jtagEver : Bool := false
  bounce : Bounce := {}
  importing : Option Import := none
deriving DecidableEq, Repr

end Sys2Proof.Machine
end

