-- ==== Sys2Proof/Machine/PartsMem.lean ====
section
/-!
DEFINITION. The parts of the state that chapters 07 and 17 name: interleave boundaries, fills, dirty maps, channel
write queues, frame records, stored errors, retirement, Survey, failed channels and lanes, SRAM poison, the repair
map, flip arming and the error log. The value a field has after a FULL reset is the default written beside it.
-/

namespace Sys2Proof.Machine

/-- Why a tier is being filled (07, R173, R186; 15, R371; 19, R477). -/
inductive FillWhy
  | interleave (mbx : Nat)
  | compute
  | tenant
  | bringup
  /-- A channel after its traffic test: the mailbox, the errors and the first failing address. -/
  | traffic (mbx errors first : Nat)
deriving DecidableEq, Repr

/-- The DRAM tiers (07). A channel number here is 256 × tier + channel; a granule number is address ÷ 65,536. -/
structure Tiers where
  /-- b_g and b_l in GiB (Table 7-4). -/
  bg : Nat := 232
  bl : Nat := 464
  /-- Tiers being filled (0 GDDR7, 1 LPDDR5X); at 2 plus the tier, a channel of it after a traffic test. -/
  fills : KV FillWhy := []
  /-- The active and the frozen map, as rising lists of the granules marked (R179). -/
  active : List Nat := []
  frozen : List Nat := []
  /-- Tiers to swap at the next step boundary (R180). -/
  swapReq : Nat := 0
  /-- Lines in each channel's write queue, oldest first, each with the mask of its bytes that the writes cover (06,
  R163). -/
  wq : KV (List (Nat × Nat)) := []
  /-- LC reads that a channel has granted in a row while a BULK read waited (06, R163). -/
  lcRun : KV Nat := []
  /-- Frames whose records the channel's controller holds, most recently written first, each with the time its held
  lines were first changed (R170). -/
  heldMeta : KV (List (Nat × Nat)) := []
deriving DecidableEq, Repr

/-- A frame record (17, Table 17-2). -/
structure FrameRec where
  /-- Bit s: sector s is poisoned. -/
  poison : Nat := 0
  ce : Nat := 0
  se : Nat := 0
  scrubTime : Nat := 0
  /-- 0 GOOD, 1 WATCH, 2 RETIRED. -/
  st : Nat := 0
  /-- A light-code correction has made an error record since Survey's last visit (R423). -/
  logged : Bool := false
deriving DecidableEq, Repr

/-- Survey's place on a channel (17, R408). -/
structure SurveyPos where
  frame : Nat := 0
  page : Nat := 0
  passes : Nat := 0
deriving DecidableEq, Repr

/-- A pass of Survey over a tier (17, Table 17-7, SCRUB_PASS_DONE). -/
structure ScrubPass where
  start : Nat := 0
  corrections : Nat := 0
  uncorrectable : Nat := 0
  passes : Nat := 0
deriving DecidableEq, Repr

/-- A repair-map entry (17, Table 17-4). -/
structure RepairEntry where
  base : Nat
  abort : Bool
  /-- 0 PEER, 1 STORE, 2 PEER_THEN_STORE. -/
  kind : Nat
  vsem : Nat
  pages : Nat
  peer : Nat
  gen : Nat
  sver : Nat
deriving DecidableEq, Repr

/-- A replica repair, running or waiting (17, R417). -/
structure Repair where
  page : Nat
  entry : Nat
  /-- The entry as it stood when the repair was found necessary (R416: a new map does not disturb it). -/
  ent : RepairEntry
  since : Nat
  running : Bool
  /-- What it does: 0 reads the peer's version, 1 the page, 2 the version again, 3 waits 100 µs for a peer behind,
  4 has the peer's copy, 5 reads the checkpoint store, 6 has failed, 7 has the store's copy. -/
  stage : Nat := 0
  /-- v, t and a of R417. -/
  ver : Nat := 0
  tries : Nat := 0
  first : Nat := 0
  copy : List Byte := []
  cause : Nat := 0
  /-- When its last request was sent, or its wait began. -/
  sentAt : Nat := 0
  /-- A whole write of the page was accepted after the poisoning. -/
  superseded : Bool := false
deriving DecidableEq, Repr

/-- An error record (17, Table 17-6). -/
structure ErrRec where
  time : Nat
  addr : Nat
  code : Nat
  detail : Nat
  wher : Nat
  action : Nat
  frame : Nat
  unit : Nat
deriving DecidableEq, Repr

/-- The SRAMs outside the cores and clusters (17, Table 17-3): the working SRAM that serves a task of Ephemeris, the slot
store's slots, the table store's tables, Meridian's tables by task, the Orrery's buffers by port, Shutter's, Almanac's. -/
inductive SramUnit
  | ephem
  | slots
  | tables
  | meridian
  | orrery
  | shutter
  | almanac
deriving DecidableEq, Repr

/-- An error in one of those SRAMs that no read has met yet; `twice` where the code cannot correct it (R412). -/
structure UnitErr where
  unit : SramUnit
  idx : Nat := 0
  twice : Bool
deriving DecidableEq, Repr

/-- The reliability state (17). A frame number here is 2^20 × channel number + frame; a sector number is
256 × frame number + sector; a page number is 32 × frame number + page. -/
structure Rel where
  frames : KV FrameRec := []
  /-- Errors in the stored copy of a sector's codeword: position 0–135 (R399) to the bits that differ. -/
  errs : KV (KV Nat) := []
  /-- Errors in a page's parity line: symbol 0–31 to the bits that differ. -/
  parErrs : KV (KV Nat) := []
  /-- Metadata lines 0–87 of a frame whose stored copy does not match its CRC (R404). -/
  metaBad : KV (List Nat) := []
  /-- The retirement list, oldest first (R407); it lies in the checkpoint store and survives every reset. -/
  retire : List Nat := []
  /-- Seconds per full pass of GDDR7 and LPDDR5X; 0 stopped (R409). -/
  scrubG : Nat := 86400
  scrubL : Nat := 86400
  survey : KV SurveyPos := []
  pass : KV ScrubPass := []
  /-- Failed channels, and the times of their recent strong-code failures (R410). -/
  failed : List Nat := []
  strongFails : KV (List Nat) := []
  /-- Spared bridge lanes: 256 × sending die + group to lane (R411). -/
  spared : KV Nat := []
  bridgeFailed : Bool := false
  /-- Poisoned SRAM lines, address ÷ 64 (R412). -/
  sramPoison : List Nat := []
  /-- Words of core and cluster SRAM, address ÷ 8, whose stored copy is in error, and whether the code cannot correct it
  (R412). -/
  sramErrs : KV Bool := []
  /-- Errors in the other SRAMs, in the order in which they will be met (R412). -/
  unitErrs : List UnitErr := []
  repairMap : List RepairEntry := []
  repairs : List Repair := []
  /-- Pages whose present poisoning has had its repair (R417). -/
  tried : List Nat := []
  /-- Armed flips: channel number to target and mask (R422). -/
  flips : KV (Nat × Nat) := []
  /-- The error records held, oldest first, and the number of the next (R423). -/
  log : List ErrRec := []
  logNext : Nat := 0
  /-- The soft-repair list of Collimation results: bank addresses (R413); in the store, survives every reset. -/
  softRepair : List Nat := []
deriving DecidableEq, Repr

end Sys2Proof.Machine
end

