-- ==== Sys2Proof/Machine/PartsNumerics.lean ====
section
/-!
DEFINITION. The parts of the state that chapter 09 names: scale table, guards, generator seed, numeric watch. The
value a field has after a FULL reset is the default written beside it.
-/

namespace Sys2Proof.Machine

/-- The configuration of CONFIGURE_NUMERICS (09, R211). -/
structure NumCtx where
  table : Nat
  records : Nat
  ring : Nat
  log : Nat
deriving DecidableEq, Repr

/-- A live guard entry (09, R212–R215). -/
structure Guard where
  count : W32
  /-- The entry's eight words (Table 9-2). -/
  words : List Nat
  /-- Since when a triggered guard waits for its step. -/
  waitFrom : Option Nat := none
  /-- The range it runs: 0 probe, 1 to 3 the variants; none before it starts. -/
  cur : Option Nat := none
  /-- Ranges whose release or discard has been asked for. -/
  asked : List Nat := []
  /-- The exponent chosen for the current range, and the variant's format code. -/
  k : Int := 0
  fmt : Nat := 0
  /-- Completions counted in the window, the tally, the window amax, the tag of the first overflow (R214, R218). -/
  counted : Nat := 0
  tally : Nat := 0
  amax : Nat := 0
  firstTag : Nat := 0
deriving DecidableEq, Repr

/-- A watch entry (09, Table 9-8), with its reset values. -/
structure WatchEntry where
  lo : W32 := 0
  hi : W32 := 0x3D800000
  zeroLimit : W32 := 1000
  zeroRun : W32 := 0
  zeroAlarms : W32 := 0
  ratioAlarms : W32 := 0
  lastRatio : W32 := 0
deriving DecidableEq, Repr

/-- Numerics control (09). -/
structure Numerics where
  /-- The generator's seed (R219). -/
  seed : W64 := 0
  ctx : Option NumCtx := none
  /-- The tail the guard doorbell wrote. -/
  tail : W32 := 0
  guards : KV Guard := []
  /-- The scale step (R210). -/
  sstep : W64 := 0
  /-- Watch entries that differ from their reset values (R224). -/
  watch : KV WatchEntry := []
deriving DecidableEq, Repr

end Sys2Proof.Machine
end

