-- ==== Sys2Proof/Machine/PartsPhoto.lean ====
section
/-!
DEFINITION. The parts of the state that chapter 10 names: the slot store, the sample sets, the epoch bit, the folds of
a closed epoch. The value a field has after a FULL reset is the default written beside it.
-/

namespace Sys2Proof.Machine

/-- One half of a slot's accumulator, as the slot store knows it (10, R233, R235, R244). -/
structure PhotoHalf where
  tokens : Nat := 0
  nan : Bool := false
  sat : Bool := false
  tok : Bool := false
  /-- Marked for discard by a COMPUTE reset. -/
  drop : Bool := false
deriving DecidableEq, Repr

/-- A valid factor slot (10, Table 10-1). -/
structure FactorSlot where
  nb : Nat
  es : Int
  acc : Nat
  buf0 : Nat
  buf1 : Nat
  beta : Nat
  fcore : Nat
  gen : Nat
  cur : Bool
  nLast : Nat
  folds : Nat
  skips : Nat
  half0 : PhotoHalf := {}
  half1 : PhotoHalf := {}
  /-- Holds on buffers 0 and 1 (R240). -/
  hold0 : Nat := 0
  hold1 : Nat := 0
  /-- Flags of the elements that folds have converted, each stopping at 0xFFFF_FFFF (R237; log entry 115). -/
  sat : Nat := 0
  flush : Nat := 0
  nan : Nat := 0
deriving DecidableEq, Repr

/-- A sample set (10, Table 10-2). -/
structure SampleSet where
  sem : Nat
  gcore : Nat
  list : Nat
  inst : Nat
  s : Nat
  ttok : Nat
deriving DecidableEq, Repr

/-- A swap that a step boundary has asked for: when, its step, and whether it found folds unfinished (10, R236). -/
structure SwapDue where
  at_ : Nat
  step : Nat
  late : Bool
deriving DecidableEq, Repr

/-- The Photometer (10). -/
structure Photo where
  /-- The slot table: base and records. -/
  table : Option (Nat × Nat) := none
  slots : KV FactorSlot := []
  sets : List SampleSet := []
  epoch : Bool := false
  swaps : List SwapDue := []
  /-- Slots of the closed epoch whose folds have not ended; those started, with the core that folds them. -/
  todo : List Nat := []
  started : KV Nat := []
  /-- The steps that the open and the closed epoch belong to. -/
  openStep : Nat := 0
  closedStep : Nat := 0
  /-- Since when the fold of a slot waits for a hold. -/
  waits : KV Nat := []
  /-- Slots that STATS_TARGET_INVALID has named for an epoch: twice the slot, plus the epoch's bit. -/
  noted : List Nat := []
deriving DecidableEq, Repr

end Sys2Proof.Machine
end

