-- ==== Sys2Proof/Machine/PartsSpectro.lean ====
section
/-!
DEFINITION. The parts of the state that chapter 11 names: the table store, the window sizes, and the SPECTRO tasks that
the Assemblers and arrays have taken. The value a field has after a FULL reset is the default written beside it.
-/

namespace Sys2Proof.Machine

/-- A valid preconditioner table in the table store (11, Table 11-9). -/
structure PTable where
  entries : Nat
  count : Nat
  /-- The foreground generation G. -/
  gen : Nat
  halt : Bool
  haltStream : Nat
  staleLimit : Nat
  ageLimit : Nat
  /-- Entries finished for G + 1. -/
  done : List Nat
  staleRun : Nat
  staleTotal : Nat
  commits : Nat
  /-- A rebuild is open (R271). -/
  opened : Bool := false
  /-- Holds by generation (R270). -/
  holds : KV Nat := []
deriving DecidableEq, Repr

/-- A vector column: its exponent and its Q1.31 integers (11, R261). -/
structure QVec where
  e : Int
  v : List Int
deriving DecidableEq, Repr

/-- The elements of a task, by number, that have a saturated or a flushed flag: one is counted once, at its final write,
however often it is written (02, R57, R58). -/
structure Marks where
  sat : List Nat := []
  flush : List Nat := []
deriving DecidableEq, Repr

/-- The flags of two steps. -/
def Marks.join (a b : Marks) : Marks :=
  ⟨a.sat ++ b.sat.filter fun x => !a.sat.contains x, a.flush ++ b.flush.filter fun x => !a.flush.contains x⟩

/-- The elements numbered from `n`. -/
def Marks.shift (n : Nat) (a : Marks) : Marks := ⟨a.sat.map (n + ·), a.flush.map (n + ·)⟩

/-- One right-hand side of a PCG problem (11, R259). -/
structure PcgCol where
  sig : Int
  x : QVec
  res : QVec
  pv : QVec
  rz : Nat := 0
  nb : Nat := 0
  rel : Nat := 0
  frozen : Bool := false
deriving DecidableEq, Repr

/-- What is being solved: the matrices M, T, X, T2, T4 of the dense kinds, or the columns and the operator of PCG. -/
inductive SpWork
  | none
  | dense (mats : List (List (List Int)))
  /-- Stored blocks: row, column, 1,024 integers at exponent 1; the Jacobi weights; the columns. -/
  | bsr (blocks : List (Nat × Nat × List Int)) (w : List Nat) (cols : List PcgCol)
  /-- The operator record's words and the columns. -/
  | oper (op : List Nat) (cols : List PcgCol)
deriving DecidableEq, Repr

/-- Where a job stands. -/
inductive SpStage
  /-- It waits for a Photometer hold. -/
  | hold
  /-- Its passes run. -/
  | passes
  /-- Assembled, not yet in the array stage. -/
  | ready
  /-- In the array stage, before a decision. -/
  | array
  /-- An operator application is in flight. -/
  | applying
  /-- It has ended while an application was in flight. -/
  | draining
  /-- Its entry is to be finished. -/
  | out
deriving DecidableEq, Repr

/-- A SPECTRO task taken by an Assembler (11, R245). -/
structure SpJob where
  task : Nat
  cluster : Nat
  stage : SpStage
  /-- The problem record's words. -/
  rec_ : List Nat
  entry : Nat
  /-- The slot held and its buffer; the generation held. -/
  held : Option (Nat × Bool) := .none
  src : Nat := 0
  /-- σ and K of R253 and R254, and λ. -/
  sig : Int := 0
  k : Int := 0
  lam : Nat := 0
  work : SpWork := .none
  /-- The flags of the elements written so far (11, R272). -/
  marks : Marks := {}
  /-- The array has formed its first residual. -/
  begun : Bool := false
  iters : Nat := 0
  rho : Nat := 0
  rises : Nat := 0
  /-- Operator applications published, and the last q read. -/
  apps : Nat := 0
  q : Option (List (List Nat)) := .none
  /-- The task's status, the outcome (Table 11-11) and the reason (Table 11-7), once decided. -/
  status : Nat := 0
  outcome : Nat := 0
  reason : Nat := 0
  /-- Since when it waits: for a hold, a build buffer, an application. -/
  waitFrom : Option Nat := .none
deriving DecidableEq, Repr

/-- The Spectrographs and the table store (11). -/
structure Spectro where
  /-- sg_kib of a cluster; 2,048 where none is listed (R247). -/
  sgKib : KV Nat := []
  /-- The directory: base and records. -/
  dir : Option (Nat × Nat) := .none
  tables : KV PTable := []
  /-- Jobs by task number. -/
  jobs : KV SpJob := []
deriving DecidableEq, Repr

/-- The successor of a generation (11, R266). -/
def genSucc (g : Nat) : Nat := if g = 0xFFFFFFFF then 2 else g + 1

/-- The admission of a table's first SPECTRO task opens its rebuild (11, R271). -/
def Spectro.openRebuild (x : Spectro) (table gen : Nat) : Spectro :=
  { x with tables := kvUpd table (fun t => if genSucc t.gen = gen then { t with opened := true } else t) x.tables }

end Sys2Proof.Machine
end

