-- ==== Sys2Proof/Machine/PartsStash.lean ====
section
/-!
DEFINITION. The parts of the state that chapter 08 names: the stash context, live entries, pool runs, ranges that wait
for their turn, recompute flags, forward spans. The value a field has after a FULL reset is the default beside it.
-/

namespace Sys2Proof.Machine

/-- The stash context (08, Table 8-3). -/
structure StashCtx where
  ring : Nat
  log : Nat
  gBase : Nat
  gSize : Nat
  lBase : Nat
  lSize : Nat
  stream : Nat
  cluster : Nat
  imb : Nat := 32
deriving DecidableEq, Repr

/-- Where an entry is bound (08, R195–R198); the addresses are those of its runs or of its work area. -/
inductive Place
  | none
  | pool (a : Nat)
  | off (a : Nat)
  | rc (a : Nat)
deriving DecidableEq, Repr

/-- A stash copy in progress: off-load or reload, from and to (08, R201). -/
structure StashCopy where
  out : Bool
  src : Nat
  dst : Nat
  /-- Its place among the tasks of the copy cluster's unit queue. -/
  age : Nat := 0
  /-- The cluster whose coelostats carry its four parts; none while they wait in the unit queue. -/
  run : Option Nat := none
  /-- Up to when its unit time is charged. -/
  charged : Nat := 0
deriving DecidableEq, Repr

/-- A live stash entry (08, R192–R199). -/
structure StashEntry where
  count : W32
  /-- The entry's eight words (Table 8-4). -/
  words : List Nat
  place : Place := .none
  /-- It is handled as RECOMPUTE. -/
  recompute : Bool := false
  /-- Triggers acted on. -/
  bindTrig : Bool := false
  fwdDone : Bool := false
  bwdTrig : Bool := false
  /-- Ranges whose release or discard has been asked for. -/
  fwdReq : Bool := false
  rcReq : Bool := false
  bwdReq : Bool := false
  /-- When its forward range was released. -/
  fwdRel : Option Nat := .none
  copy : Option StashCopy := .none
  /-- Slots whose off-load copies its bind or reload waits for. -/
  waits : List Nat := []
  /-- Since when its bind waits for copies, and its reload for space. -/
  bindFrom : Option Nat := .none
  reloadFrom : Option Nat := .none
  /-- STASH_FALLBACK OFFLOAD has been posted for its bind. -/
  fallback : Bool := false
deriving DecidableEq, Repr

/-- What is to become of a range: released bound to an address, released with a guard's exponents for its tag window
(09, R213), its first descriptor released alone, discarded. -/
inductive RangeDo
  | release (base : Nat)
  | scale (k : Int) (k2 : Option Int) (tag0 : Nat)
  | first
  | discard
deriving DecidableEq, Repr

/-- A range that waits for its queue's hold mark (08, R199). -/
structure StashRange where
  slot : Nat
  /-- 0 forward, 1 recompute, 2 backward; 3 to 6 the probe range and the variants of a guard. -/
  kind : Nat
  queue : Nat
  first : W32
  n : Nat
  act : RangeDo
  /-- The entry's size in bytes, for its placeholders. -/
  size : Nat
  since : Nat
deriving DecidableEq, Repr

/-- The stash manager (08). -/
structure Stash where
  ctx : Option StashCtx := .none
  /-- The tail the doorbell wrote. -/
  tail : W32 := 0
  /-- Live entries by slot. -/
  entries : KV StashEntry := []
  /-- Runs taken in each pool: first granule, granules. -/
  gRuns : KV Nat := []
  lRuns : KV Nat := []
  ranges : List StashRange := []
  /-- Instances whose rcflag is set. -/
  rcFlags : List Nat := []
  /-- The last 8 forward spans of a layer id, oldest first. -/
  spans : KV (List Nat) := []
deriving DecidableEq, Repr

end Sys2Proof.Machine
end

