-- ==== Sys2Proof/Machine/PartsStore.lean ====
section
/-!
DEFINITION. The parts of the state that chapter 18 names: the checkpoint store's generations, its media, the checkpoint
and restore in progress, the mirror. All of `Store` but the jobs and the mirror survives every reset (R450).
-/

namespace Sys2Proof.Machine

/-- A granule as a generation holds it (18, R433, R435): its bytes that are not 0 by offset, or the 256 ciphertext
sectors and tags that a buddy sent; and the sectors that are lost. -/
structure StoredGran where
  addr : Nat
  cells : List (Nat × Byte) := []
  sealed : List Byte := []
  lost : List Nat := []
deriving DecidableEq, Repr

/-- A generation (18, Table 18-7). -/
structure Generation where
  id : Nat
  /-- 0 for a full generation. -/
  parent : Nat
  /-- Base and granules of each region at capture. -/
  regions : List (Nat × Nat)
  /-- Key id, 0xFFFFFFFF for slot 0xFF, and the STORAGE key it was sealed with. -/
  keyId : Nat := 0xFFFFFFFF
  key : Option (List Byte) := none
  source : Nat := 0
  foreign : Bool := false
  sealed : Bool := false
  /-- 0 not requested, 1 pending, 2 done, 3 failed. -/
  mirror : Nat := 0
  depth : Nat := 0
  step : Nat := 0
  tCapture : Nat := 0
  tCommit : Nat := 0
  grans : List StoredGran := []
deriving DecidableEq, Repr

/-- A WRITE_CHECKPOINT in progress (18, R432–R434). -/
structure CkptWrite where
  mbx : Nat
  gen : Generation
  since : Nat
  /-- The staging area: base, and the granules it can hold. -/
  stage : Nat
  room : Nat
  captured : Bool := false
  /-- The capture set (granule numbers), for R434's way back. -/
  set : List Nat := []
  /-- Captured content not yet in the staging area, in address order; staged and not yet programmed; programmed. -/
  todo : List StoredGran := []
  staged : List StoredGran := []
  slot : Nat := 0
  heldNs : Nat := 0
deriving DecidableEq, Repr

/-- A RESTORE_CHECKPOINT in progress (18, R437, R442). -/
structure CkptRestore where
  mbx : Nat
  gen : Nat
  /-- The manifest's regions. -/
  regions : List (Nat × Nat)
  buddy : Bool
  /-- Where each granule of the generation goes, still to be written: content, destination. -/
  todo : List (StoredGran × Nat) := []
  /-- The incoming generation of a buddy restore, once BEGIN has come. -/
  head : Option Generation := none
  written : Nat := 0
  lost : Bool := false
deriving DecidableEq, Repr

/-- A mirror record (18, Table 18-5). -/
structure MirrorRec where
  typ : Nat
  gen : Nat := 0
  parent : Nat := 0
  arg : Nat := 0
  sealed : Bool := false
  dst : Nat
  payload : List Byte := []
deriving DecidableEq, Repr

/-- The checkpoint store (18). -/
structure Store where
  /-- Committed generations in commit order, own and foreign; the base generation, 0 for none. -/
  gens : List Generation := []
  base : Nat := 0
  failed : Bool := false
  mounting : Bool := false
  /-- Media: erase counts and oldest program stamps of die blocks, the die blocks due for refresh and those retired; a die
  block is numbered (16 × channel + die) × 2,048 + block. -/
  erases : KV Nat := []
  stamps : KV Nat := []
  due : List Nat := []
  bad : List Nat := []
  writtenTotal : Nat := 0
  writtenDay : Nat := 0
  day : Nat := 0
  /-- STORE_WEAR_BUDGET has been posted this day. -/
  overBudget : Bool := false
  refreshed : Nat := 0
  strongReads : Nat := 0
  retries : Nat := 0
  lostSectors : Nat := 0
  write : Option CkptWrite := none
  restore : Option CkptRestore := none
  /-- The generation being mirrored, the records still to be sent, the foreign generation being received. -/
  mirroring : Option Nat := none
  outQ : List MirrorRec := []
  /-- A generation was abandoned (18, R441): none begins before BUDDY_RESTORED, CLEAR_FENCE or SET_BUDDY. -/
  mirrorHalt : Bool := false
  incoming : Option Generation := none
  /-- Sequence numbers of the mirror records (18, R439), and the WRITEs whose acknowledgement is outstanding. -/
  seqOut : Nat := 0
  seqIn : Nat := 0
  unacked : List (Nat × Nat) := []
  /-- Bytes of the own ring taken and not yet returned as credit. -/
  freed : Nat := 0
deriving DecidableEq, Repr

end Sys2Proof.Machine
end

