-- ==== Sys2Proof/Machine/PartsTask.lean ====
section
/-!
DEFINITION. The parts of the state that chapters 04 to 06 name: task queues, streams, share classes, tasks and where
they stand, park and watch tables, lends, resident layer programs, multicast buffers. The value a field has after a
FULL reset is the default written beside it.
-/

namespace Sys2Proof.Machine

/-- A task queue with its completion ring (05, R115–R119; held queues: 08, R190). -/
structure Queue where
  ring : Nat
  log : Nat
  cpl : Nat
  tailWord : Nat
  stream : Nat
  bind : Bool
  held : Bool
  /-- The hold mark of a held queue (R190). -/
  holdMark : W32 := 0
  /-- Ranges discarded that the head has not come to, and descriptors that complete STASH_EXHAUSTED (08, R190, R197). -/
  skips : List (W32 × Nat) := []
  exhausted : List W32 := []
  head : W32 := 0
  tail : W32 := 0
  cplHead : W32 := 0
  cplTail : W32 := 0
  /-- Completion slots reserved and not yet written or released (R119). -/
  reserved : Nat := 0
  /-- The task taken from the ring that stands at the queue's head. -/
  fetched : Option Nat := none
  /-- MSI-X vector, 0xFF for none, and moderation in µs (16, Table 16-7). -/
  vec : Nat := 0xFF
  moder : Nat := 0
  /-- Since when the head waits for a completion slot (CPL_FULL). -/
  cplSince : Option Nat := none
  /-- When the present head descriptor reached the head. -/
  headSince : Nat := 0
deriving DecidableEq, Repr

/-- A stream (05, R116; 04, R105). -/
structure Stream where
  halted : Bool := true
  /-- The step register. -/
  step : W64 := 0
  /-- The share class it is bound to. -/
  cls : Option Nat := none
deriving DecidableEq, Repr

/-- Where a task stands. -/
inductive Phase
  /-- Fetched and checked, at the head of its queue. -/
  | head
  /-- In a run queue, a unit queue or Meridian's task table, not started. -/
  | admitted
  /-- Selected on a core and, once a byte of it is staged, bound (R128). -/
  | selected
  /-- Started (R534). -/
  | running
  /-- Parked (R136). -/
  | parked
  /-- Its work is done; the record has not been accepted. -/
  | finished
  /-- Being moved to a thief's run queue (R131). -/
  | moving
deriving DecidableEq, Repr

/-- A descriptor: its eight words (04, R89). -/
abbrev Desc := List Nat

/-- A task: Meridian's copy of the descriptor (R118) and what the machine has done with it. -/
structure Task where
  /-- The eight descriptor words. -/
  desc : Desc
  queue : Nat
  stream : Nat
  cls : Nat
  phase : Phase := .head
  /-- Admission order; 0 before admission. -/
  age : Nat := 0
  /-- The core, cluster or die that has it (04, Table 4-11, where). -/
  loc : Nat := 0
  stolen : Bool := false
  /-- The lender's class while it is lent (R140). -/
  lent : Option Nat := none
  /-- When it reached its queue's head, when it was fetched, and when it was admitted. -/
  since : Nat := 0
  fetchAt : Nat := 0
  admAt : Nat := 0
  /-- Why it waits there, for the queue-wait counters: 0 none, 1 RUNQ_FULL, 2 PARK_FULL, 3 CLUSTER_OFFLINE. -/
  waitWhy : Nat := 0
  waitFrom : Nat := 0
  tStart : Nat := 0
  /-- The Chronograph time up to which its run has been charged (R123, R127). -/
  charged : Nat := 0
  /-- Slices landed: operand (0 A, 1 B) and slice number (06, R149). -/
  landed : List (Nat × Nat) := []
  /-- Accumulator blocks, row-major by output block, each 1,024 FP32 patterns row-major with their flags (03, R66;
  02, R57). -/
  acc : List (List (Nat × Flags)) := []
  /-- Output blocks drained (03, R69). -/
  drained : List Nat := []
  /-- The step register as the task sampled it at its start (04, R105). -/
  step : W64 := 0
  status : Nat := 0
  detail : Nat := 0
  result : Nat := 0
  sat : Nat := 0
  flush : Nat := 0
  nan : Nat := 0
  amax : Nat := 0
  overtime : Bool := false
  /-- The park token it holds (R136): die × 4,096 + index. -/
  token : Option Nat := none
  /-- Absolute deadline or completion time: SEM_WAIT, TIMER, COLLECTIVE (R142, R482, R335). -/
  deadline : Nat := 0
  /-- A watch answered BUSY: when it was (R138). -/
  busySince : Option Nat := none
  /-- Response bytes or packets still outstanding for a remote TRANSFER, and whether an acknowledgement is. -/
  remaining : Nat := 0
  ackWait : Bool := false
  /-- Bytes that have come for a remote TRANSFER and wait for the rest of their destination page: offset and bytes (07,
  R176). -/
  pieces : List (Nat × List Byte) := []
  /-- Outputs must be written poisoned from here on (17, R414). -/
  poisoned : Bool := false
  /-- It waits for a replica repair of this page (17, R418). -/
  heldBy : Option Nat := none
  /-- The Photometer's epoch bit at its dispatch: STATS (10, R236). -/
  epoch : Bool := false
  /-- A unit's own progress word (Ephemeris: next block; Spectrograph: stage). -/
  prog : Nat := 0
  /-- When it started, in TCLK cycles, which no time step moves (R107; 20, R482). -/
  startCyc : Nat := 0
  /-- Where the core's arbiter has put it: 1 the task to run next, 2 the one after it, 0 neither (R126, R128). -/
  place : Nat := 0
  /-- Put back at the head of its class: the number of that putting back, 0 for none (R135). -/
  front : Nat := 0
  /-- Its unit is free of it while it is parked (R136). -/
  released : Bool := false
  /-- The coelostat of its cluster that has it: a GATHER, SCATTER or TRANSFER that has started (06, R147). -/
  coel : Nat := 0
  /-- Output block columns that have been written back (06, R150). -/
  wbCols : List Nat := []
deriving DecidableEq, Repr

/-- A lend entry (05, R139–R141). -/
structure Lend where
  die : Nat
  waiter : Nat
  holder : Nat
  cls : Nat
  depth : Nat
  /-- The port and the virtual channel whose injection credits the holder holds, for a lend to a holder of credits. -/
  credit : Option (Nat × Nat) := none
deriving DecidableEq, Repr

/-- A watch held for a parked SEM_WAIT of some module (05, R138). -/
structure Watch where
  die : Nat
  module : Nat
  /-- The waiter's park token at its own module. -/
  token : Nat
  sem : Nat
  value : Nat
deriving DecidableEq, Repr

/-- A stolen task on its way (05, R131). -/
structure Move where
  task : Nat
  thief : Nat
  victim : Nat
  level : Nat
deriving DecidableEq, Repr

/-- Meridian (05). -/
structure Meridian where
  queues : KV Queue := []
  streams : KV Stream := []
  tasks : KV Task := []
  nextTask : Nat := 0
  nextAge : Nat := 1
  /-- A doorbell has been accepted since the last FULL or COMPUTE reset (06, R151). -/
  rung : Bool := false
  /-- Class weights in force, and those of the next accounting period (R122, Table 16-7). -/
  weights : Vector (BitVec 8) 16 := Vector.replicate 16 1
  weightsNext : Vector (BitVec 8) 16 := Vector.replicate 16 1
  /-- D of R124 at the root, and as the cores last heard it (R125). -/
  deficit : Vector Int 16 := Vector.replicate 16 0
  heard : Vector Int 16 := Vector.replicate 16 0
  /-- r of R125, at 16 × die + class. -/
  running : KV Int := []
  /-- Engine-ns charged in this period before now, and classes active in it so far (R123). -/
  charged : KV Nat := []
  active : List Nat := []
  /-- The TCLK cycle in which this accounting period began (R123; 20, R482). -/
  periodStart : Nat := 0
  /-- Local deficits, charges and activity of the non-core units (R127), at 16 × unit number + class. -/
  unitDeficit : KV Int := []
  unitCharged : KV Nat := []
  unitActive : List Nat := []
  lends : List Lend := []
  /-- Park tokens in use: token to task (R136). -/
  park : KV Nat := []
  /-- Where the search for a free token of a die begins (log entry 113). -/
  tokenAt : KV Nat := []
  /-- How many tasks have been put back at the head of their class (R135). -/
  fronts : Nat := 0
  watches : List Watch := []
  moves : List Move := []
  /-- Round robin of R121: last stream served of a class, last queue served of a stream. -/
  lastStream : KV Nat := []
  lastQueue : KV Nat := []
  /-- The boundary stream (04, R105). -/
  boundary : Option Nat := none
deriving DecidableEq, Repr

/-- A hardware semaphore (04, Table 4-9). -/
structure Sem where
  count : W32 := 0
  ovf : Bool := false
deriving DecidableEq, Repr

/-- A stage of a resident layer program (04, Table 4-14). -/
structure Stage where
  stream : Nat
  cls : Nat
  die : Nat
  rank : Nat
  chunk : Nat
deriving DecidableEq, Repr

/-- A resident layer program (04, R113). -/
structure Program where
  image : Nat
  size : Nat
  stepStage : Nat
  sems : Nat
  stages : List Stage
deriving DecidableEq, Repr

/-- A slice in a multicast buffer (06, R152). -/
structure McSlice where
  key : List Nat
  /-- The stored blocks, as they were read. -/
  data : List Byte
  /-- The next admission order number at the moment its first line was issued: it serves tasks admitted before. -/
  issued : Nat
deriving DecidableEq, Repr

/-- A line request that a coelostat has issued and that has not completed (06, R148): the slice `i` of operand word 2 or
3 of a task, or with word 4 its write-back of output block column `i`, whole lines together; and the next admission
order number at its issue. -/
structure StreamReq where
  task : Nat
  w : Nat
  i : Nat
  stamp : Nat
deriving DecidableEq, Repr

/-- The coelostats (06). -/
structure Streaming where
  /-- Requests issued, by coelostat (4 × cluster + its number), in the order of their issue (R148). -/
  issued : KV (List StreamReq) := []
  /-- Issues in a row of sources 1 to 6 while a unit task held a place, by coelostat (R148). -/
  sinceUnit : KV Nat := []
  /-- mcast_kib of a cluster; 2,048 where none is listed (R151). -/
  mcastKib : KV Nat := []
  /-- Multicast buffers, by cluster, oldest slice first. -/
  mcast : KV (List McSlice) := []
deriving DecidableEq, Repr

end Sys2Proof.Machine
end

