-- ==== Sys2Proof/Machine/PartsTime.lean ====
section
/-!
DEFINITION. The parts of the state that chapter 20 names: the Chronograph and its time source, sensors and monitors.
The value a field has after a FULL reset is the default written beside it.
-/

namespace Sys2Proof.Machine

/-- The time states (20, Table 20-1). -/
inductive TimeSt
  | free
  | acquiring
  | locked
  | holdover
deriving DecidableEq, Repr

/-- The Chronograph (20, R480–R492). -/
structure TimeS where
  /-- C in units of 2^-32 ns: 64 bits of ns, 16 of fraction and 16 that are never reported (R480). -/
  c : Nat := 0
  /-- TCLK cycles since the FULL reset: what periods and durations are counted in (R482). -/
  tclk : Nat := 0
  /-- The rate correction and the frequency estimate, in 2^-32 ns per cycle. -/
  r : Int := 0
  f : Int := 0
  st : TimeSt := .free
  allowStep : Bool := false
  timeSet : Bool := false
  /-- Cycle stamps of the acquired and accepted edges of this acquisition, newest first, in 1/16 cycle; at most 17. -/
  stamps : List Nat := []
  /-- Edges since n0, the edge at which the current acquisition began. -/
  edges : Nat := 0
  /-- The acquisition point is past. -/
  past : Bool := false
  /-- C in ns, and the cycle stamp, at the last accepted edge. -/
  lastC : Nat := 0
  lastStamp : Option Nat := none
  /-- Consecutive accepted edges with |o| ≤ 20 ns, and with |o| > 1 µs. -/
  inLock : Nat := 0
  excursions : Nat := 0
  /-- Cycle count at the acquisition point. -/
  acqAt : Nat := 0
  /-- Fields of Table 20-4. -/
  steps : Nat := 0
  stepTime : Nat := 0
  stepDelta : Int := 0
  accepted : Nat := 0
  rejected : Nat := 0
  offset : Int := 0
deriving DecidableEq, Repr

/-- A sensor (20, R494–R497; coarsening: 15, R372). -/
structure Sensor where
  value : Int := 0
  /-- A sample has been taken since the FULL reset. -/
  valid : Bool := false
  /-- SENSOR_WARNING has been posted and not SENSOR_CLEARED. -/
  warned : Bool := false
  overWarning : Bool := false
  overLimit : Bool := false
  /-- The 100 ms interval being summed: its number, sum and samples. -/
  ival : Nat := 0
  sum : Int := 0
  cnt : Nat := 0
  /-- The interval was crossed by a step and is discarded (R492). -/
  spoilt : Bool := false
  /-- Sum and count of the last complete interval. -/
  mean : Option (Int × Nat) := none
deriving DecidableEq, Repr

/-- A capture unit of a monitor on one die (20, R498, R500). -/
structure Capture where
  count : Nat := 0
  sum : Nat := 0
  min : Nat := 0xFFFFFFFF
  max : Nat := 0
  bins : KV Nat := []
deriving DecidableEq, Repr

/-- A monitor (20, R498–R501). -/
structure Monitor where
  mode : Nat := 0
  source : Nat := 0
  /-- The 63 edges in use; empty for the default edges. -/
  edges : List Nat := []
  tStart : Nat := 0
  d0 : Capture := {}
  d1 : Capture := {}
deriving DecidableEq, Repr

/-- Sensors by 256 × kind + index, and the monitors. -/
structure Sens where
  sensors : KV Sensor := []
  monitors : KV Monitor := []
deriving DecidableEq, Repr

end Sys2Proof.Machine
end

