-- ==== Sys2Proof/Machine/State.lean ====
section
/-!
DEFINITION. The state of the block, its reset, and the reasons a step can stop.
-/

namespace Sys2Proof.Machine

/-- Memory: the bytes that differ from 0, by rising address (01, R30). -/
abbrev Memory := List Host.Cell

/-- Why a step stops with a fault. -/
inductive Fault
  /-- Raised by no meaning: the spec names no command that stops the block, and one that no sender can send is answered as
  a request that reaches nothing (log entry 96). The type has a value so that an outcome can name one. -/
  | illFormed
deriving DecidableEq, Repr

/-- Why a step is refused. -/
inductive Refusal
  /-- Raised by exec for a command that has no meaning yet. Safe: nothing is claimed of it. -/
  | notModelled (mnemonic : String)
deriving DecidableEq, Repr

/-- The state of the E9 block. -/
structure State where
  /-- Commands that wait, first in first out. -/
  pending : List Instr := []
  /-- What the block has driven outwards, newest first: the model's own field. -/
  sent : List Out := []
  /-- How many free values have been drawn: the model's own field (log entry 3). -/
  free : Nat := 0
  mem : Memory := []
  sems : KV Sem := []
  ctr : Ctrs := []
  alm : Almanac := {}
  host : HostIf := {}
  sec : Sec := {}
  mer : Meridian := {}
  prog : KV Program := []
  strm : Streaming := {}
  tiers : Tiers := {}
  rel : Rel := {}
  time : TimeS := {}
  sens : Sens := {}
  boot : Boot := {}
  pow : Power := {}
  fab : Fabric := {}
  num : Numerics := {}
  stash : Stash := {}
  phot : Photo := {}
  spec : Spectro := {}
  ephem : Ephem := {}
  store : Store := {}
deriving DecidableEq, Repr

/-- The machine with every field at its reset value: in standby, as AUX_54V returns (21, Table 21-15; log entry 40). -/
def State.reset : State := {}

end Sys2Proof.Machine
end

