-- ==== Sys2Proof/Machine/Ops.lean ====
section
/-!
DEFINITION. The named operations over the state that every meaning is written with: time, counters, outputs, MSI-X,
flags, events, memory with its codes, poison and dirty marks, semaphores.
-/

namespace Sys2Proof.Machine

/-! Time, counters, outputs, free values. -/

/-- Chronograph time in ns: what every stamp carries (20, R480). -/
def State.now (s : State) : Nat := s.time.c / 2 ^ 32 % 2 ^ 64

/-- TCLK cycles: what periods and durations are counted in (20, R482). -/
def State.cyc (s : State) : Nat := s.time.tclk

/-- Drive an output. -/
def emit (o : Out) (s : State) : State := { s with sent := o :: s.sent }

/-- Add to a counter (05, R144). -/
def count (c : Counter) (i n : Nat) (s : State) : State := { s with ctr := s.ctr.add c i n }

/-- Raise a high-water counter. -/
def countHigh (c : Counter) (i n : Nat) (s : State) : State := { s with ctr := s.ctr.high c i n }

/-- Draw a free value (log entry 3). -/
def draw (s : State) : Nat × State := (Config.free s.free, { s with free := s.free + 1 })

/-- The module is in a tenant mode (15, R353). -/
def State.inTenant (s : State) : Bool := s.sec.mode != .openMode

/-- Debug access and firmware update are refused: in a tenant mode, and while a scrub applies the reach of
CONFIG_LOCKED (15, Table 15-6, Table 15-15). -/
def State.debugShut (s : State) : Bool := s.inTenant || s.sec.scrub.isSome

/-- Device requests to the host window are served to initiators other than the bounce and import engines (15, R353,
Table 15-6): not in TENANT_BOUNCE, nor with the reach of CONFIG_LOCKED, which a scrub applies too (Table 15-15), because
there they would be sent with T = 1. In OPEN every initiator is served. -/
def State.hostWinOk (s : State) : Bool :=
  s.sec.scrub.isNone &&
  (match s.sec.mode with
   | .openMode => true
   | .tenantIde => s.sec.tdisp == .run
   | .tenantBounce => false)

/-- The module is powered and out of fundamental reset (21, R515; 19, R464). -/
def State.powered (s : State) : Bool := s.pow.rails == .on && !s.pow.perst

/-- Almanac runs: it has booted (19, R453; log entry 21) and has not failed (16, R387). -/
def State.almanacUp (s : State) : Bool :=
  s.powered && decide (s.boot.phase ≥ 2) && !s.alm.failed && !s.alm.stopped

/-- Almanac posts events: it runs, and not the boot ROM in its place (19, R453, R462). -/
def State.posts (s : State) : Bool := s.almanacUp && !(s.boot.phase == 5 && s.boot.report.cause == 1)

/-! Interrupts and flags. -/

/-- Signal an MSI-X vector (16, R398): a masked vector sets its PBA bit; with MSI-X disabled nothing is sent. -/
def msixSignal (v : Nat) (s : State) : State :=
  if !s.host.msixEnable then s
  else if s.host.msixFnMask || (kvGet ({} : MsixEntry) v s.host.msix).ctrl.getLsbD 0 then
    { s with host := { s.host with pba := s.host.pba ||| (1 <<< v) } }
  else emit (.msix v) s

/-- Set flag `i` of ERR_SUMMARY, raise its counter and signal vector 17 (16, R380, R381, R398). -/
def setErr (i : Nat) (s : State) : State :=
  msixSignal 17 { s with alm := { s.alm with
    errFlags := s.alm.errFlags ||| (1 <<< i)
    errCount := s.alm.errCount.setIfInBounds i ((s.alm.errCount[i]?.getD 0) + 1) } }

/-- Set MBX_DONE bit `m` and raise its counter (16, R380). -/
def setMbxDone (m : Nat) (s : State) : State :=
  { s with alm := { s.alm with
    mbxDone := s.alm.mbxDone ||| (1 <<< m)
    doneCount := s.alm.doneCount.setIfInBounds m ((s.alm.doneCount[m]?.getD 0) + 1) } }

/-! Events: posting puts a record into Almanac's pending buffer; `settle` writes what the ring has room for. -/

/-- Post an event (16, R395, R396): dropped and counted while the pending buffer is full; nothing is posted while
Almanac does not run (R387; 19, R462). -/
def post (code : Nat) (payload : List Nat) (s : State) : State :=
  if !s.posts then s
  else
    let a := s.alm
    let a := if a.lost > 0 ∧ a.pendingEv.length < 1024 then
      { a with pendingEv := a.pendingEv ++ [⟨Ev.eventsLost, s.now, [a.lost]⟩], lost := 0 } else a
    if a.pendingEv.length < 1024 then
      { s with alm := { a with pendingEv := a.pendingEv ++ [⟨code, s.now, payload⟩] } }
    else setErr 0 { s with alm := { a with lost := a.lost + 1 } }

/-- Post an event that its chapter marks fatal (16, Table 16-4, module_fault). -/
def postFatal (code : Nat) (payload : List Nat) (s : State) : State :=
  if s.posts then setErr 4 (post code payload s) else s

/-- A signed payload value, sign-extended to its word. -/
def sword (x : Int) : Nat := ofSigned 64 x

/-- Add an error record (17, R423): the last 4,096 are kept. -/
def logErr (e : ErrRec) (s : State) : State :=
  let l := s.rel.log ++ [e]
  { s with rel := { s.rel with log := if l.length > 4096 then l.drop 1 else l, logNext := s.rel.logNext + 1 } }

/-! Memory bytes. -/

/-- The byte at an address; 0 where none is listed (07, R186; log entry 4). -/
def Memory.get : Memory → Nat → Byte
  | [], _ => 0
  | (j, b) :: t, a => if j = a then b else Memory.get t a

/-- Remove an address. -/
def Memory.erase : Memory → Nat → Memory
  | [], _ => []
  | (j, b) :: t, a => if a = j then t else (j, b) :: Memory.erase t a

/-- Put a byte that is not 0, keeping the addresses rising. -/
def Memory.ins : Memory → Nat → Byte → Memory
  | [], a, x => [(a, x)]
  | (j, b) :: t, a, x =>
    if a < j then (a, x) :: (j, b) :: t else if a = j then (a, x) :: t else (j, b) :: Memory.ins t a x

/-- Write one byte: writing 0 removes the entry. -/
def Memory.set (m : Memory) (a : Nat) (x : Byte) : Memory := if x = 0 then m.erase a else m.ins a x

/-- The addresses rise strictly, from above `lo`. -/
def Memory.rising : Option Nat → Memory → Bool
  | _, [] => true
  | lo, (a, _) :: t => (match lo with | none => true | some l => decide (l < a)) && Memory.rising (some a) t

/-- The canonical form of memory: addresses strictly rising and no byte 0 listed. -/
def Memory.wf (m : Memory) : Bool := Memory.rising none m && m.all fun c => c.2 != 0

/-- `n` bytes from an address. -/
def Memory.read (m : Memory) (a : Nat) : Nat → List Byte
  | 0 => []
  | n + 1 => m.get a :: Memory.read m (a + 1) n

/-- Write bytes from an address. -/
def Memory.write (m : Memory) (a : Nat) : List Byte → Memory
  | [] => m
  | b :: t => Memory.write (m.set a b) (a + 1) t

/-- Clear every byte of [lo, hi). -/
def Memory.clear (m : Memory) (lo hi : Nat) : Memory := m.filter fun c => !(lo ≤ c.1 && c.1 < hi)

/-- A little-endian word of `n` bytes. -/
def Memory.word (m : Memory) (a : Nat) (n : Nat) : Nat := ofLE (m.read a n)

/-! DRAM: frames, codes, poison (17). -/

/-- The DRAM location of an address under the boundaries in force (07, R172). -/
def State.loc (s : State) (a : Nat) : Loc := dramDecode s.tiers.bg s.tiers.bl a

/-- The frame record of a frame. -/
def State.frame (s : State) (k : Nat) : FrameRec := kvGet {} k s.rel.frames

/-- Change a frame record. -/
def setFrame (k : Nat) (f : FrameRec) (s : State) : State :=
  { s with rel := { s.rel with frames := kvPut {} k f s.rel.frames } }

/-- Retire a frame (17, R406, R407). -/
def retireFrame (l : Loc) (cause : Nat) (s : State) : State :=
  let f := s.frame l.frameKey
  if f.st = 2 then s
  else
    let s := setFrame l.frameKey { f with st := 2 } s
    let r := if s.rel.retire.contains l.frameKey then s.rel.retire else s.rel.retire ++ [l.frameKey]
    let s := { s with rel := { s.rel with retire := if r.length > 4096 then r.drop 1 else r } }
    let s := count .retiredFrames l.tier 1 s
    let s := post Ev.frameRetired [l.tier, l.ch, l.frame, cause] s
    logErr ⟨s.now, l.frame * 65536, Ev.frameRetired, l.tier, l.tier, 5, l.frame, l.ch⟩ s

/-- A light-code correction is counted in the frame record (17, R401, R406, R423). -/
def frameCe (l : Loc) (syn : Nat) (s : State) : State :=
  let f := s.frame l.frameKey
  let ce := min (f.ce + 1) 0xFFFFFFFF
  let watch := f.st = 0 ∧ ce ≥ 16
  let s := setFrame l.frameKey { f with ce := ce, logged := true, st := if watch then 1 else f.st } s
  let s := count .ceLight l.cidx 1 s
  let s := if f.logged then s else logErr ⟨s.now, l.raw, 0, syn, l.tier, 0, l.frame, l.ch⟩ s
  if watch then
    logErr ⟨s.now, l.frame * 65536, Ev.frameWatch, l.tier, l.tier, 0, l.frame, l.ch⟩
      (post Ev.frameWatch [l.tier, l.ch, l.frame] s)
  else s

/-- A strong-code success is counted in the frame record (17, R403, R406). -/
def frameSe (l : Loc) (s : State) : State :=
  let f := s.frame l.frameKey
  let se := min (f.se + 1) 0xFFFF
  let s := count .ceStrong l.cidx 1 (setFrame l.frameKey { f with se := se } s)
  if se ≥ 2 then retireFrame l 0 s else s

/-- Fail a channel (17, R410). -/
def failChannel (chan cause : Nat) (s : State) : State :=
  if s.rel.failed.contains chan then s
  else
    let s := { s with rel := { s.rel with failed := setIns chan s.rel.failed } }
    logErr ⟨s.now, 0, Ev.channelFailed, chan / 256, chan / 256, 7, 0, chan % 256⟩
      (postFatal Ev.channelFailed [chan / 256, chan % 256, cause] s)

/-- A page failed the strong code: 64 such failures within 1 s fail the channel (17, R410). -/
def noteStrongFail (chan : Nat) (s : State) : State :=
  let ts := (s.now :: kvGet [] chan s.rel.strongFails).filter fun t => decide (t + 1000000000 > s.now)
  let s := { s with rel := { s.rel with strongFails := kvSet chan ts s.rel.strongFails } }
  if ts.length ≥ 64 then failChannel chan 0 s else s

/-- The repair-map entry that holds a page (17, R416). -/
def State.repairEntryOf (s : State) (page : Nat) : Option (Nat × RepairEntry) :=
  (((List.range s.rel.repairMap.length).zip s.rel.repairMap).find? fun p =>
    p.2.base ≤ page && page < p.2.base + 2048 * p.2.pages)

/-- A page in a repair-map entry has become poisoned: a repair is due (17, R417), once for this poisoning. -/
def noteRepair (page : Nat) (s : State) : State :=
  if s.rel.repairs.any (fun r => r.page == page) then s
  else
    match s.repairEntryOf page with
    | none => s
    | some (i, e) =>
      let r : Repair := { page := page, entry := i, ent := e, since := s.cyc, running := false }
      { s with rel := { s.rel with repairs := s.rel.repairs ++ [r] } }

/-- A reader or Survey finds a page poisoned: it is repaired unless its poisoning has had its repair (17, R417). -/
def foundPoison (page : Nat) (s : State) : State := if s.rel.tried.contains page then s else noteRepair page s

/-- Poison the sectors of `mask` (bits 0–7) of the page at DRAM location `l` (17, R403, R414). -/
def poisonPage (l : Loc) (mask : Nat) (s : State) : State :=
  let f := s.frame l.frameKey
  let new := (mask * 2 ^ (8 * l.page))
  let s := setFrame l.frameKey { f with poison := f.poison ||| new } s
  count .poisoned l.cidx ((List.range 8).countP fun i => bit mask i && !bit f.poison (8 * l.page + i)) s

/-- The code-and-tag lines of a page that are lost and cannot be rebuilt from their XOR group (17, R404). -/
def State.lostTags (s : State) (l : Loc) : List Nat :=
  let lost := kvGet [] l.frameKey s.rel.metaBad
  [2 * l.page, 2 * l.page + 1].filter fun i => lost.contains i && lost.any fun j => j != i && j % 2 == i % 2

/-- A position of a sector's codeword that lies in its code-and-tag line, and not in the data (17, R399). -/
def codeSymbol (p : Nat) : Bool := p < 4 || 132 ≤ p

/-- The strong code's decision on a page (17, R402, R403; 15, R370), the 32 symbols of each lost code-and-tag line erased
(R404). Success leaves the stored copy as it is, but recovers those lines; failure poisons every sector that the light
code and its tag do not serve. -/
def strongDecision (a : Nat) (s : State) : State :=
  let page := a / 2048 * 2048
  let l := s.loc page
  let lost := s.lostTags l
  let gone := fun (i : Nat) => lost.contains (2 * l.page + i / 4)
  let errsOf := fun (i : Nat) => kvGet [] (l.sectorKey + i) s.rel.errs
  let t := ((List.range 8).map fun i => (errsOf i).countP fun e => !(gone i && codeSymbol e.1)).sum +
    (kvGet [] l.pageKey s.rel.parErrs).length
  if strongCorrects t (32 * lost.length) then
    frameSe l { s with rel := { s.rel with
      metaBad := kvMod [] l.frameKey (fun b => b.filter fun i => !lost.contains i) s.rel.metaBad } }
  else
    let bad := (List.range 8).foldl (fun m i => if !gone i && lightServes (errsOf i) then m else m + 2 ^ i) 0
    let tagBad := (List.range 8).filter fun i =>
      match lightCode (errsOf i) with
      | .uncorrectable => false
      | _ => !gone i && !lightServes (errsOf i)
    let s := tagBad.foldl (fun s i =>
      post Ev.dramTagFail [l.tier, l.ch, l.raw + 256 * i] (count .tagFail l.cidx 1 s)) s
    let fresh := (List.range 8).any fun i => bit bad i && !bit (s.frame l.frameKey).poison (8 * l.page + i)
    let s := poisonPage l bad s
    let s := count .ue l.cidx 1 s
    let s := post Ev.dramUncorrectable [l.tier, l.ch, l.raw, (s.frame l.frameKey).poison / 2 ^ (8 * l.page) % 256] s
    let s := logErr ⟨s.now, l.raw, Ev.dramUncorrectable, l.tier, l.tier, 2, l.frame, l.ch⟩ s
    let s := if bad = 0 then s else retireFrame l 1 s
    let s := noteStrongFail l.chan s
    if fresh then noteRepair page s else s

/-- Metadata line `i` of a frame is read (17, R404): a line whose CRC does not match is rebuilt from its XOR group
where no other line of the group is lost. Answers whether the line is usable. -/
def metaLine (l : Loc) (i : Nat) (s : State) : Bool × State :=
  let badLines := kvGet [] l.frameKey s.rel.metaBad
  if !badLines.contains i then (true, s)
  else if badLines.all (fun j => j == i || j % 2 != i % 2) then
    let s := { s with rel := { s.rel with metaBad := kvPut [] l.frameKey (badLines.filter (· != i)) s.rel.metaBad } }
    (true, count .metaRebuilt l.cidx 1 s)
  else (false, s)

/-- Every sector of a frame is poisoned and the frame retired: its frame record is lost, and is written afresh so (17,
R404). Pages that were clean may be due for repair (R417). -/
def loseFrame (l : Loc) (s : State) : State :=
  let f := s.frame l.frameKey
  let s := { s with rel := { s.rel with metaBad := kvMod [] l.frameKey (fun b => b.filter (· != 87)) s.rel.metaBad } }
  let s := retireFrame l 2 (setFrame l.frameKey { f with poison := 2 ^ 232 - 1 } s)
  let s := count .poisoned l.cidx ((List.range 232).countP fun i => !bit f.poison i) s
  (List.range 29).foldl (fun s p =>
    if f.poison / 2 ^ (8 * p) % 256 = 255 then s
    else noteRepair (dramEncode s.tiers.bg s.tiers.bl ⟨l.tier, l.ch, l.frame * 59392 + p * 2048⟩) s) s

/-- What a channel does on reading one sector (17, R400–R404; 15, R370): one that is poisoned, or lies on a failed
channel, is found so (R410, R417). -/
def sectorRead (a : Nat) (s : State) : State :=
  let l := s.loc a
  let e := kvGet [] l.sectorKey s.rel.errs
  if s.rel.failed.contains l.chan || bit (s.frame l.frameKey).poison l.sector then foundPoison (a / 2048 * 2048) s else
  let (lineOk, s) := metaLine l (l.sector / 4) s
  if !lineOk then strongDecision a s
  else if e = [] then s
  else
    match lightCode e with
    | .uncorrectable => strongDecision a s
    | .clean => if lightServes e then s else strongDecision a s
    | .corrected _ b => if lightServes e then frameCe l b s else strongDecision a (frameCe l b s)

/-- The first addresses of the sectors that [a, a + n) touches. -/
def sectorsOf (a n : Nat) : List Nat :=
  if n = 0 then [] else (List.range ((a + n - 1) / 256 - a / 256 + 1)).map fun i => (a / 256 + i) * 256

/-- No stored error, lost metadata line, poison or failed channel exists at all, so that no read meets one. -/
def State.memClean (s : State) : Bool :=
  s.rel.errs.isEmpty && s.rel.metaBad.isEmpty && s.rel.frames.isEmpty && s.rel.failed.isEmpty

/-- Read the sectors of a DRAM range through their channels. -/
def channelReads (a n : Nat) (s : State) : State :=
  if s.memClean then s else (sectorsOf a n).foldl (fun s x => sectorRead x s) s

/-- A DRAM sector is poisoned, or its channel has failed (17, R410, R414). -/
def State.sectorPoisoned (s : State) (a : Nat) : Bool :=
  let l := s.loc a
  s.rel.failed.contains l.chan || bit (s.frame l.frameKey).poison l.sector

/-- The first poisoned address of a range, in DRAM sectors or SRAM lines (17, R414). -/
def State.firstPoison (s : State) (a n : Nat) : Option Nat :=
  if n = 0 then none
  else if inDram a then
    if s.rel.frames.isEmpty && s.rel.failed.isEmpty then none
    else ((sectorsOf a n).find? fun x => s.sectorPoisoned x).map (max a)
  else (s.rel.sramPoison.find? fun k => a / 64 ≤ k && k ≤ (a + n - 1) / 64).map fun k => max a (k * 64)

/-- The bytes of codes and tags a read of [a, a + n) of DRAM moves (07, Table 7-3): one code-and-tag line for each
four sectors touched. -/
def readMeta (a n : Nat) : Nat := if n = 0 then 0 else 64 * ((a + n - 1) / 1024 - a / 1024 + 1)

/-- Count data and code bytes of a read by channel, one 2 KiB page after the other (07, Table 7-8). -/
def countRead : Nat → Nat → Nat → State → State
  | 0, _, _, s => s
  | fuel + 1, a, n, s =>
    if n = 0 then s
    else
      let k := min n (2048 - a % 2048)
      let i := (s.loc a).cidx
      countRead fuel (a + k) (n - k) (count .metaBytes i (readMeta a k) (count .rdData i k s))

/-- Count the data bytes of an accepted write by channel, one 2 KiB page after the other (07, Table 7-8). -/
def countWrite : Nat → Nat → Nat → State → State
  | 0, _, _, s => s
  | fuel + 1, a, n, s =>
    if n = 0 then s
    else
      let k := min n (2048 - a % 2048)
      countWrite fuel (a + k) (n - k) (count .wrData (s.loc a).cidx k s)

/-- A line of a write queue with every byte covered. -/
def fullLine (x : Nat × Nat) : Bool := x.2 == 2 ^ 64 - 1

/-- The bytes of codes, tags and parity that the write of one page's queued lines moves, and how many accesses read
first: a page written whole; whole sectors together; each other sector alone (07, R170, Table 7-3). -/
def pageMeta (ls : List (Nat × Nat)) : Nat × Nat :=
  if ls.length = 32 ∧ ls.all fullLine then (192, 0)
  else
    let secs := (List.range 8).map fun j => ls.filter fun x => x.1 / 4 % 8 == j
    let whole := fun (x : List (Nat × Nat)) => decide (x.length = 4) && x.all fullLine
    let full := (List.range 8).filter fun j => whole (secs.getD j [])
    let part := (secs.filter fun x => !x.isEmpty && !whole x).length
    let lines := ((List.range 2).filter fun h => full.any fun j => j / 4 == h).length
    ((if full.isEmpty then 0 else 2 * (64 * lines + 64)) + 256 * part, (if full.isEmpty then 0 else 1) + part)

/-- A channel drains its write queue until at most `to_` lines remain, page by page from the oldest line: the lines of one
page that stand there together are written together (06, R163; 07, R170). -/
def drainQueue : Nat → Nat → Nat → Nat → State → State
  | 0, _, _, _, s => s
  | fuel + 1, chan, cidx, to_, s =>
    match kvGet [] chan s.tiers.wq with
    | [] => s
    | x :: t =>
      if t.length < to_ then s
      else
        let page := (x :: t).filter fun y => y.1 / 32 == x.1 / 32
        let (m, r) := pageMeta page
        let s := { s with tiers := { s.tiers with
          wq := kvPut [] chan (t.filter fun y => y.1 / 32 != x.1 / 32) s.tiers.wq } }
        drainQueue fuel chan cidx to_ (count .rmw cidx r (count .metaBytes cidx m s))

/-- The lines of a write enter their channels' write queues, merged with what they find there; a queue that reaches 48
entries drains until 16 remain (06, R163, R164). -/
def queueLines : Nat → Nat → Nat → State → State
  | 0, _, _, s => s
  | fuel + 1, a, n, s =>
    if n = 0 then s
    else
      let k := min n (64 - a % 64)
      let l := s.loc a
      let mask := (2 ^ k - 1) * 2 ^ (a % 64)
      let q := kvGet [] l.chan s.tiers.wq
      let q := if q.any (fun x => x.1 == a / 64) then
          q.map fun x => if x.1 = a / 64 then (x.1, x.2 ||| mask) else x
        else q ++ [(a / 64, mask)]
      let s := { s with tiers := { s.tiers with wq := kvSet l.chan q s.tiers.wq } }
      queueLines fuel (a + k) (n - k)
        (if q.length ≥ 48 then drainQueue 64 l.chan l.cidx 16 (count .turnarounds l.cidx 1 s) else s)

/-- Finder's requests for a run: one for each 256-byte block it touches (R160). -/
def finderReqs (runs : List (Nat × Nat)) : Nat :=
  (runs.map fun r => if r.2 = 0 then 0 else (r.1 + r.2 - 1) / 256 - r.1 / 256 + 1).sum

/-- Mark the granules of a DRAM range in the active map (07, R179). -/
def markDirty (a n : Nat) (s : State) : State :=
  if n = 0 then s
  else
    let gs := (List.range ((a + n - 1) / 65536 - a / 65536 + 1)).map fun i => a / 65536 + i
    { s with tiers := { s.tiers with active := gs.foldl (fun l g => setIns g l) s.tiers.active } }

/-- The controller holds the record of a frame it has written, among its 64 most recently written (07, R170). -/
def holdMeta (l : Loc) (s : State) : State :=
  let h := kvGet [] l.chan s.tiers.heldMeta
  let since := ((h.find? fun p => p.1 == l.frame).map Prod.snd).getD s.cyc
  let h' := ((l.frame, since) :: h.filter (fun p => p.1 != l.frame)).take 64
  { s with tiers := { s.tiers with heldMeta := kvSet l.chan h' s.tiers.heldMeta } }

/-- An armed flip corrupts the next write the channel accepts (17, R422). -/
def applyFlip (a : Nat) (s : State) : State :=
  let l := s.loc a
  match kvFind l.chan s.rel.flips with
  | none => s
  | some (target, mask) =>
    let s := { s with rel := { s.rel with flips := kvDel l.chan s.rel.flips } }
    let words := (List.range 4).map fun i => (i, mask / 2 ^ (16 * i) % 65536)
    let base := if target = 0 then 4 else if target = 1 then 0 else 132
    let s :=
      if target = 3 then
        let e := words.foldl (fun e w => errXor w.1 w.2 e) (kvGet [] l.pageKey s.rel.parErrs)
        { s with rel := { s.rel with parErrs := kvPut [] l.pageKey e s.rel.parErrs } }
      else
        let e := words.foldl (fun e w => errXor (base + w.1) w.2 e) (kvGet [] l.sectorKey s.rel.errs)
        { s with rel := { s.rel with errs := kvPut [] l.sectorKey e s.rel.errs } }
    let s := count .flips l.cidx 1 s
    logErr ⟨s.now, l.raw, Ev.flipApplied, l.tier, l.tier, 7, l.frame, l.ch⟩
      (post Ev.flipApplied [l.tier, l.ch, l.raw, target] s)

/-- The frame record after a sector's poison is cleared; with the last of its page ends that poisoning (17, R415, R417). -/
def unpoison (a : Nat) (l : Loc) (f : FrameRec) (s : State) : State :=
  let s := setFrame l.frameKey f s
  if s.rel.tried.isEmpty || f.poison / 2 ^ (8 * l.page) % 256 != 0 then s
  else { s with rel := { s.rel with tried := s.rel.tried.filter (· != a / 2048 * 2048) } }

/-- Write the part of one sector that a DRAM write covers (17, R410, R415): discarded on a failed channel, and where
it covers part of a poisoned sector; a whole write clears poison and stored errors. Answers whether it was discarded. -/
def sectorWrite (a : Nat) (bs : List Byte) (s : State) : Bool × State :=
  let l := s.loc a
  if s.rel.failed.contains l.chan then (true, s)
  else
    let whole := bs.length = 256
    let s := if whole then s else channelReads a 1 s
    if !whole && s.sectorPoisoned a then (true, s)
    else
      let f := s.frame l.frameKey
      let s := if f.poison = 0 then s else
        unpoison a l { f with poison := f.poison &&& ((2 ^ 232 - 1) ^^^ (2 ^ l.sector)) } s
      (false, { s with
        mem := s.mem.write a bs
        rel := { s.rel with errs := kvDel l.sectorKey s.rel.errs } })

/-- Write the sectors of a DRAM range in order, one piece each. -/
def sectorWrites : Nat → Nat → List Byte → Bool × State → Bool × State
  | 0, _, _, r => r
  | fuel + 1, a, bs, (bad, s) =>
    match bs with
    | [] => (bad, s)
    | _ =>
      let k := 256 - a % 256
      let (b, s) := sectorWrite a (bs.take k) s
      sectorWrites fuel (a + k) (bs.drop k) (bad || b, s)

/-- Pages that a write covers whole: their parity is fresh, and a repair of them is superseded (17, R417). -/
def wholePages (a n : Nat) (s : State) : State :=
  let p0 := (a + 2047) / 2048
  let p1 := (a + n) / 2048
  if s.rel.parErrs.isEmpty && s.rel.repairs.isEmpty then s
  else
    (List.range (p1 - p0)).foldl (fun s i =>
      let page := (p0 + i) * 2048
      { s with rel := { s.rel with
        parErrs := kvDel (s.loc page).pageKey s.rel.parErrs
        repairs := s.rel.repairs.map fun r => if r.page = page then { r with superseded := true } else r } }) s

/-- What each page of a write does at its channel besides: the controller holds its frame's record, and a flip armed there
corrupts it. -/
def eachPage : Nat → Nat → Nat → State → State
  | 0, _, _, s => s
  | fuel + 1, a, n, s =>
    if n = 0 then s
    else
      let k := min n (2048 - a % 2048)
      eachPage fuel (a + k) (n - k) (applyFlip a (holdMeta (s.loc a) s))

/-- A write to DRAM by any source but a fill or Survey: the bytes, the dirty bits, the counters. Answers whether any
part was discarded (17, R410, R415). -/
def dramWrite (a : Nat) (bs : List Byte) (s : State) : Bool × State :=
  let n := bs.length
  if n = 0 then (false, s)
  else
    let (bad, s) := sectorWrites (n / 256 + 2) a bs (false, s)
    let s := wholePages a n s
    let s := markDirty a n s
    let s := queueLines (n / 64 + 2) a n (countWrite (n / 2048 + 2) a n s)
    (bad, eachPage (n / 2048 + 2) a n s)

/-! SRAM errors (17, R412). -/

/-- An uncorrectable SRAM error is posted and recorded (R412, R423, R424): `wher` and `idx` as Tables 17-6 and 17-7 code
them, the unit of the record, and the address, 0 where it has none. -/
def sramLost (wher idx unit a : Nat) (fatal : Bool) (s : State) : State :=
  let ws := [wher, idx, a, b2n fatal]
  logErr ⟨s.now, a, Ev.sramUncorrectable, wher, wher, if fatal then 7 else 2, 0, unit⟩
    (if fatal then postFatal Ev.sramUncorrectable ws s else post Ev.sramUncorrectable ws s)

/-- A read meets the word `w` of core or cluster SRAM in error: it is corrected and counted, or its line is poisoned
(R412, Table 17-3). -/
def sramMeet (w : Nat) (twice : Bool) (s : State) : State :=
  let a := 8 * w
  let core := regionOf a == some .coreSram
  let unit := if core then coreOf a else clusterOf a
  let c := if core then coreOf a / 16 else clusterOf a
  let s := { s with rel := { s.rel with sramErrs := kvDel w s.rel.sramErrs } }
  if !twice then count .sramCe c 1 s
  else if s.rel.sramPoison.contains (a / 64) then s
  else
    sramLost (if core then 2 else 3) unit c a false
      (count .sramUe c 1 { s with rel := { s.rel with sramPoison := setIns (a / 64) s.rel.sramPoison } })

/-- The words of core or cluster SRAM in [a, a + n) are read. -/
def sramReads (a n : Nat) (s : State) : State :=
  if n = 0 then s
  else (s.rel.sramErrs.filter fun p => a / 8 ≤ p.1 && p.1 ≤ (a + n - 1) / 8).foldl (fun s p => sramMeet p.1 p.2 s) s

/-- The words of [a, a + n) are written: one written in part is read first, and the others are good again. -/
def sramOver (a n : Nat) (s : State) : State :=
  if n = 0 ∨ s.rel.sramErrs.isEmpty then s
  else
    let s := if a % 8 = 0 then s else sramReads a 1 s
    let s := if (a + n) % 8 = 0 then s else sramReads (a + n - 1) 1 s
    { s with rel := { s.rel with
      sramErrs := s.rel.sramErrs.filter fun p => p.1 < a / 8 || (a + n - 1) / 8 < p.1 } }

/-- A write to core or cluster SRAM: a line written whole loses its poison, a write to part of a poisoned line is
discarded (17, R415). -/
def sramWrite (a : Nat) (bs : List Byte) (s : State) : Bool × State :=
  let n := bs.length
  let s := sramOver a n s
  if s.rel.sramPoison.isEmpty then (false, { s with mem := s.mem.write a bs })
  else
    let hit := s.rel.sramPoison.filter fun k => a / 64 ≤ k && k ≤ (a + n - 1) / 64
    let part := hit.filter fun k => k * 64 < a || a + n < k * 64 + 64
    let keep := fun i => part.any fun k => k * 64 ≤ a + i && a + i < k * 64 + 64
    let m := ((List.range n).zip bs).foldl (fun m p => if keep p.1 then m else m.set (a + p.1) p.2) s.mem
    (!part.isEmpty, { s with
      mem := m
      rel := { s.rel with sramPoison := s.rel.sramPoison.filter fun k => !(hit.contains k) || part.contains k } })

/-! Semaphore words (04, R104). -/

/-- The count and the overflow bit of a semaphore. -/
def State.sem (s : State) (i : Nat) : Sem := kvGet {} i s.sems

/-- The answer to a watch (13, Table 13-10). -/
def watchAnswer (own : Nat) (w : Watch) (op count : Nat) : Inject :=
  { pkt := { typ := .watchRsp, cls := 1, dst := w.module, src := own, flow := 0xFD, token := w.token % 4096
             tdie := w.token / 4096, op := op, operand := count }
    die := w.die }

/-- Watches whose semaphore now meets their value are answered with the count (05, R138). -/
def answerWatches (i : Nat) (s : State) : State :=
  let c := (kvGet ({} : Sem) i s.sems).count.toNat
  let met := fun (w : Watch) => w.sem == i && decide (w.value ≤ c)
  if s.mer.watches.any met then
    { s with
      mer := { s.mer with watches := s.mer.watches.filter fun w => !met w }
      fab := { s.fab with inject := s.fab.inject ++
        (s.mer.watches.filter met).map fun w => watchAnswer (s.fab.id.getD 0) w 0 c } }
  else s

/-- A task is a SEM_WAIT that waits on semaphore `i` of this module, whose id is `own` (05, R142). -/
def waitsOn (own i : Nat) (k : Task) : Bool :=
  let ga := k.desc.getD 2 0
  bits (k.desc.getD 0 0) 63 60 == 9 && k.phase == .parked && k.token == none &&
  bits ga 61 52 == own && ga % 2 ^ 52 == 0x30000000000 + 8 * i

/-- Has the timeout of a SEM_WAIT expired in an earlier cycle (05, R142)? -/
def Task.expired (k : Task) (now : Nat) : Bool := k.deadline != 0 && decide (k.deadline < now)

/-- A local SEM_WAIT whose value the count has reached is resolved with it (05, R142); one whose timeout has expired
before ends TIMEOUT with the count `old` that it saw last. -/
def resolveWaits (i old : Nat) (s : State) : State :=
  let c := (kvGet ({} : Sem) i s.sems).count.toNat
  let own := s.fab.id.getD 0
  let f := fun (p : Nat × Task) =>
    if waitsOn own i p.2 then
      if p.2.expired s.now then (p.1, { p.2 with phase := .finished, status := Ts.timeout, result := old })
      else if bits (p.2.desc.getD 3 0) 63 32 ≤ c then (p.1, { p.2 with phase := .finished, result := c })
      else p
    else p
  { s with mer := { s.mer with tasks := s.mer.tasks.map f } }

/-- Put a semaphore word. -/
def putSem (i : Nat) (x : Sem) (s : State) : State :=
  resolveWaits i (s.sem i).count.toNat (answerWatches i { s with sems := kvPut {} i x s.sems })

/-- The changes that reach a semaphore in one cycle (04, R104): the SETs in their fixed order, then the sum of the ADDs,
saturating once. Answers whether the sum set ovf: every ADD of the cycle has then set it. A command has a cycle of its
own (log entry 112). -/
def semCycle (i : Nat) (sets : List W32) (adds : List Nat) (s : State) : Bool × State :=
  let x := sets.foldl (fun (_ : Sem) v => ⟨v, false⟩) (s.sem i)
  let v := x.count.toNat + adds.sum
  if v ≥ 2 ^ 32 then (true, putSem i ⟨0xFFFFFFFF, true⟩ s) else (false, putSem i ⟨BitVec.ofNat 32 v, x.ovf⟩ s)

/-- An ADD to a semaphore: it saturates and sets ovf. Answers whether it set ovf. -/
def semAdd (i n : Nat) (s : State) : Bool × State := semCycle i [] [n] s

/-- A SET of a semaphore: it clears ovf. -/
def semSet (i : Nat) (v : W32) (s : State) : State := (semCycle i [v] [] s).2

/-- A write of bytes to semaphore words (R104): those within a word's low half merge into the count and act as a SET;
the others are ignored. -/
def semWrite (a : Nat) (bs : List Byte) (s : State) : State :=
  let o := a - 0x30000000000
  let n := bs.length
  if n = 0 then s
  else
    (List.range ((o + n - 1) / 8 - o / 8 + 1)).foldl (fun s i =>
      let w := o / 8 + i
      let old := leBytes 4 (s.sem w).count.toNat
      let new := (List.range 4).map fun j =>
        let p := 8 * w + j
        if o ≤ p ∧ p < o + n then bs.getD (p - o) 0 else old.getD j 0
      let touched := (List.range 4).any fun j => decide (o ≤ 8 * w + j ∧ 8 * w + j < o + n)
      if touched then semSet w (BitVec.ofNat 32 (ofLE new)) s else s) s

/-- The bytes of semaphore words (Table 4-9). -/
def semRead (a n : Nat) (s : State) : List Byte :=
  (List.range n).map fun i =>
    let o := a - 0x30000000000 + i
    let x := s.sem (o / 8)
    let v := x.count.toNat + (if x.ovf then 2 ^ 32 else 0)
    BitVec.ofNat 8 (v / 2 ^ (8 * (o % 8)))

/-! Reads and writes by region. -/

/-- A write by the device to any region: answers whether any part of it was discarded because of poison. -/
def devWrite (a : Nat) (bs : List Byte) (s : State) : Bool × State :=
  match regionOf a with
  | some .gddr7 => dramWrite a bs s
  | some .lpddr => dramWrite a bs s
  | some .coreSram => sramWrite a bs s
  | some .clusterSram => sramWrite a bs s
  | some .sems => (false, semWrite a bs s)
  | some .hostWin => (false, count .dmaWrBytes 0 bs.length { s with mem := s.mem.write a bs })
  | some .control => (false, { s with mem := s.mem.write a bs })
  | none => (false, s)

/-- A write whose writer is not told of discarded parts. -/
def devPut (a : Nat) (bs : List Byte) (s : State) : State := (devWrite a bs s).2

/-- A read by the device: the state after it (corrections, poison found), the first poisoned address, the bytes. -/
def devRead (a n : Nat) (s : State) : Option Nat × List Byte × State :=
  match regionOf a with
  | some .gddr7 =>
    let s := countRead (n / 2048 + 2) a n (channelReads a n s)
    (s.firstPoison a n, s.mem.read a n, s)
  | some .lpddr =>
    let s := countRead (n / 2048 + 2) a n (channelReads a n s)
    (s.firstPoison a n, s.mem.read a n, s)
  | some .sems => (none, semRead a n s, s)
  | some .hostWin => (none, s.mem.read a n, count .dmaRdBytes 0 n s)
  | _ =>
    let s := sramReads a n s
    (s.firstPoison a n, s.mem.read a n, s)

/-- Mark the output sectors or lines of a range poisoned (17, R414): local DRAM and SRAM only. -/
def poisonRange (a n : Nat) (s : State) : State :=
  if n = 0 then s
  else
    match regionOf a with
    | some .gddr7 => (sectorsOf a n).foldl (fun s x => let l := s.loc x; poisonPage l (2 ^ (l.sector % 8)) s) s
    | some .lpddr => (sectorsOf a n).foldl (fun s x => let l := s.loc x; poisonPage l (2 ^ (l.sector % 8)) s) s
    | some .coreSram | some .clusterSram =>
      let ls := (List.range ((a + n - 1) / 64 - a / 64 + 1)).foldl (fun l i => setIns (a / 64 + i) l) s.rel.sramPoison
      { s with rel := { s.rel with sramPoison := ls } }
    | _ => s

/-- An output written poisoned: a write as any other, which marks its granules (07, R179; 17, R414). -/
def poisonOut (a n : Nat) (s : State) : State :=
  let s := poisonRange a n s
  if inDram a then markDirty a n s else s

/-- The retirement list as a fill reads it: it lies in the checkpoint store, and while that is FAILED it cannot be read
(17, R407; 19, R457). -/
def State.retireList (s : State) : List Nat := if s.store.failed then [] else s.rel.retire

/-- Fill every frame of a tier with zero data and fresh codes and tags (07, R173; 17, R405): no byte, no stored error,
no poison; the frames of the retirement list are written RETIRED; the tier's dirty maps are clear. -/
def fillTier (t : Nat) (s : State) : State :=
  let r : Region := if t = 0 then .gddr7 else .lpddr
  let ofTier := fun (k : Nat) (per : Nat) => k / per / 2 ^ 20 / 256 == t
  let inTier := fun (g : Nat) => r.lo ≤ g * 65536 && g * 65536 < r.hi
  let retired := s.retireList.filter fun k => ofTier k 1
  let frames := (s.rel.frames.filter fun p => !ofTier p.1 1)
  let frames := retired.foldl (fun fs k => kvSet k ({ st := 2 } : FrameRec) fs) frames
  let old := kvGet 0 (Counter.retiredFrames.key t) s.ctr
  { s with
    mem := s.mem.clear r.lo r.hi
    ctr := kvPut 0 (Counter.retiredFrames.key t) (if old = retired.length then old else retired.length) s.ctr
    tiers := { s.tiers with
      active := s.tiers.active.filter fun g => !inTier g
      frozen := s.tiers.frozen.filter fun g => !inTier g }
    rel := { s.rel with
      frames := frames
      errs := s.rel.errs.filter fun p => !ofTier p.1 256
      parErrs := s.rel.parErrs.filter fun p => !ofTier p.1 32
      metaBad := s.rel.metaBad.filter fun p => !ofTier p.1 1
      tried := s.rel.tried.filter fun a => !(r.lo ≤ a && a < r.hi) } }

/-! Writing the event ring and the outbound bounce ring. -/

/-- The bytes of an event record (16, Table 16-9). -/
def EvRec.bytes (e : EvRec) (k : W32) : List Byte :=
  wordBytes ((e.code * 2 ^ 48 + k.toNat) :: e.time :: (e.payload ++ List.replicate (6 - e.payload.length) 0))

/-- A host bus address as a device physical address (01, R31). -/
def hostAddr (bus : Nat) : Nat := 0x8000000000000 + bus % 2 ^ 51

/-- An offset and its wrap bit moved forward by `n` in a ring of 2^log bytes (16, R379). -/
def ringMove (v : W64) (log n : Nat) : W64 :=
  let off := v.toNat % 2 ^ 30
  let wrap := v.toNat / 2 ^ 30 % 2
  let p := off + n
  if p ≥ 2 ^ log then BitVec.ofNat 64 ((1 - wrap) * 2 ^ 30 + (p - 2 ^ log)) else BitVec.ofNat 64 (wrap * 2 ^ 30 + p)

/-- Bytes between a ring's head and its tail. -/
def ringUsed (head tail : W64) (log : Nat) : Nat :=
  let h := head.toNat % 2 ^ 30
  let t := tail.toNat % 2 ^ 30
  if head.toNat / 2 ^ 30 % 2 = tail.toNat / 2 ^ 30 % 2 then t - h else t + 2 ^ log - h

/-- Write one outbound bounce record where the ring has room (15, R365, R366): a record that would cross the end
starts at the base, with a skip marker left at the old offset (16, R379). -/
def bounceEmit (r : BounceRec) (s : State) : Option State :=
  let b := s.sec.bounce
  let len := 64 + r.payload.length
  let off := b.outTail.toNat % 2 ^ 30
  let size := 2 ^ b.outLog
  let skip := if off + len > size then size - off else 0
  if ringUsed b.outHead b.outTail b.outLog + skip + len > size then none
  else
    let s := if skip = 0 then s else
      { s with mem := s.mem.write (hostAddr (b.outBase + off)) (wordBytes [2 ^ 64 - 1, 0, 0, 0, 0, 0, 0, 0]) }
    let start := if skip = 0 then off else 0
    let clear := leBytes 8 b.seqOut ++ leBytes 8 r.payload.length
    let sealed := (List.range (48 + r.payload.length)).map
      (Config.sealByte (s.sec.bounceKeys.getD 0) b.seqOut 1)
    let tail := ringMove b.outTail b.outLog (skip + len)
    let s := { s with
      mem := (s.mem.write (hostAddr (b.outBase + start)) (clear ++ sealed)).write (hostAddr b.outTailWord)
        (leBytes 8 tail.toNat)
      sec := { s.sec with bounce := { b with outTail := tail, seqOut := b.seqOut + 1 } } }
    some (count .bounceOut 0 1 (count .dmaWrBytes 0 (len + skip) s))

/-- Emit waiting outbound records, oldest first, while the ring has room. -/
def bounceFlushN : Nat → State → State
  | 0, s => s
  | n + 1, s =>
    match s.sec.bounce.waiting with
    | [] => s
    | r :: t =>
      match bounceEmit r s with
      | none => s
      | some s => bounceFlushN n { s with sec := { s.sec with bounce := { s.sec.bounce with waiting := t } } }

/-- Emit waiting outbound records. -/
def bounceFlush (s : State) : State := bounceFlushN s.sec.bounce.waiting.length s

/-- Queue an outbound record of the given type in TENANT_BOUNCE (15, R366). -/
def bounceSend (r : BounceRec) (s : State) : State :=
  if s.sec.mode = .tenantBounce then
    { s with sec := { s.sec with bounce := { s.sec.bounce with waiting := s.sec.bounce.waiting ++ [r] } } }
  else s

/-- Write the first pending event record if the ring has room (16, R394, R395). -/
def writeEvent (s : State) : Option State :=
  match s.alm.ring, s.alm.pendingEv with
  | some (base, n), e :: t =>
    if s.alm.failed || s.alm.stopped then none
    else if (s.alm.evtTail - s.alm.evtHead).toNat < 2 ^ n then
      let bs := e.bytes s.alm.evtTail
      let s := { s with alm := { s.alm with pendingEv := t } }
      let s := devPut (base + 64 * (s.alm.evtTail.toNat % 2 ^ n)) bs s
      let s := { s with alm := { s.alm with evtTail := s.alm.evtTail + 1 } }
      some (bounceSend ⟨0x11, 0, 0, bs⟩ (msixSignal 0 s))
    else none
  | _, _ => none

/-- Once space has returned, EVENTS_LOST is posted ahead of any later event (16, R396). -/
def postLost (s : State) : State :=
  if s.alm.lost > 0 ∧ s.alm.pendingEv.length < 1024 ∧ s.alm.failed = false ∧ s.alm.stopped = false then
    { s with alm := { s.alm with pendingEv := s.alm.pendingEv ++ [⟨Ev.eventsLost, s.now, [s.alm.lost]⟩], lost := 0 } }
  else s

/-- Write pending event records while the ring has room. -/
def drainEvents : Nat → State → State
  | 0, s => s
  | n + 1, s =>
    match writeEvent s with
    | some s => drainEvents n (postLost s)
    | none => s

/-- What Almanac and Shutter do once a command's effect stands: pending event records are written while the ring has
room, then waiting outbound records are sent. -/
def settle (s : State) : State := bounceFlush (drainEvents (s.alm.pendingEv.length + 64) s)

/-- The outcome of a meaning: its effect, settled. -/
def finish (s : State) : Host.Outcome State Fault Refusal := .next (settle s)

end Sys2Proof.Machine
end

