-- ==== Sys2Proof/Machine/Flags.lean ====
section
/-!
DEFINITION. The words that registers and records are read as, composed from the state's fields: MBX_STATE,
DEV_STATUS, the flag registers and their counters (16, Tables 16-1 to 16-4), the records of Table 15-10, the hardware
status record of Table 21-15.
-/

namespace Sys2Proof.Machine

/-- A mailbox state as MBX_STATE.state. -/
def MbxSt.code : MbxSt → Nat
  | .idle => 0
  | .busy => 1
  | .done => 2

/-- MBX_STATE (16, Table 16-3). -/
def Mailbox.stateWord (m : Mailbox) : Nat :=
  m.status.toNat * 2 ^ 48 + m.doneSeq.toNat * 2 ^ 32 + m.runSeq.toNat * 2 ^ 16 + m.st.code

/-- The mode as DEV_STATUS.mode and the tenant record give it. -/
def Mode.code : Mode → Nat
  | .openMode => 0
  | .tenantIde => 1
  | .tenantBounce => 2

/-- The TDISP state as the tenant record gives it (15, Table 15-10). -/
def Tdisp.code : Tdisp → Nat
  | .configUnlocked => 0
  | .configLocked => 1
  | .run => 2
  | .error => 3

/-- DEV_STATUS.resetting. -/
def State.resetting (s : State) : Nat :=
  if s.sec.scrub.isSome then 3 else match s.boot.reset with
    | none => 0
    | some r => r.scope

/-- DEV_STATUS (16, Table 16-3). -/
def State.devStatus (s : State) : Nat :=
  0xB0 * 2 ^ 32 + 0x0402 * 2 ^ 16 + b2n s.pow.mpOwner * 2 ^ 11 + b2n s.alm.ring.isSome * 2 ^ 10 +
  b2n s.fab.fenced.isSome * 2 ^ 9 + b2n s.alm.failed * 2 ^ 8 + s.sec.mode.code * 2 ^ 6 + s.resetting * 2 ^ 4 +
  s.boot.phase * 2 + b2n s.boot.ready

/-- Four 16-bit counters in one word. -/
def packCounts (c : Nat → W16) (k : Nat) : Nat :=
  (List.range 4).foldl (fun x i => x + (c (4 * k + i)).toNat * 2 ^ (16 * i)) 0

/-- A value coarsened in a tenant mode: its low ten bits cleared (15, R372). -/
def State.coarse (s : State) (v : Nat) : Nat := if s.inTenant then v / 1024 * 1024 else v

/-- The mailbox register at an offset from the mailbox's base (16, Table 16-2). -/
def Mailbox.reg (m : Mailbox) (o : Nat) : Nat :=
  if o = 0 then m.cmd.toNat % 2 ^ 32
  else if o ≤ 0x40 then (m.args[o / 8 - 1]?.getD 0).toNat
  else if o = 0x50 then m.stateWord
  else if 0x58 ≤ o ∧ o ≤ 0x70 then (m.res[o / 8 - 11]?.getD 0).toNat
  else 0

/-- The 64-bit register of BAR0 page 0 at an aligned offset (16, Table 16-1). A reserved offset and a WO register read
0 (00, R15; log entry 22). -/
def State.page0 (s : State) (o : Nat) : Nat :=
  if o < 0x1000 then (s.alm.mbx[o / 0x100]?.getD {}).reg (o % 0x100)
  else match o with
    | 0x1000 => s.devStatus
    | 0x1008 => s.coarse s.alm.heartbeat.toNat
    | 0x1010 => s.now
    | 0x1018 => s.alm.evtTail.toNat
    | 0x1020 => s.alm.evtHead.toNat
    | 0x1028 => s.alm.mbxMissed.toNat * 2 ^ 16 + s.alm.mbxDone.toNat
    | 0x1030 => s.alm.errMissed.toNat * 2 ^ 16 + s.alm.errFlags.toNat
    | 0x1040 => packCounts (fun i => s.alm.doneCount[i]?.getD 0) 0
    | 0x1048 => packCounts (fun i => s.alm.doneCount[i]?.getD 0) 1
    | 0x1050 => packCounts (fun i => s.alm.doneCount[i]?.getD 0) 2
    | 0x1058 => packCounts (fun i => s.alm.doneCount[i]?.getD 0) 3
    | 0x1060 => packCounts (fun i => if i < 4 then s.alm.errCount[i]?.getD 0 else 0) 0
    | 0x1068 => (s.alm.errCount[4]?.getD 0).toNat
    | _ => 0

/-- Eight bytes of page 0 from any offset, little-endian. -/
def State.page0Bytes (s : State) (o : Nat) : Nat :=
  let lo := s.page0 (o / 8 * 8)
  let hi := s.page0 (o / 8 * 8 + 8)
  (lo + hi * 2 ^ 64) / 2 ^ (8 * (o % 8)) % 2 ^ 64

/-- Spare devices in use: bit 0 gs0, bit 1 gs1. -/
def State.spares (s : State) : Nat :=
  b2n (s.boot.report.gs0 != 0xFF) + 2 * b2n (s.boot.report.gs1 != 0xFF)

/-- The site of a group in the site map (14, R340). -/
def State.siteOf (s : State) (g : Nat) : Nat :=
  b2n (bit (s.fab.siteMap[g / 64]?.getD 0).toNat (g % 64))

/-- The fuse record (15, Table 15-10). -/
def State.fuseRecord (s : State) : List Nat :=
  [Config.serial.toNat, s.boot.retired.toNat * 2 ^ 32 + s.spares * 2 ^ 30 + 0xB0 * 2 ^ 8 + Config.svn.toNat, 0, 0]

/-- The debug record (15, Table 15-10). -/
def State.debugRecord (s : State) : Nat :=
  b2n Config.fuseLocked * 16 + b2n s.pow.mpEver * 8 + b2n s.pow.mpNow * 4 + b2n s.sec.jtagEver * 2 + b2n s.sec.jtagNow

/-- The partition record (15, Table 15-10). The site is that of the module's own group, 0 where no id is set. -/
def State.partitionRecord (s : State) : List Nat :=
  let id := s.fab.id.getD 0
  let grp := match s.fab.groups with
    | none => 0xFF
    | some n => n - 1
  let site := if s.fab.id.isSome then s.siteOf (id / 8) else 0
  [id + b2n s.fab.id.isSome * 2 ^ 10 + site * 2 ^ 23 + grp * 2 ^ 24 + b2n s.fab.siteEn * 2 ^ 51 +
   b2n s.fab.fenced.isSome * 2 ^ 52 + b2n s.fab.buddy.isSome * 2 ^ 53 + s.fab.buddy.getD 0 * 2 ^ 54, 0, 0, 0]

/-- The tenant record (15, Table 15-10). -/
def State.tenantRecord (s : State) : List Nat :=
  let keys := s.sec.keys.foldl (fun x k => x + 2 ^ k.1) 0
  [s.sec.mode.code + s.sec.tdisp.code * 2 ^ 8 + keys * 2 ^ 16 + s.sec.epoch.toNat * 2 ^ 32, s.sec.peers.length]

/-- A 384-bit digest as 48 bytes. -/
def digestBytes (d : BitVec 384) : List Byte := leBytes 48 d.toNat

/-- The value of a measurement index (15, Table 15-9, R359). -/
def State.measure (s : State) (i : Nat) : List Byte :=
  let image := fun (k : Nat) => digestBytes (Config.imageDigest k)
  let fw := match s.pow.running with
    | none => 2
    | some im => 16 + im.version * 256 + im.svn
  let upTo6 := image 1 ++ image fw ++ image 3 ++ image 4 ++ wordBytes s.fuseRecord ++ wordBytes [s.debugRecord]
  match i with
  | 1 => image 1
  | 2 => image fw
  | 3 => image 3
  | 4 => image 4
  | 5 => wordBytes s.fuseRecord
  | 6 => wordBytes [s.debugRecord]
  | 7 => wordBytes s.partitionRecord
  | 8 => wordBytes s.tenantRecord
  | 9 => digestBytes (Config.sha384 (upTo6 ++ (wordBytes s.partitionRecord).take 4))
  | _ => []

/-- The state digest (15, R359). -/
def State.digest (s : State) : List Byte := s.measure 9

/-- The rails as the hardware status record gives them (21, Table 21-15). -/
def Rails.code : Rails → Nat
  | .standby => 0
  | .up => 1
  | .on => 2
  | .down => 3

/-- The hardware status record (21, Table 21-15). -/
def State.hwStatus (s : State) : List Nat :=
  let p := s.pow
  [p.rails.code + b2n p.pwrGood * 16 + b2n p.pwrEn * 32 + b2n p.mpOwner * 64 + b2n p.mpNow * 128,
   p.mainMv % 2 ^ 32 + p.auxMv % 2 ^ 32 * 2 ^ 32,
   p.latched.cause + p.latched.kind * 2 ^ 8 + p.latched.index * 2 ^ 16 + p.latched.value % 2 ^ 32 * 2 ^ 32,
   match p.imageB with
   | none => 0
   | some im => im.svn % 2 ^ 32 + im.version % 2 ^ 32 * 2 ^ 32]

end Sys2Proof.Machine
end

