-- ==== Sys2Proof/Machine/Mailbox.lean ====
section
/-!
DEFINITION. The mailbox protocol (16, R382–R391): the arguments each command names, the checks every command passes
first, buffers, completion.
-/

namespace Sys2Proof.Machine

/-- The groups of long commands (16, Table 16-7). -/
inductive Group
  | P
  | M
  | S
  | I
  | C
  | R
deriving DecidableEq, Repr

/-- What Tables 16-7 and 16-8 say of a command before its own checks. -/
structure CmdSpec where
  /-- The timeout T in µs (R386). -/
  t : Nat
  /-- The bits that the command names in MBX_ARG0, MBX_ARG1, …; none in those not listed. -/
  masks : List Nat
  group : Option Group := none
  /-- Marked "op" (R390). -/
  op : Bool := false
  /-- Accepted only in a tenant mode. -/
  tenant : Bool := false
  /-- Accepted only under the conditions of R151. -/
  cfg : Bool := false
  /-- Accepted before readiness (R385). -/
  early : Bool := false

/-- The mask of an address argument, of a whole word, of bits `hi..lo`. -/
def mAddr : Nat := 2 ^ 52 - 1
def mAll : Nat := 2 ^ 64 - 1
def mBits (hi lo : Nat) : Nat := 2 ^ (hi + 1) - 2 ^ lo

/-- Tables 16-7 and 16-8. -/
def cmdSpec (op : Nat) : Option CmdSpec :=
  match op with
  | 0x0001 => some { t := 100, masks := [], early := true }
  | 0x0002 => some { t := 10, masks := [mAll], early := true }
  | 0x0003 => some { t := 1000, masks := [mAddr, mBits 4 0], early := true }
  | 0x0101 => some { t := 100, masks := [mBits 55 40 + mBits 36 32 + mBits 29 0, mAddr, mAddr, mAddr] }
  | 0x0102 => some { t := 100, masks := [mBits 15 0] }
  | 0x0103 => some { t := 100, masks := [mBits 7 0] }
  | 0x0104 => some { t := 100, masks := [mBits 7 0] }
  | 0x0105 => some { t := 1000, masks := [mBits 7 0] }
  | 0x0106 => some { t := 100, masks := [mAll, mAll] }
  | 0x0107 => some { t := 300000, masks := [mAddr, mAll], group := some .P }
  | 0x0108 => some { t := 1000, masks := [mBits 5 0] }
  | 0x0109 => some { t := 1000, masks := [mBits 11 8 + mBits 5 0], cfg := true }
  | 0x0201 => some { t := 600000, masks := [mBits 31 0], group := some .M, cfg := true }
  | 0x0202 => some { t := 100, masks := [mBits 9 8 + mBits 1 0] }
  | 0x0203 => some { t := 10000, masks := [mBits 0 0, mAddr, mAll] }
  | 0x0204 => some { t := 1000, masks := [mAddr, mBits 31 24 + mBits 20 16 + mBits 15 8 + mBits 3 0, mAddr, mAll, mAddr, mAll], cfg := true }
  | 0x0301 => some { t := 1000, masks := [mAddr, mBits 16 0, mAddr, mBits 3 0], cfg := true }
  | 0x0302 => some { t := 100, masks := [mAll], cfg := true }
  | 0x0303 => some { t := 2000, masks := [mBits 13 0, mBits 14 0, mAddr] }
  | 0x0304 => some { t := 100, masks := [mBits 19 16 + mBits 13 0, mAll, mAll] }
  | 0x0401 => some { t := 20000, masks := [mAddr, mBits 16 0, mAddr, mBits 8 0, mAll], group := some .S, cfg := true }
  | 0x0402 => some { t := 5000000, masks := [mAddr, mBits 12 0, mBits 31 16 + mBits 6 0], group := some .S, cfg := true }
  | 0x0403 => some { t := 1000, masks := [mAddr, mBits 12 0], cfg := true }
  | 0x0501 => some { t := 100, masks := [mAddr] }
  | 0x0502 => some { t := 100, masks := [mBits 29 0, mBits 0 0], op := true }
  | 0x0503 => some { t := 1000, masks := [mBits 15 8 + mBits 4 0, mAddr, mAddr], op := true }
  | 0x0504 => some { t := 1000, masks := [mBits 7 0], op := true }
  | 0x0505 => some { t := 100, masks := [mBits 24 24 + mBits 22 16 + mBits 14 8 + mBits 6 0], op := true }
  | 0x0506 => some { t := 100, masks := [mBits 15 0, mAll], op := true }
  | 0x0507 => some { t := 1000, masks := [mBits 9 0], op := true }
  | 0x0508 => some { t := 10000, masks := [mAddr] }
  | 0x0509 => some { t := 1000, masks := [mBits 11 0] }
  | 0x050A => some { t := 10000, masks := [mBits 31 16 + mBits 11 0, mAddr] }
  | 0x050B => some { t := 100, masks := [mAll, mAll, mBits 0 0], op := true }
  | 0x050C => some { t := 100, masks := [] }
  | 0x050D => some { t := 1000, masks := [mBits 31 16 + mBits 10 0, mAddr, mAll], op := true }
  | 0x0601 => some { t := 30000000, masks := [mBits 3 0, mAddr, mAddr], group := some .I, tenant := true }
  | 0x0701 => some { t := 100, masks := [mBits 33 0] }
  | 0x0702 => some { t := 100, masks := [mBits 11 0, mAll], op := true }
  | 0x0703 => some { t := 2000, masks := [mAll, mAddr, mAll] }
  | 0x0704 => some { t := 1000, masks := [mAddr, mAll] }
  | 0x0801 => some { t := 120000000, masks := [mBits 15 8 + mBits 1 0, mAddr, mAll], group := some .C }
  | 0x0802 => some { t := 300000000, masks := [mBits 0 0, mAddr, mAll], group := some .C }
  | 0x0803 => some { t := 5000, masks := [mAddr, mAll] }
  | 0x0804 => some { t := 10000, masks := [mAll], group := some .C }
  | 0x0805 => some { t := 5000, masks := [mAddr, mAll] }
  | 0x0901 => some { t := 1000000, masks := [mBits 20 16 + mBits 9 8 + mBits 1 0], group := some .R, early := true }
  | 0x0902 => some { t := 100000, masks := [], op := true }
  | 0x0903 => some { t := 61000000, masks := [mBits 19 16 + mBits 8 0, mAll], group := some .M, op := true, cfg := true }
  | 0x0904 => some { t := 10000000, masks := [mBits 8 0, mAddr, mAll], group := some .M, op := true, cfg := true }
  | 0x0905 => some { t := 100, masks := [mBits 0 0, mAll, mAll] }
  | 0x0906 => some { t := 5000, masks := [mAddr, mAll], early := true }
  | 0x0A01 => some { t := 1000, masks := [mBits 1 0, mAll], op := true }
  | 0x0A02 => some { t := 100, masks := [] }
  | 0x0A03 => some { t := 1000, masks := [mBits 17 8 + mBits 3 0, mAddr] }
  | 0x0A04 => some { t := 1000, masks := [mBits 3 0, mAddr, mAll] }
  | 0x0A05 => some { t := 1000, masks := [mAddr, mAll] }
  | 0x0A06 => some { t := 1000, masks := [mBits 31 0, mBits 15 0], op := true }
  | n => if 0x0F01 ≤ n ∧ n ≤ 0x0F0C then some { t := 5000, masks := [mAddr, mAll] } else none

/-- A mailbox of the sixteen. -/
def State.mailbox (s : State) (m : Fin 16) : Mailbox := s.alm.mbx[m]

/-- Change a mailbox. -/
def setMbx (m : Fin 16) (f : Mailbox → Mailbox) (s : State) : State :=
  { s with alm := { s.alm with mbx := s.alm.mbx.set m (f s.alm.mbx[m]) } }

/-- The argument words of an accepted command. -/
abbrev Args := Vector W64 8

/-- Argument word `i` as a number. -/
def Args.n (a : Args) (i : Nat) : Nat := (a[i]?.getD 0).toNat

/-- Step 2 of R385: is a bit set that the command does not name? -/
def argsReserved (masks : List Nat) (a : Args) : Bool :=
  (List.range 8).any fun i => (a.n i) &&& (2 ^ 64 - 1 - masks.getD i 0) != 0

/-- Every stream is halted, and no doorbell has been accepted since the last FULL or COMPUTE reset (06, R151). -/
def State.configIdle (s : State) : Bool := !s.mer.rung && s.mer.streams.all fun p => p.2.halted

/-- A long command of the group is in progress on another mailbox (R384). -/
def groupBusy (g : Group) (m : Fin 16) (s : State) : Bool :=
  (List.finRange 16).any fun k =>
    k != m && (s.mailbox k).st == .busy && (s.mailbox k).started &&
    (match cmdSpec (s.mailbox k).accOp with
     | some c => c.group == some g
     | none => false)

/-- RESET_MODULE with scope FULL is never refused BUSY (R384). -/
def isFullReset (op : Nat) (a : Args) : Bool := op == 0x0901 && a.n 0 % 4 == 0

/-- Steps 2 to 5 of R385, in order: the status of the first failure. With the boot ROM alone running only
GET_DEVICE_INFO and READ_BRINGUP_REPORT are answered (19, R453; log entry 21). -/
def mbxChecks (op : Nat) (c : CmdSpec) (m : Fin 16) (s : State) : Option Nat :=
  let x := s.mailbox m
  if argsReserved c.masks x.accArgs then some St.argReserved
  else if !s.boot.ready && !c.early then some St.notReady
  else if s.boot.phase = 5 ∧ s.boot.report.cause = 1 ∧ op ≠ 0x0001 ∧ op ≠ 0x0906 then some St.notReady
  else if s.inTenant && c.op && !x.fromPort then some St.tenantRefused
  else if !s.inTenant && c.tenant then some St.notTenant
  else if isFullReset op x.accArgs then none
  else if c.group.any (fun g => groupBusy g m s) || (c.group == some .R && s.boot.reset.isSome) then some St.busy
  else if c.cfg && !s.configIdle then some St.configBusy
  else if op = 0x0201 ∧ !s.tiers.fills.isEmpty then some St.memBusy
  else none

/-- How a command's own part ends: it completes with a status and results, it goes on in the background, or it has
reset the module and writes no completion. -/
inductive Reply
  | done (status : Nat) (res : List Nat) (s : State)
  | run (s : State)
  | gone (s : State)

/-- The registers of a completion as an outbound record carries them (15, R366). -/
def Mailbox.completion (x : Mailbox) : List Byte :=
  wordBytes (x.stateWord :: (x.res.toList.map fun w => w.toNat) ++ [0, 0, 0])

/-- Complete the command of a mailbox (16, R383). -/
def mbxComplete (m : Fin 16) (status : Nat) (res : List Nat) (s : State) : State :=
  let s := setMbx m (fun x => { x with
    res := Vector.ofFn fun i => BitVec.ofNat 64 (res.getD i 0)
    status := BitVec.ofNat 16 status
    doneSeq := x.runSeq
    st := .done
    started := false
    progress := 0 }) s
  let s := { s with alm := { s.alm with shortQ := s.alm.shortQ.filter (· != m.val) } }
  bounceSend ⟨0x12, 0, 0, (s.mailbox m).completion⟩ (msixSignal (1 + m.val) (setMbxDone m.val s))

/-- The state of a command that ends: what its own part answers, completed or left running. -/
def Reply.settle (m : Fin 16) : Reply → State
  | .done st res s => mbxComplete m st res s
  | .run s => setMbx m (fun x => { x with started := true }) s
  | .gone s => s

/-- Is the accepted command of mailbox `m` this one, and its turn? Short commands run one at a time in the order of
their doorbells (R384). -/
def mbxDue (op : Nat) (sel : Args → Bool) (m : Fin 16) (s : State) : Bool :=
  let x := s.mailbox m
  s.almanacUp && x.st == .busy && x.accOp == op && !x.started && sel x.accArgs &&
  (match cmdSpec op with
   | none => false
   | some c => c.group.isSome || s.alm.shortQ.head? == some m.val)

/-- A mailbox command at the moment Almanac executes it: the checks of R385, then its own part. A command row that no
mailbox holds changes nothing (log entry 20). -/
def mbxCommand (op : Nat) (sel : Args → Bool) (m : Fin 16) (body : Args → State → Reply) (s : State) :
    Host.Outcome State Fault Refusal :=
  if mbxDue op sel m s then
    match cmdSpec op with
    | none => finish s
    | some c =>
      match mbxChecks op c m s with
      | some st => finish (mbxComplete m st [] s)
      | none => finish ((body (s.mailbox m).accArgs s).settle m)
  else finish s

/-- What a long command would report as its progress (R386). -/
def setProgress (m n : Nat) (s : State) : State := if h : m < 16 then setMbx ⟨m, h⟩ (fun x => { x with progress := n }) s else s

/-- Every argument word selects the row. -/
def anyArgs : Args → Bool := fun _ => true

/-- Is the long command of mailbox `m` with this opcode running? -/
def mbxRuns (op : Nat) (m : Fin 16) (s : State) : Bool :=
  let x := s.mailbox m
  s.almanacUp && x.st == .busy && x.accOp == op && x.started

/-- Step 7 of R385: a buffer's faults, with the address that MBX_RES3 holds. -/
def bufCheck (a n align : Nat) (s : State) : Option (Nat × Nat) :=
  if !aligned a align then some (St.addrMisaligned, a)
  else match firstReserved a (max n 1) with
    | some _ => some (St.addrReserved, a)
    | none =>
      match regionOf a with
      | some r =>
        let ok := match r with
          | .gddr7 => true
          | .lpddr => true
          | .hostWin => s.hostWinOk
          | _ => false
        if ok && decide (a + n ≤ r.hi) then none else some (St.addrDenied, a)
      | none => some (St.addrReserved, a)

/-- A refusal for a buffer address. -/
def bufFault (f : Nat × Nat) (s : State) : Reply := .done f.1 [0, 0, 0, f.2] s

/-- The end of a command that writes `bs` to an output buffer of `len` bytes: BUFFER_SMALL gives the size needed. -/
def replyBytes (a len align : Nat) (bs : List Byte) (more : List Nat) (s : State) : Reply :=
  match bufCheck a len align s with
  | some f => bufFault f s
  | none =>
    if len < bs.length then .done St.bufferSmall [bs.length] s
    else .done St.ok (bs.length :: more) (devPut a bs s)

/-- Almanac reads an input buffer: POISONED where it meets poison. -/
def readBuffer (a n align : Nat) (s : State) (k : List Byte → State → Reply) : Reply :=
  match bufCheck a n align s with
  | some f => bufFault f s
  | none =>
    let (p, bs, s) := devRead a n s
    match p with
    | some _ => .done St.poisoned [] s
    | none => k bs s

/-- A doorbell is not accepted (R382). -/
def mbxRefuse (m : Fin 16) (v : Nat) (s : State) : State :=
  post Ev.mailboxDoorbellInvalid [m.val, v] (setErr 1 s)

/-- A doorbell of mailbox `m`, with the value written (R382). An opcode outside the tables completes at once. One
written before Almanac runs is observed when it does (log entry 21). -/
def mbxDoorbell (m : Fin 16) (v : Nat) (fromPort : Bool) (s : State) : State :=
  if !s.almanacUp then
    if s.powered && !s.alm.failed && !s.alm.stopped then { s with alm := { s.alm with bells := s.alm.bells ++ [(m.val, v)] } } else s
  else
    let x := s.mailbox m
    let seq := BitVec.ofNat 16 v
    let op := x.cmd.toNat % 65536
    if x.st = .busy ∨ seq.toNat ≠ x.cmd.toNat / 65536 % 65536 ∨ seq = x.doneSeq then mbxRefuse m v s
    else
      let s := setMbx m (fun x => { x with
        runSeq := seq, st := .busy, accOp := op, accArgs := x.args, started := false, progress := 0
        fromPort := fromPort, accAt := s.cyc }) s
      match cmdSpec op with
      | none => mbxComplete m St.opcodeUnknown [] s
      | some c =>
        if c.group.isSome then s
        else { s with alm := { s.alm with shortQ := s.alm.shortQ ++ [m.val] } }

/-- Every command in progress ends with a status, but for the mailbox that `keep` names: a short command with no
effect, a long one with its progress standing (R388). -/
def mbxEndAll (status : Nat) (keep : Option Nat) (s : State) : State :=
  (List.finRange 16).foldl (fun s m =>
    if (s.mailbox m).st == .busy && keep != some m.val then mbxComplete m status [(s.mailbox m).progress] s else s) s

/-- Merge the bytes written into a word. -/
def mergeWord (old : W64) (off width v : Nat) : W64 :=
  let sh := 8 * (off % 8)
  let mask := (2 ^ (8 * width) - 1) * 2 ^ sh
  BitVec.ofNat 64 ((old.toNat &&& (2 ^ 64 - 1 - mask)) ||| ((v * 2 ^ sh) &&& mask))

/-- A write of a mailbox register but for its doorbell (16, Table 16-2): ignored while BUSY, and where read-only or
reserved. -/
def mbxRegWrite (m : Fin 16) (o width v : Nat) (s : State) : State :=
  if (s.mailbox m).st = .busy then s
  else if o < 8 then
    setMbx m (fun x => { x with cmd := BitVec.ofNat 64 ((mergeWord x.cmd o width v).toNat % 2 ^ 32) }) s
  else if o < 0x48 then
    setMbx m (fun x => { x with
      args := x.args.setIfInBounds (o / 8 - 1) (mergeWord (x.args[o / 8 - 1]?.getD 0) o width v) }) s
  else s

end Sys2Proof.Machine
end

