-- ==== Sys2Proof/Machine/Almanac.lean ====
section
/-!
DEFINITION. Chapter 16: the general commands, the counter commands, the flag registers, the event ring, Almanac's
heartbeat and failure, interrupt moderation.
-/

namespace Sys2Proof.Machine

/-! General commands. -/

/-- GET_DEVICE_INFO (16, Table 16-7). -/
def execGetDeviceInfo (m : Fin 16) (s : State) : Host.Outcome State Fault Refusal :=
  mbxCommand 0x0001 anyArgs m (fun _ s =>
    .done St.ok
      [0x00040002 * 2 ^ 32 + 0x0402 * 2 ^ 16 + 0xB0 * 2 ^ 8,
       Config.serial.toNat,
       s.boot.retired.toNat * 2 ^ 32 + s.spares * 2 ^ 16 + 0x0009,
       b2n s.fab.id.isSome * 2 ^ 10 + s.fab.id.getD 0] s) s

/-- NOP (16, Table 16-7). -/
def execNop (m : Fin 16) (s : State) : Host.Outcome State Fault Refusal :=
  mbxCommand 0x0002 anyArgs m (fun a s => .done St.ok [a.n 0] s) s

/-- SET_EVENT_RING (16, R394). -/
def execSetEventRing (m : Fin 16) (s : State) : Host.Outcome State Fault Refusal :=
  mbxCommand 0x0003 anyArgs m (fun a s =>
    let n := a.n 1
    if n < 6 ∨ n > 16 then .done St.argInvalid [] s
    else match bufCheck (a.n 0) (64 * 2 ^ n) 4096 s with
      | some f => bufFault f s
      | none => .done St.ok [] { s with alm := { s.alm with
          ring := some (a.n 0, n), evtHead := 0, evtTail := 0, evtFloor := 0 } }) s

/-! Counters (16, R393). -/

/-- Counters that only the passing of time moves: the model does not count them, and a reading is a free value (log
entry 5). -/
def Counter.timed : Counter → Bool
  | .finderFull => true
  | .refreshNs => true
  | _ => false

/-- The value of a counter, as a 64-bit word. -/
def State.counter (s : State) (c : Counter) (i : Nat) : Nat :=
  match c with
  | .deficit => sword (s.mer.deficit[i]?.getD 0)
  | .dirtyActive =>
    s.tiers.active.countP fun g => decide (g * 65536 < 0x10000000000) == (i == 0)
  | _ => s.ctr.get c i

/-- Append the words of one counter over its scope, coarsened in a tenant mode (15, R372). -/
def counterWords (c : Counter) (s : State) : List Nat × State :=
  (List.range c.scope.count).foldl (fun p i =>
    let (v, s) := if c.timed then draw p.2 else (p.2.counter c i, p.2)
    (p.1 ++ [s.coarse v % 2 ^ 64], s)) ([], s)

/-- The array of a counter table. -/
def tableWords (t : CTable) (s : State) : List Nat × State :=
  t.rows.foldl (fun p c =>
    let (w, s) := counterWords c p.2
    (p.1 ++ w, s)) ([], s)

/-- A READ_*_COUNTERS command. -/
def readCounters (t : CTable) (a : Args) (s : State) : Reply :=
  let (w, s') := tableWords t s
  match replyBytes (a.n 0) (a.n 1) 1 (wordBytes w) [] s' with
  | .done st r s'' => .done st r (if st = St.ok then s'' else s)
  | r => r

/-- READ_SCHED_COUNTERS (Table 5-6). -/
def execReadSchedCounters (m : Fin 16) (s : State) : Host.Outcome State Fault Refusal :=
  mbxCommand 0x0F01 anyArgs m (readCounters .sched) s

/-- READ_STREAM_COUNTERS (Table 6-7). -/
def execReadStreamCounters (m : Fin 16) (s : State) : Host.Outcome State Fault Refusal :=
  mbxCommand 0x0F02 anyArgs m (readCounters .stream) s

/-- READ_MEMORY_COUNTERS (Table 7-8). -/
def execReadMemoryCounters (m : Fin 16) (s : State) : Host.Outcome State Fault Refusal :=
  mbxCommand 0x0F03 anyArgs m (readCounters .memory) s

/-- READ_STASH_COUNTERS (Table 8-7). -/
def execReadStashCounters (m : Fin 16) (s : State) : Host.Outcome State Fault Refusal :=
  mbxCommand 0x0F04 anyArgs m (readCounters .stash) s

/-- READ_NUMERIC_COUNTERS (Table 9-10). -/
def execReadNumericCounters (m : Fin 16) (s : State) : Host.Outcome State Fault Refusal :=
  mbxCommand 0x0F05 anyArgs m (readCounters .numeric) s

/-- READ_PHOTOMETER_COUNTERS (Table 10-4). -/
def execReadPhotometerCounters (m : Fin 16) (s : State) : Host.Outcome State Fault Refusal :=
  mbxCommand 0x0F06 anyArgs m (readCounters .photometer) s

/-- READ_SPECTRO_COUNTERS (Table 11-13). -/
def execReadSpectroCounters (m : Fin 16) (s : State) : Host.Outcome State Fault Refusal :=
  mbxCommand 0x0F07 anyArgs m (readCounters .spectro) s

/-- READ_EPHEMERIS_COUNTERS (Table 12-5). -/
def execReadEphemerisCounters (m : Fin 16) (s : State) : Host.Outcome State Fault Refusal :=
  mbxCommand 0x0F08 anyArgs m (readCounters .ephemeris) s

/-- READ_FABRIC_COUNTERS (Table 13-14). -/
def execReadFabricCounters (m : Fin 16) (s : State) : Host.Outcome State Fault Refusal :=
  mbxCommand 0x0F09 anyArgs m (readCounters .fabric) s

/-- READ_COLLECTIVE_COUNTERS (Table 14-8). -/
def execReadCollectiveCounters (m : Fin 16) (s : State) : Host.Outcome State Fault Refusal :=
  mbxCommand 0x0F0A anyArgs m (readCounters .collective) s

/-- READ_HOST_COUNTERS (Table 15-17). -/
def execReadHostCounters (m : Fin 16) (s : State) : Host.Outcome State Fault Refusal :=
  mbxCommand 0x0F0B anyArgs m (readCounters .host) s

/-- READ_RELIABILITY_COUNTERS (Table 17-8). -/
def execReadReliabilityCounters (m : Fin 16) (s : State) : Host.Outcome State Fault Refusal :=
  mbxCommand 0x0F0C anyArgs m (readCounters .reliability) s

/-! Registers of page 0 that act on a write. -/

/-- A write of MBX_DONE (16, R380, Table 16-4): `v` holds the bits written, `meets` the done bits whose set falls in
the same HCLK cycle. Such a bit stays 1 and its missed bit is set; a set is counted where it is made. -/
def clearMbxDone (v meets : Nat) (s : State) : State :=
  let a := s.alm
  let clr := BitVec.ofNat 16 v
  let hit := BitVec.ofNat 16 meets &&& a.mbxDone
  let mclr := BitVec.ofNat 16 (v / 2 ^ 16)
  { s with alm := { a with
    mbxDone := a.mbxDone &&& ~~~(clr &&& ~~~hit)
    mbxMissed := (a.mbxMissed &&& ~~~mclr) ||| (clr &&& hit) } }

/-- A write of ERR_SUMMARY (16, R380, Table 16-4). -/
def clearErrSummary (v meets : Nat) (s : State) : State :=
  let a := s.alm
  let clr := BitVec.ofNat 5 v
  let hit := BitVec.ofNat 5 meets &&& a.errFlags
  let mclr := BitVec.ofNat 5 (v / 2 ^ 16)
  { s with alm := { a with
    errFlags := a.errFlags &&& ~~~(clr &&& ~~~hit)
    errMissed := (a.errMissed &&& ~~~mclr) ||| (clr &&& hit) } }

/-- A write that a register refuses (16, R379). -/
def refuseWrite (s : State) : State := setErr 2 s

/-- A write of EVT_HEAD (16, R379): refused past EVT_TAIL, or below the value it held at SET_EVENT_RING. -/
def writeEvtHead (v : W32) (s : State) : State :=
  if (s.alm.evtTail - v).toNat ≤ (s.alm.evtTail - s.alm.evtFloor).toNat then
    { s with alm := { s.alm with evtHead := v } }
  else refuseWrite s

/-! Almanac's own clock. -/

/-- ALMANAC_HEARTBEAT_TICK (16, Table 16-1): Almanac counts 1 ms of Chronograph time. -/
def execAlmanacHeartbeatTick (s : State) : Host.Outcome State Fault Refusal :=
  if s.almanacUp then finish { s with alm := { s.alm with heartbeat := s.alm.heartbeat + 1 } } else finish s

/-- ALMANAC_FAILED (16, R387): the heartbeat has not changed for 10 ms of HCLK time. -/
def execAlmanacFailed (s : State) : Host.Outcome State Fault Refusal :=
  if s.powered && decide (s.boot.phase ≥ 2) && !s.alm.failed then
    let s := { s with alm := { s.alm with failed := true } }
    finish (setErr 3 s)
  else finish s

/-! Interrupt moderation (16, R398). -/

/-- A completion ring's tail has advanced: its vector is signalled, or at the end of its interval. -/
def cplSignal (vec moder : Nat) (s : State) : State :=
  if vec = 0xFF then s
  else
    let u := moder * 1000
    match kvFind vec s.host.vecLast with
    | some t0 =>
      if u ≠ 0 ∧ s.cyc < t0 + u then { s with host := { s.host with vecWait := kvSet vec true s.host.vecWait } }
      else msixSignal vec { s with host := { s.host with vecLast := kvSet vec s.cyc s.host.vecLast } }
    | none => msixSignal vec { s with host := { s.host with vecLast := kvSet vec s.cyc s.host.vecLast } }

/-- MSIX_MODERATION_EXPIRY (16, R398): the interval of a vector on which an advance waits ends. -/
def execMsixModerationExpiry (vec : Nat) (s : State) : Host.Outcome State Fault Refusal :=
  if kvGet false vec s.host.vecWait then
    finish (msixSignal vec { s with host := { s.host with
      vecWait := kvDel vec s.host.vecWait, vecLast := kvSet vec s.cyc s.host.vecLast } })
  else finish s

end Sys2Proof.Machine
end

