-- ==== Sys2Proof/Machine/Links.lean ====
section
/-!
DEFINITION. Packets on the wire (13, Table 13-9), and the codewords that carry them and the link flits (R299, R300).
-/

namespace Sys2Proof.Machine

/-! Headers. -/

/-- The type field (13, Table 13-10). -/
def PType.code : PType → Nat
  | .write => 0
  | .readReq => 1
  | .readRsp => 2
  | .writeAck => 3
  | .semOp => 4
  | .semWatch => 5
  | .watchRsp => 6
  | .watchCancel => 7
  | .collData => 8
  | .collCtrl => 9
  | .mgmt => 10
  | .other v => v

/-- The type of a code. -/
def PType.ofCode (v : Nat) : PType :=
  match v with
  | 0 => .write
  | 1 => .readReq
  | 2 => .readRsp
  | 3 => .writeAck
  | 4 => .semOp
  | 5 => .semWatch
  | 6 => .watchRsp
  | 7 => .watchCancel
  | 8 => .collData
  | 9 => .collCtrl
  | 10 => .mgmt
  | n => .other n

/-- The class a type has (13, Table 13-10): 0 REQ, 1 RSP, 2 LC. -/
def Packet.wantCls (p : Packet) : Nat :=
  match p.typ with
  | .write => 0
  | .readReq => if p.lenM1 < 256 then 2 else 0
  | .readRsp => 1
  | .writeAck => 1
  | .semOp => 2
  | .semWatch => 2
  | .watchRsp => 1
  | .watchCancel => 2
  | .collData => 0
  | .collCtrl => 2
  | .mgmt => 2
  | .other _ => 0

/-- Data flits of a packet. -/
def Packet.nflits (p : Packet) : Nat := ceilDiv p.data.length 64

/-- Flits of a packet, its header among them. -/
def Packet.flits (p : Packet) : Nat := 1 + p.nflits

/-- The virtual channel (13, Table 13-8). -/
def Packet.vc (p : Packet) : Nat :=
  if p.cls = 0 then min p.level 2 else if p.cls = 1 then 3 + min p.level 2 else 6 + min p.level 1

/-- The header words with the CRC field 0 (13, Table 13-9). -/
def Packet.bare (p : Packet) : List Nat :=
  [p.rsv.getD 0 0 + p.glink * 2 ^ 4 + p.nflits * 2 ^ 11 + p.flow * 2 ^ 17 + p.src * 2 ^ 25 + p.dst * 2 ^ 35 + p.igroup * 2 ^ 45 +
     b2n p.val * 2 ^ 52 + b2n p.ack * 2 ^ 53 + b2n p.det * 2 ^ 54 + p.level * 2 ^ 55 + p.cls * 2 ^ 57 +
     p.typ.code * 2 ^ 60,
   p.addr % 2 ^ 52 + p.rsv.getD 1 0 * 2 ^ 52,
   p.operand % 2 ^ 32 + p.op * 2 ^ 32 + p.status * 2 ^ 36 + p.lenM1 * 2 ^ 40 + p.tdie * 2 ^ 51 + p.token * 2 ^ 52,
   p.coll, p.mgmt.getD 0 0, p.mgmt.getD 1 0, p.mgmt.getD 2 0, p.rsv.getD 2 0 * 2 ^ 32]

/-- The data flits' bytes. -/
def Packet.padded (p : Packet) : List Byte := p.data ++ List.replicate (64 * p.nflits - p.data.length) 0

/-- The header words as sent: a packet that came with a wrong CRC leaves with one. -/
def Packet.words (p : Packet) : List Nat :=
  let crc := (crc32c (wordBytes p.bare ++ p.padded)).toNat
  p.bare.take 7 ++ [p.rsv.getD 2 0 * 2 ^ 32 + (if p.crcOk then crc else crc ^^^ 1)]

/-- The packet of a header and its data flits. -/
def Packet.ofFlits (h : List Nat) (data : List Byte) : Packet :=
  let q := fun i => h.getD i 0
  let p : Packet := {
    typ := PType.ofCode (bits (q 0) 63 60), cls := bits (q 0) 59 57, level := bits (q 0) 56 55, det := bit (q 0) 54
    ack := bit (q 0) 53, val := bit (q 0) 52, igroup := bits (q 0) 51 45, dst := bits (q 0) 44 35
    src := bits (q 0) 34 25, flow := bits (q 0) 24 17, glink := bits (q 0) 10 4
    addr := bits (q 1) 51 0, token := bits (q 2) 63 52, tdie := bits (q 2) 51 51, lenM1 := bits (q 2) 50 40
    status := bits (q 2) 39 36, op := bits (q 2) 35 32, operand := bits (q 2) 31 0, coll := q 3
    mgmt := [q 4, q 5, q 6], data := data, rsv := [bits (q 0) 3 0, bits (q 1) 63 52, bits (q 7) 63 32] }
  { p with crcOk := (crc32c (wordBytes p.bare ++ p.padded)).toNat == bits (q 7) 31 0 }

/-- COLL_CTRL and MGMT kinds (14, Table 14-7), with no bit set that the kind does not name. -/
def Packet.mgmtOk (p : Packet) : Bool :=
  let k := p.mgmt.getD 0 0
  let q5 := p.mgmt.getD 1 0
  let q6 := p.mgmt.getD 2 0
  let low := fun n => k % 2 ^ 56 < 2 ^ n
  match p.typ, k / 2 ^ 56 with
  | .mgmt, 1 => low 48 && q5 == 0 && q6 == 0
  | .mgmt, 2 => low 17 && decide (k % 65536 ≤ 128) && q6 == 0
  | .mgmt, 3 => low 1 && q6 == 0
  | .mgmt, 4 => low 32 && q5 == 0 && q6 == 0
  | .collCtrl, 0x10 => low 0 && q5 == 0 && q6 == 0
  | .collCtrl, 0x11 => low 8 && q5 == 0 && q6 == 0
  | _, _ => false

/-- No reserved value, and the shape its type asks for (13, R310; 14, R338, R339). -/
def Packet.wellFormed (p : Packet) : Bool :=
  let isColl := p.typ == .collData || p.typ == .collCtrl
  let isMgmt := p.typ == .mgmt || p.typ == .collCtrl
  let n := p.nflits
  p.rsv == [0, 0, 0] && p.cls == p.wantCls && decide (p.level < 3) && decide (n ≤ 32) &&
  (isColl || p.coll == 0) && (isMgmt || p.mgmt == [0, 0, 0]) && (!isMgmt || p.mgmtOk) &&
  (!isColl || (decide (1 ≤ bits p.coll 63 52) && bits p.coll 7 0 == 0)) &&
  (match p.typ with
   | .write => decide (1 ≤ n) && aligned p.addr 64
   | .readReq => n == 0 && decide (p.addr % 2048 + p.lenM1 + 1 ≤ 2048)
   | .readRsp => decide (p.status ≤ 4)
   | .writeAck => n == 0 && decide (p.status ≤ 4)
   | .semOp => n == 0 && aligned p.addr 8 && decide (p.op ≤ 1)
   | .semWatch => n == 0 && aligned p.addr 8
   | .watchRsp => n == 0 && decide (p.op ≤ 2) && decide (p.status ≤ 4)
   | .watchCancel => n == 0
   | .collData => decide (1 ≤ n) && aligned p.addr 64
   | .collCtrl => n == 0 && p.addr == 0 && !bit p.coll 19
   | .mgmt => n == 0
   | .other _ => false)

/-! Ports. -/

/-- A port. -/
def State.port (s : State) (i : Nat) : Port := kvGet {} i s.fab.ports

/-- Change a port. -/
def setPortAt (i : Nat) (f : Port → Port) (s : State) : State :=
  { s with fab := { s.fab with ports := kvMod {} i f s.fab.ports } }

/-- The state field of Table 13-7. -/
def PortSt.code : PortSt → Nat
  | .down => 0
  | .detect => 1
  | .train => 2
  | .length => 3
  | .caps => 4
  | .active => 5
  | .failed => 6

/-- The die of a port (21, Table 21-1). -/
def portDie (i : Nat) : Nat := if i < 7 then 0 else if i < 14 then 1 else if i < 22 then 0 else 1

/-! Codewords (13, R299, Table 13-3). -/

/-- The control field of a codeword. -/
def Codeword.control (c : Codeword) : Nat := c.lpos * 2 ^ 16 + c.seq.toNat % 256 * 2 ^ 8

/-- A codeword goes out on a port and into its replay buffer. -/
def sendCodeword (i lpos : Nat) (fs : List (List Nat × Bool)) (s : State) : State :=
  let c : Codeword := ⟨(s.port i).txSeq, lpos, fs.map Prod.fst, fs.countP Prod.snd⟩
  emit (.codeword i c.control c.flits)
    (setPortAt i (fun p => { p with txSeq := p.txSeq + 1, replay := p.replay ++ [c] }) s)

/-- The flits that wait go out, ten to a codeword, the last of which may be filled in part. -/
def sendCodewords : Nat → Nat → State → State
  | 0, _, s => s
  | n + 1, i, s =>
    match (s.port i).cw with
    | [] => s
    | fs => sendCodewords n i (sendCodeword i 15 (fs.take 10) (setPortAt i (fun p => { p with cw := fs.drop 10 }) s))

/-- A link flit (13, R300, R301, Table 13-4) in a codeword of its own: every one carries what acknowledgement and credits
the port owes. -/
def linkFlit (i kind nak state : Nat) (s : State) : State :=
  let p := s.port i
  let vcs := (List.range 8).map fun v => min (p.vcOwed[v]?.getD 0) 255
  let vcRet := (List.range 8).foldl (fun x v => x + vcs.getD v 0 * 2 ^ (8 * v)) 0
  let sh := min p.sharedOwed 65535
  let s := setPortAt i (fun p => { p with
    ackOwed := false, sharedOwed := p.sharedOwed - sh
    vcOwed := Vector.ofFn fun v => p.vcOwed[v] - vcs.getD v.val 0 }) s
  sendCodeword i 0 [([(p.rxSeq - 1).toNat * 2 ^ 40 + nak % 2 ^ 24 * 2 ^ 16 + kind, vcRet, sh * 2 ^ 48, state, 0, 0, 0, 0],
    false)] s

/-- A port-state message (Table 13-4). -/
def linkState (i v : Nat) (s : State) : State := linkFlit i 2 0 v s

end Sys2Proof.Machine
end

