-- ==== Sys2Proof/Machine/Media.lean ====
section
/-!
DEFINITION. The checkpoint store's media and health (18, R427–R429, R443–R447), and its generations as data.
-/

namespace Sys2Proof.Machine

/-- Bytes of a granule. -/
def granBytes : Nat := 65536

/-- Data bytes that a generation holds by itself. -/
def Generation.bytes (g : Generation) : Nat := g.grans.length * granBytes

/-- Sectors of a generation that are lost. -/
def Generation.lost (g : Generation) : Nat := (g.grans.map fun x => x.lost.length).sum

/-- Change the store. -/
def setStore (f : Store → Store) (s : State) : State := { s with store := f s.store }

/-- Reserve die blocks of a die at manufacture: 70, less the system area's (R429). -/
def reserveOf (die : Nat) : Nat := if die = 0 ∨ die = 64 then 68 else 70

/-- Retired die blocks of a die, and its unused reserve. -/
def Store.badOf (x : Store) (die : Nat) : Nat := x.bad.countP fun b => decide (b / 2048 = die)
def Store.reserve (x : Store) (die : Nat) : Nat := reserveOf die - x.badOf die

/-- Data bytes of a die block. -/
def blockBytes : Nat := 58 * 2 ^ 20

/-- The usable capacity: each bad block beyond a die's reserve takes 58 MiB (R429). -/
def Store.capacity (x : Store) : Nat :=
  14684672 * 2 ^ 20 - ((List.range 128).map fun d => (x.badOf d - reserveOf d) * blockBytes).sum

/-- Data bytes in committed generations, and of the writes in progress. -/
def Store.held (x : Store) : Nat := (x.gens.map Generation.bytes).sum
def Store.inFlight (x : Store) : Nat :=
  (match x.write with | some w => w.gen.bytes | none => 0) + (match x.incoming with | some g => g.bytes | none => 0)

/-- Data bytes free. -/
def Store.free (x : Store) : Nat := x.capacity - x.held - x.inFlight

/-- The store state (Table 18-6). -/
def Store.state (x : Store) : Nat :=
  if x.failed then 2 else if x.mounting then 3
  else if (List.range 128).any fun d => x.reserve d == 0 then 1 else 0

/-- Mean and highest erase counts over all 262,144 die blocks. -/
def Store.peMean (x : Store) : Nat := (x.erases.map Prod.snd).sum / 262144
def Store.peMax (x : Store) : Nat := x.erases.foldl (fun m p => Nat.max m p.2) 0

/-- R447. -/
def Store.life (x : Store) : Nat := 10000 * (3000 - x.peMean) / 3000
def Store.daysLeft (x : Store) : Nat := Nat.max 1 (1826 - x.day)
def Store.budget (x : Store) : Nat := (3000 - x.peMean) * 15942918602752 / x.daysLeft

/-- The die with the fewest unused reserve blocks, the lowest on a tie. -/
def Store.minDie (x : Store) : Nat :=
  (List.range 128).foldl (fun b d => if x.reserve d < x.reserve b then d else b) 0

/-- The health record (Table 18-6). -/
def State.storeHealth (s : State) : List Byte :=
  let x := s.store
  let age := match x.stamps.foldl (fun (m : Option Nat) p => some (match m with | some a => Nat.min a p.2 | none => p.2)) none with
    | some t => (s.now - t) / 1000000000
    | none => 0
  wordBytes [x.base, x.state * 2 ^ 8 + x.life * 2 ^ 16 + x.gens.length * 2 ^ 32, x.peMean + x.peMax * 2 ^ 32,
    x.minDie + x.reserve x.minDie * 2 ^ 16 + x.bad.length * 2 ^ 32, x.day + x.daysLeft * 2 ^ 32, x.free, x.held,
    x.writtenTotal, x.budget, x.writtenDay, age, x.refreshed, x.strongReads, x.retries, x.lostSectors, 0]

/-- `n` data bytes are programmed, into the die blocks `blocks` (R443, R447). -/
def programmed (n : Nat) (blocks : List Nat) (s : State) : State :=
  let x := s.store
  let x := { x with
    writtenTotal := x.writtenTotal + n, writtenDay := x.writtenDay + n
    stamps := blocks.foldl (fun t b => if kvHas b t then t else kvSet b s.now t) x.stamps }
  if x.writtenDay > x.budget ∧ !x.overBudget then
    post Ev.storeWearBudget [x.day, x.writtenDay, x.budget] { s with store := { x with overBudget := true } }
  else { s with store := x }

/-- Die blocks are erased. -/
def erased (blocks : List Nat) (s : State) : State :=
  setStore (fun x => { x with
    erases := blocks.foldl (fun t b => kvMod 0 b (· + 1) t) x.erases
    stamps := x.stamps.filter fun p => !blocks.contains p.1
    due := x.due.filter fun b => !blocks.contains b }) s

/-! Frame reads (R444). -/

/-- The decode of one page at one level: the sectors served, those corrected by the light code, whether the strong code
was needed and succeeded. -/
def nandDecode (r : NandRead) : List Nat × List Nat × Bool :=
  let errs := fun (i : Nat) => r.sectors.getD i []
  let light := (List.range 8).filter fun i => lightServes (errs i)
  let fixed := light.filter fun i => errs i != []
  if light.length = 8 then (light, fixed, false)
  else
    let t := ((List.range 8).map fun i => (errs i).length).sum + r.parity
    if strongCorrects t 0 then (List.range 8, fixed, true) else (light, fixed, false)

/-- A page read at its levels in turn, until every sector is served: sectors served, corrected by the light code,
strong code used, levels beyond 0 used. -/
def pageDecode : List NandRead → Nat → List Nat → Nat → Bool → List Nat × Nat × Bool × Nat
  | [], n, got, fix, strong => (got, fix, strong, n - 1)
  | r :: t, n, got, fix, strong =>
    let (a, f, st) := nandDecode r
    let got := a.foldl (fun l i => setIns i l) got
    let fix := fix + f.length
    if got.length = 8 then (got, fix, strong || st, n) else pageDecode t (n + 1) got fix (strong || st)

/-- Mark sectors of a granule lost. -/
def Generation.lose (g : Generation) (addr : Nat) (secs : List Nat) : Generation :=
  { g with grans := g.grans.map fun x =>
    if x.addr = addr then { x with lost := secs.foldl (fun l i => setIns i l) x.lost } else x }

/-- One page of a frame read of generation `gen`. -/
def readNandPage (gen : Nat) (p : NandPage) (s : State) : State × Nat × Bool × Bool :=
  let (got, fix, strong, retry) := pageDecode (p.levels.take 8) 0 [] 0 false
  let lost := ((List.range 8).filter fun i => !got.contains i).map (p.sector + ·)
  let s := if lost.isEmpty then s else
    post Ev.storeDataLost [gen, p.granule, lost.length] (setStore (fun x => { x with
      lostSectors := x.lostSectors + lost.length
      gens := x.gens.map fun g => if g.id = gen then g.lose p.granule lost else g }) s)
  (s, fix, strong, decide (retry > 0))

/-- NAND_FRAME_READ (R444, R445): a frame of die block `block` that holds pages of generation `gen` is read. -/
def execNandFrameRead (gen block : Nat) (frame : List NandPage) (s : State) : Host.Outcome State Fault Refusal :=
  if !s.powered || !(s.store.gens.any fun g => g.id == gen) || frame.isEmpty || frame.any (fun p => p.levels.isEmpty) then
    finish s
  else
    let (s, fix, strong, retry) := frame.foldl (fun (r : State × Nat × Bool × Bool) p =>
      let (s, f, st, re) := readNandPage gen p r.1
      (s, r.2.1 + f, r.2.2.1 || st, r.2.2.2 || re)) (s, 0, false, false)
    finish (setStore (fun x => { x with
      strongReads := x.strongReads + b2n strong
      retries := x.retries + b2n retry
      due := if strong || retry || decide (fix ≥ 24) then setIns block x.due else x.due }) s)

/-- STORE_BLOCK_REFRESH (R443, R445): die block `block`, old, read poorly or worn little, is relocated into `into` with
its `live` data bytes, and erased. -/
def execStoreBlockRefresh (block into live : Nat) (s : State) : Host.Outcome State Fault Refusal :=
  let x := s.store
  let old := match kvFind block x.stamps with | some t => decide (s.now > t + 90 * 86400 * 1000000000) | none => false
  let die := block / 2048
  let mean := ((x.erases.filter fun p => p.1 / 2048 == die).map Prod.snd).sum / 2048
  let worn := kvHas block x.stamps && decide (kvGet 0 block x.erases + 300 < mean)
  let due := old || x.due.contains block
  if s.powered && !x.failed && (due || worn) then
    finish (setStore (fun x => { x with refreshed := x.refreshed + b2n due }) (erased [block] (programmed live [into] s)))
  else finish s

/-- NAND_PROGRAM_FAIL (R446): a program (0) or erase (1) failure, or read loss (2), retires a die block. -/
def execNandProgramFail (block : Nat) (cause : Fin 3) (s : State) : Host.Outcome State Fault Refusal :=
  if !s.powered || s.store.bad.contains block || decide (block ≥ 262144) then finish s
  else
    let die := block / 2048
    let s := setStore (fun x => { x with bad := setIns block x.bad, stamps := kvDel block x.stamps, due := setDel block x.due }) s
    let s := post Ev.storeBlockRetired [die / 16, die % 16, block % 2048, cause.val] s
    let left := s.store.reserve die
    finish (if left = 8 ∧ s.store.badOf die ≤ reserveOf die then post Ev.storeReserveLow [die / 16, die % 16, left] s else s)

/-- STORE_DAY_TICK (R447): 86,400 s of powered time have passed (log entry 91). -/
def execStoreDayTick (s : State) : Host.Outcome State Fault Refusal :=
  if s.powered then finish (setStore (fun x => { x with day := x.day + 1, writtenDay := 0, overBudget := false }) s)
  else finish s

/-- STORE_RECLAIM_DONE (R450; 19, R460): reclaim has erased `blocks`, and the store leaves MOUNTING. -/
def execStoreReclaimDone (blocks : List Nat) (s : State) : Host.Outcome State Fault Refusal :=
  if s.powered && !s.store.failed then finish (erased blocks (setStore (fun x => { x with mounting := false }) s)) else finish s

/-! Contents. -/

/-- A granule's plaintext. -/
def StoredGran.plain (g : StoredGran) : List Byte :=
  let m := g.cells
  (List.range granBytes).map fun i => kvGet 0 i m

/-- A generation's chain, from itself back to its full generation. -/
def Store.chain (x : Store) : Nat → Nat → List Generation
  | 0, _ => []
  | n + 1, id =>
    match x.gens.find? fun g => g.id == id with
    | none => []
    | some g => g :: (if g.parent = 0 then [] else x.chain n g.parent)

/-- The chain of generation `id`. -/
def Store.chainOf (x : Store) (id : Nat) : List Generation := x.chain (x.gens.length + 1) id

/-- The newest generation of a chain that holds a granule, and the granule. -/
def resolve (chain : List Generation) (addr : Nat) : Option (Generation × StoredGran) :=
  chain.findSome? fun g => (g.grans.find? fun x => x.addr == addr).map fun x => (g, x)

/-- The granules of regions, in order. -/
def regionGrans (rs : List (Nat × Nat)) : List Nat :=
  rs.flatMap fun r => (List.range r.2).map fun i => r.1 + i * granBytes

/-- A STORAGE key that Shutter holds, by its id (15, R367). -/
def State.storageKey (s : State) (id : Nat) : Option (List Byte) :=
  (s.sec.keys.find? fun p => p.2.storage && p.2.keyId == id).map fun p => p.2.key

/-- A granule as its reader unseals it (R435, R437): its bytes and the sectors lost to media or to a tag that fails. A
granule of generation `g` sealed under the very key that is held gives its plaintext. -/
def unsealGran (g : Generation) (x : StoredGran) (key : Option (List Byte)) : List Byte × List Nat :=
  if g.keyId = 0xFFFFFFFF then (x.plain, x.lost)
  else
    match key with
    | none => (x.plain, List.range 256)
    | some k =>
      if !g.sealed ∧ g.key = some k then (x.plain, x.lost)
      else
        let ct := if g.sealed then x.sealed
          else (List.range 67584).map (Config.storeSeal (g.key.getD []) g.id x.addr x.plain)
        ((List.range granBytes).map (Config.storeOpen k g.id x.addr ct),
         (List.range 256).filter fun i => x.lost.contains i || !Config.storeTagOk k g.id x.addr ct i)

/-- A generation's sealed granule as it travels: what was received, or its own ciphertext (R439). -/
def sealedBytes (g : Generation) (x : StoredGran) : List Byte :=
  if g.sealed then x.sealed else (List.range 67584).map (Config.storeSeal (g.key.getD []) g.id x.addr x.plain)

end Sys2Proof.Machine
end

