-- ==== Sys2Proof/Machine/Resets.lean ====
section
/-!
DEFINITION. The reset scopes (19, R464–R468): what a FULL reset and a loss of power keep.
-/

namespace Sys2Proof.Machine

/-- Ports in ACTIVE, bit i for port i (13, R302). -/
def State.portsActive (s : State) : Nat :=
  (List.range 30).foldl (fun m i => if (kvGet ({} : Port) i s.fab.ports).st == .active then m + 2 ^ i else m) 0

/-- The checkpoint store becomes FAILED (18, R446). -/
def storeFail (s : State) : State := setStore (fun x => { x with failed := true, mounting := false }) s

/-- The store's state (18, Table 18-6). -/
def State.storeState (s : State) : Nat := s.store.state

/-- The index is loaded and the store is MOUNTING (19, R460). -/
def storeMount (s : State) : State := setStore (fun x => if x.failed then x else { x with mounting := true }) s

/-- PEER_RESETTING and PEER_RESET_DONE on every ACTIVE port (13, R322). -/
def peerSay (v : Nat) (s : State) : State :=
  (List.range 30).foldl (fun s i =>
    if (s.port i).st == .active then linkState i v s else s) s
def peerResetting (s : State) : State := peerSay 3 s
def peerResetDone (s : State) : State := peerSay 4 s

/-- The core and cluster SRAM of a cluster is zeroed with fresh check bits (19, R467, R468). -/
def zeroCluster (c : Nat) (s : State) : State :=
  let lo := 0x20000000000 + c * 0x1000000
  let lo2 := 0x20020000000 + c * 0x800000
  let out := fun (k : Nat) => (k * 64 < lo || lo + 0x1000000 ≤ k * 64) && (k * 64 < lo2 || lo2 + 0x800000 ≤ k * 64)
  { s with
    mem := (s.mem.clear lo (lo + 0x1000000)).clear lo2 (lo2 + 0x800000)
    rel := { s.rel with
      sramPoison := s.rel.sramPoison.filter out, sramErrs := s.rel.sramErrs.filter fun p => out (p.1 / 8) } }

/-- A cluster takes part in scheduling: not retired, not under a CLUSTER reset or a Collimation slice (05, R133). -/
def State.clusterUp (s : State) (c : Nat) : Bool :=
  !s.boot.retired.getLsbD c && !(s.boot.slice.any fun x => x.cluster == c) &&
  !(s.boot.reset.any fun r => r.scope == 2 && r.cluster == c)

/-- Start the fill of a tier (07, R173). -/
def startFill (t : Nat) (why : FillWhy) (s : State) : State :=
  { s with tiers := { s.tiers with fills := kvSet t why s.tiers.fills } }

/-- Scan is enabled for the cluster of a Collimation slice (19, R472). -/
def State.scanning (s : State) : Bool := s.boot.slice.any fun x => x.phase.scans

/-- Some sensor is at its warning limit, or a shutdown is latched: ALERT# is low (21, Table 21-3). -/
def State.alert (s : State) : Bool :=
  s.pow.latched.cause != 0 || s.sens.sensors.any fun p => p.2.overWarning

/-- ALERT# follows, where it was low as `was` says. -/
def alertPin (was : Bool) (s : State) : State :=
  if s.alert = was then s else emit (.pin "ALERT#" (b2n was)) s

/-- A Collimation slice is abandoned, and scan released (19, R472, R475). -/
def abandonSlice (s : State) : State :=
  match s.boot.slice with
  | none => s
  | some x =>
    let s := if s.scanning then emit (.pin "SCAN_ENABLE" 0) s else s
    post Ev.collimationSkipped [x.cluster, 0] { s with boot := { s.boot with
      slice := none, report := { s.boot.report with colSkipped := s.boot.report.colSkipped + 1 } } }

/-- A FULL reset (19, R464): everything returns to its reset value but what lies outside its reach: host memory, the
boot flash, the power inputs and the hardware status record (21, R530), the retirement and soft-repair lists
(17, R407, R413), the modules in the cages. Scan is released, and ALERT# with the sensors' warnings. -/
def fullReset (s : State) : State :=
  { State.reset with
    pending := s.pending
    sent := (if s.alert && s.pow.latched.cause == 0 then [.pin "ALERT#" 1] else []) ++
      (if s.scanning then [.pin "SCAN_ENABLE" 0] else []) ++ s.sent
    free := s.free
    mem := s.mem.filter fun c => decide (c.1 ≥ 0x8000000000000)
    rel := { ({} : Rel) with retire := s.rel.retire, softRepair := s.rel.softRepair }
    sec := { ({} : Sec) with dramKeys := s.sec.dramKeys + 1 }
    store := { s.store with
      failed := false, mounting := false, write := none, restore := none, mirroring := none, outQ := [], incoming := none
      mirrorHalt := false, seqOut := 0, seqIn := 0, unacked := [], freed := 0 }
    boot := { ({} : Boot) with
      copyA := s.boot.copyA, copyB := s.boot.copyB, retiredSoft := s.boot.retiredSoft, colBlock := s.boot.colBlock }
    pow := { s.pow with
      limit := 2600, ceil := 2050, target := 2050, good := 0, cclk := 900, belowAt := none, unmet := 0, unmetSum := 0
      unmetPosted := false, shutAt := none, mpOwner := false, mpNow := false, mpEver := false, running := none } }

/-- MAIN_54V is in its operating range (21, Table 21-8). -/
def inRange (mv : Nat) : Bool := 46000 ≤ mv && mv ≤ 59000

/-- The main rails start up where every condition holds (21, R515, Table 21-10 step 2). -/
def tryRails (s : State) : State :=
  let p := s.pow
  if p.auxUp && p.rails == .standby && inRange p.mainMv && p.pwrEn && !p.commanded && !p.active then
    { s with pow := { p with rails := .up } }
  else s

/-- The state digest's inputs have changed: a held certificate is discarded (15, R359, R362). -/
def digestStep (f : State → State) (s : State) : State :=
  let key := fun (s : State) => (s.fuseRecord, s.debugRecord, s.partitionRecord.map (· % 2 ^ 32), s.pow.running)
  let s' := f s
  if s'.sec.membership.isSome && key s' != key s then
    post Ev.membershipStale [] { s' with sec := { s'.sec with membership := none } }
  else s'

end Sys2Proof.Machine
end

