-- ==== Sys2Proof/Machine/Desc.lean ====
section
/-!
DEFINITION. Descriptors: the fields of Tables 4-2 to 4-10 and the checks of R110, in its order. A check names the
descriptor bits it depends on, so that LOAD_LAYER_PROGRAM can leave out those that a template's patches cover (R113).
-/

namespace Sys2Proof.Machine

/-- Bits `hi..lo` of word `w`. -/
def Desc.f (d : Desc) (w hi lo : Nat) : Nat := bits (d.getD w 0) hi lo
/-- Bit `i` of word `w`. -/
def Desc.b (d : Desc) (w i : Nat) : Bool := bit (d.getD w 0) i

/-! The common header (Table 4-2). -/

def Desc.type (d : Desc) : Nat := d.f 0 63 60
def Desc.pin (d : Desc) : Bool := d.b 0 59
def Desc.quiet (d : Desc) : Bool := d.b 0 58
def Desc.waitEn (d : Desc) : Bool := d.b 0 57
def Desc.sigEn (d : Desc) : Bool := d.b 0 56
def Desc.waitSem (d : Desc) : Nat := d.f 0 55 42
def Desc.sigSem (d : Desc) : Nat := d.f 0 41 28
def Desc.tag (d : Desc) : Nat := d.f 0 27 0
def Desc.waitValue (d : Desc) : Nat := d.f 1 63 32
def Desc.sigDelta (d : Desc) : Nat := d.f 1 31 24
def Desc.vstage (d : Desc) : Nat := d.f 1 23 16
def Desc.home (d : Desc) : Nat := d.f 1 15 7
def Desc.ovl (d : Desc) : Bool := d.b 1 6
def Desc.epi (d : Desc) : Bool := d.b 1 5
def Desc.amx (d : Desc) : Bool := d.b 1 4
/-- The cluster and the die of the home core. -/
def Desc.cluster (d : Desc) : Nat := d.home / 16
def Desc.die (d : Desc) : Nat := d.home / 256

/-- A core task (Table 4-1). -/
def Desc.core (d : Desc) : Bool := d.type < 3
/-- A task of the engines: MATRIX or STATS. -/
def Desc.engine (d : Desc) : Bool := d.type < 2

/-! Operand references (Table 4-3). -/

def Desc.tr (d : Desc) (w : Nat) : Bool := d.b w 63
def Desc.res (d : Desc) (w : Nat) : Bool := d.b w 62
def Desc.fmt (d : Desc) (w : Nat) : Nat := d.f w 61 58
def Desc.addr (d : Desc) (w : Nat) : Nat := d.f w 51 0

/-! MATRIX and STATS (Table 4-4). -/

def Desc.mb (d : Desc) : Nat := d.f 6 49 47
def Desc.nb (d : Desc) : Nat := d.f 6 46 44
def Desc.kb (d : Desc) : Nat := d.f 6 43 36
def Desc.ksb (d : Desc) : Nat := d.f 6 35 31
def Desc.accInit (d : Desc) : Nat := d.f 6 30 29
def Desc.rowsValid (d : Desc) : Nat := d.f 6 25 18
def Desc.colsValid (d : Desc) : Nat := d.f 6 17 10
def Desc.stage (d : Desc) : Nat := 1024 * d.f 6 9 0
def Desc.kValid (d : Desc) : Nat := d.f 7 63 51
def Desc.pOff (d : Desc) : Nat := 1024 * d.f 7 50 41
def Desc.oStride (d : Desc) : Nat := d.f 6 63 50
/-- The tile has a valid element (R74). -/
def Desc.tileValid (d : Desc) : Bool := d.rowsValid != 0 && d.colsValid != 0

/-- Is the tile's operand pair BF16 (Table 3-2)? -/
def Desc.bf16 (d : Desc) : Bool := d.fmt 2 == 1

/-! VECTOR (Table 4-6). -/

def Desc.vop (d : Desc) : Nat := d.f 7 63 58
def Desc.lin (d : Desc) : Bool := d.b 7 54
def Desc.vrows (d : Desc) : Nat := if d.lin then 1 else d.f 7 53 37
def Desc.vcols (d : Desc) : Nat := d.f 7 36 20
def Desc.vstride (d : Desc) : Nat := d.f 7 19 6
def Desc.whole (d : Desc) : Bool := d.b 7 5
def Desc.alpha (d : Desc) : Nat := d.f 6 63 32
def Desc.beta (d : Desc) : Nat := d.f 6 31 0
/-- The number of valid elements (R101). -/
def Desc.vcount (d : Desc) : Nat := d.vrows * d.vcols

/-- How many tensor operands an operation takes (Table 3-6). -/
def vecIns (op : Nat) : Nat :=
  if [0x03, 0x0B, 0x1E, 0x27].contains op then 3
  else if [0x00, 0x01, 0x02, 0x04, 0x06, 0x07, 0x0C, 0x0D, 0x0F, 0x1A, 0x1B, 0x1C, 0x25, 0x28].contains op then 2
  else 1

/-- The reductions that write one value per row (R101). -/
def vecReduces (op : Nat) : Bool := [0x1F, 0x20, 0x21, 0x22, 0x23, 0x26].contains op

/-- The operand words of a VECTOR task, O among them. -/
def Desc.vwords (d : Desc) : List Nat := (List.range (vecIns d.vop)).map (· + 2) ++ [5]

/-- Is an operand of a VECTOR task a linear run with its own extents (R101): a reduction's output, or a table of
ROPE? -/
def Desc.vlinear (d : Desc) (w : Nat) : Bool :=
  d.lin || (w == 5 && vecReduces d.vop) || (d.vop == 0x1E && (w == 3 || w == 4))

/-- The element count of a linear operand. -/
def Desc.vlen (d : Desc) (w : Nat) : Nat :=
  if w = 5 ∧ vecReduces d.vop then (if d.whole then 1 else d.vrows)
  else if d.vop = 0x1E ∧ (w = 3 ∨ w = 4) then d.vrows * (d.vcols / 2)
  else d.vcols

/-! GATHER and SCATTER (Table 4-7). -/

def Desc.gcount (d : Desc) : Nat := d.f 5 63 40
def Desc.gunit (d : Desc) : Nat := d.f 5 39 38
def Desc.glen (d : Desc) : Nat := d.f 5 37 21
def Desc.gstride (d : Desc) : Nat := d.f 5 20 7
def Desc.extent (d : Desc) : Nat := d.f 6 63 32

/-- The local region and the table region of R154, in bytes. -/
def Desc.localBytes (d : Desc) : Nat :=
  match d.gunit with
  | 0 => d.gcount * bbytesOf (d.fmt 4)
  | 1 => ceilDiv d.gcount 32 * ceilDiv d.glen 32 * bbytesOf (d.fmt 4)
  | _ => d.gcount * d.glen * esizeOf (d.fmt 4)
def Desc.tableBytes (d : Desc) : Nat :=
  match d.gunit with
  | 0 => d.extent * bbytesOf (d.fmt 3)
  | 1 => ceilDiv d.extent 32 * d.gstride * bbytesOf (d.fmt 3)
  | _ => d.extent * d.glen * esizeOf (d.fmt 3)

/-- R161: is the task carried by Finder? -/
def Desc.finder (d : Desc) : Bool := d.gunit == 2 && decide (d.glen * esizeOf (d.fmt 3) ≤ 256)

/-! Fabric global addresses (00, R11). -/

def gaModule (x : Nat) : Nat := bits x 61 52
def gaAddr (x : Nat) : Nat := x % 2 ^ 52

/-- Does a global address lie on another module (R33)? With the id unset, module 0 is this module. -/
def State.remote (s : State) (x : Nat) : Bool := gaModule x != s.fab.id.getD 0

/-! Blocked layout (03, R60). -/

/-- The contiguous runs of a stored blocked region of `br` by `bc` blocks: address and bytes of each block row. -/
def blockRuns (a br bc stride bb : Nat) : List (Nat × Nat) :=
  if bc = 0 then [] else (List.range br).map fun i => (a + i * stride * bb, bc * bb)

/-- The stored block rows and columns of operand A (word 2) or B (word 3) of a tile (R93). -/
def Desc.opShape (d : Desc) (w : Nat) : Nat × Nat :=
  let (r, c) := if w = 2 then (d.mb, d.kb) else (d.kb, d.nb)
  if d.tr w then (c, r) else (r, c)

/-- The stored block-row stride of A or B. -/
def Desc.opStride (d : Desc) (w : Nat) : Nat := if w = 2 then d.f 5 31 18 else d.f 5 17 4

/-- The runs of an operand of a tile, or of its output (word 4). -/
def Desc.tileRuns (d : Desc) (w : Nat) : List (Nat × Nat) :=
  if w = 4 then blockRuns (d.addr 4) d.mb d.nb d.oStride (bbytesOf (d.fmt 4))
  else
    let (r, c) := d.opShape w
    blockRuns (d.addr w) r c (d.opStride w) (bbytesOf (d.fmt w))

/-- The first address of a core's SRAM (Table 1-7). -/
def coreBase (k : Nat) : Nat := 0x20000000000 + k * 0x100000

/-- The offset of operand slice buffer `i` (0, 1) of A or B in the stage area, and of the output tile (R99). -/
def Desc.sliceBytes (d : Desc) (w : Nat) : Nat := if d.kb = 0 ∨ d.res w then 0 else 4 * d.ksb * bbytesOf (d.fmt w)
def Desc.sliceOff (d : Desc) (w i : Nat) : Nat :=
  d.stage + (if w = 3 then 2 * d.sliceBytes 2 else 0) + i * d.sliceBytes w
def Desc.outOff (d : Desc) : Nat := d.stage + 2 * d.sliceBytes 2 + 2 * d.sliceBytes 3
def Desc.outBytes (d : Desc) : Nat := if d.type = 0 ∧ !d.res 4 then 16 * bbytesOf (d.fmt 4) else 0

/-- The end of a VECTOR task's output tensor, its last block with a valid element included (R101; log entry 61). -/
def Desc.vEnd (d : Desc) : Nat :=
  if d.lin then d.addr 5 + d.vcols * esizeOf (d.fmt 5)
  else d.addr 5 + ((ceilDiv d.vrows 32 - 1) * d.vstride + ceilDiv d.vcols 32) * bbytesOf (d.fmt 5)

/-- Where the row values of a norm go, and how many bytes they take (R101). -/
def Desc.rowVals (d : Desc) : Option (Nat × Nat) :=
  if d.vop = 0x27 then some (alignUp d.vEnd 64, 8 * d.vrows)
  else if d.vop = 0x28 then some (alignUp d.vEnd 64, 4 * d.vrows)
  else none

/-- The runs that an operand of a VECTOR task touches. -/
def Desc.vruns (d : Desc) (w : Nat) : List (Nat × Nat) :=
  if d.vcount = 0 then []
  else if d.vlinear w then [(d.addr w, d.vlen w * esizeOf (d.fmt w))]
  else blockRuns (d.addr w) (ceilDiv d.vrows 32) (ceilDiv d.vcols 32) d.vstride (bbytesOf (d.fmt w))

/-- Bits `hi..lo` of word `w` as a mask of the 512. -/
def fm (w hi lo : Nat) : Nat := mBits hi lo * 2 ^ (64 * w)

/-- First address, end and direction of the region that runs span. What lies between the block rows of a strided operand
belongs to its region (DESIGN CHOICE: R87 does not say; log entry 118). -/
def spanRegion (runs : List (Nat × Nat)) (wr : Bool) : List (Nat × Nat × Bool) :=
  match runs with
  | [] => []
  | (a, _) :: _ => [(a, runs.foldl (fun m r => Nat.max m (r.1 + r.2)) a, wr)]

/-- The footprint regions of an engine task run on core `k` (03, R87; 04, R99), each with the descriptor bits it comes
from (R113). -/
def Desc.tileRegions (d : Desc) (k : Nat) : List ((Nat × Nat × Bool) × Nat) :=
  let shape := fm 6 49 36 ||| fm 6 25 10 ||| fm 1 15 7
  let size := 2 * d.sliceBytes 2 + 2 * d.sliceBytes 3 + d.outBytes
  let from_ := fun (dep : Nat) (l : List (Nat × Nat × Bool)) => l.map fun r => (r, dep)
  let ref := fun (w : Nat) => fm w 63 58 ||| fm w 51 0 ||| shape
  from_ (fm 6 9 0 ||| fm 6 43 31 ||| fm 2 62 58 ||| fm 3 62 58 ||| fm 4 62 58 ||| fm 1 15 7)
    (if size = 0 then [] else [(coreBase k + d.stage, coreBase k + d.stage + size, true)]) ++
  from_ (fm 7 50 41 ||| fm 6 30 29 ||| fm 1 15 7)
    (if d.accInit = 1 then [(coreBase d.home + d.pOff, coreBase d.home + d.pOff + 65536, false)] else []) ++
  from_ (ref 2 ||| fm 5 31 18) (if d.kb ≠ 0 ∧ d.res 2 then spanRegion (d.tileRuns 2) false else []) ++
  from_ (ref 3 ||| fm 5 17 4) (if d.kb ≠ 0 ∧ d.res 3 then spanRegion (d.tileRuns 3) false else []) ++
  from_ (ref 4 ||| fm 6 63 50) (if d.type = 0 ∧ d.res 4 then spanRegion (d.tileRuns 4) true else [])

/-- The SRAM regions of a core task run on core `k`: first address, end, written (03, R87, R88). -/
def Desc.regions (d : Desc) (k : Nat) : List (Nat × Nat × Bool) :=
  if d.engine then (d.tileRegions k).map Prod.fst
  else
    (d.vwords.flatMap fun w => spanRegion (d.vruns w) (w == 5)) ++
    (match d.rowVals with
     | some (a, n) => if d.vcount = 0 then [] else [(a, a + n, true)]
     | none => [])

/-- Two regions overlap. -/
def overlap (x y : Nat × Nat × Bool) : Bool := decide (x.1 < y.2.1) && decide (y.1 < x.2.1)

/-! Stall-free length (R106). -/

/-- Cycles of one pass of `n` elements at `rate` a cycle. -/
def passCycles (n rate : Nat) : Nat := ceilDiv n rate

/-- The passes (rates) of a row operation and its number of reductions (R83, Table 3-7; log entry 60). -/
def rowPasses (op : Nat) : Option (List Nat × Nat) :=
  match op with
  | 0x1F => some ([128], 1)
  | 0x20 => some ([128], 1)
  | 0x21 => some ([128], 1)
  | 0x22 => some ([128], 1)
  | 0x23 => some ([128], 1)
  | 0x24 => some ([128, 32, 128], 2)
  | 0x25 => some ([128, 128], 1)
  | 0x26 => some ([128, 32], 2)
  | 0x27 => some ([128, 128, 128], 2)
  | 0x28 => some ([128, 128], 1)
  | _ => none

/-- Elements per cycle of an element-wise operation (Table 3-7). -/
def Desc.vrate (d : Desc) : Nat :=
  let op := d.vop
  if op ≤ 0x0B ∨ op = 0x17 ∨ op = 0x1A then (if d.vwords.all fun w => d.fmt w == 1 then 256 else 128)
  else if op ≤ 0x0E then 128
  else if op = 0x1D ∨ op = 0x1E then 64
  else 32

/-- The stall-free length in CCLK cycles (R75, R83, R74). -/
def Desc.length (d : Desc) : Nat :=
  if d.engine then
    if !d.tileValid then 4
    else (d.mb + 1) * (if d.bf16 then 2 else 1) + d.kb * d.nb * (if d.bf16 then 64 else 32) + 36
  else if d.vcount = 0 then 4
  else
    match rowPasses d.vop with
    | some (ps, k) =>
      if d.whole then 12 + (ps.map fun r => passCycles d.vcount r).sum + 7 * k
      else 12 + d.vrows * ((ps.map fun r => passCycles d.vcols r).sum + 7 * k)
    | none => 12 + passCycles d.vcount d.vrate

/-! Checks. -/

/-- One check: the bits it depends on, whether it fails, its status and its detail. -/
structure Chk where
  dep : Nat
  bad : Bool
  st : Nat
  det : Nat := 0
  /-- The position it competes with at step 2. -/
  pos : Nat := 0

/-- A field value that DESC_FIELD_INVALID names (R110). -/
def dfi (w hi lo : Nat) (bad : Bool) (more : Nat := 0) : Chk :=
  ⟨fm w hi lo ||| more, bad, Ts.descFieldInvalid, 64 * w + lo, 64 * w + lo⟩

/-- A reserved field. -/
def rsv (d : Desc) (w hi lo : Nat) : Chk := dfi w hi lo (d.f w hi lo != 0)

/-- Reserved fields. -/
def rsvs (d : Desc) (l : List (Nat × Nat × Nat)) : List Chk := l.map fun x => rsv d x.1 x.2.1 x.2.2

/-- A check of a later step. -/
def chk (dep : Nat) (bad : Bool) (st : Nat) (det : Nat := 0) : Chk := ⟨dep, bad, st, det, 0⟩

/-- The failing checks that no patched bit covers. -/
def failing (patched : Nat) (l : List Chk) : List Chk := l.filter fun c => c.bad && (c.dep &&& patched) == 0

/-- The first of them in order, or at step 2 the one of lowest position. R110 orders only the failures of step 2 that are
DESC_FIELD_INVALID; that one with a status of its own there (VECTOR_OP_RESERVED, ACC_MODE_RESERVED) is ordered among them
by the lowest bit of its field too is a DESIGN CHOICE (log entry 68). -/
def firstOf (patched : Nat) (low : Bool) (l : List Chk) : Option (Nat × Nat) :=
  match failing patched l with
  | [] => none
  | c :: t =>
    let c := if low then t.foldl (fun b x => if x.pos < b.pos then x else b) c else c
    some (c.st, c.det)

/-- Step 2 for the header (Table 4-2). -/
def headerChecks (d : Desc) : List Chk :=
  [rsv d 1 3 0,
   dfi 1 63 32 (!d.waitEn && d.waitValue != 0) (fm 0 57 57),
   dfi 1 31 24 (d.sigEn == (d.sigDelta == 0)) (fm 0 56 56),
   dfi 0 55 42 (!d.waitEn && d.waitSem != 0) (fm 0 57 57),
   dfi 0 41 28 (!d.sigEn && d.sigSem != 0) (fm 0 56 56)]

/-- A reserved format code (Table 2-1). -/
def fmtReserved (f : Nat) : Bool := f ≥ 0xB

/-- A floating-point code. -/
def fmtFloat (f : Nat) : Bool := f ≤ 3

/-- Step 3 for a reference that takes a floating-point format. -/
def floatRef (d : Desc) (w dep : Nat) : List Chk :=
  [chk (fm w 61 58 ||| dep) (fmtReserved (d.fmt w)) Ts.formatReserved,
   chk (fm w 61 58 ||| dep) (!fmtFloat (d.fmt w)) Ts.formatCombination]

/-- Step 5 for one address named in SRAM (R92). -/
def pinCheck (d : Desc) (k w a : Nat) : Chk :=
  let bad := match regionOf a with
    | some .coreSram => !d.pin || coreOf a != d.home
    | some .clusterSram => k / 16 != d.cluster
    | _ => false
  chk (fm w 51 0 ||| fm 0 59 59 ||| fm 1 15 7) bad Ts.pinInvalid

/-- Step 6. -/
def alignCheck (dep a m : Nat) : Chk := chk dep (m != 0 && !aligned a m) Ts.addrMisaligned a

/-- The part of cluster SRAM that is the window of a cluster's Spectrograph, in KiB (11, R247). -/
def State.sgKib (s : State) (c : Nat) : Nat := kvGet 2048 c s.spec.sgKib

/-- The end of the part of a cluster's SRAM that tasks may name: above it lie the Spectrograph's window (11, R247) and
the multicast buffer (06, R151). -/
def State.clusterTop (s : State) (c : Nat) : Nat :=
  0x20020000000 + c * 0x800000 + (8192 - kvGet 2048 c s.strm.mcastKib - s.sgKib c) * 1024

/-- Step 7 for one access: the fault of R32, ADDR_DENIED inside a multicast buffer, or at a host window that the mode
closes (15, R353). -/
def State.taskFault (s : State) (who : Initiator) (a n : Nat) : Option (AddrFault × Nat) :=
  if n = 0 then none
  else
    match checkAccess who a n with
    | some x => some x
    | none =>
      match regionOf a with
      | some .clusterSram =>
        let top := s.clusterTop (clusterOf a)
        if a + n > top then some (.denied, Nat.max a top) else none
      | some .hostWin => if s.hostWinOk then none else some (.denied, a)
      | _ => none

/-- Step 7 over runs. -/
def accessCheck (s : State) (dep : Nat) (who : Initiator) (ga : Nat) (runs : List (Nat × Nat)) : Chk :=
  match runs.findSome? fun r => s.taskFault who r.1 r.2 with
  | some (.reserved, x) => chk dep true Ts.addrReserved (ga + x)
  | some (.denied, x) => chk dep true Ts.addrDenied (ga + x)
  | none => chk dep false 0

/-- The step-stage streams of the resident programs (R105). -/
def State.stepStreams (s : State) : List Nat :=
  s.prog.filterMap fun p => (p.2.stages[p.2.stepStage]?).map Stage.stream

/-- rs of R69 is refused: a negative normal, an infinity or a NaN. -/
def rsBad (x : Nat) : Bool := bits x 30 23 == 255 || (bit x 31 && bits x 30 23 != 0)

/-- The checks of a MATRIX or STATS task that core `k` is to run, step by step. -/
def tileChecks (s : State) (k : Nat) (d : Desc) : List (Bool × List Chk) :=
  let mat := d.type == 0
  let used := d.kb != 0
  let kbD := fm 6 43 36
  let step2 :=
    headerChecks d ++ rsvs d [(7, 40, 0), (5, 3, 0)] ++
    (if used then rsvs d [(2, 57, 52), (3, 57, 52)]
     else [dfi 2 63 0 (d.f 2 63 0 != 0) kbD, dfi 3 63 0 (d.f 3 63 0 != 0) kbD, dfi 5 31 18 (d.f 5 31 18 != 0) kbD,
           dfi 5 17 4 (d.f 5 17 4 != 0) kbD, dfi 7 63 51 (d.f 7 63 51 != 0) kbD]) ++
    (if mat then
      [rsv d 4 57 52, dfi 4 63 63 (d.tr 4),
       ⟨fm 6 30 29, decide (d.accInit ≥ 2), Ts.accModeReserved, 0, 413⟩,
       dfi 7 50 41 (d.accInit == 0 && d.pOff != 0) (fm 6 30 29)]
     else
      [rsv d 4 31 0, dfi 4 39 32 (decide (d.f 4 47 40 > d.f 4 39 32)) (fm 4 47 40),
       dfi 6 63 50 (d.oStride != 0), dfi 6 30 29 (d.accInit != 0), dfi 6 28 27 (d.f 6 28 27 != 0), dfi 6 26 26 (d.b 6 26),
       dfi 7 50 41 (d.pOff != 0)])
  let pairOk := (d.fmt 2 == 1 && d.fmt 3 == 1) || ((d.fmt 2 == 2 || d.fmt 2 == 3) && (d.fmt 3 == 2 || d.fmt 3 == 3))
  let step3 :=
    (if used then
      [chk (fm 2 61 58 ||| kbD) (fmtReserved (d.fmt 2)) Ts.formatReserved,
       chk (fm 3 61 58 ||| kbD) (fmtReserved (d.fmt 3)) Ts.formatReserved] else []) ++
    (if mat then [chk (fm 4 61 58) (fmtReserved (d.fmt 4)) Ts.formatReserved] else []) ++
    [chk (fm 6 28 27) (decide (d.f 6 28 27 ≥ 2)) Ts.formatReserved,
     chk (fm 5 63 32) (rsBad (d.f 5 63 32)) Ts.formatReserved] ++
    (if used then [chk (fm 2 61 58 ||| fm 3 61 58 ||| kbD) (!pairOk) Ts.formatCombination] else []) ++
    (if mat then [chk (fm 4 61 58) (!fmtFloat (d.fmt 4)) Ts.formatCombination] else [])
  let range := fun (v n : Nat) => v == 0 || (decide (32 * (n - 1) < v) && decide (v ≤ 32 * n))
  let mnOk := decide (1 ≤ d.mb) && decide (d.mb ≤ 4) && decide (1 ≤ d.nb) && decide (d.nb ≤ 4)
  let (_, ac) := d.opShape 2
  let (_, bc) := d.opShape 3
  let step4 :=
    [chk (fm 6 49 44) (!mnOk) Ts.tileShapeInvalid,
     chk (fm 6 25 18 ||| fm 6 49 47) (!range d.rowsValid d.mb) Ts.tileShapeInvalid,
     chk (fm 6 17 10 ||| fm 6 46 44) (!range d.colsValid d.nb) Ts.tileShapeInvalid,
     chk (fm 7 63 51 ||| kbD) (used && (d.kValid == 0 || !range d.kValid d.kb)) Ts.tileShapeInvalid,
     chk (kbD ||| fm 6 30 29 ||| fm 6 25 10) (!used && d.accInit == 0 && d.tileValid) Ts.tileShapeInvalid,
     chk (fm 5 31 18 ||| fm 6 49 36 ||| fm 2 63 63) (used && decide (d.opStride 2 < ac)) Ts.layoutInvalid,
     chk (fm 5 17 4 ||| fm 6 49 36 ||| fm 3 63 63) (used && decide (d.opStride 3 < bc)) Ts.layoutInvalid,
     chk (fm 6 63 50 ||| fm 6 46 44) (mat && decide (d.oStride < d.nb)) Ts.layoutInvalid]
  let step5 :=
    (if used then [pinCheck d k 2 (d.addr 2), pinCheck d k 3 (d.addr 3)] else []) ++
    (if mat then [pinCheck d k 4 (d.addr 4)] else []) ++
    [chk (fm 0 59 59 ||| fm 6 30 29) (d.accInit == 1 && !d.pin) Ts.pinInvalid]
  let part := coreBase d.home + d.pOff
  let step6 :=
    (if used then [alignCheck (fm 2 51 0 ||| fm 2 61 58 ||| kbD) (d.addr 2) (bbytesOf (d.fmt 2)),
                   alignCheck (fm 3 51 0 ||| fm 3 61 58 ||| kbD) (d.addr 3) (bbytesOf (d.fmt 3))] else []) ++
    (if mat then [alignCheck (fm 4 51 0 ||| fm 4 61 58) (d.addr 4) (bbytesOf (d.fmt 4))] else []) ++
    (if d.accInit = 1 then [alignCheck (fm 7 50 41 ||| fm 6 30 29) part 4096] else [])
  let shape := fm 6 49 36 ||| fm 6 25 10 ||| fm 1 15 7
  let who := fun (w : Nat) => if d.res w then Initiator.engine k else .coelostat (k / 16)
  let step7 :=
    if !d.tileValid then []
    else
      (if used then [accessCheck s (fm 2 63 0 ||| fm 5 31 18 ||| shape) (who 2) 0 (d.tileRuns 2),
                     accessCheck s (fm 3 63 0 ||| fm 5 17 4 ||| shape) (who 3) 0 (d.tileRuns 3)] else []) ++
      (if mat then [accessCheck s (fm 4 63 0 ||| fm 6 63 50 ||| shape) (who 4) 0 (d.tileRuns 4)] else []) ++
      (if d.accInit = 1 then
        [accessCheck s (fm 7 50 41 ||| fm 6 30 29 ||| shape) (.engine k) 0 (blockRuns part d.mb d.nb 4 4096)] else [])
  let regs := d.tileRegions k
  let step8 :=
    chk (fm 6 35 31) (d.ksb == 0 || decide (d.ksb > 16)) Ts.sramOverrun ::
    (regs.map fun r =>
      chk r.2 (decide (r.1.1 < coreBase k) || decide (r.1.2.1 > coreBase k + 0x100000)) Ts.sramOverrun) ++
    ((List.range regs.length).flatMap fun i => (regs.take i).map fun y =>
      match regs[i]? with
      | some x => chk (x.2 ||| y.2) (overlap x.1 y.1) Ts.sramOverrun
      | none => chk 0 false Ts.sramOverrun)
  let step9 :=
    [chk (shape ||| fm 2 61 58)
      (decide (d.kb > (if d.bf16 then 64 else 128)) || decide (d.length > 18432)) Ts.tileTooLong]
  [(true, step2), (false, step3), (false, step4), (false, step5), (false, step6), (false, step7), (false, step8),
   (false, step9)]

/-- The checks of a VECTOR task. -/
def vectorChecks (s : State) (k : Nat) (d : Desc) : List (Bool × List Chk) :=
  let op := d.vop
  let opD := fm 7 63 58
  let step2 :=
    headerChecks d ++ [rsv d 7 4 0,
      ⟨opD, decide (op ≥ 0x29), Ts.vectorOpReserved, 0, 506⟩,
      dfi 7 53 37 (d.lin && decide (d.f 7 53 37 > 1)) (fm 7 54 54),
      dfi 7 19 6 (d.lin && d.vstride != 0) (fm 7 54 54),
      dfi 7 5 5 (d.whole && !([0x1F, 0x20, 0x21, 0x22].contains op)) opD] ++
    [2, 3, 4].map (fun w =>
      if d.vwords.contains w then { rsv d w 57 52 with dep := fm w 57 52 ||| opD } else dfi w 63 0 (decide (op < 0x29) && d.f w 63 0 != 0) opD) ++
    [rsv d 5 57 52]
  let ins := d.vwords.filter (· != 5)
  let step3 :=
    (ins.flatMap fun w => floatRef d w opD) ++
    [chk (fm 7 57 56) (decide (d.f 7 57 56 ≥ 2)) Ts.formatReserved,
     chk (fm 5 61 58 ||| opD) (fmtReserved (d.fmt 5)) Ts.formatReserved,
     chk (fm 5 61 58 ||| opD) (if op = 0x23 then d.fmt 5 != 0xA else !fmtFloat (d.fmt 5)) Ts.formatCombination,
     chk (fm 3 61 58 ||| fm 4 61 58 ||| opD) (op == 0x1E && (d.fmt 3 != 0 || d.fmt 4 != 0)) Ts.formatCombination]
  let al := d.alpha
  let step4 :=
    [chk (fm 7 53 20) (decide (d.f 7 53 37 > 65536) || decide (d.vcols > 65536)) Ts.vectorExtent,
     chk (fm 6 63 0 ||| opD) (op == 0x0A && fgt al d.beta) Ts.vectorExtent,
     chk (fm 6 63 32 ||| opD) (op == 0x1D && (fisNan al || fgt 0 al || !fgt f1 al)) Ts.vectorExtent,
     chk (fm 7 36 20 ||| opD) (op == 0x1E && d.vcols % 2 == 1) Ts.vectorExtent] ++
    (d.vwords.map fun w => chk (fm w 63 62 ||| opD) (!d.res w || d.tr w) Ts.layoutInvalid) ++
    [chk (fm 7 54 6) (!d.lin && decide (d.vstride < ceilDiv d.vcols 32)) Ts.layoutInvalid]
  let step5 := d.vwords.map fun w => { pinCheck d k w (d.addr w) with dep := fm w 51 0 ||| fm 0 59 59 ||| fm 1 15 7 ||| opD }
  let step6 := d.vwords.map fun w =>
    alignCheck (fm w 51 0 ||| fm w 61 58 ||| opD ||| fm 7 54 54) (d.addr w) (if d.vlinear w then 64 else bbytesOf (d.fmt w))
  let step7 := d.vwords.map fun w =>
    let runs := d.vruns w ++ (match d.rowVals with
      | some x => if w = 5 ∧ d.vcount ≠ 0 then [x] else []
      | none => [])
    accessCheck s (fm w 61 58 ||| fm w 51 0 ||| opD ||| fm 7 54 5 ||| fm 1 15 7) (.vector k) 0 runs
  let step9 :=
    [chk (opD ||| fm 7 54 5 ||| d.vwords.foldl (fun m w => m ||| fm w 61 58) 0) (decide (d.length > 18432)) Ts.tileTooLong]
  [(true, step2), (false, step3), (false, step4), (false, step5), (false, step6), (false, step7), (false, step9)]

/-- A tensor format that GATHER and SCATTER move (02, R531). -/
def fmtMoves (f : Nat) : Bool := fmtFloat f || f == 9 || f == 0xA

/-- The checks of a GATHER or SCATTER task. -/
def moveChecks (s : State) (d : Desc) : List (Bool × List Chk) :=
  let scat := d.type == 4
  let uD := fm 5 39 38
  let step2 :=
    headerChecks d ++ rsvs d [(7, 58, 0), (5, 6, 0), (2, 57, 52), (3, 57, 52), (4, 57, 52)] ++
    [dfi 7 63 62 (if scat then decide (d.f 7 63 62 ≥ 2) else d.f 7 63 62 != 0) (fm 0 63 60),
     dfi 5 39 38 (d.gunit == 3),
     dfi 5 37 21 (if d.gunit = 0 then d.glen != 0 else d.glen == 0 || decide (d.glen > 65536)) uD,
     dfi 5 20 7 ((d.gunit == 0 || d.gunit == 2) && d.gstride != 0) uD,
     ⟨fm 5 20 7 ||| fm 5 37 21 ||| uD, d.gunit == 1 && decide (d.gstride < ceilDiv d.glen 32), Ts.layoutInvalid, 0, 327⟩,
     dfi 2 62 62 (d.res 2), dfi 2 63 63 (d.tr 2), dfi 3 63 63 (d.tr 3), dfi 4 63 63 (d.tr 4)]
  let src := if scat then d.fmt 4 else d.fmt 3
  let dst := if scat then d.fmt 3 else d.fmt 4
  let index := fun (f : Nat) => f == 9 || f == 0xA
  let step3 :=
    ([2, 3, 4].map fun w => chk (fm w 61 58) (fmtReserved (d.fmt w)) Ts.formatReserved) ++
    [chk (fm 7 61 60) (decide (d.f 7 61 60 ≥ 2)) Ts.formatReserved,
     chk (fm 2 61 58) (!index (d.fmt 2)) Ts.formatCombination,
     chk (fm 3 61 58) (!fmtMoves (d.fmt 3)) Ts.formatCombination,
     chk (fm 4 61 58) (!fmtMoves (d.fmt 4)) Ts.formatCombination,
     chk (fm 3 61 58 ||| fm 4 61 58) (src != dst && (index src || index dst) && !(src == 9 && dst == 0xA))
       Ts.formatCombination,
     chk (fm 7 63 62 ||| fm 3 61 58) (scat && d.f 7 63 62 == 1 && decide (d.fmt 3 > 1)) Ts.formatCombination]
  let c := d.cluster
  let step5 := [2, 3, 4].map fun w => pinCheck d d.home w (d.addr w)
  let step6 :=
    alignCheck (fm 2 51 0) (d.addr 2) 64 ::
    [3, 4].map fun w => alignCheck (fm w 51 0 ||| fm w 61 58 ||| uD) (d.addr w)
      (if d.gunit = 2 then esizeOf (d.fmt w) else bbytesOf (d.fmt w))
  let home := fm 1 15 7
  let step7 :=
    if d.gcount = 0 then []
    else
      [accessCheck s (fm 2 61 0 ||| fm 5 63 40 ||| home) (.coelostat c) 0 [(d.addr 2, d.gcount * esizeOf (d.fmt 2))],
       accessCheck s (fm 4 61 0 ||| fm 5 63 21 ||| home) (.coelostat c) 0 [(d.addr 4, d.localBytes)],
       accessCheck s (fm 3 61 0 ||| fm 5 63 7 ||| fm 6 63 32 ||| home) (.coelostat c) 0 [(d.addr 3, d.tableBytes)]]
  [(true, step2), (false, step3), (false, step5), (false, step6), (false, step7)]

/-- One end of a TRANSFER, or the semaphore of a task, at step 7 (R32, R33). -/
def globalCheck (s : State) (dep : Nat) (who : Initiator) (ga n : Nat) : Chk :=
  if s.remote ga then
    if s.fab.id.isNone then chk dep true Ts.addrDenied ga
    else accessCheck s dep .remote (gaModule ga * 2 ^ 52) [(gaAddr ga, n)]
  else accessCheck s dep who (gaModule ga * 2 ^ 52) [(gaAddr ga, n)]

/-- The checks of a TRANSFER (R103, 07 R176). -/
def transferChecks (s : State) (d : Desc) : List (Bool × List Chk) :=
  let n := 64 * d.f 5 63 32
  let src := d.f 2 63 0
  let dst := d.f 3 63 0
  let both := fm 2 63 0 ||| fm 3 63 0
  let step2 :=
    headerChecks d ++ rsvs d [(2, 63, 62), (3, 63, 62), (4, 63, 0), (5, 29, 0), (6, 63, 0), (7, 63, 0)] ++
    [dfi 5 63 32 (n == 0), ⟨both, s.remote src && s.remote dst, Ts.descFieldInvalid, 128, 128⟩]
  let host := fun (a : Nat) => regionOf a == some .hostWin
  let step4 :=
    [chk (both ||| fm 5 63 32)
      (!s.remote src && !s.remote dst && !host (gaAddr src) && !host (gaAddr dst) &&
        decide (gaAddr src < gaAddr dst + n) && decide (gaAddr dst < gaAddr src + n)) Ts.descFieldInvalid 128]
  let step5 :=
    (if s.remote src then [] else [pinCheck d d.home 2 (gaAddr src)]) ++
    (if s.remote dst then [] else [pinCheck d d.home 3 (gaAddr dst)])
  let step6 := [alignCheck (fm 2 63 0) src 64, alignCheck (fm 3 63 0) dst 64]
  let step7 := [globalCheck s (fm 2 63 0 ||| fm 5 63 32) .transfer src n,
                globalCheck s (fm 3 63 0 ||| fm 5 63 32) .transfer dst n]
  [(true, step2), (false, step4), (false, step5), (false, step6), (false, step7)]

/-- The checks of SEM_WAIT and SEM_SIGNAL (Table 4-10). -/
def semChecks (s : State) (d : Desc) : List (Bool × List Chk) :=
  let step2 := headerChecks d ++
    (if d.type = 0x9 then rsvs d [(2, 63, 62), (3, 31, 0), (5, 63, 0), (6, 63, 0), (7, 63, 0)]
     else rsvs d [(2, 63, 62), (3, 61, 32), (4, 63, 0), (5, 63, 0), (6, 63, 0), (7, 63, 0)] ++
      [dfi 3 63 62 (decide (d.f 3 63 62 ≥ 2)),
       dfi 3 31 0 (d.f 3 63 62 == 0 && d.f 3 31 0 == 0) (fm 3 63 62)])
  [(true, step2), (false, if s.remote (d.f 2 63 0) then [] else [pinCheck d d.home 2 (gaAddr (d.f 2 63 0))]),
   (false, [alignCheck (fm 2 63 0) (d.f 2 63 0) 8]),
   (false, [globalCheck s (fm 2 63 0) .semTask (d.f 2 63 0) 8])]

/-- The checks of TIMER and STEP_MARK (Table 4-10, R105) on stream `st`. -/
def timerChecks (s : State) (step : List Nat) (st : Nat) (d : Desc) : List (Bool × List Chk) :=
  let _ := s
  [(true, headerChecks d ++ rsvs d [(3, 63, 1), (4, 63, 0), (5, 63, 0), (6, 63, 0), (7, 63, 0)] ++
    [dfi 3 0 0 (d.type == 0xC && d.b 3 0 && !step.contains st) (fm 1 23 16)])]

/-- The field checks of a SPECTRO task (Table 4-8). -/
def spectroFields (d : Desc) : List Chk :=
  headerChecks d ++ rsvs d [(7, 63, 0), (6, 15, 0), (5, 15, 0), (3, 63, 52), (2, 59, 52)] ++
  [dfi 5 63 32 (bit (d.f 5 63 32) 31 || bits (d.f 5 63 32) 30 23 == 0 || bits (d.f 5 63 32) 30 23 == 255),
   dfi 5 31 16 (d.f 5 31 16 == 0), dfi 4 63 0 (d.f 4 63 0 == 0), dfi 2 63 60 (decide (d.f 2 63 60 ≥ 4))]

/-- The field checks of an OPTIM task. -/
def optimFields (d : Desc) : List Chk :=
  let c := d.f 4 31 0
  headerChecks d ++ rsvs d [(7, 63, 4), (6, 63, 32), (6, 15, 0), (3, 57, 52), (2, 59, 52)] ++
  [dfi 5 31 0 (d.f 5 31 0 == 0 || decide (d.f 5 31 0 > 2048)),
   dfi 4 31 0 (c != 0 && (bit c 31 || bits c 30 23 == 0 || bits c 30 23 == 255)),
   dfi 3 63 63 (d.tr 3), dfi 2 63 60 (decide (d.f 2 63 60 ≥ 7))]

/-- The format checks of an OPTIM task. -/
def optimFormats (d : Desc) : List Chk :=
  [chk (fm 7 1 0) (decide (d.f 7 1 0 ≥ 2)) Ts.formatReserved,
   chk (fm 3 61 58) (fmtReserved (d.fmt 3)) Ts.formatReserved,
   chk (fm 3 61 58) (decide (d.fmt 3 > 1)) Ts.formatCombination]

/-- The field checks of a COLLECTIVE task. -/
def collFields (d : Desc) : List Chk :=
  headerChecks d ++ rsvs d [(7, 63, 0), (6, 63, 52), (4, 54, 0), (3, 63, 52), (2, 63, 52)] ++
  [dfi 5 31 0 (d.f 6 51 0 != 0 && d.f 5 31 0 != 0) (fm 6 51 0), dfi 4 63 62 (d.f 4 63 62 == 3)]

/-- The format checks of a COLLECTIVE task. -/
def collFormats (d : Desc) : List Chk :=
  [chk (fm 4 61 58) (fmtReserved (d.f 4 61 58)) Ts.formatReserved,
   chk (fm 4 57 56) (decide (d.f 4 57 56 ≥ 2)) Ts.formatReserved,
   chk (fm 4 61 58 ||| fm 4 63 62)
     (if d.f 4 63 62 = 2 then !fmtFloat (d.f 4 61 58) else decide (d.f 4 61 58 > 1)) Ts.formatCombination]

end Sys2Proof.Machine
end

