-- ==== Sys2Proof/Machine/Engine.lean ====
section
/-!
DEFINITION. The arithmetic of the engines and the result path (03, R64–R71), on blocks of patterns.
-/

namespace Sys2Proof.Machine

/-- `n` elements of `es` bytes each, as patterns. -/
def patterns (es : Nat) : Nat → List Byte → List Nat
  | 0, _ => []
  | n + 1, bs => ofLE (bs.take es) :: patterns es n (bs.drop es)

/-- The bytes of patterns of `es` bytes each. -/
def patBytes (es : Nat) (xs : List Nat) : List Byte := xs.flatMap (leBytes es)

/-- 32 rows of 32 elements (R60). -/
def gridOf (xs : List Nat) : List (List Nat) := (List.range 32).map fun r => (xs.drop (32 * r)).take 32

/-- Element (c, r) at (r, c) (R64). -/
def gridT (g : List (List Nat)) : List (List Nat) := (List.range 32).map fun c => g.map fun row => row.getD c 0

/-- Padding reads as +0 (R62). -/
def gridMask (rows cols : Nat) (g : List (List Nat)) : List (List Nat) :=
  (List.range 32).map fun r =>
    if r < rows then (List.range 32).map fun c => if c < cols then (g.getD r []).getD c 0 else 0
    else List.replicate 32 0

/-- The values of a row or a column, and whether a subnormal in it was read as zero. -/
def decodeRow (f : FFmt) (xs : List Nat) : List FV × Bool :=
  (xs.map fun x => (fdecode f x).1, xs.any fun x => (fdecode f x).2.flush)

/-- S of R66 and R67: the exact sum of 32 products. -/
def dotExact (a b : List FV) : FV :=
  match List.zipWith fvMul a b with
  | [] => .fin false 0 0
  | p :: t => t.foldl fvAdd p

/-- One accumulator element after one block product (R66, R67). -/
def accStep (acc : Nat × Flags) (a b : List FV × Bool) : Nat × Flags :=
  let (y, fl) := f32r (fvAdd (f32v acc.1) (dotExact a.1 b.1))
  (y, acc.2.or { fl with flush := fl.flush || a.2 || b.2, nan := false })

/-- A block product: A by rows, B by columns (R66). -/
def blockProduct (fa fb : FFmt) (a b : List (List Nat)) (acc : List (Nat × Flags)) : List (Nat × Flags) :=
  let rows := a.map (decodeRow fa)
  let cols := (gridT b).map (decodeRow fb)
  (rows.flatMap fun r => cols.map fun c => (r, c)).zipWith (fun p x => accStep x p.1 p.2) acc

/-- An accumulator element as LOAD_FP32 finds it (R68): subnormals read as zero. -/
def accLoad (x : Nat) : Nat × Flags :=
  let (v, fl) := fdecode ffp32 x
  ((f32r v).1, { flush := fl.flush })

/-- rs as the result path reads it (R69): zeros and subnormals of either sign are +0. -/
def rsValue (x : Nat) : Nat := if fisZero x then 0 else x

/-- Step 1 of R69. -/
def rsStep (rs : Nat) (x : Nat × Flags) : Nat × Flags :=
  if rs = f1 then x
  else
    let (y, fl) := mulF x.1 (rsValue rs)
    (y, x.2.or { fl with nan := false })

/-- Steps 3 and 4 of R69: the pattern written and the element's flags. -/
def outStep (f : Nat) (r : Rnd) (sat : Bool) (x : Nat × Flags) : Nat × Flags :=
  match ffmtOf f with
  | none => x
  | some g =>
    if f = 0 then (x.1, { x.2 with nan := fisNan x.1 })
    else
      let (y, fl) := fconv ffp32 g r sat x.1
      (y, x.2.or fl)

/-- The rows and columns of an output block that are valid. -/
def Desc.blockValid (d : Desc) (bi bj : Nat) : Nat × Nat :=
  (Nat.min 32 (d.rowsValid - 32 * bi), Nat.min 32 (d.colsValid - 32 * bj))

/-- What one block contributes to a task: its step-1 values, its output patterns, the counts of its flags, and the
absolute maximum folded in (R69, R70). -/
structure Drained where
  step1 : List (Nat × Flags)
  out : List Nat
  sat : Nat
  flush : Nat
  nan : Nat
  amax : Nat

/-- The result path over output block (bi, bj) (R69, R70, Table 9-6). -/
def drainBlock (d : Desc) (c : RngCtx) (bi bj amax : Nat) (acc : List (Nat × Flags)) : Drained :=
  let (vr, vc) := d.blockValid bi bj
  let rs := d.f 5 63 32
  let valid := fun (i : Nat) => decide (i / 32 < vr) && decide (i % 32 < vc)
  let one := (List.range 1024).zipWith (fun i x => if valid i then rsStep rs x else (0, ({} : Flags))) acc
  let out := (List.range 1024).zipWith (fun i x =>
    if valid i then outStep (d.fmt 4) (c.rnd (d.f 6 28 27) ((4 * bi + bj) * 1024 + i)) (d.b 6 26) x
    else (0, ({} : Flags))) one
  { step1 := one
    out := out.map Prod.fst
    sat := out.countP fun x => x.2.sat
    flush := out.countP fun x => x.2.flush
    nan := out.countP fun x => x.2.nan
    amax := ((List.range 1024).zip one).foldl (fun m p => if valid p.1 then fmax m (fabs p.2.1) else m) amax }

end Sys2Proof.Machine
end

