-- ==== Sys2Proof/Machine/Vector.lean ====
section
/-!
DEFINITION. The vector unit (03, R77–R82, R532): its catalogue on FP32 patterns. The nine functions that R78 bounds
to 2 ulp are computed to some 600 binary places, and Config.vecChoice takes one of the FP32 values within the bound
(log entry 10).
-/

namespace Sys2Proof.Machine

/-! Exact values, as integers at 2^-640. -/

/-- Binary places kept. -/
def fxBits : Nat := 640
/-- 1 at that scale. -/
def fxOne : Int := 2 ^ fxBits
/-- A product at that scale. -/
def fxMul (a b : Int) : Int := a * b / fxOne
/-- A quotient at that scale. -/
def fxDiv (a b : Int) : Int := a * fxOne / b
/-- A decimal constant n ÷ d. -/
def fxRat (n d : Nat) : Int := (n : Int) * fxOne / d
/-- A finite value at that scale. -/
def fxOf (neg : Bool) (m : Nat) (e : Int) : Int :=
  let k := e + fxBits
  let x : Int := if k ≥ 0 then (m : Int) * 2 ^ k.toNat else (m : Int) / 2 ^ (-k).toNat
  if neg then -x else x

/-- Keep a value within ± n. -/
def fxClamp (n : Nat) (x : Int) : Int := max (-(n : Int) * fxOne) (min ((n : Int) * fxOne) x)

/-- Σ y^i ÷ i! from term `i` on. -/
def expTerms (y : Int) : Nat → Nat → Int → Int
  | 0, _, _ => 0
  | n + 1, i, t => t + expTerms y n (i + 1) (fxMul t y / (i + 1 : Nat))

/-- Square `n` times. -/
def fxSquares : Nat → Int → Int
  | 0, x => x
  | n + 1, x => fxSquares n (fxMul x x)

/-- e^x. -/
def fxExp (x : Int) : Int := fxSquares 12 (expTerms (x / 4096) 90 0 fxOne)

/-- Σ z^(2i+1) ÷ (2i+1). -/
def atanhTerms (z2 : Int) : Nat → Nat → Int → Int
  | 0, _, _ => 0
  | n + 1, i, t => t / (2 * i + 1 : Nat) + atanhTerms z2 n (i + 1) (fxMul t z2)

/-- ln of a value from 1 up to 2. -/
def fxLn1 (x : Int) : Int :=
  let z := fxDiv (x - fxOne) (x + fxOne)
  2 * atanhTerms (fxMul z z) 210 0 z

/-- ln of m × 2^e, m not 0. -/
def fxLn (m : Nat) (e : Int) : Int :=
  let k : Nat := bitLen m - 1
  let one := fxOf false m (-(k : Int))
  fxLn1 one + (e + k) * fxLn1 (2 * fxOne)

/-- 1 ÷ (1 + e^-x). -/
def fxSigmoid (x : Int) : Int :=
  let t := fxExp (fxClamp 300 x)
  fxDiv t (t + fxOne)

/-- tanh x. -/
def fxTanh (x : Int) : Int :=
  let t := fxExp (2 * fxClamp 200 x)
  fxDiv (t - fxOne) (t + fxOne)

/-- 1 ÷ √(m × 2^e), m not 0. -/
def fxRsqrt (m : Nat) (e : Int) : Int :=
  let odd := e % 2 ≠ 0
  let m := if odd then 2 * m else m
  let e := if odd then e - 1 else e
  let r := (2 ^ (2 * fxBits) / m).sqrt
  let sh := e / 2
  if sh ≥ 0 then (r : Int) / 2 ^ sh.toNat else (r : Int) * 2 ^ (-sh).toNat

/-- 2u of GELU: 2 × 0.7978846 × (a + 0.044715 a³). -/
def gelu2u (a : Int) : Int :=
  2 * fxMul (fxRat 7978846 10000000) (a + fxMul (fxRat 44715 1000000) (fxMul a (fxMul a a)))

/-- GELU′(a) and SILU′(a). -/
def fxGeluD (a : Int) : Int :=
  let s := fxSigmoid (gelu2u a)
  let du := 2 * fxMul (fxRat 7978846 10000000) (fxOne + 3 * fxMul (fxRat 44715 1000000) (fxMul a a))
  s + fxMul (fxMul a du) (fxMul s (fxOne - s))
def fxSiluD (a : Int) : Int :=
  let s := fxSigmoid a
  fxMul s (fxOne + fxMul a (fxOne - s))

/-- The FP32 pattern that the fixed approximation gives for the exact value v × 2^sh (2^-640 scale), v not 0: one of
those within 2 ulp (R78). -/
def within2 (op x : Nat) (v sh : Int) : Nat × Flags :=
  let m := v.natAbs
  let k := bitLen m
  let d := k - 24
  let (n, exact) := if k ≤ 24 then (m * 2 ^ (24 - k), true) else (m / 2 ^ d, m % 2 ^ d == 0)
  let q : Int := (k : Int) - 24 - fxBits + sh
  let c := Config.vecChoice op x
  let n := if exact then n + c % 5 - 2 else n + c % 4 - 1
  f32r (.fin (decide (v < 0)) n q)

/-- A result too small for FP32: a zero of the exact result's sign, flushed. -/
def tiny (neg : Bool) : Nat × Flags := (fsign ffp32 neg, { flush := true })

/-- A value, or a flushed zero where even 640 places do not show it. -/
def approx (op x : Nat) (neg : Bool) (v : Int) : Nat × Flags := if v = 0 then tiny neg else within2 op x v 0

/-- A function of R78 on the value of `x`. -/
def vecFun (op x : Nat) : Nat × Flags :=
  let nan : Nat × Flags := (0x7FC00000, {})
  match op, f32v x with
  | _, .nan => nan
  | 0x12, .inf neg => if neg then nan else (0, {})
  | 0x12, .fin neg m e =>
    if m = 0 then (0x7F800000, {}) else if neg then nan else within2 op x (fxRsqrt m e) 0
  | 0x13, .inf neg => if neg then (0, {}) else (0x7F800000, {})
  | 0x13, .fin neg m e =>
    if m = 0 then within2 op x fxOne 0
    else
      let v := fxOf neg m (if e > 64 then 64 else e)
      if v < -300 * fxOne then tiny false else approx op x false (fxExp (fxClamp 300 v))
  | 0x14, .inf neg => if neg then nan else (0x7F800000, {})
  | 0x14, .fin neg m e =>
    if m = 0 then (0xFF800000, {}) else if neg then nan
    else
      let v := fxLn m e
      if v = 0 then (0, {}) else within2 op x v 0
  | 0x15, .inf neg => ((f32r (.fin neg 1 0)).1, {})
  | 0x15, .fin neg m e =>
    if m = 0 then (fsign ffp32 neg, {}) else approx op x neg (fxTanh (fxOf neg m (if e > 64 then 64 else e)))
  | 0x16, .inf neg => if neg then (0, {}) else (f1, {})
  | 0x16, .fin neg m e => approx op x false (fxSigmoid (fxOf neg m (if e > 64 then 64 else e)))
  | 0x18, .inf neg => if neg then (2 ^ 31, {}) else (0x7F800000, {})
  | 0x18, .fin neg m e =>
    if m = 0 then (fsign ffp32 neg, {})
    else
      let a := fxOf neg m e
      if a > 64 * fxOne then within2 op x a 0
      else if a < -64 * fxOne then tiny true
      else approx op x neg (fxMul a (fxSigmoid (gelu2u a)))
  | 0x19, .inf neg => if neg then (2 ^ 31, {}) else (0x7F800000, {})
  | 0x19, .fin neg m e =>
    if m = 0 then (fsign ffp32 neg, {})
    else
      let a := fxOf neg m e
      if a < -300 * fxOne then tiny true else approx op x neg (fxMul a (fxSigmoid a))
  | _, _ => nan

/-- GELU_GRAD (0x1B) and SILU_GRAD (0x1C): b × the derivative at a (R78). -/
def vecGrad (op a b : Nat) : Nat × Flags :=
  match f32v a with
  | .nan => (0x7FC00000, {})
  | .inf neg => mulF b (if neg then 0 else f1)
  | .fin na m e =>
    let x := fxOf na m e
    let big := decide (x > 300 * fxOne)
    let small := decide (x < -300 * fxOne)
    let d : Int :=
      if big then fxOne else if small then 0
      else if op = 0x1B then (if x < -64 * fxOne then 0 else if x > 64 * fxOne then fxOne else fxGeluD x) else fxSiluD x
    let dneg := if d = 0 then true else decide (d < 0)
    match f32v b with
    | .fin nb n k =>
      if n = 0 then (fsign ffp32 (xor nb dneg), {})
      else if d = 0 then tiny (xor nb true)
      else within2 op (a + 2 ^ 32 * b) ((if nb then -1 else 1) * (n : Int) * d) k
    | .inf nb => ((f32r (.inf (xor nb dneg))).1, {})
    | .nan => (0x7FC00000, {})

/-! Elements. -/

/-- An element with its flags so far. -/
abbrev El := Nat × Flags

/-- A value read as FP32 from its format, with the flag of a subnormal read as zero (R78). -/
def elIn (f x : Nat) : El :=
  match ffmtOf f with
  | some g =>
    let (y, fl) := fconv g ffp32 .rne false x
    (y, { fl with nan := false })
  | none => (x, {})

/-- A step of Table 2-5 on elements: flags gather, a NaN shows at the end. -/
def el1 (f : Nat → Nat × Flags) (a : El) : El :=
  let (y, fl) := f a.1
  (y, a.2.or { fl with nan := false })
def el2 (f : Nat → Nat → Nat × Flags) (a b : El) : El :=
  let (y, fl) := f a.1 b.1
  (y, (a.2.or b.2).or { fl with nan := false })
def el3 (f : Nat → Nat → Nat → Nat × Flags) (a b c : El) : El :=
  let (y, fl) := f a.1 b.1 c.1
  (y, ((a.2.or b.2).or c.2).or { fl with nan := false })

/-- fp32_max and fp32_min on elements. -/
def elMax (a b : El) : El := (fmax a.1 b.1, a.2.or b.2)
def elMin (a b : El) : El := (fmin a.1 b.1, a.2.or b.2)

/-- An FP32 scalar of the descriptor. -/
def scalar (x : Nat) : El := ((f32r (f32v x)).1, { flush := (fdecode ffp32 x).2.flush })

/-- FP32 of a truth value (R82). -/
def truth (b : Bool) : Nat := if b then f1 else 0

/-- An element-wise operation of Table 3-6 (R532 for its compound steps). -/
def vecElem (op alpha beta : Nat) (a b c : El) : El :=
  match op with
  | 0x00 => el2 addF a b
  | 0x01 => el2 subF a b
  | 0x02 => el2 mulF a b
  | 0x03 => el3 fmaF a b c
  | 0x04 => el3 fmaF (scalar alpha) a (el2 mulF (scalar beta) b)
  | 0x05 => el3 fmaF (scalar alpha) a (scalar beta)
  | 0x06 => elMax a b
  | 0x07 => elMin a b
  | 0x08 => (if fisNan a.1 then 0x7FC00000 else fneg a.1, a.2)
  | 0x09 => (if fisNan a.1 then 0x7FC00000 else fabs a.1, a.2)
  | 0x0A => elMin (elMax a (scalar alpha)) (scalar beta)
  | 0x0B => if !fisZero c.1 && !fisNan c.1 then (a.1, a.2.or c.2) else (b.1, b.2.or c.2)
  | 0x0C => (truth (fgt a.1 b.1), a.2.or b.2)
  | 0x0D => (truth (feq a.1 b.1), a.2.or b.2)
  | 0x0E => a
  | 0x0F => el2 divF a b
  | 0x10 => el2 divF (f1, {}) a
  | 0x11 => el1 sqrtF a
  | 0x17 => if fisNan a.1 then (0x7FC00000, a.2) else if fgt a.1 0 then a else (0, a.2)
  | 0x1A => if fgt a.1 0 then (b.1, a.2.or b.2) else (0, a.2)
  | 0x1B => el2 (vecGrad 0x1B) a b
  | 0x1C => el2 (vecGrad 0x1C) a b
  | n => el1 (vecFun n) a

/-! Reductions (R79). -/

/-- Lane `j` of 128, over the elements from `i` on. -/
def laneFold (f : El → El → El) (init : El) (j : Nat) (xs : List El) : El :=
  ((List.range xs.length).zip xs).foldl (fun acc p => if p.1 % 128 = j then f acc p.2 else acc) init

/-- Neighbours added in pairs. -/
def pairUp : List El → List El
  | a :: b :: t => el2 addF a b :: pairUp t
  | t => t

/-- The tree of R79 over 2^n lanes. -/
def laneTree : Nat → List El → El
  | 0, xs => xs.headD (0, {})
  | n + 1, xs => laneTree n (pairUp xs)

/-- A sum in the order of R79 with the lane step given. -/
def laneSum (step : El → El → El) (xs : List El) : El :=
  laneTree 7 ((List.range 128).map fun j => laneFold step (0, {}) j xs)

/-- Σ of g × y in the same order, each lane step fp32_fma(g, y, lane) (R532). -/
def laneDot (ys gs : List El) : El :=
  let ps := List.zip ys gs
  laneTree 7 ((List.range 128).map fun j =>
    ((List.range ps.length).zip ps).foldl
      (fun acc p => if p.1 % 128 = j then el3 fmaF p.2.2 p.2.1 acc else acc) (0, {}))

/-- SUM, SUMSQ, AMAX, MAXR. -/
def vSum (xs : List El) : El := laneSum (el2 addF) xs
def vSumSq (xs : List El) : El := laneSum (fun l x => el3 fmaF x x l) xs
def vAmax (xs : List El) : El := xs.foldl (fun m x => elMax m (fabs x.1, x.2)) (0, {})
def vMaxr (xs : List El) : El := xs.foldl elMax (0xFF800000, {})

/-- ARGMAX_ROW: the index of the first maximum, of the first NaN if there is one. -/
def vArgmax (xs : List El) : El :=
  let m := vMaxr xs
  let i := if fisNan m.1 then xs.findIdx fun x => fisNan x.1 else xs.findIdx fun x => x.1 == m.1
  (i, { m.2 with nan := m.2.nan || fisNan m.1 })

/-- A reduction of Table 3-6 over a row, or over all. -/
def vReduce (op : Nat) (xs : List El) : El :=
  match op with
  | 0x1F => vSum xs
  | 0x20 => vSumSq xs
  | 0x21 => vAmax xs
  | 0x22 => vMaxr xs
  | 0x23 => vArgmax xs
  | _ =>
    let m := vMaxr xs
    if m.1 = 0xFF800000 then (0xFF800000, {})
    else
      let es := xs.map fun x => el1 (vecFun 0x13) (el2 subF x m)
      el2 addF m (el1 (vecFun 0x14) (vSum es))

/-- FP32 of a count. -/
def elCount (n : Nat) : El := (ffromInt n, {})

/-- A row operation (R532, R81): the outputs of the row and the row values written beside it. -/
def vRow (op alpha : Nat) (a b c : List El) : List El × List El :=
  match op with
  | 0x24 =>
    let m := vMaxr a
    if m.1 = 0xFF800000 then (a.map fun _ => (0, ({} : Flags)), [])
    else if fisNan m.1 then (a.map fun _ => (0x7FC00000, m.2), [])
    else
      let es := a.map fun x => el1 (vecFun 0x13) (el2 subF x m)
      let r := el2 divF (f1, {}) (vSum es)
      (es.map fun e => el2 mulF e r, [])
  | 0x25 =>
    let s := laneDot a b
    (List.zipWith (fun y g => el2 mulF y (el2 subF g s)) a b, [])
  | 0x27 =>
    let n := elCount a.length
    let mu := el2 divF (vSum a) n
    let ds := a.map fun x => el2 subF x mu
    let var := el2 divF (vSumSq ds) n
    let f := el1 (vecFun 0x12) (el2 addF var (scalar alpha))
    (List.zipWith (fun d p => el3 fmaF (el2 mulF d f) p.1 p.2) ds (List.zip b c), [mu, f])
  | _ =>
    let f := el1 (vecFun 0x12) (el2 addF (el2 divF (vSumSq a) (elCount a.length)) (scalar alpha))
    (List.zipWith (fun x g => el2 mulF (el2 mulF x f) g) a b, [f])

/-! A whole task. -/

/-- The address of element (r, c) of an operand. -/
def Desc.vaddr (d : Desc) (w r c : Nat) : Nat :=
  let f := d.fmt w
  if d.lin then d.addr w + c * esizeOf f
  else d.addr w + (r / 32 * d.vstride + c / 32) * bbytesOf f + (32 * (r % 32) + c % 32) * esizeOf f

/-- The element index of (r, c) (09, Table 9-6). -/
def Desc.vindex (d : Desc) (r c : Nat) : Nat :=
  if d.lin then c else (r / 32 * d.vstride + c / 32) * 1024 + 32 * (r % 32) + c % 32

/-- One row of an operand. -/
def vecRow (m : Memory) (d : Desc) (w r : Nat) : List El :=
  (List.range d.vcols).map fun c => elIn (d.fmt w) (m.word (d.vaddr w r c) (esizeOf (d.fmt w)))

/-- All valid elements of an operand in block-major order (R79). -/
def vecAll (m : Memory) (d : Desc) (w : Nat) : List El :=
  if d.lin then vecRow m d w 0
  else
    (List.range (ceilDiv d.vrows 32 * ceilDiv d.vcols 32)).flatMap fun k =>
      let i := k / ceilDiv d.vcols 32
      let j := k % ceilDiv d.vcols 32
      (List.range 1024).filterMap fun e =>
        let r := 32 * i + e / 32
        let c := 32 * j + e % 32
        if r < d.vrows ∧ c < d.vcols then some (elIn (d.fmt w) (m.word (d.vaddr w r c) (esizeOf (d.fmt w)))) else none

/-- p16 of R223: the integer part of p × 2^16. -/
def keepLimit (p : Nat) : Nat :=
  match f32v p with
  | .fin _ m e => roundGrid (.sr 0) m (e + 16) 0
  | _ => 0

/-- The results of one row, element-wise (R77, R223, R532). -/
def vecRowOut (m : Memory) (d : Desc) (g : RngCtx) (r : Nat) : List El × List El :=
  let op := d.vop
  let a := vecRow m d 2 r
  let n := vecIns op
  let zero : List El := a.map fun _ => (0, {})
  if op = 0x1E then
    let half := d.vcols / 2
    let tab := fun (w i : Nat) => elIn 0 (m.word (d.addr w + 4 * (r * half + i)) 4)
    ((List.range d.vcols).map fun c =>
      let x := a.getD (c / 2 * 2) (0, {})
      let z := a.getD (c / 2 * 2 + 1) (0, {})
      let cs := tab 3 (c / 2)
      let sn := tab 4 (c / 2)
      if c % 2 = 0 then el3 fmaF x cs (el2 mulF (fneg z.1, z.2) sn) else el3 fmaF z cs (el2 mulF x sn), [])
  else
    let b := if n ≥ 2 then vecRow m d 3 r else zero
    let c := if n ≥ 3 then vecRow m d 4 r else zero
    if op = 0x24 ∨ op = 0x25 ∨ op = 0x27 ∨ op = 0x28 then vRow op d.alpha a b c
    else if op = 0x1D then
      let p16 := keepLimit d.alpha
      let k := fdiv f1 (fsub f1 d.alpha)
      ((List.range d.vcols).zipWith (fun i x =>
        if rngBits g.seed g.step g.stream g.tag (d.vindex r i % 2 ^ 30) < p16 then (0, ({} : Flags))
        else el2 mulF x (k, {})) a, [])
    else (List.zipWith (fun x p => vecElem op d.alpha d.beta x p.1 p.2) a (List.zip b c), [])

/-- What a VECTOR task writes and counts. -/
structure VecOut where
  writes : List (Nat × List Byte) := []
  sat : Nat := 0
  flush : Nat := 0
  nan : Nat := 0
  /-- The absolute maximum of the FP32 results before conversion (09, R207). -/
  amax : Nat := 0

/-- fp32_max of R41 over the absolute values of elements. -/
def elAmax (xs : List El) : Nat := xs.foldl (fun m x => fmax m (fabs x.1)) 0

/-- Count the flags of written elements (R57). -/
def VecOut.tally (o : VecOut) (xs : List El) : VecOut :=
  { o with
    sat := o.sat + xs.countP fun x => x.2.sat
    flush := o.flush + xs.countP fun x => x.2.flush
    nan := o.nan + xs.countP fun x => x.2.nan }

/-- A result rounded once into the output format (R78); U32 is written as it is. -/
def vecOutEl (d : Desc) (g : RngCtx) (e : Nat) (x : El) : El :=
  if d.fmt 5 = 0xA then x else outStep (d.fmt 5) (g.rnd (d.f 7 57 56) e) (d.b 7 55) x

/-- A row value as it is written in FP32. Its flags count as those of an output element (R57); that it does, and that the
amax leaves it out, is a DESIGN CHOICE: R532 says neither (log entry 116). -/
def rowValue (x : El) : El := (x.1, { x.2 with nan := x.2.nan || fisNan x.1 })

/-- The whole effect of a VECTOR task on the memory it reads and writes (R77–R82, R101). -/
def vecRun (m : Memory) (d : Desc) (g : RngCtx) : VecOut :=
  let es := esizeOf (d.fmt 5)
  if vecReduces d.vop then
    let xs := if d.whole then [vReduce d.vop (vecAll m d 2)]
      else (List.range d.vrows).map fun r => vReduce d.vop (vecRow m d 2 r)
    let ys := (List.range xs.length).zipWith (fun i x => vecOutEl d g i x) xs
    ({ writes := [(d.addr 5, patBytes es (ys.map Prod.fst))]
       amax := if d.fmt 5 = 0xA then 0 else elAmax xs } : VecOut).tally ys
  else
    let rows := (List.range d.vrows).map fun r =>
      let (xs, vals) := vecRowOut m d g r
      let off := if d.vop = 0x1D then 2 ^ 30 else 0
      ((List.range xs.length).zipWith (fun c x => vecOutEl d g (d.vindex r c % 2 ^ 30 + off) x) xs, vals, elAmax xs)
    let ys := rows.map Prod.fst
    let vals := rows.flatMap fun x => x.2.1.map rowValue
    let tail := match d.rowVals with
      | some (a, _) => [(a, patBytes 4 (vals.map Prod.fst))]
      | none => []
    let body :=
      if d.lin then [(d.addr 5, patBytes es ((ys.getD 0 []).map Prod.fst))]
      else
        (List.range (ceilDiv d.vrows 32 * ceilDiv d.vcols 32)).map fun k =>
          let i := k / ceilDiv d.vcols 32
          let j := k % ceilDiv d.vcols 32
          (d.addr 5 + (i * d.vstride + j) * bbytesOf (d.fmt 5),
           patBytes es ((List.range 1024).map fun e =>
             (((ys.getD (32 * i + e / 32) []).getD (32 * j + e % 32) (0, {})).1)))
    ({ writes := body ++ tail, amax := rows.foldl (fun m x => fmax m x.2.2) 0 } : VecOut).tally (ys.flatMap id ++ vals)

end Sys2Proof.Machine
end

