-- ==== Sys2Proof/Machine/EphemMath.lean ====
section
/-!
DEFINITION. The arithmetic of Ephemeris (12, R280–R289; 02, R49–R55): task constants, the element updates, the moment
blocks, the block products of the Kronecker rules, the digest.
-/

namespace Sys2Proof.Machine

/-- A list cut into `k` groups of `n`. -/
def groups {α : Type} (n : Nat) : Nat → List α → List (List α)
  | 0, _ => []
  | k + 1, xs => xs.take n :: groups n k (xs.drop n)

/-- b^t in the fixed order of R280, over the bits of an exponent below 2^16. -/
def fpow (b t : Nat) : Nat :=
  ((List.range 16).foldl (fun (p : Nat × Nat) i =>
    (if bit (Nat.min t 65535) i then fmul p.1 p.2 else p.1, fmul p.2 p.2)) (f1, b)).1

/-- The constants of a task (R280). -/
structure OptK where
  rule : Nat
  b1 : Nat
  b2 : Nat
  eps : Nat
  s : Nat
  k : Nat
  nlr : Nat
  ob1 : Nat
  ob2 : Nat
  c1 : Nat
  c2 : Nat
deriving DecidableEq, Repr

/-- R280, with the scaling s as computed: `hyp` the hyperparameter record, `step` the stream's step register. -/
def optK (hyp : List Nat) (rule lr s step : Nat) : OptK :=
  let q := fun (w hi lo : Nat) => bits (hyp.getD w 0) hi lo
  let b1 := q 0 63 32
  let b2 := q 0 31 0
  let t := if step ≥ q 3 63 0 then (step - q 3 63 0 + 1) % 2 ^ 64 else 1
  { rule := rule, b1 := b1, b2 := b2, eps := q 1 63 32, s := s
    k := fsub f1 (fmul lr (q 1 31 0)), nlr := fneg lr
    ob1 := fsub f1 b1, ob2 := fsub f1 b2, c1 := fsub f1 (fpow b1 t), c2 := fsub f1 (fpow b2 t) }

/-- A constant as an element. -/
def elK (x : Nat) : El := (x, {})

/-- The layer norm's part of s (R280). A norm that is a NaN makes s a NaN, as the rule's prose says. -/
def normScale (s tau n : Nat) : Nat :=
  if fisNan n then 0x7FC00000 else if fgt n tau then fmul s (fdiv tau n) else s

/-- adam(m, v) of R281. -/
def optAdam (k : OptK) (m v : El) : El :=
  el2 divF (el2 divF m (elK k.c1)) (el2 addF (el1 sqrtF (el2 divF v (elK k.c2))) (elK k.eps))

/-- sgn(u) of R281. -/
def optSgn (u : El) : El :=
  (if fisNan u.1 then 0x7FC00000 else if fgt u.1 0 then f1 else if fgt 0 u.1 then fneg f1 else 0, u.2)

/-- β·m + (1 − β)·gs, and β·m + gs. -/
def optMix (b ob : Nat) (m gs : El) : El := el3 fmaF (elK b) m (el2 mulF (elK ob) gs)
def optHeavy (b : Nat) (m gs : El) : El := el3 fmaF (elK b) m gs

/-- The new first moment (R281; the Kronecker rules: log entry 90). -/
def optM (k : OptK) (gs m : El) : El :=
  match k.rule with
  | 0 => optHeavy k.b1 m gs
  | 1 => optHeavy k.b1 m gs
  | 3 => optMix k.b2 k.ob2 m gs
  | 6 => optHeavy k.b1 m gs
  | _ => optMix k.b1 k.ob1 m gs

/-- The new second moment. -/
def optV (k : OptK) (gs v : El) : El := el3 fmaF (elK k.b2) v (el2 mulF (elK k.ob2) (el2 mulF gs gs))

/-- d of R281: `old` the moment before the update, `m` and `v` after it. -/
def optD (k : OptK) (gs old m v : El) : El :=
  match k.rule with
  | 0 => m
  | 1 => optHeavy k.b1 m gs
  | 3 => optSgn (optMix k.b1 k.ob1 old gs)
  | _ => optAdam k m v

/-- mn of R281. -/
def optMaster (k : OptK) (d mo : El) : El := el3 fmaF (elK k.nlr) d (el2 mulF (elK k.k) mo)

/-! Factored second moments (R282). -/

/-- The new row and column factors of a block, 32 each. -/
def factors (k : OptK) (gs : List Nat) (r c : List Nat) : List Nat × List Nat :=
  let at_ := fun (i j : Nat) => gs.getD (32 * i + j) 0
  let mean := fun (f : Nat → Nat) =>
    fmul ((List.range 32).foldl (fun q i => ffma (f i) (f i) q) 0) 0x3D000000
  let upd := fun (old x : Nat) => ffma k.b2 old (fmul k.ob2 x)
  ((List.range 32).map fun i => upd (r.getD i 0) (mean fun j => at_ i j),
   (List.range 32).map fun j => upd (c.getD j 0) (mean fun i => at_ i j))

/-- vhat of R282, row-major. -/
def vhat (r c : List Nat) : List El :=
  let sr := fmul (r.foldl fadd 0) 0x3D000000
  r.flatMap fun x => c.map fun y =>
    if fisZero sr then (0, {}) else el2 divF (el2 mulF (elK x) (elK y)) (elK sr)

/-! Moment blocks (02, R49–R52; R283). -/

/-- One moment block of 128 codes at address `a`: its elements, or the fault and its detail. -/
def momBlock (two : Bool) (a : Nat) (codes : List Nat) (s : Nat) : Except (Nat × Nat) (List El) :=
  if !two ∧ codes.any (· == 0x80) then .error (Ts.momentCodeReserved, a)
  else if scaleReserved s then .error (Ts.momentScaleReserved, a)
  else if fisNan s then .ok (codes.map fun _ => (0x7FC00000, { nan := true }))
  else
    let s := scaleRead s
    .ok (codes.map fun (c : Nat) =>
      let x := elK (ffromInt (if two then Int.ofNat c else toSigned 8 c))
      let r := el2 divF (el2 mulF x (elK s)) (elK (if two then f255 else f127))
      if two then el2 mulF r r else r)

/-- The eight moment blocks of a 32×32 block whose codes start at `a`: 1,024 code bytes and 32 scale bytes. -/
def momDecode (two : Bool) (a : Nat) (codes scales : List Byte) : Except (Nat × Nat) (List El) :=
  let ss := (groups 4 8 scales).map ofLE
  let cs := groups 128 8 (codes.map BitVec.toNat)
  (List.range 8).foldl (fun acc i => do
    let xs ← acc
    let ys ← momBlock two (a + 128 * i) (cs.getD i []) (ss.getD i 0)
    pure (xs ++ ys)) (.ok [])

/-- The moments of a 32×32 block encoded: code bytes, scale bytes, and the elements with the encoding's flags. `r e` is
the rounding of the block's element e. -/
def momEncode (two : Bool) (r : Nat → Rnd) (xs : List El) : List Byte × List Byte × List El :=
  let parts := ((List.range 8).zip (groups 128 8 xs)).map fun p =>
    let ys := p.2.map Prod.fst
    let (cs, s) := if two then m2Encode (fun i => r (128 * p.1 + i)) ys else m1Encode (fun i => r (128 * p.1 + i)) ys
    let full := if two then f255 else f127
    let out : List El := p.2.map fun (x : El) =>
      if fisNan s then (x.1, x.2.or { nan := true })
      else if fisZero s then x
      else
        let y := if two then el1 sqrtF x else x
        (x.1, (el2 mulF (el2 divF y (elK s)) (elK full)).2)
    (cs.map fun c => BitVec.ofNat 8 (ofSigned 8 c), leBytes 4 s, out)
  (parts.flatMap fun p => p.1, parts.flatMap fun p => p.2.1, parts.flatMap fun p => p.2.2)

/-! Masters (R284). -/

/-- The masters of a block from the bytes of H and L; none where a pair is reserved. -/
def joinBlock (h l : List Byte) : Option (List Nat) :=
  let hs := (groups 2 1024 h).map ofLE
  let ls := (groups 2 1024 l).map fun b => toSigned 16 (ofLE b)
  (List.zipWith joinPair hs ls).foldr (fun x acc => match x, acc with | some a, some t => some (a :: t) | _, _ => none)
    (some [])

/-- A block of new masters split: the bytes of H and of L, and the elements with the split's flags. -/
def splitBlock (xs : List El) : List Byte × List Byte × List El :=
  let ps := xs.map fun x => splitPair x.1
  (ps.flatMap fun p => leBytes 2 p.1, ps.flatMap fun p => leBytes 2 (ofSigned 16 p.2.1),
   List.zipWith (fun (x : El) (p : Nat × Int × Bool) => ((x.1, x.2.or { sat := p.2.2, nan := fisNan x.1 }) : El)) xs ps)

/-! Products (R286, R287). -/

/-- A product operand: an FP32 or BF16 element as BF16, with the flags of its conversion (R286). -/
def prodIn (f : Nat) (x : El) : El :=
  if f = 1 then x
  else
    let (y, fl) := fconv ffp32 fbf16 .rne false x.1
    (y, x.2.or { fl with nan := false })

/-- Flags of a whole row. -/
def rowFlags (xs : List El) : Flags := xs.foldl (fun f x => f.or x.2) {}

/-- One block product added to an output block (R66, R286): the flags of the operands' conversions are those of every
output element they enter. -/
def gridProduct (a b : List El) (acc : List El) : List El :=
  let ga := groups 32 32 a
  let gb := groups 32 32 b
  let fa := ga.map rowFlags
  let fb := (List.range 32).map fun j => rowFlags (gb.map fun row => row.getD j (0, {}))
  let out := blockProduct fbf16 fbf16 (ga.map (·.map Prod.fst)) (gb.map (·.map Prod.fst)) acc
  ((List.range 1024).zip out).map fun p => (p.2.1, (p.2.2.or (fa.getD (p.1 / 32) {})).or (fb.getD (p.1 % 32) {}))

/-- Grafting of a block (R287): the magnitude of a on the direction of D. -/
def graft (d a : List El) : List El :=
  let na := el1 sqrtF (vSumSq a)
  let nd := el1 sqrtF (vSumSq d)
  if fisZero nd.1 || fisNan nd.1 || fisInf nd.1 then a
  else d.map fun x => el2 mulF x (elK (fdiv na.1 nd.1))

/-! The digest (R293). -/

/-- The contribution of region block `j` with the given masters. -/
def digestBlock (j : Nat) (m : List Nat) : W64 :=
  let (a, b) := (List.range 512).foldl (fun (p : W64 × W64) i =>
    let w := BitVec.ofNat 64 (m.getD (2 * i + 1) 0 * 2 ^ 32 + m.getD (2 * i) 0)
    (p.1 + w, p.2 + (p.1 + w))) (0, 0)
  rotl64 (a ^^^ rotl64 b 32) (j % 64) ^^^ (BitVec.ofNat 64 j * 0x9E3779B97F4A7C15)

end Sys2Proof.Machine
end

