-- ==== Sys2Proof/Machine/Check.lean ====
section
/-!
DEFINITION. The whole check of a descriptor (04, R110).
-/

namespace Sys2Proof.Machine

/-- The checks of a SPECTRO task: its problem record must be aligned (11, R249), and it and the entry that `out` names
accessible; an `out` that is no entry is found later (11, R266). -/
def spectroChecks (s : State) (d : Desc) : List (Bool × List Chk) :=
  let access := fun (w : Nat) => accessCheck s (fm w 51 0 ||| fm 1 15 7) (.spectro d.cluster) 0 [(d.f w 51 0, 64)]
  [(true, spectroFields d), (false, [2, 3].map fun w => pinCheck d d.home w (d.f w 51 0)),
   (false, [alignCheck (fm 2 51 0) (d.f 2 51 0) 64]), (false, [access 2, access 3])]

/-- rows × cols and cols of a parameter-state record as memory holds it when the descriptor is checked (12, R276,
R278); both 0 where the address is not that of a record. -/
def recordShape (s : State) (a : Nat) : Nat × Nat :=
  if aligned a 64 && inDram a then
    let cols := bits (s.mem.word (a + 8) 8) 63 52
    (bits (s.mem.word a 8) 63 52 * cols, cols)
  else (0, 0)

/-- The rows of R276, in order. -/
def optimRows (s : State) (d : Desc) : List Chk :=
  let rule := d.f 2 63 60
  let kron := decide (rule ≥ 5)
  let first := d.f 5 63 32
  let blocks := d.f 5 31 0
  let a := d.f 2 51 0
  let (n, cols) := recordShape s a
  let isRec := aligned a 64 && inDram a
  let reg := fm 5 63 0 ||| fm 2 51 0
  [chk (fm 3 62 62 ||| fm 3 51 0) (d.res 3 || regionOf (d.addr 3) != some .gddr7) Ts.descFieldInvalid 192,
   chk reg (isRec && decide (first + blocks > n)) Ts.descFieldInvalid 352,
   chk (fm 2 63 60 ||| fm 6 31 16) (kron == (d.f 6 31 16 == 0)) Ts.descFieldInvalid 400,
   chk (reg ||| fm 2 63 60) (isRec && kron && (first % cols != 0 || blocks % cols != 0)) Ts.descFieldInvalid 352]

/-- The checks of an OPTIM task (12, R276, R278; log entry 94). -/
def optimChecks (s : State) (d : Desc) : List (Bool × List Chk) :=
  let bb := bbytesOf (d.fmt 3)
  [(true, optimFields d), (false, optimRows s d), (false, optimFormats d),
   (false, [2, 3].map fun w => pinCheck d d.home w (d.f w 51 0)),
   (false, [alignCheck (fm 2 51 0) (d.f 2 51 0) 64, alignCheck (fm 3 51 0 ||| fm 3 61 58) (d.addr 3) bb]),
   (false, [accessCheck s (fm 2 51 0) .ephemeris 0 [(d.f 2 51 0, 64)],
            accessCheck s (fm 3 51 0 ||| fm 3 61 58 ||| fm 5 31 0) .ephemeris 0 [(d.addr 3, d.f 5 31 0 * bb)]])]

/-! COLLECTIVE (14, R325–R328). -/

def Desc.cop (d : Desc) : Nat := d.f 4 63 62
def Desc.cfmt (d : Desc) : Nat := d.f 4 61 58
def Desc.cgroup (d : Desc) : Nat := d.f 5 63 48
def Desc.cepoch (d : Desc) : Nat := d.f 5 47 32
def Desc.ccount (d : Desc) : Nat := d.f 5 31 0
def Desc.cseg (d : Desc) : Nat := d.f 6 51 0
def Desc.csrc (d : Desc) : Nat := d.f 2 51 0
def Desc.cdst (d : Desc) : Nat := d.f 3 51 0

/-- The uniform segments of `n` ranks (R326). -/
def Desc.uniform (d : Desc) (n : Nat) : List Seg := (List.range n).map fun r => ⟨r * d.ccount, d.ccount, d.ccount⟩

/-- The tensor span in elements (R326). -/
def spanOf (l : List Seg) : Nat := match l.getLast? with | some g => g.off + g.pad | none => 0

/-- Table 14-4: the bytes of src and of dst for rank `own`. -/
def Desc.cext (d : Desc) (l : List Seg) (own : Nat) : Nat × Nat :=
  let es := esizeOf d.cfmt
  let all := spanOf l * es
  let mine := ((l.map Seg.pad).getD own 0) * es
  (if d.cop = 2 then mine else all, if d.cop = 1 then mine else all)

/-- pb of R328. -/
def Desc.pb (d : Desc) (l : List Seg) (q : Nat) : Nat := ((l.map Seg.pad).getD q 0) * esizeOf d.cfmt

/-- The gather area's start at rank `r` (R328). -/
def Desc.gatherAt (d : Desc) (l : List Seg) (r : Nat) : Nat := if d.cop = 0 then (l.length - 1) * d.pb l r else 0

/-- The landing need of rank `r` (R328). -/
def Desc.landNeed (d : Desc) (l : List Seg) (r : Nat) : Nat :=
  if d.cop = 1 then (l.length - 1) * d.pb l r
  else d.gatherAt l r + (((List.range l.length).filter (· != r)).map (d.pb l)).sum

/-- The address checks of a COLLECTIVE over its extents (R325, R32). -/
def collAddrs (s : State) (d : Desc) (sn dn : Nat) : List (List Chk) :=
  let dram := fun (w a n : Nat) =>
    let c := accessCheck s (fm w 51 0) .ephemeris 0 [(a, Nat.max 1 n)]
    if !c.bad && !inDram a then chk (fm w 51 0) true Ts.addrDenied a else c
  [[alignCheck (fm 2 51 0) d.csrc 64, alignCheck (fm 3 51 0) d.cdst 64] ++
     (if d.cseg = 0 then [] else [alignCheck (fm 6 51 0) d.cseg 64]),
   [dram 2 d.csrc sn, dram 3 d.cdst dn] ++ (if d.cseg = 0 then [] else [dram 6 d.cseg 1])]

/-- The last two rows of R325's table, for known segments. -/
def collFits (d : Desc) (l : List Seg) (own slot64k : Nat) : List Chk :=
  let (sn, dn) := d.cext l own
  let meet := decide (d.csrc < d.cdst + dn) && decide (d.cdst < d.csrc + sn)
  let bad := if d.csrc = d.cdst then d.cop != 0 else meet
  [chk (fm 2 51 0 ||| fm 3 51 0 ||| fm 4 63 58 ||| fm 5 63 0) bad Ts.descFieldInvalid 128,
   chk (fm 4 63 58 ||| fm 5 63 0) ((List.range l.length).any fun r => decide (d.landNeed l r > slot64k * 65536))
     Ts.descFieldInvalid (if d.cseg = 0 then 320 else 384)]

/-- The checks of a COLLECTIVE (R325). What depends on the ranks of a layout that is not yet current, or on a segment
table, is checked when its engine admits it. -/
def collChecks (s : State) (d : Desc) : List (Bool × List Chk) :=
  let c := kvFind d.cgroup s.fab.comms
  let known := match c with | some x => d.cseg == 0 && x.epoch == d.cepoch | none => false
  let l := match c with | some x => if known then d.uniform x.ranks.length else [] | none => []
  let own := (c.map Comm.own).getD 0
  let (sn, dn) := d.cext l own
  let grp := fm 5 63 48
  let none_ := d.cgroup == 0 || decide (d.cgroup > 4095) ||
    (match c with | none => true | some x => bits (x.ranks.getD x.own 0) 53 53 != d.die)
  let ep := match c with | some x => d.cepoch != x.epoch && d.cepoch != (x.epoch + 1) % 65536 | none => false
  [(true, collFields d), (false, collFormats d),
   (false, ([2, 3] ++ if d.cseg = 0 then [] else [6]).map fun w => pinCheck d d.home w (d.f w 51 0))] ++ (collAddrs s d sn dn).map (fun l => (false, l)) ++
  [(false,
    [chk (grp ||| fm 1 15 7) none_ Ts.descFieldInvalid 368,
     chk grp ((c.map Comm.stale).getD false) Ts.descFieldInvalid 368,
     chk (grp ||| fm 5 47 32) ep Ts.descFieldInvalid 352,
     chk (fm 5 31 0 ||| fm 6 51 0 ||| fm 4 61 58) (d.cseg == 0 && d.ccount * esizeOf d.cfmt % 64 != 0)
       Ts.descFieldInvalid 320] ++
    (if known then collFits d l own ((c.map Comm.slot64k).getD 0) else []))]


/-- The checks of R110 in order, for a task of stream `st` that core `k` is to run; `step` are the streams on which a
STEP_MARK may be a boundary. -/
def descChecks (s : State) (k st : Nat) (step : List Nat) (d : Desc) : List (Bool × List Chk) :=
  match d.type with
  | 0x0 => tileChecks s k d
  | 0x1 => tileChecks s k d
  | 0x2 => vectorChecks s k d
  | 0x3 => moveChecks s d
  | 0x4 => moveChecks s d
  | 0x5 => spectroChecks s d
  | 0x6 => optimChecks s d
  | 0x7 => transferChecks s d
  | 0x8 => collChecks s d
  | 0x9 => semChecks s d
  | 0xA => semChecks s d
  | 0xB => timerChecks s step st d
  | 0xC => timerChecks s step st d
  | _ => [(false, [chk 0 true Ts.taskTypeReserved])]

/-- The first failure of R110: status and detail. -/
def checkDesc (s : State) (k st : Nat) (step : List Nat) (patched : Nat) (d : Desc) : Option (Nat × Nat) :=
  (descChecks s k st step d).findSome? fun c => firstOf patched c.1 c.2

end Sys2Proof.Machine
end

