-- ==== Sys2Proof/Machine/Time.lean ====
section
/-!
DEFINITION. Chapter 20: the Chronograph and its time source, the sensors, the monitors.
-/

namespace Sys2Proof.Machine

/-! The counter. -/

/-- One TCLK cycle: C gains 1 ns + r × 2^-32 ns (20, R480). -/
def tclkCycle (s : State) : State :=
  { s with time := { s.time with
    c := ((s.time.c : Int) + 2 ^ 32 + s.time.r).toNat % 2 ^ 96, tclk := s.time.tclk + 1 } }

/-- Sum and count of a sensor's last complete interval at time `now`. -/
def Sensor.last (x : Sensor) (now : Nat) : Option (Int × Nat) :=
  if x.ival < now / 100000000 ∧ x.cnt > 0 ∧ x.spoilt = false then some (x.sum, x.cnt) else x.mean

/-- A step at time `before` spoils the 100 ms interval it crosses, for every sensor; the last interval complete before it
stands (20, R492). -/
def spoilIntervals (before : Nat) (s : State) : State :=
  { s with sens := { s.sens with sensors := s.sens.sensors.map fun p =>
    (p.1, { p.2 with mean := p.2.last before, ival := s.now / 100000000, sum := 0, cnt := 0, spoilt := true }) } }

/-- A step of C to `c` (2^-32 ns), with Δ in ns (20, R492). -/
def stepTo (c : Nat) (delta : Int) (cause : Nat) (s : State) : State :=
  let before := s.now
  let s := { s with time := { s.time with c := c % 2 ^ 96, steps := min (s.time.steps + 1) 0xFFFFFFFF, stepDelta := delta } }
  let s := { s with time := { s.time with stepTime := s.now } }
  post Ev.timeStepped [sword delta, before, s.now, cause] (spoilIntervals before s)

/-- The number of a time state (20, Table 20-1). -/
def TimeSt.code : TimeSt → Nat
  | .free => 0
  | .acquiring => 1
  | .locked => 2
  | .holdover => 3

/-- SET_TIME_SOURCE with A0[0] = 0: C is loaded with A1 ns (20, R483). -/
def execSetTimeSourceLoad (m : Fin 16) (s : State) : Host.Outcome State Fault Refusal :=
  mbxCommand 0x0A01 (fun a => a.n 0 % 2 == 0) m (fun a s =>
    if a.n 0 ≠ 0 then .done St.argInvalid [] s
    else
      let s := stepTo (a.n 1 * 2 ^ 32) ((a.n 1 : Int) - s.now) 1 s
      .done St.ok [] { s with time := { s.time with
        timeSet := true, r := 0, st := .free, stamps := [], past := false, inLock := 0, excursions := 0 } }) s

/-- SET_TIME_SOURCE with A0[0] = 1: the pulse is used (20, R483). -/
def execSetTimeSourcePps (m : Fin 16) (s : State) : Host.Outcome State Fault Refusal :=
  mbxCommand 0x0A01 (fun a => a.n 0 % 2 == 1) m (fun a s =>
    if a.n 1 ≠ 0 then .done St.argInvalid [] s
    else
      let s := { s with time := { s.time with allowStep := bit (a.n 0) 1 } }
      .done St.ok [] (if s.time.st = .free then
        { s with time := { s.time with st := .acquiring, r := 0, stamps := [], edges := 0, past := false, inLock := 0, excursions := 0 } }
      else s)) s

/-- o in ns, truncated toward zero, and 0 in FREE (20, Table 20-4). -/
def TimeS.offsetNs (t : TimeS) : Int := if t.st = .free then 0 else Int.tdiv t.offset 16

/-- READ_TIME_STATUS (16, Table 16-7; 20, Table 20-4). -/
def execReadTimeStatus (m : Fin 16) (s : State) : Host.Outcome State Fault Refusal :=
  mbxCommand 0x0A02 anyArgs m (fun _ s =>
    .done St.ok [sword s.time.offsetNs, s.time.st.code, s.time.stepTime] s) s

/-- The offset of an edge at C = `c16` sixteenths of a ns: to the nearest whole second, the later on a tie (20, R484). -/
def edgeOffset (c16 : Nat) : Int :=
  let sec := 16000000000
  (c16 : Int) - (((c16 + sec / 2) / sec * sec : Nat) : Int)

/-- Did an edge come 10⁹ ± 50,000 cycles after another (20, R485, R488)? Stamps are in 1/16 cycle. -/
def onTime (prev stamp : Nat) : Bool :=
  decide (prev + 16 * (1000000000 - 50000) ≤ stamp ∧ stamp ≤ prev + 16 * (1000000000 + 50000))

/-- k of R486: the largest power of two not above n − n0, at most 16; with its log₂. -/
def edgeSpan (n : Nat) : Nat × Nat :=
  if n ≥ 16 then (16, 4) else if n ≥ 8 then (8, 3) else if n ≥ 4 then (4, 2) else if n ≥ 2 then (2, 1) else (1, 0)

/-- R486: f and r from the stamps (newest first), the number of edges since n0 and o. -/
def rateOf (stamps : List Nat) (n : Nat) (o : Int) : Int × Int :=
  let (k, lg) := edgeSpan n
  let d : Int := (stamps.getD 0 0 : Int) - (stamps.getD k 0 : Int) - (k : Int) * 16000000000
  let f : Int := 0 - (d * 4398) / 2 ^ (14 + lg)
  let r : Int := f - (o * 2199) / 2 ^ 14
  (f, max (-429496) (min 429496 r))

/-- An accepted edge from the acquisition point on (20, R486–R488). Excursions count while LOCKED (log entry 31). -/
def acceptEdge (stamp : Nat) (o oRate : Int) (s : State) : State :=
  let t := s.time
  let stamps := (stamp :: t.stamps).take 17
  let n := t.edges + 1
  let (f, r) := rateOf stamps n oRate
  let small := decide (-320 ≤ oRate ∧ oRate ≤ 320)
  let large := decide (oRate < -16000 ∨ oRate > 16000) && t.st == .locked
  let inLock := if small then t.inLock + 1 else 0
  let exc := if large then t.excursions + 1 else 0
  let s := { s with time := { t with
    stamps := stamps, edges := n, f := f, r := r, inLock := inLock, excursions := exc
    lastC := s.now, lastStamp := some stamp, offset := o, accepted := t.accepted + 1 } }
  let s := if large then post Ev.timeExcursion [sword o] s else s
  let s := if inLock ≥ 4 ∧ s.time.st ≠ .locked then
      post Ev.timeLocked [sword o, (s.cyc - s.time.acqAt + 500000000) / 1000000000]
        { s with time := { s.time with st := .locked } }
    else s
  if exc ≥ 4 then
    { s with time := { s.time with
      st := .acquiring, r := 0, stamps := [], edges := 0, past := false, inLock := 0, excursions := 0 } }
  else s

/-- The acquisition point (20, R485). -/
def acquire (stamp : Nat) (o : Int) (s : State) : State :=
  let step := decide (o < -16000000 ∨ o > 16000000) && s.time.allowStep
  let s := { s with time := { s.time with st := .acquiring, past := true, acqAt := s.cyc, inLock := 0, excursions := 0 } }
  if step then
    let c := ((s.time.c : Int) - o * 2 ^ 28).toNat
    let s := stepTo c (Int.tdiv (-o) 16) 0 s
    acceptEdge stamp o 0 (post Ev.timeAcquired [sword o, 1] s)
  else acceptEdge stamp o o (post Ev.timeAcquired [sword o, 0] s)

/-- PPS_EDGE (20, R484–R488): a rising edge, `sub` sixteenths into the present TCLK cycle. -/
def execPpsEdge (sub : Fin 16) (s : State) : Host.Outcome State Fault Refusal :=
  let t := s.time
  let stamp := 16 * t.tclk + sub.val
  let o := edgeOffset (t.c / 2 ^ 28 + sub.val)
  if !s.powered || t.st == .free then finish s
  else if t.past then
    match t.lastStamp with
    | some p =>
      if onTime p stamp then finish (acceptEdge stamp o o s)
      else finish { s with time := { t with rejected := min (t.rejected + 1) 0xFFFFFFFF } }
    | none => finish s
  else
    match t.stamps with
    | p :: _ =>
      if onTime p stamp then
        if t.stamps.length ≥ 2 then finish (acquire stamp o s)
        else finish { s with time := { t with
          stamps := stamp :: t.stamps, edges := 1, offset := o, accepted := t.accepted + 1
          lastC := s.now, lastStamp := some stamp } }
      else finish { s with time := { t with stamps := [stamp], edges := 0 } }
    | [] => finish { s with time := { t with stamps := [stamp], edges := 0 } }

/-- TIME_HOLDOVER (20, R489): no edge accepted for 2 × 10⁹ cycles, past the acquisition point or LOCKED. -/
def execTimeHoldover (s : State) : Host.Outcome State Fault Refusal :=
  let t := s.time
  match t.lastStamp with
  | some p =>
    if t.past && (t.st == .locked || t.st == .acquiring) && decide (16 * t.tclk ≥ p + 32000000000) then
      finish (post Ev.timeHoldover [t.lastC, sword t.f]
        { s with time := { t with
          st := .holdover, r := t.f, stamps := [], edges := 0, past := false, inLock := 0, excursions := 0 } })
    else finish s
  | none => finish s

/-! Monitors. -/

/-- The 63 default edges (20, R500). -/
def defaultEdges : List Nat := (List.range 63).map fun i => (4 + i % 4) * 2 ^ (i / 4)

/-- An event source (20, Table 20-6). -/
def eventSource (c : Nat) : Bool := c < 0x20

/-- Indices of Table 20-3 that carry a temperature sensor. -/
def tempIndex (i : Nat) : Bool := i ≤ 42 || (48 ≤ i && i ≤ 137)

/-- A defined source (20, Table 20-6). -/
def sourceOk (c : Nat) : Bool :=
  c ≤ 5 || c == 8 || c == 9 || c == 0x10 || c == 0x11 || (0x20 ≤ c && c ≤ 0x36) ||
  (0x40 ≤ c && c ≤ 0xFF && tempIndex (c - 0x40))

/-- The bin of a sample: how many edges are not above it (20, R500). -/
def binOf (edges : List Nat) (x : Nat) : Nat := edges.countP fun e => decide (e ≤ x)

/-- A capture unit takes a sample (20, R500). -/
def Capture.take (c : Capture) (bins : Bool) (edges : List Nat) (x : Nat) : Capture :=
  let cap := fun v => Nat.min v (2 ^ 64 - 1)
  { count := cap (c.count + 1), sum := cap (c.sum + x), min := Nat.min c.min x, max := Nat.max c.max x
    bins := if bins then kvMod 0 (binOf edges x) (fun v => cap (v + 1)) c.bins else c.bins }

/-- A monitor's edges in use. -/
def Monitor.es (m : Monitor) : List Nat := if m.edges = [] then defaultEdges else m.edges

/-- Every monitor on a source takes a sample on a die (20, R498). -/
def monSample (src die x : Nat) (s : State) : State :=
  let x := min x 0xFFFFFFFF
  { s with sens := { s.sens with monitors := s.sens.monitors.map fun p =>
    let m := p.2
    if m.mode ≠ 0 ∧ m.source = src then
      (p.1, if die = 0 then { m with d0 := m.d0.take (m.mode == 2) m.es x }
        else { m with d1 := m.d1.take (m.mode == 2) m.es x })
    else p } }

/-- Every monitor stops, at an entry to a tenant mode (cause 0) or an exit (1) (20, R502). -/
def stopMonitors (cause : Nat) (s : State) : State :=
  let mask := s.sens.monitors.foldl (fun x p => if p.2.mode ≠ 0 then x + 2 ^ p.1 else x) 0
  post Ev.monitorStopped [mask, cause] { s with sens := { s.sens with monitors := [] } }

/-- At the end of a COMPUTE reset the monitors' contents are cleared and t_start is set to C (20, R504). -/
def restartMonitors (s : State) : State :=
  { s with sens := { s.sens with monitors := s.sens.monitors.map fun p =>
    (p.1, { p.2 with d0 := {}, d1 := {}, tStart := s.now }) } }

/-- Do 63 edges strictly ascend? -/
def ascend : List Nat → Bool
  | a :: b :: t => decide (a < b) && ascend (b :: t)
  | _ => true

/-- u32 values of a byte list. -/
def u32s : List Byte → List Nat
  | b0 :: b1 :: b2 :: b3 :: t => ofLE [b0, b1, b2, b3] :: u32s t
  | _ => []

/-- CONFIGURE_MONITOR (20, R499, R502). -/
def execConfigureMonitor (m : Fin 16) (s : State) : Host.Outcome State Fault Refusal :=
  mbxCommand 0x0A03 anyArgs m (fun a s =>
    let mode := bits (a.n 0) 17 16
    let src := bits (a.n 0) 15 8
    let k := bits (a.n 0) 3 0
    let adr := a.n 1
    let bad := mode == 3 || (mode == 0 && (src != 0 || adr != 0)) || (mode != 0 && !sourceOk src) ||
      (mode == 1 && adr != 0) || (mode == 2 && !eventSource src && adr == 0)
    let tenantNo := s.inTenant && (mode == 2 || (mode == 1 && (eventSource src || (0x30 ≤ src && src ≤ 0x36))))
    if bad then .done St.monitorArgInvalid [] s
    else if tenantNo then .done St.monitorRefused [] s
    else
      let set := fun (es : List Nat) (s : State) =>
        let x : Monitor := { mode := mode, source := src, edges := es, tStart := s.now }
        Reply.done St.ok [] { s with sens := { s.sens with monitors := kvPut {} k x s.sens.monitors } }
      if adr = 0 then set [] s
      else if !aligned adr 4 || (bufCheck adr 252 4 s).isSome then .done St.monitorArgInvalid [] s
      else readBuffer adr 252 4 s fun bs s =>
        let es := u32s bs
        if ascend es then set es s else .done St.monitorArgInvalid [] s) s

/-- The record of a monitor (20, Table 20-7). -/
def monitorRecord (k : Nat) (m : Monitor) (now : Nat) : List Byte :=
  let cap := fun v => min v (2 ^ 64 - 1)
  let on := m.mode ≠ 0
  let count := if on then cap (m.d0.count + m.d1.count) else 0
  let sum := if on then cap (m.d0.sum + m.d1.sum) else 0
  let lo := min m.d0.min m.d1.min
  let hi := max m.d0.max m.d1.max
  let bins := (List.range 64).map fun i =>
    if m.mode = 2 then cap (kvGet 0 i m.d0.bins + kvGet 0 i m.d1.bins) else 0
  wordBytes [k + m.source * 2 ^ 8 + m.mode * 2 ^ 16, 0, 0, lo + hi * 2 ^ 32, count, sum, m.tStart, now] ++
  wordBytes bins ++ m.es.flatMap (leBytes 4) ++ leBytes 4 0

/-- `n` free values. -/
def draws : Nat → State → List Nat × State
  | 0, s => ([], s)
  | n + 1, s =>
    let (x, s) := draw s
    let (l, s) := draws n s
    (x :: l, s)

/-- What a reader sees of monitor `k`. The latencies of the channels' reads (sources 0 to 5) are time, which the model
does not derive: contents of such a monitor are free values (log entry 123). -/
def seeMonitor (k : Nat) (s : State) : Monitor × State :=
  let x := kvGet ({} : Monitor) k s.sens.monitors
  if x.mode = 0 ∨ x.source > 5 then (x, s)
  else
    let (w, s) := draws 68 s
    let f := fun (i n : Nat) => w.getD i 0 % 2 ^ n
    ({ x with
      d0 := { count := f 0 64, sum := f 1 64, min := f 2 32, max := f 3 32
              bins := (List.range 64).map fun i => (i, f (4 + i) 64) }
      d1 := {} }, s)

/-- READ_HISTOGRAM (20, R501, R502). -/
def execReadHistogram (m : Fin 16) (s : State) : Host.Outcome State Fault Refusal :=
  mbxCommand 0x0A04 anyArgs m (fun a s =>
    let k := a.n 0
    let (x, s) := seeMonitor k s
    let served := x.mode == 1 && ((0x20 ≤ x.source && x.source ≤ 0x2F) || 0x40 ≤ x.source)
    if s.inTenant && !served then .done St.monitorRefused [] s
    else replyBytes (a.n 1) (a.n 2) 1 (monitorRecord k x s.now) [] s) s

/-! Sensors. -/

/-- The key of a sensor: kind 0 voltage, 1 current, 2 power, 3 temperature. -/
def sensorKey (kind index : Nat) : Nat := 256 * kind + index

/-- A sensor that exists (20, Table 20-3). -/
def sensorOk (kind index : Nat) : Bool :=
  (kind == 0 && index < 16) || (kind == 1 && index < 16) || (kind == 2 && index < 7) || (kind == 3 && tempIndex index)

/-- What is sensed of a quantity against a limit, in hundredths of the sensor's unit. -/
structure Limits where
  lo : Option Int := none
  hi : Option Int := none
deriving DecidableEq, Repr

/-- The limits at `pct` hundredths below and above a rail's set point: the 3.3 V and 1.8 V rails, or `set`, in mV. -/
def railLimits (index set : Nat) (pct : Int) : Limits :=
  let v : Int := if index = 14 then 3300 else if index = 15 then 1800 else set
  ⟨some (v * (100 - pct)), some (v * (100 + pct))⟩

/-- The limit of a temperature in °C; of a power in W. -/
def tempLimit (c : Int) : Limits := ⟨none, some (1600 * c)⟩
def powerLimit (w : Int) : Limits := ⟨none, some (100000 * w)⟩

/-- The warning limits of a sensor (21, Table 21-11); `set` is the set point in force of a rail, in mV. The main input's
are the first values beyond its operating range. -/
def warnLimits (kind index set : Nat) : Limits :=
  match kind with
  | 0 => if index = 0 then ⟨some 4599900, some 5900100⟩ else railLimits index set 3
  | 2 => if index = 0 then powerLimit 2600 else {}
  | 3 =>
    if index < 36 then tempLimit 95
    else if index = 36 then tempLimit 42
    else if index = 37 then tempLimit 58
    else if index < 42 then tempLimit 110
    else if index = 42 then tempLimit 85
    else if index < 130 then tempLimit 95
    else tempLimit 75
  | _ => {}

/-- The shutdown limits of a sensor (21, Tables 21-8 and 21-11). -/
def shutLimits (kind index set : Nat) : Limits :=
  match kind with
  | 0 => if index = 0 then ⟨some 4199900, some 6200100⟩ else railLimits index set 6
  | 2 => if index = 0 then powerLimit 2900 else {}
  | 3 =>
    if index < 36 then tempLimit 105
    else if index = 36 then tempLimit 50
    else if index = 37 then tempLimit 65
    else if index < 42 then tempLimit 125
    else if index = 42 then tempLimit 95
    else if index < 130 then tempLimit 105
    else tempLimit 85
  | _ => {}

/-- At or beyond a limit (20, Table 20-5). -/
def Limits.hit (l : Limits) (v : Int) : Bool :=
  l.lo.any (fun x => decide (100 * v ≤ x)) || l.hi.any (fun x => decide (x ≤ 100 * v))

/-- Back inside a warning limit by the hysteresis: 3 °C, or 2 % of the limit (20, R497). -/
def Limits.clear (l : Limits) (kind : Nat) (v : Int) : Bool :=
  let back := fun (x by_ : Int) => if kind = 3 then decide (by_ ≥ 4800) else decide (50 * by_ ≥ x)
  l.lo.all (fun x => back x (100 * v - x)) && l.hi.all (fun x => back x (x - 100 * v))

/-- The unit to which a coarsened record is rounded (20, R496; 15, R372). -/
def coarseUnit : Nat → Int
  | 0 => 10
  | 1 => 1000
  | 2 => 10000
  | _ => 16

/-- A mean rounded to the nearest multiple of a unit, ties upward. -/
def roundMean (sum : Int) (cnt : Nat) (q : Int) : Int :=
  if cnt = 0 then 0 else (2 * sum + q * cnt) / (2 * q * cnt) * q

/-- A sample enters its interval: the interval before it is complete when a new one begins. -/
def Sensor.accumulate (x : Sensor) (now : Nat) (v : Int) : Sensor :=
  let iv := now / 100000000
  if x.ival = iv then { x with sum := x.sum + v, cnt := x.cnt + 1 }
  else { x with mean := x.last now, ival := iv, sum := v, cnt := 1, spoilt := false }

/-- The monitor source of a sensor, and the sample's value (20, Table 20-6). -/
def monSource (kind index : Nat) (v : Int) : Option (Nat × Nat) :=
  match kind with
  | 0 => some (0x20 + index, v.toNat)
  | 2 => some (0x30 + index, v.toNat)
  | 3 => some (0x40 + index, (v + 4096).toNat)
  | _ => none

/-- SENSOR_SAMPLE (20, R494–R497): `value` in mV, mA, mW or 1/16 °C; `set` the set point in force of a main rail. -/
def execSensorSample (kind index : Nat) (value : Int) (set : Nat) (s : State) : Host.Outcome State Fault Refusal :=
  if !sensorOk kind index then finish s
  else
    let k := sensorKey kind index
    let low := s.alert
    let x := kvGet ({} : Sensor) k s.sens.sensors
    let isOver := (warnLimits kind index set).hit value
    let newInterval := x.ival ≠ s.now / 100000000 ∧ x.valid ∧ x.spoilt = false
    let done := if newInterval then x.last s.now else none
    let y := { (x.accumulate s.now value) with
      value := value, valid := true, overWarning := isOver, overLimit := (shutLimits kind index set).hit value }
    let put := fun (y : Sensor) (s : State) => { s with sens := { s.sens with sensors := kvSet k y s.sens.sensors } }
    let s :=
      if isOver && !x.warned then post Ev.sensorWarning [kind, index, sword value] (put { y with warned := true } s)
      else if x.warned && (warnLimits kind index set).clear kind value then
        post Ev.sensorCleared [kind, index, sword value] (put { y with warned := false } s)
      else put y s
    let s :=
      if s.inTenant then
        match done with
        | some (sum, cnt) =>
          if kind = 0 ∨ kind = 3 then
            match monSource kind index (roundMean sum cnt (coarseUnit kind)) with
            | some (src, v) => monSample src 0 v s
            | none => s
          else s
        | none => s
      else match monSource kind index value with
        | some (src, v) => monSample src 0 v s
        | none => s
    let s := alertPin low s
    let l := s.pow.latched
    if s.pow.active && kind == 3 && l.kind == 3 && l.index == index && !isOver then
      finish (tryRails { s with pow := { s.pow with active := false } })
    else finish s

/-- A sensor record (20, Table 20-5). With no complete interval yet a coarsened value is a free value (log entry 32). -/
def sensorRecord (kind index : Nat) (s : State) : Nat × State :=
  let x := kvGet ({} : Sensor) (sensorKey kind index) s.sens.sensors
  let head := kind * 2 ^ 24 + index * 2 ^ 8
  if !sensorOk kind index || !x.valid then (head, s)
  else
    let coarse := s.inTenant
    let (v, s) :=
      if !coarse then (x.value, s)
      else match x.last s.now with
        | some (sum, cnt) => (roundMean sum cnt (coarseUnit kind), s)
        | none => let (n, s) := draw s; ((n : Int), s)
    (ofSigned 32 v * 2 ^ 32 + head + b2n coarse * 8 + b2n x.overLimit * 4 + b2n x.overWarning * 2 + 1, s)

/-- All sensors in the order of READ_SENSORS (20, R495). -/
def allSensors : List (Nat × Nat) :=
  ((List.range 16).map fun i => (0, i)) ++ ((List.range 16).map fun i => (1, i)) ++
  ((List.range 7).map fun i => (2, i)) ++ ((List.range 192).map fun i => (3, i))

/-- The header of READ_SENSORS (20, Table 20-4). -/
def timeHeader (s : State) : List Nat :=
  let t := s.time
  [t.st.code + b2n t.allowStep * 4 + b2n t.timeSet * 8 + 231 * 2 ^ 48, s.now,
   sword (if t.st = .free then 0 else t.offset), ofSigned 32 t.f + ofSigned 32 t.r * 2 ^ 32, t.accepted,
   t.rejected + t.steps * 2 ^ 32, t.stepTime, sword t.stepDelta]

/-- READ_SENSORS (20, R495, R496). -/
def execReadSensors (m : Fin 16) (s : State) : Host.Outcome State Fault Refusal :=
  mbxCommand 0x0A05 anyArgs m (fun a s =>
    let (recs, s') := allSensors.foldl (fun p k =>
      let (r, s) := sensorRecord k.1 k.2 p.2
      (p.1 ++ [r], s)) (([] : List Nat), s)
    replyBytes (a.n 0) (a.n 1) 1 (wordBytes (timeHeader s ++ recs)) [] s') s

end Sys2Proof.Machine
end

