-- ==== Sys2Proof/Machine/Packets.lean ====
section
/-!
DEFINITION. The ports' queues and credits (13, R308, R309, R312), the routes (R313 to R317), capability records (R304,
R314).
-/

namespace Sys2Proof.Machine

/-! Ports. -/

/-- This module's id; 0 while none is set (01, R33). -/
def State.ownId (s : State) : Nat := s.fab.id.getD 0

/-- A port carries packets (13, R311, R314). -/
def State.inService (s : State) (i : Nat) : Bool :=
  let p := s.port i
  p.st == .active && !p.incompatible && !p.miswired && s.fab.id.isSome && s.fab.groups.isSome

/-! Sending under credits (13, R309, R312). -/

/-- A packet's whole length fits its VC's reserved credits together with the shared ones. -/
def Port.fits (p : Port) (k : Packet) : Bool := decide (k.flits ≤ (p.vcCr[k.vc]?.getD 0) + p.sharedCr)

/-- Take the credits of a packet, reserved ones first. -/
def Port.spend (p : Port) (k : Packet) : Port :=
  let have_ := p.vcCr[k.vc]?.getD 0
  let own := min have_ k.flits
  { p with vcCr := p.vcCr.setIfInBounds k.vc (have_ - own), sharedCr := p.sharedCr - (k.flits - own) }

/-- The first packet of each VC in the queue (packets of one VC leave in order), with its place. -/
def heads (q : List OutPkt) : List (Nat × OutPkt) :=
  (((List.range q.length).zip q).foldl (fun acc x =>
    if acc.any (fun (y : Nat × OutPkt) => y.2.pkt.vc == x.2.pkt.vc) then acc else acc ++ [x]) [])

/-- The level that a virtual channel carries (13, Table 13-8). -/
def vcLevel (v : Nat) : Nat := if v < 3 then v else if v < 6 then v - 3 else v - 6

/-- The VC that round robin takes of those in `vs`: the one served longest ago, and of several never served the one of the
higher level, then the lower number (log entry 110). -/
def Port.nextVc (p : Port) (vs : List Nat) : Option Nat :=
  vs.foldl (fun best v => match best with
    | none => some v
    | some b =>
      let at_ := fun (v : Nat) => p.served[v]?.getD 0
      if at_ v < at_ b ∨ (at_ v = at_ b ∧ (vcLevel b < vcLevel v ∨ (vcLevel b = vcLevel v ∧ v < b))) then some v else some b) none

/-- The packet that R312 sends next, as its place in the queue. -/
def Port.pick (p : Port) : Option (Nat × OutPkt) :=
  let able := (heads p.txq).filter fun x => p.fits x.2.pkt
  let lc := able.filter fun x => x.2.pkt.cls == 2
  let rest := able.filter fun x => x.2.pkt.cls != 2
  let pool := if !lc.isEmpty && (rest.isEmpty || decide (p.sinceLc ≥ 3)) then lc else rest
  let tr := pool.filter (·.2.transit)
  let inj := pool.filter (!·.2.transit)
  let pool := if !tr.isEmpty && !inj.isEmpty then (if p.transitRun ≥ 3 then inj else tr) else pool
  (p.nextVc (pool.map fun x => x.2.pkt.vc)).bind fun v => pool.find? fun x => x.2.pkt.vc == v

/-- The flits of a packet, and whether each ends it. -/
def Packet.wire (k : Packet) : List (List Nat × Bool) :=
  (List.range k.flits).map fun j =>
    (if j = 0 then k.words else bytesWords ((k.padded.drop (64 * (j - 1))).take 64), j + 1 == k.flits)

/-- A packet is given to the codewords of a port, in consecutive packet-flit positions (R310). -/
def sendOn (i : Nat) (x : OutPkt) (s : State) : State :=
  let p := (s.port i).spend x.pkt
  let p := { p with
    cw := p.cw ++ x.pkt.wire
    sinceLc := if x.pkt.cls = 2 then 0 else p.sinceLc + 1
    transitRun := if x.transit then p.transitRun + 1 else 0
    grants := p.grants + 1, served := p.served.setIfInBounds x.pkt.vc (p.grants + 1) }
  count .txFlits i x.pkt.flits (setPortAt i (fun _ => p) s)

/-- Take what the port may send. -/
def drainPort : Nat → Nat → State → State
  | 0, _, s => s
  | n + 1, i, s =>
    if !s.inService i then s
    else match (s.port i).pick with
      | none => s
      | some (k, x) => drainPort n i (sendOn i x (setPortAt i (fun p => { p with txq := p.txq.eraseIdx k }) s))

/-- What waits after a drain waits for credits alone: that time is counted when it ends (Table 13-14, credit_stall). -/
def noteStall (i : Nat) (s : State) : State :=
  let p := s.port i
  match s.inService i && !p.txq.isEmpty, p.stall with
  | true, none => setPortAt i (fun p => { p with stall := some s.cyc }) s
  | false, some t => count .creditStall i (s.cyc - t) (setPortAt i (fun p => { p with stall := none }) s)
  | _, _ => s

/-- Send what the port may send. -/
def servePort (i : Nat) (s : State) : State :=
  let s := drainPort (s.port i).txq.length i s
  noteStall i (sendCodewords (s.port i).cw.length i s)

/-- Queue a packet at a port's output and send what may be sent. -/
def queueOn (i : Nat) (x : OutPkt) (s : State) : State :=
  servePort i (setPortAt i (fun p => { p with txq := p.txq ++ [x] }) s)

/-! Routes (13, R313–R317). -/

/-- The owner of a global index, and its port there. -/
def glOwner (g : Nat) : Nat := g / 16
def glPort (g : Nat) : Nat := 14 + g % 16

/-- Is global index G in service, as this module knows it (R315)? -/
def State.glUp (s : State) (g : Nat) : Bool :=
  let own := s.ownId % 8
  if glOwner g = own then s.inService (glPort g)
  else match kvFind (glOwner g) s.fab.peers with
    | some (states, at_) => bits states (3 * (g % 16) + 2) (3 * (g % 16)) == 5 && decide (s.cyc < at_ + 300000)
    | none => false

/-- cand(x) of R316: global indices to group x whose port is in service. -/
def State.cand (s : State) (x : Nat) : List Nat :=
  (s.fab.links.filter fun e => e.2.1 == x && s.glUp e.1).map Prod.fst

/-- The in-group port from this module to a member, on a die (13, Table 13-13). -/
def memberPort (own q die : Nat) : Nat := (q + 8 - own + 7) % 8 + 7 * die

/-- The first port of the way to a global index. -/
def State.wayTo (s : State) (g : Nat) : Nat :=
  if glOwner g = s.ownId % 8 then glPort g else memberPort (s.ownId % 8) (glOwner g) (portDie (glPort g))

/-- occ(G) of R316: flits queued and not yet credited at a port. -/
def State.occ (s : State) (i : Nat) : Nat :=
  let p := s.port i
  let queued := (p.txq.map fun x => x.pkt.flits).sum
  let free := (List.range 8).foldl (fun n v => n + (p.vcCr[v]?.getD 0)) p.sharedCr
  queued + (8 * p.vcCr0 + p.sharedCr0 - free)

/-- The element of least occ, the lowest on a tie. -/
def State.leastOcc (s : State) (c : List Nat) : Option Nat :=
  c.foldl (fun best g => match best with
    | none => some g
    | some b => if s.occ (s.wayTo g) < s.occ (s.wayTo b) then some g else some b) none

/-- What the route computation answers. -/
inductive Route
  | local_
  | unreachable
  | via (glink : Nat) (val : Bool) (igroup : Nat)
deriving DecidableEq, Repr

/-- R316. The pseudo-random group is a free value. -/
def route (p : Packet) (s : State) : Route × State :=
  let g := p.src / 8
  let h := p.dst / 8
  let n := s.fab.groups.getD 1
  if h = g then (.local_, s)
  else
    let c := s.cand h
    if c = [] then (.unreachable, s)
    else if p.det || p.cls == 2 then
      (.via (c.getD ((p.src ^^^ p.dst ^^^ p.flow) % c.length) 0) false 0, s)
    else
      match s.leastOcc c with
      | none => (.unreachable, s)
      | some gl =>
        let hm := 1 + b2n (glOwner gl != p.src % 8) + 1
        let (r, s) := draw s
        let i := r % n
        let ci := s.cand i
        if i = g ∨ i = h then (.via gl false 0, s)
        else match s.leastOcc ci with
          | none => (.via gl false 0, s)
          | some gv =>
            if s.occ (s.wayTo gl) * hm > s.occ (s.wayTo gv) * 5 + s.fab.thr then (.via gv true i, s)
            else (.via gl false 0, s)

/-- A packet that cannot be routed is discarded (R317). -/
def unroutable (die : Nat) (p : Packet) (s : State) : State :=
  let s := count .unroutable die 1 s
  let g := p.dst / 8
  match kvFind g s.fab.lastUnreach with
  | some t =>
    if s.cyc < t + 1000000 then s
    else post Ev.routeUnreachable [g] { s with fab := { s.fab with lastUnreach := kvSet g s.cyc s.fab.lastUnreach } }
  | none => post Ev.routeUnreachable [g] { s with fab := { s.fab with lastUnreach := kvSet g s.cyc s.fab.lastUnreach } }

/-- May a packet go at this level (R317)? -/
def levelOk (p : Packet) : Bool := if p.cls = 2 then decide (p.level < 2) else decide (p.level < 3)

/-- Queue at a port, at the packet's level. -/
def placeOn (i die : Nat) (x : OutPkt) (s : State) : State :=
  if levelOk x.pkt then queueOn i x s else unroutable die x.pkt s

/-- The last in-group hop to a member on the die it is on; through the other die, or with both ports out through the
lowest-numbered member to which both ports are in service, one level up (R317). Whether that member's own pair to the
destination works is not known here: no report carries it (log entry 110). -/
def toMember (q die : Nat) (x : OutPkt) (s : State) : State :=
  let own := s.ownId % 8
  let a := memberPort own q die
  let b := memberPort own q (1 - die)
  if s.inService a then placeOn a die x s
  else if s.inService b then placeOn b die x s
  else
    let x := { x with pkt := { x.pkt with level := x.pkt.level + 1 } }
    let mids := (List.range 8).filter fun k => k != own && k != q && s.inService (memberPort own k 0) && s.inService (memberPort own k 1)
    match mids.head? with
    | none => unroutable die x.pkt s
    | some k => placeOn (memberPort own k die) die x (count .detours die 1 s)

/-- A packet goes on by its glink (R317): on this module's global port, or to the member that owns it; where that port
is out of service it chooses again and makes a detour hop. -/
def toGlink (die : Nat) (x : OutPkt) (s : State) : State :=
  let own := s.ownId % 8
  let g := x.pkt.glink
  if glOwner g = own then
    if s.inService (glPort g) then placeOn (glPort g) die x s
    else
      let goal := if x.pkt.val then x.pkt.igroup else x.pkt.dst / 8
      let c := s.cand goal
      let pick := if x.pkt.det || x.pkt.cls == 2 then
          (if c = [] then none else some (c.getD ((x.pkt.src ^^^ x.pkt.dst ^^^ x.pkt.flow) % c.length) 0))
        else s.leastOcc c
      match pick with
      | none => unroutable die x.pkt s
      | some g' =>
        let y := { x with pkt := { x.pkt with glink := g', level := x.pkt.level + 1 } }
        if glOwner g' = own then placeOn (glPort g') die { y with pkt := { y.pkt with level := x.pkt.level } } s
        else toMember (glOwner g') (portDie (glPort g')) y (count .detours die 1 s)
  else toMember (glOwner g) (portDie (glPort g)) x s

/-- Does a module's site differ from this module's own (14, R340, R342)? -/
def State.otherSite (s : State) (m : Nat) : Bool :=
  s.siteOf (m / 8) != s.siteOf (s.ownId / 8)

/-- Packets that the fence discards (14, R342). -/
def State.fenceDrops (s : State) (p : Packet) : Bool :=
  s.fab.fenced.isSome && (s.otherSite p.src || s.otherSite p.dst)

/-- Inject a packet of this module (13, R316; 14, R330, R342). -/
def injectPkt (x : Inject) (s : State) : State :=
  let p := { x.pkt with cls := x.pkt.wantCls, level := 0 }
  if s.fenceDrops p then count .fenceDrop 0 1 s
  else if p.dst = s.ownId then { s with fab := { s.fab with inbox := s.fab.inbox ++ [(7 * x.die, p)] } }
  else
    let s := count .injectedPackets x.die 1 s
    match route p s with
    | (.local_, s) => toMember (p.dst % 8) (x.viaDie.getD x.die) ⟨p, false, x.task⟩ s
    | (.unreachable, s) => unroutable x.die p s
    | (.via g v i, s) =>
      let s := if v then count .nonminimal x.die 1 s else s
      toGlink x.die ⟨{ p with glink := g, val := v, igroup := i }, false, x.task⟩ s

/-- The port and the virtual channel that a packet's route leads to now; none where it leaves the module by none. -/
def State.injectAt (s : State) (x : Inject) : Option (Nat × Nat) :=
  let u := injectPkt x s
  ((List.range 30).find? fun i =>
    decide ((s.port i).txq.length + (s.port i).grants < (u.port i).txq.length + (u.port i).grants)).map
    fun i => (i, ((u.port i).txq.getLast?.map fun y => y.pkt.vc).getD 0)

/-- There are injection credits for a packet (05, R139): the port queue takes it on its virtual channel. An empty one
does; how many it takes is not given (log entry 111). -/
def State.injectRoom (s : State) (x : Inject) : Bool :=
  match s.injectAt x with
  | none => true
  | some (i, v) =>
    let n := (s.port i).txq.countP fun y => !y.transit && y.pkt.vc == v
    n == 0 || decide (n < Config.injSlots)

/-- Queue packets of this module for injection. -/
def sendPkts (l : List Inject) (s : State) : State :=
  { s with fab := { s.fab with inject := s.fab.inject ++ l } }

/-! Capability records (13, R304, R314). -/

/-- The capability record this module sends on a port (13, Table 13-6). -/
def capsWords (i : Nat) (s : State) : List Nat :=
  let p := s.port i
  let resetting := s.boot.reset.any fun r => r.scope == 1
  let bare := [b2n resetting * 2 ^ 11 + p.good * 2 ^ 12 + i * 2 ^ 16 + b2n s.fab.id.isSome * 2 ^ 21 +
      s.fab.id.getD 0 * 2 ^ 22 + 0x0009 * 2 ^ 32 + 0x0402 * 2 ^ 48,
    0x00040002 * 2 ^ 32, p.turn % 65536 + 256 * 2 ^ 16 + (6144 + p.extMib * 16384) * 2 ^ 32, 0, 0, 0, 0, 0]
  bare.take 7 ++ [(crc32c (wordBytes bare)).toNat]

/-- Send the capability record on a port. -/
def sendCaps (i : Nat) (s : State) : State := emit (.link i "CAPS" (capsWords i s)) s

/-- The partner that the wiring plan names for a port: module and port; none for a spare (13, R313, R314). -/
def State.expected (s : State) (i : Nat) : Option (Nat × Nat) :=
  match s.fab.id, s.fab.groups with
  | some id, some _ =>
    let p := id % 8
    let g := id / 8
    if i < 7 then some (8 * g + (p + i + 1) % 8, 6 - i)
    else if i < 14 then some (8 * g + (p + (i - 7) + 1) % 8, 20 - i)
    else match kvFind (16 * p + (i - 14)) s.fab.links with
      | some (h, g') => some (8 * h + g' / 16, 14 + g' % 16)
      | none => none
  | _, _ => none

/-- Compare a port's partner with the plan (13, R314). -/
def checkWiring (i : Nat) (s : State) : State :=
  let p := s.port i
  if !p.partnerKnown || !bit p.partner 21 || s.fab.groups.isNone || s.fab.id.isNone then s
  else
    let who := (bits p.partner 31 22, bits p.partner 20 16)
    let want := s.expected i
    let bad := want != some who
    let s := setPortAt i (fun p => { p with miswired := bad }) s
    if bad && !p.miswired then
      let (m, k) := want.getD (0, 0)
      post Ev.portMiswired [i, m * 32 + k, who.1 * 32 + who.2] s
    else if !bad then servePort i s
    else s

/-- Check every port. -/
def checkAllWiring (s : State) : State := (List.range 30).foldl (fun s i => checkWiring i s) s

end Sys2Proof.Machine
end

