-- ==== Sys2Proof/Machine/Held.lean ====
section
/-!
DEFINITION. Held queues (08, R190): the release and the discard of ranges for stash entries (08, R194, R199) and for
scale guards (09, R213), and what a guard counts (09, R214, R215).
-/

namespace Sys2Proof.Machine

/-- Change a queue. -/
def setQueue (q : Nat) (f : Queue → Queue) (s : State) : State :=
  { s with mer := { s.mer with queues := kvUpd q f s.mer.queues } }

/-- The head passes what is published of the discarded ranges that it has come to (08, R190). -/
def Queue.passSkips (x : Queue) : Queue :=
  x.skips.foldl (fun x _ =>
    match x.skips.find? fun k => k.1 == x.head with
    | some k =>
      let n := Nat.min k.2 (x.tail - x.head).toNat
      let h := x.head + BitVec.ofNat 32 n
      { x with head := h, skips := (if n < k.2 then [(h, k.2 - n)] else []) ++ x.skips.filter fun y => y != k }
    | none => x) x

/-! Stash entries (08, R192) and guard entries (09, R212). -/

/-- A field of an entry: bits `hi..lo` of word `w` (Table 8-4). -/
def StashEntry.f (e : StashEntry) (w hi lo : Nat) : Nat := bits (e.words.getD w 0) hi lo

def StashEntry.policy (e : StashEntry) : Nat := e.f 0 63 62
def StashEntry.offOk (e : StashEntry) : Bool := e.f 0 61 61 == 1
def StashEntry.rcOk (e : StashEntry) : Bool := e.f 0 60 60 == 1
def StashEntry.inst (e : StashEntry) : Nat := e.f 0 47 32
def StashEntry.key (e : StashEntry) : Nat := e.f 0 31 0
def StashEntry.sBind (e : StashEntry) : Nat := e.f 1 63 50
def StashEntry.sFwdDone (e : StashEntry) : Nat := e.f 1 49 36
def StashEntry.sBwdNeed (e : StashEntry) : Nat := e.f 1 35 22
def StashEntry.sFree (e : StashEntry) : Nat := e.f 1 21 8
def StashEntry.sRcDone (e : StashEntry) : Nat := e.f 2 63 50
def StashEntry.size (e : StashEntry) : Nat := e.f 2 49 34
def StashEntry.layer (e : StashEntry) : Nat := e.f 2 33 18
def StashEntry.rcN (e : StashEntry) : Nat := e.f 5 15 0
def StashEntry.workAddr (e : StashEntry) : Nat := e.f 6 51 0
def StashEntry.rcAddr (e : StashEntry) : Nat := e.f 7 51 0

/-- Change an entry. -/
def setEntry (k : Nat) (f : StashEntry → StashEntry) (s : State) : State :=
  { s with stash := { s.stash with entries := kvUpd k f s.stash.entries } }

/-- The semaphore has triggered. -/
def State.triggered (s : State) (i : Nat) : Bool := decide ((s.sem i).count.toNat ≥ 1)

/-- A field of a guard entry: bits `hi..lo` of word `w` (09, Table 9-2). -/
def Guard.f (g : Guard) (w hi lo : Nat) : Nat := bits (g.words.getD w 0) hi lo

/-- The descriptors of range `i`: 0 the probe range, 1 to 3 the variants. -/
def Guard.n (g : Guard) (i : Nat) : Nat := g.f (3 + i) 15 0

/-- The first tag of the window of range `i` (09, R212). -/
def Guard.tag0 (g : Guard) (i : Nat) : Nat := g.f 0 27 0 + ((List.range i).map g.n).sum

/-- Change a guard. -/
def setGuard (k : Nat) (f : Guard → Guard) (s : State) : State :=
  { s with num := { s.num with guards := kvUpd k f s.num.guards } }

/-- Put a range of a guard in line. -/
def lineGuard (slot i : Nat) (act : RangeDo) (s : State) : State :=
  match kvFind slot s.num.guards with
  | none => s
  | some g =>
    let r : StashRange :=
      { slot := slot, kind := 3 + i, queue := g.f (3 + i) 63 48, first := BitVec.ofNat 32 (g.f (3 + i) 47 16), n := g.n i
        act := act, size := 0, since := s.cyc }
    let s := setGuard slot (fun g => { g with asked := i :: g.asked }) s
    { s with stash := { s.stash with ranges := s.stash.ranges ++ [r] } }

/-- A guard finishes: its ranges that are not released are discarded (09, R214, R215). -/
def endGuard (slot : Nat) (s : State) : State :=
  match kvFind slot s.num.guards with
  | none => s
  | some g =>
    let s := { s with stash := { s.stash with
      ranges := s.stash.ranges.map fun r => if r.slot = slot ∧ r.kind ≥ 3 then { r with act := .discard } else r } }
    let s := ((List.range 4).filter fun i => decide (g.n i > 0) && !g.asked.contains i).foldl
      (fun s i => lineGuard slot i .discard s) s
    { s with num := { s.num with guards := kvDel slot s.num.guards } }

/-- A guard is abandoned (09, R215). -/
def abandonGuard (slot cause v : Nat) (s : State) : State :=
  endGuard slot (post Ev.guardAbandoned [slot, cause, v] (count .abandoned 0 1 s))

/-! Rewriting (08, R194; 09, R213). -/

/-- An address field rewritten (08, R194): `n` is the entry's size in bytes. -/
def rebase (slot base n w : Nat) : Nat :=
  let o := bits w 31 0
  if bits w 51 48 = 4 ∧ bits w 47 32 = slot ∧ o < n then w - bits w 51 0 + base + o else w

/-- A descriptor rewritten for a stash entry (08, Table 8-5). -/
def rewriteDesc (own slot base n : Nat) (d : Desc) : Desc :=
  let ws := match d.type with
    | 0x0 => [2, 3, 4]
    | 0x1 => [2, 3]
    | 0x2 => [2, 3, 4, 5]
    | 0x3 => [2, 3, 4]
    | 0x4 => [2, 3, 4]
    | 0x7 => [2, 3].filter fun w => d.f w 61 52 == own
    | _ => []
  (List.range 8).map fun i => if ws.contains i then rebase slot base n (d.getD i 0) else d.getD i 0

/-- 2^x as an FP32 pattern (09, R213). -/
def pow2f (x : Int) : Nat := (127 + x).toNat * 2 ^ 23

/-- A scale placeholder's value; none where it needs the second record and there is none (09, Table 9-3). -/
def scaleWord (k : Int) (k2 : Option Int) (x : Nat) : Option Nat :=
  match x with
  | 0xFFFFFFF0 => some (pow2f k)
  | 0xFFFFFFF1 => some (pow2f (-k))
  | 0xFFFFFFF2 => k2.map fun j => pow2f (-k - j)
  | 0xFFFFFFF3 => k2.map fun j => pow2f (-j)
  | _ => some x

/-- A descriptor rewritten for a guard (09, R213). -/
def scaleDesc (k : Int) (k2 : Option Int) (d : Desc) : Option Desc :=
  let hi := fun (w : Nat) => scaleWord k k2 (d.f w 63 32)
  let put := fun (w x : Nat) => (List.range 8).map fun i => if i = w then x else d.getD i 0
  match d.type with
  | 0x0 => (hi 5).map fun x => put 5 (x * 2 ^ 32 + d.f 5 31 0)
  | 0x1 => (hi 5).map fun x => put 5 (x * 2 ^ 32 + d.f 5 31 0)
  | 0x2 =>
    match hi 6, scaleWord k k2 (d.f 6 31 0) with
    | some x, some y => some (put 6 (x * 2 ^ 32 + y))
    | _, _ => none
  | _ => some d

/-- The descriptors of a range as Finder reads them: address and words; those that read poisoned are left out. -/
def readRange (q : Queue) (r : StashRange) (s : State) : List (Nat × Desc) × State :=
  (List.range r.n).foldl (fun (p : List (Nat × Desc) × State) i =>
    let a := q.ring + 64 * ((r.first.toNat + i) % 2 ^ q.log)
    let (bad, bs, s) := devRead a 64 p.2
    (if bad.isSome then p.1 else p.1 ++ [(a, bytesWords bs)], s)) ([], s)

/-- Write back the descriptors that a rewriting changes. -/
def writeRange (ds : List (Nat × Desc)) (f : Desc → Desc) (s : State) : State :=
  ds.foldl (fun s p => if f p.2 == p.2 then s else devPut p.1 (wordBytes (f p.2)) s) s

/-- Why a guard's range cannot be released: cause and tag of the first descriptor that fails (09, R213, R215). -/
def rangeFault (k : Int) (k2 : Option Int) (tag0 n : Nat) (ds : List (Nat × Desc)) : Option (Nat × Nat) :=
  ds.findSome? fun p =>
    if p.2.tag < tag0 ∨ tag0 + n ≤ p.2.tag then some (1, p.2.tag)
    else if (scaleDesc k k2 p.2).isNone then some (2, p.2.tag)
    else none

/-! The hold mark (08, R190, R199). -/

/-- The hold mark passes a range; where it is discarded so does the head, once it has come to it. -/
def passRange (r : StashRange) (n : Nat) (skip : Bool) (s : State) : State :=
  setQueue r.queue (fun x =>
    let x := { x with holdMark := x.holdMark + BitVec.ofNat 32 n }
    if skip then ({ x with skips := (r.first, n) :: x.skips } : Queue).passSkips else x) s

/-- Act on a range whose turn it is, or which RESET_STREAM has discarded before: then nothing changes (04, R96). -/
def actRange (q : Queue) (r : StashRange) (past : Bool) (s : State) : State :=
  let s := count .orderWait 0 (s.cyc - r.since) s
  let done := fun (s : State) =>
    if r.kind = 0 then setEntry r.slot (fun e => { e with fwdRel := some s.cyc }) s else s
  let finder := fun (s : State) => count .finderWrites 0 r.n (count .finderReads 0 r.n (count .patched 0 r.n s))
  if past then done s
  else
    match r.act with
    | .release base =>
      let (ds, s) := readRange q r (finder s)
      done (passRange r r.n false (writeRange ds (rewriteDesc s.ownId r.slot base r.size) s))
    | .scale k k2 tag0 =>
      let (ds, s) := readRange q r (finder s)
      match rangeFault k k2 tag0 r.n ds with
      | some (cause, tag) => abandonGuard r.slot cause tag (passRange r r.n true s)
      | none => passRange r r.n false (writeRange ds (fun d => (scaleDesc k k2 d).getD d) s)
    | .first =>
      setQueue r.queue (fun x => { x with exhausted := r.first :: x.exhausted }) (passRange r 1 false s)
    | .discard => passRange r r.n true s

/-- How a range stands to its queue's hold mark: due (some false), passed (some true), or not yet. -/
def State.rangeDue (s : State) (r : StashRange) : Option Bool :=
  match kvFind r.queue s.mer.queues with
  | none => none
  | some q =>
    let d := (r.first - q.holdMark).toNat
    if d = 0 then some false else if d ≥ 2 ^ 31 then some true else none

/-- Act on every range whose turn comes, one after the other. -/
def drainRangesN : Nat → State → State
  | 0, s => s
  | n + 1, s =>
    match s.stash.ranges.find? fun r => (s.rangeDue r).isSome with
    | none => s
    | some r =>
      let s' := { s with stash := { s.stash with ranges := s.stash.ranges.erase r } }
      match kvFind r.queue s.mer.queues with
      | none => s'
      | some q => drainRangesN n (actRange q r ((s.rangeDue r).getD true) s')

/-- Act on every range whose turn comes: an abandoned guard adds at most three. -/
def drainRanges (s : State) : State := drainRangesN (4 * s.stash.ranges.length) s

/-- Ask for the release or the discard of a range of a stash entry. -/
def askRange (slot kind : Nat) (act : RangeDo) (s : State) : State :=
  match kvFind slot s.stash.entries with
  | none => s
  | some e =>
    let w := if kind = 0 then 3 else if kind = 1 then 5 else 4
    let r : StashRange :=
      { slot := slot, kind := kind, queue := e.f w 63 48, first := BitVec.ofNat 32 (e.f w 47 16), n := e.f w 15 0
        act := act, size := 65536 * e.size, since := s.cyc }
    let s := setEntry slot (fun e =>
      if kind = 0 then { e with fwdReq := true } else if kind = 1 then { e with rcReq := true }
      else { e with bwdReq := true }) s
    drainRanges { s with stash := { s.stash with ranges := s.stash.ranges ++ [r] } }

/-! What a guard counts. -/

/-- Does the tag lie in the window of the guard's current range (09, R214)? -/
def Guard.counts (g : Guard) (tag : Nat) : Bool :=
  match g.cur with
  | some i => decide (g.tag0 i ≤ tag) && decide (tag < g.tag0 i + g.n i)
  | none => false

/-- Does the tag lie in one of the guard's windows, which stand one after another (09, R212)? -/
def Guard.owns (g : Guard) (tag : Nat) : Bool := decide (g.tag0 0 ≤ tag) && decide (tag < g.tag0 4)

/-- A task of the given tag completes: every guard whose current window holds the tag counts it (09, R214); a status that
halts the stream abandons every guard that has the tag in any of its windows (09, R215). -/
def guardCount (tag status sat amax : Nat) (amx halts : Bool) (s : State) : State :=
  let hit := s.num.guards.filter fun p => if halts then p.2.owns tag else p.2.counts tag
  if hit.isEmpty then s
  else
    drainRanges (hit.foldl (fun s p =>
      if halts then abandonGuard p.1 0 status s
      else setGuard p.1 (fun g => { g with
        counted := g.counted + 1
        tally := Nat.min (g.tally + sat) 0xFFFFFFFF
        amax := if amx then fmax g.amax amax else g.amax
        firstTag := if g.tally = 0 ∧ sat > 0 then tag else g.firstTag }) s) s)

end Sys2Proof.Machine
end

