-- ==== Sys2Proof/Machine/TaskOps.lean ====
section
/-!
DEFINITION. The shared operations on tasks: reading operands, charging, parking, completion records, signals, halts,
aborts (04, R95, R96, R108, R109; 05, R119, R123, R127, R136; 17, R414, R418).
-/

namespace Sys2Proof.Machine

/-- A task by its number. -/
def State.task (s : State) (t : Nat) : Option Task := kvFind t s.mer.tasks

/-- Change a task. -/
def setTask (t : Nat) (f : Task → Task) (s : State) : State :=
  { s with mer := { s.mer with tasks := kvUpd t f s.mer.tasks } }

/-- A stream (R116). -/
def State.stream (s : State) (i : Nat) : Stream := kvGet {} i s.mer.streams

/-- Change a stream. -/
def setStream (i : Nat) (f : Stream → Stream) (s : State) : State :=
  { s with mer := { s.mer with streams := kvPut {} i (f (s.stream i)) s.mer.streams } }

/-- A COMPUTE reset is in progress. -/
def State.inCompute (s : State) : Bool := s.boot.reset.any fun r => r.scope == 1

/-! Operand reads (17, R414, R418). -/

/-- What a task's read gives. -/
inductive Got
  | ok (bs : List Byte)
  | poison (a : Nat)
  /-- Its page is under a replica repair. -/
  | held (page : Nat)
deriving DecidableEq, Repr

/-- The first page of a range that a repair holds. -/
def State.heldPage (s : State) (a n : Nat) : Option Nat :=
  ((s.rel.repairs.filter fun r => !r.superseded && decide (r.page < a + n) && decide (a < r.page + 2048)).map
    fun r => r.page).head?

/-- Some byte of a range lies on the other die than `die` (01, R26). -/
def State.crosses (s : State) (die a n : Nat) : Bool :=
  match regionOf a with
  | some .gddr7 => (List.range (n / 2048 + 2)).any fun i =>
      decide (i * 2048 < n) && (s.loc (a + i * 2048)).die != die || (decide (n > 0) && (s.loc (a + n - 1)).die != die)
  | some .lpddr => (List.range (n / 2048 + 2)).any fun i =>
      decide (i * 2048 < n) && (s.loc (a + i * 2048)).die != die || (decide (n > 0) && (s.loc (a + n - 1)).die != die)
  | some .coreSram => coreOf a / 256 != die
  | some .clusterSram => clusterOf a / 16 != die
  | _ => false

/-- Bytes of a DRAM range that lie on the other die are counted as bridge traffic (07, Table 7-8). -/
def bridgeCount : Nat → Nat → Bool → Nat → Nat → State → State
  | 0, _, _, _, _, s => s
  | fuel + 1, die, wr, a, n, s =>
    if n = 0 ∨ !inDram a then s
    else
      let k := Nat.min n (2048 - a % 2048)
      let s := if (s.loc a).die = die then s else count (if wr then .bridgeWr else .bridgeRd) die k s
      bridgeCount fuel die wr (a + k) (n - k) s

/-- Count the bridge traffic of one access. -/
def bridge (die : Nat) (wr : Bool) (a n : Nat) (s : State) : State := bridgeCount (n / 2048 + 2) die wr a n s

/-- A read, or a write, by a requester of a die. -/
def dieRead (die a n : Nat) (s : State) : Option Nat × List Byte × State := devRead a n (bridge die false a n s)
def diePut (die a : Nat) (bs : List Byte) (s : State) : State := devPut a bs (bridge die true a bs.length s)

/-- A read for a task by a unit of a die: one that would cross a failed bridge meets poison (17, R411). -/
def taskRead (die a n : Nat) (s : State) : Got × State :=
  let (p, bs, s) := devRead a n s
  match s.heldPage a n with
  | some g => (.held g, s)
  | none =>
    match p with
    | some x => (.poison x, s)
    | none => if s.rel.bridgeFailed && s.crosses die a n then (.poison a, s) else (.ok bs, bridge die false a n s)

/-- Reads of several runs, in order: their bytes joined, or the first that failed. -/
def taskReads (die : Nat) : List (Nat × Nat) → State → Got × State
  | [], s => (.ok [], s)
  | (a, n) :: t, s =>
    match taskRead die a n s with
    | (.ok bs, s) =>
      match taskReads die t s with
      | (.ok more, s) => (.ok (bs ++ more), s)
      | r => r
    | r => r

/-- The die a task is on. -/
def Task.dieOf (k : Task) : Nat :=
  match k.desc.type with
  | 0x6 => k.loc
  | 0x8 => k.loc
  | 0x9 => k.desc.die
  | 0xA => k.desc.die
  | 0xB => k.desc.die
  | 0xC => k.desc.die
  | 0x3 => k.loc / 16
  | 0x4 => k.loc / 16
  | 0x5 => k.loc / 16
  | 0x7 => k.loc / 16
  | _ => k.loc / 256

/-- A task meets poison: it will complete POISONED with the first address (17, R414). -/
def taskPoison (t a : Nat) (s : State) : State :=
  setTask t (fun k => if k.poisoned then k else { k with poisoned := true, status := Ts.poisoned, detail := a }) s

/-- A task reads runs of core or cluster SRAM: poison that it meets poisons its outputs (17, R412, R414). -/
def taskMeets (t : Nat) (runs : List (Nat × Nat)) (s : State) : State :=
  let s := runs.foldl (fun s r => sramReads r.1 r.2 s) s
  match runs.findSome? fun r => s.firstPoison r.1 r.2 with
  | some a => taskPoison t a s
  | none => s

/-- An output write of a task: written poisoned once the task has met poison; to the host window it is then not sent. -/
def taskWrite (t a : Nat) (bs : List Byte) (s : State) : State :=
  match s.task t with
  | none => s
  | some k =>
    if k.poisoned then poisonOut a bs.length s
    else if s.rel.bridgeFailed && s.crosses k.dieOf a bs.length then taskPoison t a s
    else
      let (bad, s) := devWrite a bs s
      if bad then taskPoison t a s else bridge k.dieOf true a bs.length s

/-! Charging (05, R123, R125, R127). -/

/-- The number of a non-core task's unit: coelostats by cluster, Spectrographs, Ephemeris, collective engines. -/
def Task.unitNo (k : Task) : Nat :=
  match k.desc.type with
  | 0x5 => 32 + k.loc
  | 0x6 => 64 + k.loc
  | 0x8 => 66 + k.loc
  | _ => k.loc

/-- The class that pays for a task. -/
def Task.payer (k : Task) : Nat := k.lent.getD k.cls

/-- Engine-ns for each ns of a core task's run (R123). -/
def Task.rate (k : Task) : Nat := if k.desc.engine then 4 else if k.desc.type = 2 then 1 else 0

/-- A task occupies its unit: it runs, its work awaits its record, or it is parked with packets still to be handed to
the Orrery (R136). -/
def Task.busy (k : Task) : Bool :=
  (k.phase == .running || k.phase == .finished || (k.phase == .parked && k.desc.type != 9)) && !k.released

/-- Charge a running task up to now. -/
def chargeTask (t : Nat) (s : State) : State :=
  match s.task t with
  | none => s
  | some k =>
    if !k.busy then s
    else
      let ns := s.now - k.charged
      let c := k.payer
      let s := setTask t (fun k => { k with charged := s.now }) s
      if k.desc.core then
        let u := ns * k.rate
        let s := { s with mer := { s.mer with
          charged := kvMod 0 c (· + u) s.mer.charged
          running := kvMod 0 (16 * k.dieOf + c) (· + (u : Int)) s.mer.running } }
        let s := count .consumed c u s
        if k.lent.isSome then count .lentIn c u s else s
      else if k.desc.type ≤ 0x8 then
        { s with mer := { s.mer with unitCharged := kvMod 0 (16 * k.unitNo + c) (· + ns) s.mer.unitCharged } }
      else s

/-- A task holds injection credits on a port and a virtual channel: a packet of it waits there (R139). -/
def State.holdsCredit (s : State) (t i v : Nat) : Bool :=
  (s.port i).txq.any fun y => y.task == some t && y.pkt.vc == v

/-- The lends to holders of credits that have released them end (R140). -/
def endCreditLends (s : State) : State :=
  let over_ := s.mer.lends.filter fun l => match l.credit with
    | some (i, v) => !s.holdsCredit l.holder i v
    | none => false
  let s := over_.foldl (fun s l => setTask l.holder (fun k => { k with lent := none }) s) s
  { s with mer := { s.mer with lends := s.mer.lends.filter fun l => !over_.contains l } }

/-- The stash copies in progress, by slot, and the class that pays for them (08, R201). -/
def State.copies (s : State) : List (Nat × StashCopy) := s.stash.entries.filterMap fun p => p.2.copy.map fun x => (p.1, x)
def State.copyClass (s : State) : Nat := (s.stash.ctx.bind fun c => (s.stream c.stream).cls).getD 0

/-- Charge a running stash copy up to now: its four parts are four unit tasks (05, R127; 08, R201). -/
def chargeCopy (slot : Nat) (x : StashCopy) (s : State) : State :=
  match x.run with
  | none => s
  | some c =>
    let s := { s with mer := { s.mer with
      unitCharged := kvMod 0 (16 * c + s.copyClass) (· + 4 * (s.now - x.charged)) s.mer.unitCharged } }
    setEntry slot (fun e => { e with copy := e.copy.map fun x => { x with charged := s.now } }) s

/-- Charge every running task and stash copy up to now; lends that have ended are over. -/
def chargeAll (s : State) : State :=
  let s := s.mer.tasks.foldl (fun s p => chargeTask p.1 s) s
  endCreditLends (s.copies.foldl (fun s p => chargeCopy p.1 p.2 s) s)

/-- The cluster that carries the stash copies (R133; 08, R201). -/
def State.copyCluster (s : State) (c : StashCtx) : Option Nat :=
  let k := c.cluster
  if s.clusterUp k then some k
  else ((List.range 15).map fun i => k / 16 * 16 + (k % 16 + 1 + i) % 16).find? fun k => s.clusterUp k

/-- Where a stash copy is active: the cluster that carries it, or would. -/
def State.copyAt (s : State) (x : StashCopy) : Option Nat :=
  match x.run with
  | some c => some c
  | none => s.stash.ctx.bind s.copyCluster

/-- Packets of a task wait to be handed to the Orrery. -/
def State.unsent (s : State) (t : Nat) : Bool := s.fab.inject.any fun x => x.task == some t

/-- The unit of a parked task becomes free once its last packet has been handed to the Orrery (R136): it is charged up to
then (R127). -/
def releaseUnit (t : Nat) (s : State) : State :=
  match s.task t with
  | none => s
  | some k =>
    if k.phase = .parked ∧ !k.released ∧ !s.unsent t then setTask t (fun k => { k with released := true }) (chargeTask t s)
    else s

/-- A parked task occupies its unit again: it has packets to send (14, R329). -/
def occupyUnit (t : Nat) (s : State) : State :=
  match s.task t with
  | none => s
  | some k =>
    if k.released ∧ s.unsent t then
      let s := { s with mer := { s.mer with unitActive := setIns (16 * k.unitNo + k.cls) s.mer.unitActive } }
      setTask t (fun k => { k with released := false, charged := s.now }) s
    else s

/-- The effective deficit of a class on a die (R125). -/
def State.effective (s : State) (die c : Nat) : Int :=
  (s.mer.heard[c]?.getD 0) - kvGet 0 (16 * die + c) s.mer.running

/-- The weight of a class (R122). -/
def State.weight (s : State) (c : Nat) : Nat := (s.mer.weights[c]?.getD 0).toNat

/-! Park tokens (05, R136, R137). -/

/-- The free token of a die that follows the one taken last, in cyclic order (log entry 113). -/
def State.freeToken (s : State) (die : Nat) : Option Nat :=
  let from_ := kvGet 0 die s.mer.tokenAt
  ((List.range 4096).find? fun i => !kvHas (die * 4096 + (from_ + i) % 4096) s.mer.park).map
    fun i => die * 4096 + (from_ + i) % 4096

/-- Take a token for a task. -/
def takeToken (t die : Nat) (s : State) : Option (Nat × State) :=
  match s.freeToken die with
  | none => none
  | some tk =>
    let s := { s with mer := { s.mer with
      park := kvSet tk t s.mer.park, tokenAt := kvSet die ((tk + 1) % 4096) s.mer.tokenAt } }
    let s := setTask t (fun k => { k with token := some tk }) s
    some (tk, countHigh .parkHigh die (s.mer.park.countP fun p => decide (p.1 / 4096 = die)) s)

/-- Give a task's token back. -/
def dropToken (t : Nat) (s : State) : State :=
  { s with mer := { s.mer with park := s.mer.park.filter fun p => p.2 != t } }

/-- A task waits for a token from now on: PARK_FULL. -/
def waitToken (t : Nat) (s : State) : State :=
  setTask t (fun k => if k.waitWhy = 2 then k else { k with waitWhy := 2, waitFrom := s.cyc }) s

/-- The wait a task was in is over: its time is counted (05, Table 5-6). -/
def endWait (t : Nat) (s : State) : State :=
  match s.task t with
  | none => s
  | some k =>
    let n := s.cyc - k.waitFrom
    let s := setTask t (fun k => { k with waitWhy := 0 }) s
    match k.waitWhy with
    | 1 => count .waitRunqFull k.stream n s
    | 2 => count .waitParkFull k.stream n s
    | 3 => count .waitOffline k.stream n s
    | _ => s

/-- Put the reason why a task waits at its queue's head, counting the time of the one before. -/
def markWait (t why : Nat) (s : State) : State :=
  match s.task t with
  | none => s
  | some k =>
    if k.waitWhy = why then s
    else setTask t (fun k => { k with waitWhy := why, waitFrom := s.cyc }) (endWait t s)

/-! Completion (04, R95, R96, R108). -/

/-- Halt a stream: a halting completion posts its own event (R96). -/
def haltStream (st tag cause : Nat) (s : State) : State :=
  post Ev.streamHalted [st, tag, cause] (setStream st (fun x => { x with halted := true }) s)

/-- Unit and where of a record (Table 4-11). -/
def Task.unitWhere (k : Task) (rejected : Bool) : Nat × Nat :=
  let d := k.desc
  match d.type with
  | 0x0 => (0, if rejected then d.home else k.loc)
  | 0x1 => (0, if rejected then d.home else k.loc)
  | 0x2 => (0, if rejected then d.home else k.loc)
  | 0x3 => (1, if rejected then d.cluster else k.loc)
  | 0x4 => (1, if rejected then d.cluster else k.loc)
  | 0x5 => (2, if rejected then d.cluster else k.loc)
  | 0x6 => (3, d.die)
  | 0x7 => (1, if rejected then d.cluster else k.loc)
  | 0x8 => (4, d.die)
  | _ => (5, d.die)

/-- The completion record (Table 4-11). -/
def Task.record (k : Task) (rejected : Bool) (tEnd cycles stall : Nat) : List Byte :=
  let (u, w) := k.unitWhere rejected
  wordBytes
    [k.desc.type * 2 ^ 60 + k.desc.tag * 2 ^ 32 + k.status * 2 ^ 24 + k.stream * 2 ^ 16 + w * 2 ^ 7 + u * 16 +
       b2n k.stolen * 8 + b2n k.overtime * 4,
     k.detail, k.sat * 2 ^ 32 + k.flush, k.nan * 2 ^ 32 + k.amax, stall * 2 ^ 32 + cycles, k.tStart, tEnd, k.result]

/-- Is the record written (R108)? -/
def Task.writesRecord (k : Task) : Bool :=
  !k.desc.quiet || k.status != 0 || k.overtime || k.sat != 0 || k.flush != 0 || k.nan != 0

/-- Write a record into its queue's completion ring, then the tail word, then signal the vector (R119; 16, R398). -/
def writeRecord (q die : Nat) (stream : Nat) (bs : List Byte) (s : State) : State :=
  match kvFind q s.mer.queues with
  | none => s
  | some x =>
    let s := diePut die (x.cpl + 64 * (x.cplTail.toNat % 2 ^ x.log)) bs s
    let s := setQueue q (fun x => { x with cplTail := x.cplTail + 1 }) s
    let s := diePut die x.tailWord (leBytes 8 (x.cplTail + 1).toNat) s
    let s := count .finderWrites die 2 (count .completed stream 1 s)
    cplSignal x.vec x.moder s

/-- The header signal of R95: an overflow halts the stream (R104). -/
def headerSignal (d : Desc) (stream : Nat) (s : State) : State :=
  if d.sigEn then
    let (ovf, s) := semAdd d.sigSem d.sigDelta s
    if ovf then haltStream stream d.tag Ts.semOverflow s else s
  else s

/-- A task leaves its queue's head. -/
def leaveHead (t : Nat) (s : State) : State :=
  { s with mer := { s.mer with queues := s.mer.queues.map fun p =>
    if p.2.fetched == (some t) then (p.1, { p.2 with fetched := none, headSince := s.cyc }) else p } }

/-! The failure of a collective (14, R334, R335). -/

/-- The ranks of a communicator but its own. -/
def Comm.others (c : Comm) : List Nat := (List.range c.ranks.length).filter (· != c.own)

/-- The module and the die of a rank (14, Table 14-2). -/
def Comm.moduleOf (c : Comm) (q : Nat) : Nat := bits (c.ranks.getD q 0) 63 54
def Comm.dieOf (c : Comm) (q : Nat) : Nat := bits (c.ranks.getD q 0) 53 53

/-- A COLL_CTRL packet to rank `q` (14, Tables 14-6, 14-7): kind 0x10 FREE or 0x11 ABORT. -/
def collCtrl (id : Nat) (c : Comm) (seq kind v q own : Nat) : Inject :=
  { pkt := { typ := .collCtrl, cls := 2, dst := c.moduleOf q, src := own
             coll := id * 2 ^ 52 + c.epoch * 2 ^ 36 + seq % 65536 * 2 ^ 20 + c.own * 2 ^ 8
             mgmt := [kind * 2 ^ 56 + v, 0, 0] }
    die := c.dieOf c.own }

/-- Change a communicator. -/
def setComm (id : Nat) (f : Comm → Comm) (s : State) : State :=
  { s with fab := { s.fab with comms := kvUpd id f s.fab.comms } }

/-- An open collective ends with a status other than OK, its chunks that wait are not sent: ABORT to the other ranks,
to those of its own site only while fenced, and its communicator is stale (14, R334, R335, R342). -/
def collAbort (t st : Nat) (s : State) : State :=
  match s.fab.colls.find? fun c => c.task == t with
  | none => s
  | some x =>
    let s := { s with fab := { s.fab with
      colls := s.fab.colls.filter fun c => c.task != t
      inject := s.fab.inject.filter fun y => y.task != some t } }
    let s := count .collFailed x.die 1 s
    let s := match x.blocked with | some b => count .landingWait x.die (s.cyc - b) s | none => s
    match kvFind x.comm s.fab.comms with
    | none => s
    | some c =>
      let peers := c.others.filter fun q => !(s.fab.fenced.isSome && s.otherSite (c.moduleOf q))
      setComm x.comm (fun c => { c with stale := true })
        (sendPkts (peers.map fun q => collCtrl x.comm c x.num 0x11 st q s.ownId) s)

/-- Slices that a coelostat has issued for a task are given up (R135; 17, R418). -/
def dropIssued (t : Nat) (s : State) : State :=
  { s with strm := { s.strm with issued := s.strm.issued.map fun p => (p.1, p.2.filter fun r => r.task != t) } }

/-- The end of a task (R95, R96, R108): the record or its absence, the reservation, the token, the lends, then the
signal, or the halt of its stream. A task that ends ABORTED, or is rejected, signals nothing. -/
def endTask (t : Nat) (rejected : Bool) (cycles stall : Nat) (s : State) : State :=
  match s.task t with
  | none => s
  | some _ =>
    let s := chargeTask t (endWait t s)
    match s.task t with
    | none => s
    | some k =>
      let s := if k.status = 0 then s else collAbort t k.status s
      let s := if k.status = Ts.poisoned then count .poisonTasks k.dieOf 1 s else s
      let s := dropIssued t (leaveHead t s)
      let s := setQueue k.queue (fun x => { x with reserved := x.reserved - 1 }) s
      let bs := k.record rejected s.now (cycles % 2 ^ 32) (stall % 2 ^ 32)
      let s := if k.writesRecord then writeRecord k.queue k.dieOf k.stream bs s else s
      let s := dropToken t s
      let s := { s with mer := { s.mer with
        tasks := kvDel t s.mer.tasks
        lends := s.mer.lends.filter fun l => l.holder != t } }
      let halts := Ts.halts k.status || (k.desc.type == 0x8 && k.status == Ts.aborted)
      let s := guardCount k.desc.tag k.status k.sat k.amax (k.desc.b 1 4) halts s
      if halts then haltStream k.stream k.desc.tag k.status s
      else if k.status = Ts.aborted ∨ rejected then s
      else headerSignal k.desc k.stream s

/-- The watch of a SEM_WAIT is cancelled (05, R138). -/
def cancelWatch (k : Task) (s : State) : State :=
  match k.token with
  | some tk =>
    if k.desc.type = 0x9 then
      let ga := k.desc.f 2 63 0
      sendPkts [{ pkt := { typ := .watchCancel, cls := 2, dst := gaModule ga, src := s.ownId, flow := 0xFD
                           addr := gaAddr ga, token := tk % 4096, tdie := tk / 4096 }
                  die := tk / 4096 }] s
    else s
  | none => s

/-- A task ends ABORTED (R96, R145; 17, R419): one that had not started has t_start = t_end. The cycles of a running
core task are a free value (log entry 66). -/
def abortTask (t : Nat) (s : State) : State :=
  match s.task t with
  | none => s
  | some k =>
    let s := cancelWatch k s
    let s := { s with fab := { s.fab with inject := s.fab.inject.filter fun y => y.task != some t } }
    let started := k.phase = .running ∨ k.phase = .parked ∨ k.phase = .finished ∨ (k.desc.type ≥ 0x9 ∧ k.phase ≠ .head)
    let ran := (k.phase = .running ∨ k.phase = .finished) ∧ k.desc.core
    let (c, s) := if ran then draw s else (0, s)
    let s := chargeTask t s
    let s := setTask t (fun k => { k with
      status := Ts.aborted, detail := 0, result := if k.desc.type = 5 then 2 * 2 ^ 48 else if k.desc.type = 7 then k.result else 0, sat := 0, flush := 0, nan := 0, amax := 0
      tStart := if started then k.tStart else s.now }) s
    endTask t false c 0 s

/-- A task that a rejected check ends (R109, R534). -/
def rejectTask (t st det : Nat) (s : State) : State :=
  endTask t true 0 0 (setTask t (fun k => { k with status := st, detail := det, tStart := s.now }) s)

/-! Local waits (05, R142). -/

/-- A fetched or running task by a test, in order of number. -/
def State.tasksWhere (s : State) (f : Task → Bool) : List (Nat × Task) := s.mer.tasks.filter fun p => f p.2

end Sys2Proof.Machine
end

