-- ==== Sys2Proof/Machine/Meridian.lean ====
section
/-!
DEFINITION. Chapter 05: queues and streams, fetching and admitting, selection, stealing, lending, accounting; and
Meridian's own tasks (04, Table 4-10).
-/

namespace Sys2Proof.Machine

/-! Queue registers (16, Table 16-5). -/

/-- A write of TQ_DOORBELL (R117): refused, it sets write_refused and posts QUEUE_DOORBELL_INVALID. -/
def tqDoorbell (v : Nat) (s : State) : State :=
  let q := v % 65536
  let t := BitVec.ofNat 32 (v / 2 ^ 32)
  let ok := match kvFind q s.mer.queues with
    | none => false
    | some x => decide (0 < (t - x.tail).toNat) && decide ((t - x.head).toNat ≤ 2 ^ x.log)
  if ok then
    let s := { s with mer := { s.mer with rung := true } }
    setQueue q (fun x => ({ x with
      tail := t, headSince := if x.head = x.tail ∧ x.fetched = none then s.cyc else x.headSince } : Queue).passSkips) s
  else post Ev.queueDoorbellInvalid [q, t.toNat] (refuseWrite s)

/-- A write of TQ_CPL_HEAD (R119; 16, Table 16-5): refused where it would move cpl_head backward or past cpl_tail. -/
def tqCplHead (v : Nat) (s : State) : State :=
  let q := v % 65536
  let h := BitVec.ofNat 32 (v / 2 ^ 32)
  match kvFind q s.mer.queues with
  | none => refuseWrite s
  | some x =>
    if (h - x.cplHead).toNat ≤ (x.cplTail - x.cplHead).toNat then setQueue q (fun x => { x with cplHead := h }) s
    else refuseWrite s

/-! Commands on queues and streams (16, Table 16-7). -/

/-- A stream has no queue and no stage of a resident program left: its binding ends (R116). -/
def unbindStream (i : Nat) (s : State) : State :=
  let used := s.mer.queues.any (fun p => p.2.stream == i) || s.prog.any (fun p => p.2.stages.any fun g => g.stream == i)
  if used then s else setStream i (fun x => { x with cls := none }) s

/-- CREATE_QUEUE (R115, R116). -/
def execCreateQueue (m : Fin 16) (s : State) : Host.Outcome State Fault Refusal :=
  mbxCommand 0x0101 anyArgs m (fun a s =>
    let w := a.n 0
    let q := bits w 15 0
    let st := bits w 23 16
    let cls := bits w 27 24
    let bind := bit w 28
    let log := bits w 36 32
    let vec := bits w 47 40
    let n := 64 * 2 ^ log
    let inDramAt := fun (x n : Nat) => inDram x && inDram (x + n - 1) && tierOf x == tierOf (x + n - 1)
    let hostAt := fun (x n : Nat) => regionOf x == some .hostWin && regionOf (x + n - 1) == some .hostWin
    let cpl := a.n 2
    let word := a.n 3
    let argOk := decide (4 ≤ log) && decide (log ≤ 16) && (vec == 0xFF || (decide (18 ≤ vec) && decide (vec ≤ 63))) &&
      inDramAt (a.n 1) n && aligned (a.n 1) 4096 && (inDramAt cpl n || hostAt cpl n) && aligned cpl 4096 &&
      aligned word 8 && regionOf word == regionOf cpl && regionOf (word + 7) == regionOf cpl &&
      (bind || (s.stream st).cls.isSome)
    if !argOk then .done St.queueArgInvalid [] s
    else if kvHas q s.mer.queues then .done St.queueInUse [] s
    else if bind && (s.stream st).cls.any (· != cls) then .done St.streamClassConflict [] s
    else if s.sec.mode = .tenantBounce ∧ hostAt cpl n then .done St.tenantRefused [] s
    else
      let x : Queue :=
        { ring := a.n 1, log := log, cpl := cpl, tailWord := word, stream := st, bind := bind, held := bit w 29
          vec := vec, moder := bits w 55 48 }
      let s := { s with mer := { s.mer with queues := kvSet q x s.mer.queues } }
      .done St.ok [] (if bind then setStream st (fun x => { x with cls := some cls }) s else s)) s

/-- DESTROY_QUEUE (R116). A task of it that stands at its head, fetched and not admitted, goes with it. -/
def execDestroyQueue (m : Fin 16) (s : State) : Host.Outcome State Fault Refusal :=
  mbxCommand 0x0102 anyArgs m (fun a s =>
    let q := a.n 0
    match kvFind q s.mer.queues with
    | none => .done St.queueArgInvalid [] s
    | some x =>
      if !(s.stream x.stream).halted || s.mer.tasks.any (fun p => p.2.queue == q && p.2.phase != .head) then
        .done St.queueBusy [] s
      else
        let s := { s with mer := { s.mer with
          queues := kvDel q s.mer.queues
          tasks := s.mer.tasks.filter fun p => p.2.queue != q } }
        .done St.ok [] (unbindStream x.stream s)) s

/-- HALT_STREAM (16, Table 16-7). -/
def execHaltStream (m : Fin 16) (s : State) : Host.Outcome State Fault Refusal :=
  mbxCommand 0x0103 anyArgs m (fun a s =>
    let st := a.n 0
    .done St.ok [] (if (s.stream st).halted then s else haltStream st 0 0x101 s)) s

/-- RESUME_STREAM. -/
def execResumeStream (m : Fin 16) (s : State) : Host.Outcome State Fault Refusal :=
  mbxCommand 0x0104 anyArgs m (fun a s => .done St.ok [] (setStream (a.n 0) (fun x => { x with halted := false }) s)) s

/-- Is a task among those that RESET_STREAM ends (R96, step 3)? -/
def notStarted (k : Task) : Bool :=
  match k.phase with
  | .running => k.desc.type == 0xC
  | .finished => false
  | _ => true

/-- RESET_STREAM discards the guards that wait for completions of a range in one of the stream's queues (09, R216),
without a verdict; what they have not released is discarded with them (log entry 122). -/
def dropGuards (st : Nat) (s : State) : State :=
  let waits := fun (g : Guard) => match g.cur with
    | some i => (kvFind (g.f (3 + i) 63 48) s.mer.queues).any fun q => q.stream == st
    | none => false
  drainRanges ((s.num.guards.filter fun p => waits p.2).foldl (fun s p => endGuard p.1 s) s)

/-- RESET_STREAM (R96). -/
def resetStream (st : Nat) (s : State) : (Nat × Nat) × State :=
  let s := if (s.stream st).halted then s else haltStream st 0 0x101 s
  let s := s.mer.queues.foldl (fun s p => match p.2.cplSince with
    | some t0 => if p.2.stream = st then count .waitCplFull st (s.cyc - t0) s else s
    | none => s) s
  let lost := (s.mer.queues.map fun p => if p.2.stream = st then (p.2.tail - p.2.head).toNat else 0).sum
  let f := fun (p : Nat × Queue) =>
    if p.2.stream = st then
      (p.1, { p.2 with
        head := p.2.tail, holdMark := if p.2.held then p.2.tail else p.2.holdMark, cplSince := none
        skips := [], exhausted := [] })
    else p
  let s := dropGuards st { s with mer := { s.mer with queues := s.mer.queues.map f } }
  let ts := s.tasksWhere fun k => k.stream == st && notStarted k
  ((lost, ts.length), ts.foldl (fun s p => abortTask p.1 s) s)

/-- RESET_STREAM (16, Table 16-7). -/
def execResetStream (m : Fin 16) (s : State) : Host.Outcome State Fault Refusal :=
  mbxCommand 0x0105 anyArgs m (fun a s =>
    let (n, s) := resetStream (a.n 0) s
    .done St.ok [n.1, n.2] s) s

/-- SET_CLASS_SHARES (R122): in force from the next accounting period. -/
def execSetClassShares (m : Fin 16) (s : State) : Host.Outcome State Fault Refusal :=
  mbxCommand 0x0106 anyArgs m (fun a s =>
    .done St.ok [] { s with mer := { s.mer with
      weightsNext := Vector.ofFn fun i => BitVec.ofNat 8 (a.n (i.val / 8) / 2 ^ (8 * (i.val % 8))) } }) s

/-! Fetching (R110, R119). -/

/-- May Meridian take the next descriptor of a queue, but for a completion slot? -/
def State.mayFetch (s : State) (x : Queue) : Bool :=
  x.fetched.isNone && x.head != x.tail && !(s.stream x.stream).halted && !s.inCompute && s.powered &&
  (!x.held || decide ((x.head - x.holdMark).toNat ≥ 2 ^ 31))

/-- A completion slot can be reserved (R119). -/
def Queue.hasSlot (x : Queue) : Bool := decide ((x.cplTail - x.cplHead).toNat + x.reserved < 2 ^ x.log)

/-! Admission (R120, R121, R133). -/

/-- The local addresses a task names. -/
def State.namedAddrs (s : State) (d : Desc) : List Nat :=
  match d.type with
  | 0x0 => [d.addr 2, d.addr 3, d.addr 4]
  | 0x1 => [d.addr 2, d.addr 3]
  | 0x2 => d.vwords.map d.addr
  | 0x3 => [d.addr 2, d.addr 3, d.addr 4]
  | 0x4 => [d.addr 2, d.addr 3, d.addr 4]
  | 0x5 => [d.f 2 51 0, d.f 3 51 0]
  | 0x7 => ([d.f 2 63 0, d.f 3 63 0].filter fun x => !s.remote x).map gaAddr
  | _ => []

/-- Does a task name cluster SRAM? -/
def State.namesCluster (s : State) (d : Desc) : Bool :=
  (s.namedAddrs d).any fun a => regionOf a == some .clusterSram

/-- Is the executing unit of a type in a cluster? -/
def clusterUnit (ty : Nat) : Bool := ty == 3 || ty == 4 || ty == 5 || ty == 7

/-- The cluster whose unit takes a non-core task (R133); none where it must wait. -/
def State.unitCluster (s : State) (d : Desc) : Option Nat :=
  let c := d.cluster
  if s.clusterUp c then some c
  else if d.pin || s.namesCluster d then none
  else ((List.range 15).map fun i => c / 16 * 16 + (c % 16 + 1 + i) % 16).find? fun c => s.clusterUp c

/-- The core tasks in a core's run queue (R120, R128). -/
def State.runQueue (s : State) (core : Nat) : List (Nat × Task) :=
  s.tasksWhere fun k => k.desc.core && k.loc == core && (k.phase == .admitted || k.phase == .selected)

/-- The places of a core's run queue that are taken: a stolen descriptor on its way has one (R120, R131). -/
def State.runLoad (s : State) (core : Nat) : Nat :=
  (s.tasksWhere fun k => k.desc.core && k.loc == core &&
    (k.phase == .admitted || k.phase == .selected || k.phase == .moving)).length

/-- R94. -/
def State.waitMet (s : State) (d : Desc) : Bool := !d.waitEn || decide (d.waitValue ≤ (s.sem d.waitSem).count.toNat)

/-- R105: every earlier task of the stream has completed. -/
def State.earlierDone (s : State) (t : Nat) (k : Task) : Bool :=
  !(s.mer.tasks.any fun p => p.2.stream == k.stream && decide (p.1 < t))

/-- Whether a task at its queue's head may be admitted, and if its wait is met the reason why not (Table 5-6):
0 none, 1 RUNQ_FULL, 3 CLUSTER_OFFLINE. -/
def State.admissible (s : State) (t : Nat) (k : Task) : Bool × Nat :=
  let d := k.desc
  if k.phase ≠ .head ∨ (s.stream k.stream).halted ∨ s.inCompute ∨ !s.waitMet d then (false, 0)
  else if d.core then
    if !s.clusterUp d.cluster && (d.pin || s.namesCluster d) then (false, 3)
    else if s.runLoad d.home ≥ 8 then (false, 1) else (true, 0)
  else if clusterUnit d.type then (if (s.unitCluster d).isSome then (true, 0) else (false, 3))
  else if d.type = 0xC then (s.earlierDone t k, 0)
  else (true, 0)

/-- The reasons of every waiting head are brought up to date. -/
def noteWaits (s : State) : State :=
  s.mer.tasks.foldl (fun s p => if p.2.phase = .head then markWait p.1 (s.admissible p.1 p.2).2 s else s) s

/-- DESCRIPTOR_FETCH (R110, R119): Meridian takes the head descriptor of queue `q`, reserves its completion slot and
checks it; one that fails is given its record at once. -/
def execDescriptorFetch (q : Nat) (s : State) : Host.Outcome State Fault Refusal :=
  match kvFind q s.mer.queues with
  | none => finish s
  | some x =>
    if !s.mayFetch x then finish s
    else if !x.hasSlot then
      finish (if x.cplSince.isSome then s else setQueue q (fun x => { x with cplSince := some s.cyc }) s)
    else
      let s := match x.cplSince with
        | some t0 => count .waitCplFull x.stream (s.cyc - t0) s
        | none => s
      let at_ := x.ring + 64 * (x.head.toNat % 2 ^ x.log)
      let (bad, bs, s) := devRead at_ 64 s
      let d : Desc := bytesWords bs
      let s := bridge d.die false at_ 64 s
      let t := s.mer.nextTask
      let k : Task :=
        { desc := d, queue := q, stream := x.stream, cls := (s.stream x.stream).cls.getD 0
          since := x.headSince, fetchAt := s.cyc, loc := d.home }
      let s := { s with mer := { s.mer with
        nextTask := t + 1
        tasks := kvSet t k s.mer.tasks
        queues := kvUpd q (fun x => ({ x with
          head := x.head + 1, reserved := x.reserved + 1, fetched := some t, cplSince := none
          exhausted := x.exhausted.filter (· != x.head) } : Queue).passSkips) s.mer.queues } }
      let s := count .finderReads d.die 1 s
      if x.exhausted.contains x.head then finish (rejectTask t Ts.stashExhausted 0 s) else
      match bad with
      | some a => finish (rejectTask t Ts.poisoned a s)
      | none =>
        match checkDesc s d.home x.stream s.stepStreams 0 d with
        | some (st, det) => finish (rejectTask t st det s)
        | none => finish (noteWaits s)

/-- The oldest task of a list. -/
def oldest (l : List (Nat × Task)) : Option (Nat × Task) :=
  l.foldl (fun b p => match b with | none => some p | some x => if p.2.age < x.2.age then some p else b) none

/-- The choice of a non-core unit (R127): by lending, its local deficits and age. -/
def State.unitChoose (s : State) (n : Nat) (l : List (Nat × Task)) : Option (Nat × Task) :=
  let eff := fun (c : Nat) => kvGet 0 (16 * n + c) s.mer.unitDeficit
  let best := fun (cs : List Nat) => cs.foldl (fun (b : Option Nat) c =>
    match b with
    | none => some c
    | some x => if eff c > eff x ∨ (eff c = eff x ∧ c < x) then some c else b) none
  let lent := l.filter fun p => p.2.lent.isSome
  match best (lent.map fun p => p.2.payer) with
  | some c => oldest (lent.filter fun p => p.2.payer == c)
  | none =>
    match best ((l.filter fun p => decide (s.weight p.2.cls > 0)).map fun p => p.2.cls) with
    | some c => oldest (l.filter fun p => p.2.cls == c)
    | none =>
      match best (l.map fun p => p.2.cls) with
      | some c => oldest (l.filter fun p => p.2.cls == c)
      | none => none

/-- Ephemeris of a die accepts tasks from its unit queue while its accepted queue has room, at most `fuel` of them, each
by the choice among the classes that wait there (12, R275, R290). -/
def acceptMore : Nat → Nat → State → State
  | 0, _, s => s
  | fuel + 1, die, s =>
    let taken := s.ephem.accepted.map Prod.fst
    let rest := s.mer.tasks.filter fun p =>
      p.2.desc.type == 6 && p.2.loc == die && p.2.phase == .admitted && !taken.contains p.1
    match s.unitChoose (64 + die) rest with
    | none => s
    | some p =>
      let mine := fun (x : Nat) => match s.task x with | some k => k.loc == die | none => false
      acceptMore fuel die { s with ephem := s.ephem.accept mine p.1 s.cyc }

/-- A task is admitted (R120): to a core's run queue, a unit's queue, or Meridian's table, where it starts (R534). -/
def admitTask (t loc : Nat) (s : State) : State :=
  match s.task t with
  | none => s
  | some k =>
    let s := leaveHead t (endWait t s)
    let s := setTask t (fun k => { k with
      phase := .admitted, age := s.mer.nextAge, loc := loc, admAt := s.cyc, charged := s.now, epoch := s.phot.epoch
      tStart := if k.desc.type ≥ 0x9 then s.now else k.tStart }) s
    let s := { s with mer := { s.mer with
      nextAge := s.mer.nextAge + 1
      active := if k.desc.core then setIns k.cls s.mer.active else s.mer.active
      unitActive := if k.desc.core ∨ k.desc.type ≥ 0x9 then s.mer.unitActive
        else setIns (16 * ({ k with loc := loc } : Task).unitNo + k.cls) s.mer.unitActive } }
    let s := if k.desc.type = 5 then { s with spec := s.spec.openRebuild (k.desc.f 6 31 16) (k.desc.f 6 63 32) } else s
    let s := if k.desc.type = 6 then acceptMore 64 loc s else s
    monSample 0x10 k.desc.die (s.cyc - k.since) (count .admitted k.stream 1 s)

/-- The class with the largest effective deficit on a die, the lower id on a tie. -/
def State.bestClass (s : State) (die : Nat) (cs : List Nat) : Option Nat :=
  cs.foldl (fun b c =>
    match b with
    | none => some c
    | some x => if s.effective die c > s.effective die x ∨ (s.effective die c = s.effective die x ∧ c < x) then some c else b) none

/-- The next number after `last` in cyclic order. -/
def nextRound (last : Option Nat) (xs : List Nat) : Option Nat :=
  let after := xs.filter fun x => match last with | some l => decide (l < x) | none => true
  match after.foldl (fun (b : Option Nat) x => some (match b with | none => x | some y => Nat.min x y)) none with
  | some x => some x
  | none => xs.foldl (fun (b : Option Nat) x => some (match b with | none => x | some y => Nat.min x y)) none

/-- The descriptor of a die that R121 admits next: by class, then round robin by stream, then by queue. -/
def State.admitNext (s : State) (die : Nat) : Option (Nat × Task) :=
  let ready := s.mer.tasks.filter fun p => p.2.phase == .head && p.2.desc.die == die && (s.admissible p.1 p.2).1
  match s.bestClass die (ready.map fun p => p.2.cls) with
  | none => none
  | some c =>
    let ready := ready.filter fun p => p.2.cls == c
    match nextRound (kvFind c s.mer.lastStream) (ready.map fun p => p.2.stream) with
    | none => none
    | some st =>
      let ready := ready.filter fun p => p.2.stream == st
      match nextRound (kvFind st s.mer.lastQueue) (ready.map fun p => p.2.queue) with
      | none => none
      | some q => ready.find? fun p => p.2.queue == q

/-- A descriptor has had its turn (R121). -/
def tookTurn (k : Task) (s : State) : State :=
  { s with mer := { s.mer with
    lastStream := kvSet k.cls k.stream s.mer.lastStream, lastQueue := kvSet k.stream k.queue s.mer.lastQueue } }

/-! Selection (R126, R128, R135). -/

/-- A core task is bound to its core from the first staged byte to its completion (R128). -/
def Task.bound (k : Task) : Bool := !k.landed.isEmpty || k.phase == .running || k.phase == .finished

/-- The stage area of an engine task as a region it writes (R99). -/
def Task.stageRegion (k : Task) : Nat × Nat × Bool :=
  (coreBase k.loc + k.desc.stage,
   coreBase k.loc + k.desc.stage + 2 * k.desc.sliceBytes 2 + 2 * k.desc.sliceBytes 3 + k.desc.outBytes, true)

/-- A region of a task overlaps one of `rs`, and one of the two is written. -/
def Task.meets (k : Task) (rs : List (Nat × Nat × Bool)) : Bool :=
  rs.any fun y => (k.desc.regions k.loc).any fun x => overlap x y && (x.2.2 || y.2.2)

/-- R88: a task is held while one of its regions overlaps one of a task resident on the core, and one of the two
writes it. A task is resident from its first staged byte. -/
def State.r88Held (s : State) (t : Nat) (k : Task) : Bool :=
  s.mer.tasks.any fun p => p.1 != t && p.2.desc.core && p.2.loc == k.loc && p.2.bound &&
    k.meets (p.2.desc.regions k.loc)

/-- R88 at selection: the stage area of a bound task that has not started holds nobody, as R135 clears it. -/
def State.passedOver (s : State) (t : Nat) (k : Task) : Bool :=
  s.mer.tasks.any fun p => p.1 != t && p.2.desc.core && p.2.loc == k.loc && p.2.bound &&
    k.meets ((p.2.desc.regions k.loc).filter fun r =>
      p.2.phase == .running || p.2.phase == .finished || r != p.2.stageRegion)

/-- The task at the head of a class in a run queue: the one put back last under R135, else the oldest. -/
def headmost (l : List (Nat × Task)) : Option (Nat × Task) :=
  match (l.filter fun p => p.2.front != 0).foldl (fun (b : Option (Nat × Task)) p => match b with
    | none => some p
    | some x => if p.2.front > x.2.front then some p else b) none with
  | some p => some p
  | none => oldest l

/-- The choice of R126 among candidates on a die. -/
def State.choose (s : State) (die : Nat) (l : List (Nat × Task)) : Option (Nat × Task) :=
  let lent := l.filter fun p => p.2.lent.isSome
  match s.bestClass die (lent.map fun p => p.2.payer) with
  | some c => headmost (lent.filter fun p => p.2.payer == c)
  | none =>
    match s.bestClass die ((l.filter fun p => decide (s.weight p.2.cls > 0)).map fun p => p.2.cls) with
    | some c => headmost (l.filter fun p => p.2.cls == c)
    | none =>
      match (l.map fun p => p.2.cls).foldl (fun (b : Option Nat) c => some (match b with | none => c | some y => Nat.min c y)) none with
      | some c => headmost (l.filter fun p => p.2.cls == c)
      | none => none

/-- A task can be selected on its core, as far as its regions and repairs go. -/
def State.startable (s : State) (t : Nat) (k : Task) : Bool :=
  (k.phase == .admitted || k.phase == .selected) && k.heldBy.isNone && !s.passedOver t k

/-- A task may start: it is the one selected to run next, its cluster can be scheduled, and nothing holds it. -/
def State.mayStart (s : State) (t : Nat) (k : Task) : Bool :=
  k.phase == .selected && k.place == 1 && k.heldBy.isNone && s.clusterUp (k.loc / 16) && !s.r88Held t k

/-- A task goes back, unbound, to the head of its class in the run queue (R135). -/
def putBack (t : Nat) (s : State) : State :=
  setTask t (fun k => { k with phase := .admitted, landed := [], acc := [], prog := 0, place := 0, front := s.mer.fronts + 1 })
    (dropIssued t { s with mer := { s.mer with fronts := s.mer.fronts + 1 } })

/-- A bound task that has not started is unstaged (R135): its slices are discarded. -/
def unstage (t : Nat) (s : State) : State :=
  match s.task t with
  | none => s
  | some k => count .unstage k.loc 1 (putBack t s)

/-- A region of a task overlaps the stage area of another. -/
def stageClash (k u : Task) : Bool :=
  u.desc.engine && (k.desc.regions k.loc).any fun x => overlap x u.stageRegion

/-- The selection of R126, R128 and R135: the arbiter of a core selects the task to run next on its engines or its vector
unit, and the one to run after it. Bound tasks that have not started are unstaged where the first one's regions overlap
their stage areas. While the cluster cannot be scheduled nothing is selected (R133). -/
def coreSelect (core : Nat) (vec : Bool) (s : State) : State :=
  let s := chargeAll s
  let die := core / 256
  if !s.clusterUp (core / 16) then s
  else
    let kind := (s.runQueue core).filter fun p => p.2.desc.engine != vec
    let mine := kind.filter fun p => s.startable p.1 p.2
    let put := fun (t place : Nat) (s : State) =>
      setTask t (fun k => { k with place := place, phase := if place = 0 then .admitted else .selected }) s
    let s := kind.foldl (fun s p => put p.1 0 s) s
    match s.choose die mine with
    | none => s
    | some (t, k) =>
      let clash := (s.runQueue core).filter fun p => p.1 != t && p.2.bound && stageClash k p.2
      let s := put t 1 (clash.foldl (fun s p => unstage p.1 s) s)
      let rest := mine.filter fun p => p.1 != t && !stageClash p.2 k && !stageClash k p.2
      match s.choose die rest with
      | none => s
      | some (u, _) => put u 2 s

/-! Stealing (R129–R133). -/

/-- The die field of a task's stage record: the first resident program whose stage of that number has the task's
stream (R130; log entry 67). -/
def State.stageDie (s : State) (k : Task) : Nat :=
  ((s.prog.filterMap fun p => match p.2.stages[k.desc.vstage]? with
    | some g => if g.stream = k.stream then some g.die else none
    | none => none).head?).getD 0

/-- May a core steal a task (R130, R132)? Heads held under RUNQ_FULL count as tasks of their home core. -/
def State.stealable (s : State) (thief : Nat) (t : Nat) (k : Task) : Bool :=
  let d := k.desc
  let placed := ((k.phase == .admitted || k.phase == .selected) && !k.bound && k.heldBy.isNone) ||
    (k.phase == .head && (s.admissible t k).2 == 1)
  d.core && !d.pin && placed && k.lent.isNone && k.loc != thief &&
  (!s.namesCluster d || thief / 16 == d.cluster) &&
  (k.loc / 256 == thief / 256 || s.stageDie k == 0)

/-- The victims of a level (Table 5-2), with the tasks each holds for the thief, nearest core upward first. -/
def State.victims (s : State) (thief level : Nat) : List (Nat × List (Nat × Task)) :=
  let off := fun (v : Nat) => !s.clusterUp (v / 16)
  let inLevel := fun (v : Nat) =>
    match level with
    | 1 => v / 16 == thief / 16 || (off v && v / 256 == thief / 256)
    | 2 => v / 256 == thief / 256 && v / 16 != thief / 16 && !off v
    | _ => v / 256 != thief / 256 && !off v
  let least := fun (v : Nat) => if off v then 1 else level + 1
  (List.range 511).filterMap fun i =>
    let v := (thief + 1 + i) % 512
    if inLevel v then
      let ts := s.tasksWhere (fun k => k.loc == v && k.desc.core)
      let ts := ts.filter fun p => s.stealable thief p.1 p.2
      if ts.length ≥ least v then some (v, ts) else none
    else none

/-- The victim with the most stealable tasks, the nearest upward on a tie (R131). -/
def mostOf (l : List (Nat × List (Nat × Task))) : Option (Nat × List (Nat × Task)) :=
  l.foldl (fun b p => match b with | none => some p | some x => if p.2.length > x.2.length then some p else b) none

/-- The oldest `n` of a list; heads, not yet admitted, count as youngest. -/
def oldestN : Nat → List (Nat × Task) → List Nat
  | 0, _ => []
  | n + 1, l =>
    match oldest (l.filter fun p => p.2.phase != .head) with
    | some p => p.1 :: oldestN n (l.filter fun x => x.1 != p.1)
    | none => (l.map Prod.fst).take (n + 1)

/-- Take one task for a thief. -/
def stealTask (thief victim level t : Nat) (s : State) : State :=
  match s.task t with
  | none => s
  | some k =>
    let head := k.phase = .head
    let s := if head then admitTask t k.loc s else count .stolenFrom victim 1 s
    let s := setTask t (fun k => { k with phase := .moving, loc := thief, stolen := thief != k.desc.home, place := 0, front := 0 }) s
    count (match level with | 1 => .stealsL1 | 2 => .stealsL2 | _ => .stealsL3) thief 1
      { s with mer := { s.mer with moves := s.mer.moves ++ [⟨t, thief, victim, level⟩] } }

/-- STEAL_ATTEMPT (R129): a core that has been idle for `idle` CCLK cycles searches the levels that this allows. -/
def execStealAttempt (core : Fin 512) (idle : Nat) (s : State) : Host.Outcome State Fault Refusal :=
  let thief := core.val
  let busy := (s.runQueue thief).any fun p => s.startable p.1 p.2
  if busy || !s.clusterUp (thief / 16) || s.inCompute || s.mer.moves.any (fun m => m.thief == thief) then finish s
  else
    let levels := if idle ≥ 512 then [1, 2, 3] else if idle ≥ 64 then [1, 2] else [1]
    match levels.findSome? fun l => (mostOf (s.victims thief l)).map fun v => (l, v) with
    | none => finish s
    | some (l, v, ts) =>
      let n := Nat.min (match l with | 1 => 1 | 2 => 2 | _ => 4) (8 - s.runLoad thief)
      finish ((oldestN n ts).foldl (fun s t => stealTask thief v l t s) s)

/-- STEAL_DESCRIPTOR_MOVED (R131): the stolen descriptors are in the thief's run queue. -/
def execStealDescriptorMoved (core : Fin 512) (s : State) : Host.Outcome State Fault Refusal :=
  let ms := s.mer.moves.filter fun m => m.thief == core.val
  let s := { s with mer := { s.mer with moves := s.mer.moves.filter fun m => m.thief != core.val } }
  finish (ms.foldl (fun s m => setTask m.task (fun k => { k with phase := .admitted }) s) s)

/-! Lending (R139–R141). -/

/-- What a waiter waits for (R139). -/
inductive Wanted
  | sem (i : Nat)
  /-- Injection credits on a port and a virtual channel. -/
  | credit (port vc : Nat)
deriving DecidableEq, Repr

/-- What a task waits for, where it is a waiter (R139). -/
def State.waiterOn (s : State) (t : Nat) (k : Task) : Option Wanted :=
  let d := k.desc
  if k.phase = .head ∧ d.waitEn ∧ !s.waitMet d ∧ s.cyc ≥ k.fetchAt + 2000 then some (.sem d.waitSem)
  else if d.type = 0x9 ∧ k.phase = .parked ∧ k.token = none then
    some (.sem ((gaAddr (d.f 2 63 0) - 0x30000000000) / 8))
  else if d.type = 7 ∨ d.type = 8 then
    match s.fab.inject.find? fun x => x.task == some t with
    | none => none
    | some x => if s.injectRoom x then none else (s.injectAt x).map fun p => .credit p.1 p.2
  else none

/-- The holder that is lent to next: of a semaphore the oldest admitted task of another class that has not started and
signals it; of credits the oldest TRANSFER or COLLECTIVE of another class that holds some there and has more packets to
send (R139, R140). -/
def State.holderOf (s : State) (p : Nat) (want : Wanted) : Option (Nat × Task) :=
  match want with
  | .sem i => oldest (s.tasksWhere fun h =>
      h.desc.sigEn && h.desc.sigSem == i && h.cls != p && decide (h.desc.type ≤ 0x8) &&
      (h.phase == .admitted || h.phase == .selected || h.phase == .moving))
  | .credit i v => oldest (s.mer.tasks.filter fun h =>
      h.2.cls != p && (h.2.desc.type == 7 || h.2.desc.type == 8) && s.holdsCredit h.1 i v && s.unsent h.1)

/-- LEND_START (R140, R141): the class of a waiter is lent to the oldest holder of what it waits for; to the next one
only after that one has completed. The deficits compared are those of the holder's die, which keeps the entry and counts
a refusal, also where the waiter is on the other die (DESIGN CHOICE: log entry 114). -/
def execLendStart (t : Nat) (s : State) : Host.Outcome State Fault Refusal :=
  let s := chargeAll s
  match s.task t with
  | none => finish s
  | some k =>
    match s.waiterOn t k with
    | none => finish s
    | some want =>
      let p := k.payer
      match s.holderOf p want with
      | none => finish s
      | some (h, x) =>
        let depth := ((s.mer.lends.find? fun l => l.holder == t).map Lend.depth).getD 0 + 1
        let die := x.dieOf
        let credit := match want with | .sem _ => none | .credit i v => some (i, v)
        if (s.mer.lends.any fun l => l.waiter == t) ∨ x.lent.isSome ∨ s.effective die p ≤ s.effective die x.cls then finish s
        else if depth > 4 ∨ s.mer.lends.countP (fun l => l.die == die) ≥ 64 then finish (count .lendRefused die 1 s)
        else finish (setTask h (fun x => { x with lent := some p })
          { s with mer := { s.mer with lends := s.mer.lends ++ [⟨die, t, h, p, depth, credit⟩] } })

/-! Accounting (R122–R127). -/

/-- The clamp of R124. -/
def clampD (x : Int) : Int := max (-1024000000) (min 1024000000 x)

/-- R124 for one class: the deficit before its clamp. -/
def deficitStep (t ws w u : Nat) (act : Bool) (d : Int) : Int :=
  if act && decide (w > 0) then d + ((t * w / ws : Nat) : Int) - u
  else if w > 0 then (if d > 0 then 0 else d)
  else 0

/-- ACCOUNTING_PERIOD_END (R124, R127): the root's deficits, the local ones of the non-core units, and the next
period's weights. -/
def execAccountingPeriodEnd (s : State) : Host.Outcome State Fault Refusal :=
  let s := chargeAll s
  let u := fun (c : Nat) => kvGet 0 c s.mer.charged
  let act := fun (c : Nat) => s.mer.active.contains c
  let t := ((List.range 16).map u).sum
  let ws := ((List.range 16).map fun c => if act c then s.weight c else 0).sum
  let raw : Vector Int 16 := Vector.ofFn fun c => deficitStep t ws (s.weight c) (u c) (act c) s.mer.deficit[c]
  let mask := (List.range 16).foldl (fun m c =>
    let x := raw[c]?.getD 0
    if clampD x ≠ x then m + 2 ^ c else m) 0
  let uu := fun (n c : Nat) => kvGet 0 (16 * n + c) s.mer.unitCharged
  let uact := fun (n c : Nat) => s.mer.unitActive.contains (16 * n + c)
  let unit := fun (n : Nat) (tab : KV Int) =>
    let t := ((List.range 16).map (uu n)).sum
    let ws := ((List.range 16).map fun c => if uact n c then s.weight c else 0).sum
    (List.range 16).foldl (fun tab c =>
      kvPut 0 (16 * n + c) (clampD (deficitStep t ws (s.weight c) (uu n c) (uact n c) (kvGet 0 (16 * n + c) tab))) tab) tab
  let live := s.mer.tasks.filter fun p => p.2.phase != .head && !p.2.released
  let s := { s with mer := { s.mer with
    deficit := raw.map clampD
    unitDeficit := (List.range 68).foldl (fun tab n => unit n tab) s.mer.unitDeficit
    charged := [], unitCharged := []
    active := live.foldl (fun l p => if p.2.desc.core then setIns p.2.cls l else l) []
    unitActive := live.foldl (fun l p =>
      if p.2.desc.core ∨ p.2.desc.type ≥ 0x9 then l else setIns (16 * p.2.unitNo + p.2.cls) l)
      ((s.copies.filterMap fun p => s.copyAt p.2).foldl (fun l c => setIns (16 * c + s.copyClass) l) [])
    periodStart := s.cyc
    weights := s.mer.weightsNext } }
  finish (if mask = 0 then s else post Ev.deficitBound [mask, s.now] s)

/-- DEFICIT_BROADCAST (R125): the deficits reach the cores, whose running charges start anew. -/
def execDeficitBroadcast (s : State) : Host.Outcome State Fault Refusal :=
  let s := chargeAll s
  finish { s with mer := { s.mer with heard := s.mer.deficit, running := [] } }

/-! Meridian's own tasks (04, Table 4-10). -/

/-- A task of a type that stands at its queue's head and whose turn it is to be admitted (R121). -/
def State.atHead (s : State) (t ty : Nat) : Option Task :=
  match s.task t with
  | none => none
  | some k => if k.desc.type = ty ∧ (s.admitNext k.desc.die).map Prod.fst = some t then some k else none

/-- Send the watch of a parked SEM_WAIT (R138). -/
def sendWatch (k : Task) (tk : Nat) (s : State) : State :=
  let ga := k.desc.f 2 63 0
  sendPkts [{ pkt := { typ := .semWatch, cls := 2, dst := gaModule ga, src := s.ownId, flow := 0xFD, addr := gaAddr ga
                       token := tk % 4096, tdie := tk / 4096, operand := k.desc.f 3 63 32 }
              die := tk / 4096 }] s

/-- A remote SEM_WAIT parks and sends its watch, or waits for a token (R136, R137). -/
def parkWait (t : Nat) (s : State) : State :=
  match s.task t with
  | none => s
  | some k =>
    match takeToken t k.desc.die s with
    | none => waitToken t s
    | some (tk, s) =>
      sendWatch k tk (setTask t (fun k => { k with phase := .parked, remaining := 1, prog := s.cyc }) (endWait t s))

/-- A SEM_WAIT is admitted (R121, R136, R142): it is met, waits here, or parks with a watch. Its deadline is t_start
plus the timeout. -/
def semWait (t : Nat) (k : Task) (s : State) : State :=
  let s := admitTask t k.desc.die s
  let d := k.desc
  let s := setTask t (fun k => { k with deadline := if d.f 4 63 0 = 0 then 0 else s.now + d.f 4 63 0 }) s
  if s.remote (d.f 2 63 0) then parkWait t s
  else
    let c := (s.sem ((gaAddr (d.f 2 63 0) - 0x30000000000) / 8)).count.toNat
    if d.f 3 63 32 ≤ c then setTask t (fun k => { k with phase := .finished, result := c }) s
    else setTask t (fun k => { k with phase := .parked }) s

/-- A SEM_SIGNAL is admitted (R104; 13, R319): its ADD or SET here, or a SEM_OP to another module. -/
def semSignal (t : Nat) (k : Task) (s : State) : State :=
  let s := admitTask t k.desc.die s
  let d := k.desc
  let ga := d.f 2 63 0
  let v := d.f 3 31 0
  let s := setTask t (fun k => { k with phase := .finished }) s
  if s.remote ga then
    sendPkts [{ pkt := { typ := .semOp, cls := 2, dst := gaModule ga, src := s.ownId, flow := 0xFD
                         addr := gaAddr ga, op := d.f 3 63 62, operand := v }
                die := d.die, task := some t }] s
  else
    let i := (gaAddr ga - 0x30000000000) / 8
    if d.f 3 63 62 = 1 then semSet i (BitVec.ofNat 32 v) s
    else
      let (ovf, s) := semAdd i v s
      if ovf then setTask t (fun k => { k with status := Ts.semOverflow }) s else s

/-- A TIMER is admitted with its time (Table 4-10; 20, R482): a relative one is counted in TCLK cycles. -/
def timerTask (t : Nat) (k : Task) (s : State) : State :=
  let s := admitTask t k.desc.die s
  let v := k.desc.f 2 63 0
  setTask t (fun k => { k with deadline := if k.desc.b 3 0 then s.cyc + v else v }) s

/-- A STEP_MARK is dispatched (R105): it sets the step register; one with boundary = 1 then waits for its boundary. -/
def stepMark (t : Nat) (k : Task) (s : State) : State :=
  let s := admitTask t k.desc.die s
  let s := setStream k.stream (fun x => { x with step := BitVec.ofNat 64 (k.desc.f 2 63 0) }) s
  setTask t (fun k => { k with phase := if k.desc.b 3 0 then .running else .finished }) s

/-- A descriptor whose turn it is is admitted (R120): Meridian's own tasks start with it (R534). -/
def admitNow (t : Nat) (k : Task) (s : State) : State :=
  let s := tookTurn k s
  noteWaits (match k.desc.type with
    | 0x9 => semWait t k s
    | 0xA => semSignal t k s
    | 0xB => timerTask t k s
    | 0xC => stepMark t k s
    | _ =>
      admitTask t (if k.desc.core then k.desc.home
        else if clusterUnit k.desc.type then (s.unitCluster k.desc).getD k.desc.cluster else k.desc.die) s)

/-- TASK_ADMIT (R120, R121): the checked descriptor of a die whose turn it is is admitted. -/
def execTaskAdmit (die : Fin 2) (s : State) : Host.Outcome State Fault Refusal :=
  let s := noteWaits (chargeAll s)
  match s.admitNext die.val with
  | none => finish s
  | some (t, k) => finish (admitNow t k s)

/-- Admit task `t` of type `ty` where it stands at its queue's head and it is its turn (R121). -/
def admitOwn (t ty : Nat) (s : State) : State :=
  let s := noteWaits (chargeAll s)
  match s.atHead t ty with
  | none => s
  | some k => admitNow t k s

/-- SEM_WAIT (R121). -/
def execSemWait (t : Nat) (s : State) : Host.Outcome State Fault Refusal := finish (admitOwn t 0x9 s)

/-- SEM_SIGNAL (R104). -/
def execSemSignal (t : Nat) (s : State) : Host.Outcome State Fault Refusal := finish (admitOwn t 0xA s)

/-- TIMER_TASK (Table 4-10). -/
def execTimerTask (t : Nat) (s : State) : Host.Outcome State Fault Refusal := finish (admitOwn t 0xB s)

/-- STEP_MARK (R105): dispatched once every earlier task of its stream has completed. -/
def execStepMark (t : Nat) (s : State) : Host.Outcome State Fault Refusal := finish (admitOwn t 0xC s)

/-- TIMER_EXPIRED (20, R482): the time is reached. -/
def execTimerExpired (t : Nat) (s : State) : Host.Outcome State Fault Refusal :=
  match s.task t with
  | none => finish s
  | some k =>
    let reached := if k.desc.b 3 0 then decide (k.deadline ≤ s.cyc) else decide (k.deadline ≤ s.now)
    if k.desc.type = 0xB ∧ k.phase = .admitted ∧ reached then finish (setTask t (fun k => { k with phase := .finished }) s)
    else finish s

/-- A SEM_WAIT ends TIMEOUT with the last count observed (R142). -/
def timeoutWait (t : Nat) (s : State) : State :=
  match s.task t with
  | none => s
  | some k =>
    let ga := k.desc.f 2 63 0
    let c := if s.remote ga then k.result else (s.sem ((gaAddr ga - 0x30000000000) / 8)).count.toNat
    dropToken t (setTask t (fun k => { k with
      phase := .finished, status := Ts.timeout, result := c, token := none }) (endWait t (cancelWatch k s)))

/-- A packet is an answer to the watch of a parked SEM_WAIT: it carries its token and comes from
its module (log entry 113). -/
def Task.watchedBy (k : Task) (p : Packet) : Bool :=
  p.typ == .watchRsp && k.token == some (p.tdie * 4096 + p.token) && k.desc.type == 9 && k.phase == .parked &&
  gaModule (k.desc.f 2 63 0) == p.src

/-- SEM_WAIT_TIMEOUT (R142): the deadline is reached and nothing has arrived: an answer that stands at the queue's output
in the cycle of the deadline wins. -/
def execSemWaitTimeout (t : Nat) (s : State) : Host.Outcome State Fault Refusal :=
  match s.task t with
  | none => finish s
  | some k =>
    let waiting := k.phase = .parked ∨ (k.phase = .admitted ∧ k.waitWhy = 2)
    let wins := k.deadline = s.now ∧ s.fab.inbox.any fun x => k.watchedBy x.2 && x.2.op == 0 && x.2.status == 0
    if k.desc.type = 0x9 ∧ waiting ∧ k.deadline ≠ 0 ∧ k.deadline ≤ s.now ∧ ¬wins then finish (timeoutWait t s)
    else finish s

/-- WATCH_RESEND (R138): 1,000 ns after a BUSY answer the watch is sent again. -/
def execWatchResend (t : Nat) (s : State) : Host.Outcome State Fault Refusal :=
  match s.task t with
  | none => finish s
  | some k =>
    match k.busySince, k.token with
    | some b, some tk =>
      if k.phase = .parked ∧ s.cyc ≥ b + 1000 then
        finish (count .watchRetry (tk / 4096) 1 (sendWatch k tk
          (setTask t (fun k => { k with busySince := none, remaining := 1, prog := s.cyc }) s)))
      else finish s
    | _, _ => finish s

/-- PARK_TOKEN_FREE (R137), for a SEM_WAIT that waits for a token; other tasks stay in their unit queue, whose row
issues them once a token is free. -/
def execParkTokenFree (t : Nat) (s : State) : Host.Outcome State Fault Refusal :=
  match s.task t with
  | none => finish s
  | some k => if k.desc.type = 0x9 ∧ k.phase = .admitted ∧ k.waitWhy = 2 then finish (parkWait t s) else finish s

/-- The overtime mark of R107. -/
def State.overtime (s : State) (k : Task) : Bool := k.desc.core && decide (s.cyc > k.startCyc + 32000)

/-- TASK_COMPLETE (R95, R108): the record is accepted. The CCLK cycles from start to completion and the stall cycles
of a core task are as the core counted them. A task with packets still to be handed to the Orrery does not complete. -/
def execTaskComplete (t cycles stall : Nat) (s : State) : Host.Outcome State Fault Refusal :=
  match s.task t with
  | none => finish s
  | some k =>
    if k.phase ≠ .finished ∨ s.fab.inject.any (fun x => x.task == some t) then finish s
    else
      let s := setTask t (fun k => { k with overtime := s.overtime k }) s
      finish (noteWaits (if k.desc.core then endTask t false cycles stall s else endTask t false 0 0 s))

end Sys2Proof.Machine
end

