-- ==== Sys2Proof/Machine/Photo.lean ====
section
/-!
DEFINITION. The Photometer (10): contributions, the swap, folds, holds, token sampling.
-/

namespace Sys2Proof.Machine

/-- Packed blocks of a slot (R229). -/
def packedCount (nb : Nat) : Nat := nb * (nb + 1) / 2

/-- The packed index of block (i, j), i ≤ j. -/
def packedIndex (nb i j : Nat) : Nat := i * nb - i * (i - 1) / 2 + (j - i)

/-- Where block `p` of half `h` lies in a slot's accumulator (R230). -/
def FactorSlot.accAt (x : FactorSlot) (h : Bool) (p : Nat) : Nat :=
  x.acc + b2n h * packedCount x.nb * 8192 + p * 8192

/-- Where block `p` of buffer `b` lies. -/
def FactorSlot.bufAt (x : FactorSlot) (b : Bool) (p : Nat) : Nat := (if b then x.buf1 else x.buf0) + p * 4096

def FactorSlot.half (x : FactorSlot) (h : Bool) : PhotoHalf := if h then x.half1 else x.half0
def FactorSlot.setHalf (x : FactorSlot) (h : Bool) (v : PhotoHalf) : FactorSlot :=
  if h then { x with half1 := v } else { x with half0 := v }
def FactorSlot.holds (x : FactorSlot) (b : Bool) : Nat := if b then x.hold1 else x.hold0
def FactorSlot.addHold (x : FactorSlot) (b : Bool) : FactorSlot :=
  if b then { x with hold1 := x.hold1 + 1 } else { x with hold0 := x.hold0 + 1 }
def FactorSlot.dropHold (x : FactorSlot) (b : Bool) : FactorSlot :=
  if b then { x with hold1 := x.hold1 - 1 } else { x with hold0 := x.hold0 - 1 }
def PhotoHalf.tainted (h : PhotoHalf) : Bool := h.nan || h.sat || h.tok || h.drop

/-- Change a slot. -/
def setSlot (i : Nat) (f : FactorSlot → FactorSlot) (s : State) : State :=
  { s with phot := { s.phot with slots := kvUpd i f s.phot.slots } }

/-! Contributions (R232–R235; 03, R70; 04, Table 4-5). -/

def Desc.factor (d : Desc) : Nat := d.f 4 63 48
def Desc.trow (d : Desc) : Nat := d.f 4 47 40
def Desc.tcol (d : Desc) : Nat := d.f 4 39 32

/-- A value on a slot's grid: RNE of v × 2^(48 − es) in 64 bits (R233). -/
def gridAdd (es : Int) (x : Nat) : Int × Flags :=
  match fdecode ffp32 x with
  | (.nan, _) => (0, { nan := true })
  | (.inf neg, _) => (if neg then -2 ^ 63 else 2 ^ 63 - 1, { sat := true })
  | (.fin neg m d, fl) =>
    let n : Int := roundGrid .rne m (d + 48 - es) 0
    let (v, c) := clampS 64 (if neg then -n else n)
    (v, { sat := c, flush := fl.flush || decide (m ≠ 0 ∧ n = 0) })

/-- Add the step-1 values of a block to an accumulator block: read–add–write by its channel (R234). -/
def addBlock (es : Int) (a : Nat) (one : List (Nat × Flags)) (s : State) : List Flags × State :=
  let (bad, bs, s) := devRead a 8192 s
  let r := ((List.range 1024).zip one).map fun p =>
    let old := toSigned 64 (ofLE ((bs.drop (8 * p.1)).take 8))
    let (v, fl) := gridAdd es p.2.1
    let (y, c) := clampS 64 (old + v)
    (y, p.2.2.or { fl with sat := fl.sat || c })
  let s := if bad.isSome then poisonOut a 8192 s else devPut a (r.flatMap fun x => leBytes 8 (ofSigned 64 x.1)) s
  (r.map Prod.snd, s)

/-- STATS_TARGET_INVALID, once for each slot and epoch, the one that the task took (R232, R236). -/
def noteTarget (k : Task) (s : State) : State :=
  let key := 2 * k.desc.factor + b2n k.epoch
  if s.phot.noted.contains key then s
  else post Ev.statsTargetInvalid [k.desc.factor, k.desc.tag]
    { s with phot := { s.phot with noted := setIns key s.phot.noted } }

/-- What one block of a STATS task does at the Photometer when it is written back (R232–R234): the flags of its valid
elements. -/
def statsBlock (k : Task) (bi bj : Nat) (one : List (Nat × Flags)) (s : State) : List Flags × State :=
  let d := k.desc
  let own := one.map Prod.snd
  match kvFind d.factor s.phot.slots with
  | none => (own, s)
  | some x =>
    let r := d.trow + bi
    let c := d.tcol + bj
    if r ≥ x.nb ∨ c ≥ x.nb then (own, noteTarget k (count .droppedBlocks 0 1 s))
    else if r > c ∨ k.poisoned then (own, s)
    else
      let (fl, s) := addBlock x.es (x.accAt k.epoch (packedIndex x.nb r c)) one s
      let s := setSlot d.factor (fun x =>
        let h := x.half k.epoch
        x.setHalf k.epoch { h with nan := h.nan || fl.any (·.nan), sat := h.sat || fl.any (·.sat) }) s
      (fl, bridge (k.loc / 256) true (x.accAt k.epoch (packedIndex x.nb r c)) 8192
        (count .wbBytes (k.loc / 16) 8192 (count .addBytes (k.loc / 16) 8192 s)))

/-- The end of a STATS task at the Photometer (R232, R235). -/
def statsEnd (k : Task) (s : State) : State :=
  let d := k.desc
  let s := count .statsTasks k.loc 1 s
  match kvFind d.factor s.phot.slots with
  | none => noteTarget k (count .droppedTasks 0 1 s)
  | some _ =>
    if d.trow ≠ 0 ∨ d.tcol ≠ 0 ∨ k.poisoned then s
    else
      count .tokens 0 d.kValid (setSlot d.factor (fun x =>
        let h := x.half k.epoch
        let n := h.tokens + d.kValid
        x.setHalf k.epoch { h with tokens := Nat.min n (2 ^ 31 - 1), tok := h.tok || decide (n ≥ 2 ^ 31) }) s)

/-! Token sampling (R241, R242). -/

/-- Index `j` of the list of instance `n` of set `k` at step `t` (R242). -/
def sampleIndex (seed : W64) (x : SampleSet) (k t n j : Nat) : Nat :=
  let l := x.ttok / 2 ^ x.s
  let e := n * l + j
  let y := BitVec.ofNat 64 (k * 2 ^ 32 ||| e / 8)
  let (a, b) := rng seed (BitVec.ofNat 64 t ^^^ 0x8000000000000000) y
  let u := (a.toNat * 2 ^ 64 + b.toNat) / 2 ^ (16 * (e % 8)) % 65536
  j * 2 ^ x.s + u % 2 ^ x.s

/-- The lists of one set for step `t` are drawn and written, then s_list is signalled. -/
def drawSet (t k : Nat) (x : SampleSet) (s : State) : State :=
  let l := x.ttok / 2 ^ x.s
  let s := (List.range x.inst).foldl (fun s n =>
    devPut (x.list + ((t % 2) * x.inst + n) * l * 4)
      ((List.range l).flatMap fun j => leBytes 4 (sampleIndex s.num.seed x k t n j)) s) s
  (semAdd x.sem 1 (count .listIndices 0 (x.inst * l) s)).2

/-- SAMPLE_LIST_DRAW: the lists of every set for step `t`. -/
def drawLists (t : Nat) (s : State) : State :=
  ((List.range s.phot.sets.length).zip s.phot.sets).foldl (fun s p => drawSet t p.1 p.2 s) s

/-! CONFIGURE_PHOTOMETER (R231, R241). -/

/-- A region lies whole in one DRAM tier. -/
def wholeInDram (a n : Nat) : Bool := inDram a && inDram (a + n - 1) && tierOf a == tierOf (a + n - 1)

/-- The regions of a slot record: address, bytes, lowest bit of the field (R230). -/
def slotRegions (w : List Nat) : List (Nat × Nat × Nat) :=
  let f := fun (i hi lo : Nat) => bits (w.getD i 0) hi lo
  let p := packedCount (f 0 29 21)
  [(f 2 51 0, p * 16384, 128), (f 3 51 0, p * 4096, 192), (f 4 51 0, p * 4096, 256)]

/-- The lowest bit of the first offending field of valid record `i`; `all` are the regions of every valid record, each
with its record and number, and the other objects of the command: the tables and the lists (R230, R231; log entry 88). -/
def slotBad (all : List (Nat × Nat × Nat × Nat)) (i : Nat) (w : List Nat) : Option Nat :=
  let f := fun (j hi lo : Nat) => bits (w.getD j 0) hi lo
  let beta := f 1 63 32
  let nb := f 0 29 21
  let meet := fun (b : Nat) (r : Nat × Nat × Nat) => all.any fun o =>
    (o.1 != i || o.2.2.2 != b) && decide (r.1 < o.2.1 + o.2.2.1) && decide (o.2.1 < r.1 + r.2.1)
  let reg := (slotRegions w).map fun r =>
    (!aligned r.1 (if r.2.2 = 128 then 8192 else 4096) || !wholeInDram r.1 r.2.1 || meet r.2.2 r, r.2.2)
  let tests : List (Bool × Nat) :=
    [(f 0 12 0 != 0, 0), (f 0 20 13 == 128, 13), (nb == 0 || decide (nb > 256), 21),
     (f 0 63 32 == 0 && f 0 31 31 == 1, 31),
     (fisNan beta || (bit beta 31 && !fisZero beta) || (!fgt f1 beta), 96)] ++ reg ++
    [(f 2 63 52 != 0, 180), (f 3 63 52 != 0, 244), (f 4 63 52 != 0, 308), (f 6 63 9 != 0, 393), (f 7 63 0 != 0, 448)]
  ((tests.filter fun t => t.1).map Prod.snd).foldl (fun (b : Option Nat) x =>
    some (match b with | none => x | some y => Nat.min x y)) none

/-- A slot from its record; what the slot store holds of its halves stays (log entry 88). -/
def slotOf (w : List Nat) (old : Option FactorSlot) : FactorSlot :=
  let f := fun (i hi lo : Nat) => bits (w.getD i 0) hi lo
  { nb := f 0 29 21, es := toSigned 8 (f 0 20 13), acc := f 2 51 0, buf0 := f 3 51 0, buf1 := f 4 51 0
    beta := f 1 63 32, fcore := f 6 8 0, gen := f 0 63 32, cur := f 0 31 31 == 1, nLast := f 1 31 0
    folds := f 5 63 32, skips := f 5 31 0
    half0 := { drop := (old.map fun x => x.half0.drop).getD false }
    half1 := { drop := (old.map fun x => x.half1.drop).getD false } }

/-- The lowest bit of the first offending field of a sample-set record (R241). -/
def setBad (w : List Nat) : Option Nat :=
  let f := fun (i hi lo : Nat) => bits (w.getD i 0) hi lo
  let rate := f 0 47 45
  let t := f 0 44 17
  let inst := f 0 63 48
  let list := f 1 51 0
  let tests : List (Bool × Nat) :=
    [(f 0 16 0 != 0, 0), (t == 0 || t % 2 ^ rate != 0 || decide (t > 16777215), 17), (decide (rate > 6), 45),
     (inst == 0, 48), (!aligned list 64 || !wholeInDram list (8 * inst * (t / 2 ^ rate)), 64), (f 1 63 52 != 0, 116),
     (f 2 63 9 != 0, 137), (f 3 63 14 != 0, 206)]
  (tests.find? fun t => t.1).map Prod.snd

/-- A sample set from its record. -/
def setOf (w : List Nat) : SampleSet :=
  let f := fun (i hi lo : Nat) => bits (w.getD i 0) hi lo
  ⟨f 3 13 0, f 2 8 0, f 1 51 0, f 0 63 48, f 0 47 45, f 0 44 17⟩

/-- Records of `n` words each. -/
def records (n : Nat) : Nat → List Nat → List (List Nat)
  | 0, _ => []
  | k + 1, ws => ws.take n :: records n k (ws.drop n)

/-- CONFIGURE_PHOTOMETER. -/
def execConfigurePhotometer (m : Fin 16) (s : State) : Host.Outcome State Fault Refusal :=
  mbxCommand 0x0401 anyArgs m (fun a s =>
    let n := a.n 1
    let k := if a.n 2 = 0 then 0 else a.n 3
    if n = 0 ∨ n > 65536 ∨ a.n 3 > 256 ∨ (a.n 2 = 0 ∧ a.n 3 ≠ 0) ∨ regionOf (a.n 0) ≠ some .gddr7 then
      .done St.photometerArgInvalid [] s
    else
      readBuffer (a.n 0) (64 * n) 64 s fun bs s =>
        let load := fun (sets : List (List Nat)) (s : State) =>
          let rs := (List.range n).zip (records 8 n (bytesWords bs))
          let valid := rs.filter fun r => bit (r.2.getD 0 0) 30
          let lists := sets.filter fun w => (setBad w).isNone
          let objects := (a.n 0, 64 * n, 0) :: (if k = 0 then [] else [(a.n 2, 32 * k, 1)]) ++
            lists.map fun w => (bits (w.getD 1 0) 51 0, 8 * (setOf w).inst * ((setOf w).ttok / 2 ^ (setOf w).s), 2)
          let all := (valid.flatMap fun r => (slotRegions r.2).map fun g => (r.1, g)) ++ objects.map fun o => (n, o)
          match valid.findSome? fun r => (slotBad all r.1 r.2).map fun b => (r.1, b) with
          | some (i, b) => Reply.done St.photometerArgInvalid [i, b] s
          | none =>
            match ((List.range k).zip sets).findSome? fun r => (setBad r.2).map fun b => (r.1, b) with
            | some (i, b) => .done St.photometerArgInvalid [i, b] s
            | none =>
              let slots := valid.map fun r => (r.1, slotOf r.2 (kvFind r.1 s.phot.slots))
              .done St.ok [] (drawLists (a.n 4) { s with phot :=
                { table := some (a.n 0, n), slots := slots, sets := sets.map setOf, epoch := s.phot.epoch } })
        if k = 0 then load [] s
        else readBuffer (a.n 2) (32 * k) 32 s fun bs s => load (records 4 k (bytesWords bs)) s) s

/-! The swap (R236). -/

/-- A step boundary asks for a swap. -/
def askSwap (step : Nat) (s : State) : State :=
  { s with phot := { s.phot with
    swaps := s.phot.swaps ++ [⟨s.cyc, step, !s.phot.todo.isEmpty || !s.phot.swaps.isEmpty⟩] } }

/-- FOLD_SWAP (R236, R242): the epoch bit is inverted once the folds of the previous closed epoch have completed. -/
def execFoldSwap (s : State) : Host.Outcome State Fault Refusal :=
  match s.phot.swaps with
  | [] => finish s
  | w :: rest =>
    if s.inCompute || !s.phot.todo.isEmpty then finish s
    else
      let s := if w.late then post Ev.foldSwapLate [w.step, s.cyc - w.at_] (count .swapLate 0 1 s) else s
      finish (drawLists w.step { s with phot := { s.phot with
        swaps := rest, epoch := !s.phot.epoch, noted := s.phot.noted.filter fun n => n % 2 == b2n s.phot.epoch, todo := s.phot.slots.map Prod.fst, started := [], waits := []
        closedStep := s.phot.openStep, openStep := w.step } })

/-! Folds (R237–R239). -/

/-- The core whose Photometer folds a slot: moved under R133 where its cluster is not scheduled. -/
def State.foldCore (s : State) (core : Nat) : Option Nat :=
  let c := core / 16
  if s.clusterUp c then some core
  else (((List.range 15).map fun i => c / 16 * 16 + (c % 16 + 1 + i) % 16).find? fun c => s.clusterUp c).map
    fun c => c * 16 + core % 16

/-- FOLD_START (R236, R238, R239): the fold of slot `i` of the closed epoch begins. -/
def execFoldStart (i : Nat) (s : State) : Host.Outcome State Fault Refusal :=
  match kvFind i s.phot.slots with
  | none => finish s
  | some x =>
    let p := s.phot
    let closed := !p.epoch
    let busy := s.mer.tasks.any fun t => t.2.desc.type == 1 && t.2.epoch == closed && t.2.phase != .head
    let at_ := s.foldCore x.fcore
    let turn := (p.todo.all fun j => decide (i ≤ j) || ((kvFind j p.slots).all fun y => s.foldCore y.fcore != at_)) &&
      !(p.started.any fun q => some q.2 == at_)
    if !p.todo.contains i || kvHas i p.started || busy || !turn || s.inCompute then finish s
    else if x.holds (!x.cur) > 0 then
      finish { s with phot := { p with waits := if kvHas i p.waits then p.waits else kvSet i s.cyc p.waits } }
    else
      match at_ with
      | none => finish s
      | some c =>
        let s := match kvFind i p.waits with
          | some t => count .foldHoldWait 0 (s.cyc - t) s
          | none => s
        finish { s with phot := { s.phot with started := kvSet i c p.started, waits := kvDel i p.waits } }

/-- The fold of one element, with the flags of its conversion (R237). -/
def foldElem (x : FactorSlot) (inv omb a old : Nat) : Nat × Flags :=
  let (v, fl) := q48ToF32 x.es (toSigned 64 a)
  let m := fmul v inv
  (if x.gen = 0 then m else ffma x.beta old (fmul omb m), fl)

/-- Flags counted in a slot (R237). -/
def FactorSlot.tally (x : FactorSlot) (fl : List Flags) : FactorSlot :=
  let cap := fun (n k : Nat) => Nat.min (n + k) 0xFFFFFFFF
  { x with
    sat := cap x.sat (fl.countP (·.sat)), flush := cap x.flush (fl.countP (·.flush)), nan := cap x.nan (fl.countP (·.nan)) }

/-- The fold of packed block `p`: its half is cleared as it goes; poison goes with the block (17, R414). -/
def foldBlock (die i : Nat) (x : FactorSlot) (h : Bool) (inv omb : Nat) (s : State) (p : Nat) : State :=
  let (bad, as, s) := dieRead die (x.accAt h p) 8192 s
  let (bad2, os, s) := if x.gen = 0 then (none, [], s) else dieRead die (x.bufAt x.cur p) 4096 s
  let dst := x.bufAt (!x.cur) p
  let s :=
    if bad.isSome || bad2.isSome then poisonOut dst 4096 s
    else
      let ys := (List.zip (patterns 8 1024 as) (patterns 4 1024 (os ++ List.replicate (4096 - os.length) 0))).map
        fun e => foldElem x inv omb e.1 e.2
      setSlot i (fun x => x.tally (ys.map Prod.snd)) (diePut die dst (ys.flatMap fun y => leBytes 4 y.1) s)
  diePut die (x.accAt h p) (List.replicate 8192 0) s

/-- A half is cleared. -/
def clearHalf (die : Nat) (x : FactorSlot) (h : Bool) (s : State) : State :=
  (List.range (packedCount x.nb)).foldl (fun s p => diePut die (x.accAt h p) (List.replicate 8192 0) s) s

/-- The slot's record is written back (R231, R237). -/
def writeSlot (i : Nat) (s : State) : State :=
  match s.phot.table, kvFind i s.phot.slots with
  | some (base, _), some x =>
    let a := base + 64 * i
    let (_, bs, s) := devRead a 64 s
    let w := bytesWords bs
    let w0 := x.gen * 2 ^ 32 + b2n x.cur * 2 ^ 31 + w.getD 0 0 % 2 ^ 31
    let w1 := w.getD 1 0 / 2 ^ 32 * 2 ^ 32 + x.nLast
    devPut a (wordBytes ([w0, w1] ++ (w.drop 2).take 3 ++ [x.folds * 2 ^ 32 + x.skips] ++ w.drop 6)) s
  | _, _ => s

/-- Why a tainted half is skipped: RESET, else NAN, SATURATED, TOKENS (Table 16-9; log entry 88). -/
def PhotoHalf.reason (h : PhotoHalf) : Nat := if h.drop then 3 else if h.nan then 0 else if h.sat then 1 else 2

/-- FOLD_PUBLISH (R237, R239): the fold of slot `i` ends. -/
def execFoldPublish (i : Nat) (s : State) : Host.Outcome State Fault Refusal :=
  match kvFind i s.phot.slots, kvFind i s.phot.started with
  | some x, some core =>
    if s.inCompute then finish s
    else
      let h := !s.phot.epoch
      let y := x.half h
      let cap := fun (n : Nat) => Nat.min (n + 1) 0xFFFFFFFF
      let done := fun (s : State) =>
        let s := { s with phot := { s.phot with
          todo := s.phot.todo.filter (· != i), started := kvDel i s.phot.started } }
        if s.phot.todo.isEmpty then (semAdd Config.foldSem.toNat 1 s).2 else s
      let n := packedCount x.nb
      if y.tainted then
        let s := setSlot i (fun x => { x.setHalf h {} with skips := cap x.skips }) (clearHalf (core / 256) x h s)
        let s := post Ev.factorFoldSkipped [i, s.phot.closedStep, y.reason] s
        finish (done (count .foldBytes core (8192 * n) (count .foldsSkipped 0 1 (writeSlot i s))))
      else if y.tokens = 0 then finish (done (count .foldsIdle 0 1 s))
      else
        let inv := fdiv f1 (ffromInt y.tokens)
        let omb := fsub f1 x.beta
        let s := (List.range n).foldl (foldBlock (core / 256) i x h inv omb) s
        let s := setSlot i (fun x => { x.setHalf h {} with
          cur := !x.cur, gen := if x.gen = 0xFFFFFFFF then 1 else x.gen + 1, nLast := y.tokens, folds := cap x.folds }) s
        finish (done (count .foldBytes core (24576 * n) (count .folds 0 1 (writeSlot i s))))
  | _, _ => finish s

/-! Resets (R244). -/

/-- What a COMPUTE reset leaves of the Photometer. -/
def photoReset (s : State) : State :=
  { s with phot := { s.phot with
    slots := s.phot.slots.map fun p =>
      (p.1, { p.2 with half0 := { drop := true }, half1 := { drop := true }, hold0 := 0, hold1 := 0 })
    epoch := false, swaps := [], todo := [], started := [], waits := [], noted := [] } }

/-- A CLUSTER reset abandons the folds of its Photometers: the half is cleared and the fold starts anew. -/
def photoCluster (c : Nat) (s : State) : State :=
  (s.phot.started.filter fun p => p.2 / 16 == c).foldl (fun s p =>
    let s := match kvFind p.1 s.phot.slots with
      | some x => clearHalf (p.2 / 256) x (!s.phot.epoch) s
      | none => s
    { s with phot := { s.phot with started := kvDel p.1 s.phot.started } }) s

end Sys2Proof.Machine
end

