-- ==== Sys2Proof/Machine/Cores.lean ====
section
/-!
DEFINITION. Core tasks: staging (06, R149, R152), block products, the result path and write-back (03; 06, R150), and
the vector unit's tasks.
-/

namespace Sys2Proof.Machine

/-! Slices (06, R149; 05, R99). -/

/-- The number of operand slices of a tile. -/
def Desc.slices (d : Desc) : Nat := if d.tileValid then ceilDiv d.kb d.ksb else 0

/-- The K-blocks of slice `i`: first and count. -/
def Desc.sliceK (d : Desc) (i : Nat) : Nat × Nat := (i * d.ksb, Nat.min d.ksb (d.kb - i * d.ksb))

/-- Do an operand's K-blocks run along its stored columns? -/
def Desc.kCols (d : Desc) (w : Nat) : Bool := (w == 2) != d.tr w

/-- The stored runs of slice `i` of operand `w`: address, bytes, and offset in its slice buffer (log entry 62). -/
def Desc.sliceRuns (d : Desc) (w i : Nat) : List (Nat × Nat × Nat) :=
  let bb := bbytesOf (d.fmt w)
  let (k0, n) := d.sliceK i
  let other := if w = 2 then d.mb else d.nb
  let st := d.opStride w
  if d.kCols w then (List.range other).map fun r => (d.addr w + (r * st + k0) * bb, n * bb, r * d.ksb * bb)
  else (List.range n).map fun r => (d.addr w + (k0 + r) * st * bb, other * bb, r * 4 * bb)

/-- Where a core finds block (i, k) of an operand, i along its output side: in a slice buffer, or in place. -/
def Desc.blockAddr (d : Desc) (core w i k : Nat) : Nat :=
  let bb := bbytesOf (d.fmt w)
  if d.res w then
    d.addr w + (if d.kCols w then i * d.opStride w + k else k * d.opStride w + i) * bb
  else
    let r := k % d.ksb
    coreBase core + d.sliceOff w (k / d.ksb % 2) + (if d.kCols w then i * d.ksb + r else r * 4 + i) * bb

/-- The key of a slice in a multicast buffer (R152). -/
def Desc.sliceKey (d : Desc) (w i : Nat) : List Nat :=
  let (k0, n) := d.sliceK i
  [((d.sliceRuns w i).map fun r => r.1).headD 0, b2n (d.tr w), d.fmt w, d.opStride w, k0, n, if w = 2 then d.mb else d.nb]

/-- Copy a slice's stored blocks into its slice buffer. -/
def placeSlice (core : Nat) (d : Desc) (w i : Nat) (bs : List Byte) (s : State) : State :=
  ((d.sliceRuns w i).foldl (fun (p : List Byte × State) r =>
    (p.1.drop r.2.1, devPut (coreBase core + d.sliceOff w (i % 2) + r.2.2) (p.1.take r.2.1) p.2)) (bs, s)).2

/-- Evict the oldest slices of a multicast buffer until `n` bytes are free of `cap`. -/
def evict : Nat → Nat → Nat → List McSlice → List McSlice
  | 0, _, _, l => l
  | fuel + 1, cap, n, l =>
    if (l.map fun x => x.data.length).sum + n ≤ cap then l else evict fuel cap n (l.drop 1)

/-- A slice read from memory goes into the cluster's multicast buffer where it finds room (R152). -/
def keepSlice (c : Nat) (key : List Nat) (stamp : Nat) (bs : List Byte) (s : State) : State :=
  let cap := kvGet 2048 c s.strm.mcastKib * 1024
  if cap = 0 then s
  else if bs.length > cap then count .mcastEvictLive c 1 s
  else
    let l := kvGet [] c s.strm.mcast
    let l := evict l.length cap bs.length l ++ [⟨key, bs, stamp⟩]
    { s with strm := { s.strm with mcast := kvSet c l s.strm.mcast } }

/-- A core task is withdrawn at a held read (17, R418), in the manner of unstaging: it will run again from its start. -/
def withdraw (t page : Nat) (s : State) : State :=
  setTask t (fun k => { k with
    heldBy := some page, drained := [], wbCols := []
    poisoned := false, status := 0, detail := 0, sat := 0, flush := 0, nan := 0, amax := 0 })
    (putBack t (match s.task t with | some k => count .reexec k.dieOf 1 (chargeTask t s) | none => s))

/-! Products (03, R66, R68, R73). -/

/-- The accumulators at the start of a tile (R68). -/
def accStart (k : Task) (s : State) : List (List (Nat × Flags)) :=
  let d := k.desc
  (List.range (d.mb * d.nb)).map fun b =>
    if d.accInit = 1 then
      let (bi, bj) := (b / d.nb, b % d.nb)
      let (vr, vc) := d.blockValid bi bj
      let xs := patterns 4 1024 (s.mem.read (coreBase d.home + d.pOff + (4 * bi + bj) * 4096) 4096)
      (List.range 1024).zipWith (fun i x => if i / 32 < vr ∧ i % 32 < vc then accLoad x else (0, {})) xs
    else List.replicate 1024 (0, {})

/-- A block of an operand as the engine reads it: transposed where tr is set, padding as +0 (R62, R64). -/
def opBlock (k : Task) (w i kk : Nat) (s : State) : List (List Nat) :=
  let d := k.desc
  let es := esizeOf (d.fmt w)
  let g := gridOf (patterns es 1024 (s.mem.read (d.blockAddr k.loc w i kk) (bbytesOf (d.fmt w))))
  let g := if d.tr w then gridT g else g
  let kv := Nat.min 32 (d.kValid - 32 * kk)
  if w = 2 then gridMask (Nat.min 32 (d.rowsValid - 32 * i)) kv g else gridMask kv (Nat.min 32 (d.colsValid - 32 * i)) g

/-- The block products of K-block `kk`, for every output block (R73). -/
def stepK (k : Task) (s : State) (acc : List (List (Nat × Flags))) (kk : Nat) : List (List (Nat × Flags)) :=
  let d := k.desc
  match ffmtOf (d.fmt 2), ffmtOf (d.fmt 3) with
  | some fa, some fb =>
    let as := (List.range d.mb).map fun i => opBlock k 2 i kk s
    let bs := (List.range d.nb).map fun j => opBlock k 3 j kk s
    (List.range acc.length).zipWith
      (fun b x => blockProduct fa fb (as.getD (b / d.nb) []) (bs.getD (b % d.nb) []) x) acc
  | _, _ => acc

/-- The resident runs that a tile reads, and those it has staged, where poison can lie (17, R412, R414). -/
def Task.sramRuns (k : Task) (i : Nat) : List (Nat × Nat) :=
  let d := k.desc
  let (k0, n) := d.sliceK i
  [2, 3].flatMap fun w =>
    (List.range n).flatMap fun r => (List.range (if w = 2 then d.mb else d.nb)).map fun j =>
      (d.blockAddr k.loc w j (k0 + r), bbytesOf (d.fmt w))

/-- Run the products of every slice that has landed, in order (R149). -/
def runSlices (t : Nat) : Nat → State → State
  | 0, s => s
  | fuel + 1, s =>
    match s.task t with
    | none => s
    | some k =>
      let d := k.desc
      let i := k.prog
      let there := fun (w : Nat) => d.res w || k.landed.contains (w, i)
      if k.phase = .running ∧ i < d.slices ∧ there 2 ∧ there 3 then
        let (k0, n) := d.sliceK i
        let acc := (List.range n).foldl (fun acc r => stepK k s acc (k0 + r)) k.acc
        let s := taskMeets t (k.sramRuns i) s
        runSlices t fuel (setTask t (fun k => { k with acc := acc, prog := i + 1 }) s)
      else s

/-! Write-back (06, R150; 10, R234). -/

/-- What a task draws its random bits from (09, R220). -/
def State.rng (s : State) (k : Task) : RngCtx := ⟨s.num.seed, k.step, k.stream, k.desc.tag⟩

/-- A task writes its output tile, or adds its statistics, by way of a coelostat. -/
def Desc.writesBack (d : Desc) : Bool := d.tileValid && (d.type == 1 || (d.type == 0 && !d.res 4))

/-- Flags counted in a task's record (02, R57, R58). -/
def tallyTask (t sat flush nan : Nat) (s : State) : State :=
  let cap := fun (x n : Nat) => Nat.min (x + n) 0xFFFFFFFF
  setTask t (fun k => { k with sat := cap k.sat sat, flush := cap k.flush flush, nan := cap k.nan nan }) s

/-- One output block of a task is written back: its stored bytes, or for STATS its values added at the Photometer. -/
def writeBlock (t bi bj : Nat) (s : State) : State :=
  match s.task t with
  | none => s
  | some k =>
    let d := k.desc
    if d.type = 1 then
      let (fl, s) := statsBlock k bi bj (drainBlock d (s.rng k) bi bj 0 (k.acc.getD (bi * d.nb + bj) [])).step1 s
      tallyTask t (fl.countP (·.sat)) (fl.countP (·.flush)) (fl.countP (·.nan)) s
    else
      let bb := bbytesOf (d.fmt 4)
      let a := d.addr 4 + (bi * d.oStride + bj) * bb
      let stage := coreBase k.loc + d.outOff + (4 * bi + bj) * bb
      let bs := s.mem.read stage bb
      let s := taskMeets t [(stage, bb)] s
      count .wbBytes (k.loc / 16) bb (taskWrite t a bs s)

/-- Output block column `j` of a task is written back. -/
def writeColumn (t j : Nat) (s : State) : State :=
  match s.task t with
  | none => s
  | some k => setTask t (fun k => { k with wbCols := setIns j k.wbCols })
      ((List.range k.desc.mb).foldl (fun s bi => writeBlock t bi j s) s)

/-! The order of a coelostat's line requests (06, R147, R148). -/

/-- The coelostat that serves a core: four to a cluster, each with four cores (R147). -/
def coelOf (core : Nat) : Nat := core / 4

/-- CCLK cycles that the engines of a task take over its slice `i` (03, R75). -/
def Desc.sliceCycles (d : Desc) (i : Nat) : Nat := (d.sliceK i).2 * d.nb * (if d.bf16 then 64 else 32)

/-- The source of R148 under which a task's slice `i` is issued; none where it may not be issued yet (R149). -/
def State.sliceSource (s : State) (t : Nat) (k : Task) (i : Nat) : Option Nat :=
  if k.phase == .running then
    if i > k.prog + 1 then none
    else if i ≤ k.prog ∨ k.desc.sliceCycles k.prog ≤ 256 then some 1 else some 4
  else if k.phase == .selected && decide (i < 2) && !s.r88Held t k &&
      !(s.mer.tasks.any fun p => p.1 != t && p.2.loc == k.loc && p.2.place == 1 && stageClash p.2 k) then
    some (if k.desc.ovl then 3 else 6)
  else none

/-- The first slice of operand `w` that has neither landed nor been issued; none where all have. -/
def nextSlice (k : Task) (issued : List StreamReq) (t w : Nat) : Option Nat :=
  if k.desc.res w then none
  else (List.range k.desc.slices).find? fun i =>
    !k.landed.contains (w, i) && !(issued.any fun r => r.task == t && r.w == w && r.i == i)

/-- The block columns of a task that wait for their write-back, with their source: with epi = 1 each once it has drained,
else all once the last block has drained (R148, R150). -/
def Task.columnsDue (k : Task) : List (Nat × Nat) :=
  let d := k.desc
  if k.phase != .running || !d.writesBack then []
  else
    let drained := fun (j : Nat) => (List.range d.mb).all fun bi => k.drained.contains (bi * d.nb + j)
    let due := (List.range d.nb).filter fun j => !k.wbCols.contains j
    if d.epi then (due.filter drained).map fun j => (2, j)
    else if (List.range d.nb).all drained then due.map fun j => (5, j) else []

/-- The requests that coelostat `q` has ready from sources 1 to 6: source, the task's age, task, operand word (4 a
write-back) and number. -/
def State.streamReady (s : State) (q : Nat) : List (Nat × Nat × Nat × Nat × Nat) :=
  let issued := kvGet [] q s.strm.issued
  s.mer.tasks.flatMap fun p =>
    if p.2.desc.engine && coelOf p.2.loc == q then
      ([2, 3].filterMap fun w =>
        match nextSlice p.2 issued p.1 w with
        | some i => (s.sliceSource p.1 p.2 i).map fun c => (c, p.2.age, p.1, w, i)
        | none => none) ++
      p.2.columnsDue.map fun c => (c.1, p.2.age, p.1, 4, c.2)
    else []

/-- A unit task holds a place of coelostat `q` (R147). -/
def State.unitPlace (s : State) (q : Nat) : Bool :=
  s.mer.tasks.any fun p => [3, 4, 7].contains p.2.desc.type && decide (4 * p.2.loc + p.2.coel = q) && p.2.busy

/-- The request that a coelostat issues next: the first source, and in it the oldest (R148). -/
def firstReady (l : List (Nat × Nat × Nat × Nat × Nat)) : Option (Nat × Nat × Nat × Nat × Nat) :=
  l.foldl (fun b x => match b with
    | none => some x
    | some y => if x.1 < y.1 ∨ (x.1 = y.1 ∧ x.2.1 < y.2.1) then some x else b) none

/-- A coelostat issues what it has ready, in the order of R148; while a unit task holds a place, each eighth issue is
that task's. What its own reads and writes do is in its row. -/
def issueN : Nat → Nat → State → State
  | 0, _, s => s
  | n + 1, q, s =>
    match firstReady (s.streamReady q) with
    | none => s
    | some (_, _, t, w, i) =>
      let run := kvGet 0 q s.strm.sinceUnit
      if s.unitPlace q && decide (run ≥ 7) then
        issueN n q { s with strm := { s.strm with sinceUnit := kvSet q 0 s.strm.sinceUnit } }
      else
        let s := { s with strm := { s.strm with
          sinceUnit := kvSet q (if s.unitPlace q then run + 1 else 0) s.strm.sinceUnit } }
        if w = 4 then issueN n q (writeColumn t i s)
        else
          let r : StreamReq := ⟨t, w, i, s.mer.nextAge⟩
          issueN n q { s with strm := { s.strm with issued := kvMod [] q (· ++ [r]) s.strm.issued } }

/-- The coelostat of a core issues what it has ready. -/
def issueAll (core : Nat) (s : State) : State := issueN 256 (coelOf core) s

/-- CORE_SELECT (05, R126, R128, R135): the selection, after which staging begins (R149). -/
def execCoreSelect (core : Fin 512) (vec : Bool) (s : State) : Host.Outcome State Fault Refusal :=
  finish (issueAll core.val (coreSelect core.val vec s))

/-- SLICE_LANDED (R149, R152): the last line of slice `i` of operand A (0) or B (1) lands in the stage area. -/
def execSliceLanded (t : Nat) (op : Fin 2) (i : Nat) (s : State) : Host.Outcome State Fault Refusal :=
  let w := op.val + 2
  match s.task t with
  | none => finish s
  | some k =>
    let d := k.desc
    let s := issueAll k.loc s
    match (kvGet [] (coelOf k.loc) s.strm.issued).find? fun r => r.task == t && r.w == w && r.i == i with
    | none => finish s
    | some r =>
      let s := { s with strm := { s.strm with issued := kvMod [] (coelOf k.loc) (·.erase r) s.strm.issued } }
      let c := k.loc / 16
      let n := ((d.sliceRuns w i).map fun r => r.2.1).sum
      let land := fun (bs : List Byte) (s : State) =>
        let s := placeSlice k.loc d w i bs (count .stageBytes c n s)
        issueAll k.loc (runSlices t (d.slices + 1) (setTask t (fun k => { k with landed := k.landed ++ [(w, i)] }) s))
      match (kvGet [] c s.strm.mcast).find? fun x => x.key == d.sliceKey w i && decide (k.age < x.issued) with
      | some x => finish (land x.data (count .mcastHits c 1 s))
      | none =>
        let (g, s) := taskReads (c / 16) ((d.sliceRuns w i).map fun r => (r.1, r.2.1)) s
        match g with
        | .held page => finish (withdraw t page s)
        | .poison a => finish (land (List.replicate n 0) (taskPoison t a s))
        | .ok bs => finish (land bs (keepSlice c (d.sliceKey w i) r.stamp bs s))

/-! Starts (03, R73, R76; 04, R534). -/

/-- The engines of a core are free of other tasks' products, and at most one task drains (R76). -/
def State.enginesFree (s : State) (core t : Nat) : Bool :=
  let run := s.tasksWhere fun k => k.desc.engine && k.loc == core && k.phase == .running
  let run := run.filter fun p => p.1 != t
  run.all (fun p => decide (p.2.prog ≥ p.2.desc.slices)) && decide (run.length ≤ 1)

/-- A task starts: it samples C and its stream's step register; on a core the task selected after it is now the next. -/
def startTask (t : Nat) (s : State) : State :=
  match s.task t with
  | none => s
  | some k =>
    let s := { s with mer := { s.mer with tasks := s.mer.tasks.map fun p =>
      if p.2.place == 2 && k.place == 1 && p.2.loc == k.loc && p.2.desc.engine == k.desc.engine then
        (p.1, { p.2 with place := 1 })
      else p } }
    let s := setTask t (fun k => { k with
      place := 0
      phase := .running, tStart := s.now, startCyc := s.cyc, charged := s.now, step := (s.stream k.stream).step }) s
    if k.desc.core then monSample 0x11 k.dieOf (s.cyc - k.admAt) s else s

/-- Start an engine task of type `ty` (R73, R74, R75): its operands' first slices have landed. -/
def startTile (t ty : Nat) (s : State) : State :=
  match s.task t with
  | none => s
  | some k =>
    let d := k.desc
    let there := fun (w : Nat) => d.slices == 0 || d.res w || k.landed.contains (w, 0)
    if d.type ≠ ty ∨ !s.mayStart t k ∨ !s.enginesFree k.loc t ∨ !there 2 ∨ !there 3 then s
    else if !d.tileValid then
      let s := startTask t s
      setTask t (fun k => { k with phase := .finished }) (if d.type = 1 then statsEnd k s else s)
    else
      let s := setTask t (fun k => { k with acc := accStart k s }) (startTask t s)
      let part := (List.range d.mb).map fun bi => (coreBase d.home + d.pOff + 4 * bi * 4096, d.nb * 4096)
      let s := if d.accInit = 1 then taskMeets t part s else s
      issueAll k.loc (runSlices t (d.slices + 1) s)

/-- MATRIX_TASK_START (R73). -/
def execMatrixTaskStart (t : Nat) (s : State) : Host.Outcome State Fault Refusal := finish (startTile t 0 s)

/-- STATS_TASK_START (04, R100). -/
def execStatsTaskStart (t : Nat) (s : State) : Host.Outcome State Fault Refusal := finish (startTile t 1 s)

/-! The result path (03, R69; 06, R150). -/

/-- RESULT_DRAIN (R69, R70): the result path drains output block `b`, row-major in the tile, once all products of the
task have ended; a streamed output waits in the stage area for its write-back. -/
def execResultDrain (t b : Nat) (s : State) : Host.Outcome State Fault Refusal :=
  match s.task t with
  | none => finish s
  | some k =>
    let d := k.desc
    if !d.engine ∨ k.phase ≠ .running ∨ k.prog < d.slices ∨ b ≥ d.mb * d.nb ∨ k.drained.contains b then finish s
    else
      let (bi, bj) := (b / d.nb, b % d.nb)
      let r := drainBlock d (s.rng k) bi bj k.amax (k.acc.getD b [])
      let last := k.drained.length + 1 = d.mb * d.nb
      let s := setTask t (fun k => { k with
        drained := setIns b k.drained, amax := r.amax
        phase := if last ∧ !d.writesBack then .finished else .running }) s
      let s :=
        if d.type = 1 then s
        else
          let s := tallyTask t r.sat r.flush r.nan s
          let bs := patBytes (esizeOf (d.fmt 4)) r.out
          let bb := bbytesOf (d.fmt 4)
          if d.res 4 then taskWrite t (d.addr 4 + (bi * d.oStride + bj) * bb) bs s
          else devPut (coreBase k.loc + d.outOff + (4 * bi + bj) * bb) bs s
      finish (issueAll k.loc s)

/-- WRITEBACK_ACCEPTED (06, R150): every line of the tile, or every add of a STATS task (10, R233), has been accepted. -/
def execWritebackAccepted (t : Nat) (s : State) : Host.Outcome State Fault Refusal :=
  match s.task t with
  | none => finish s
  | some k =>
    let s := issueAll k.loc s
    match s.task t with
    | none => finish s
    | some k =>
      let d := k.desc
      if !d.writesBack ∨ k.phase ≠ .running ∨ k.wbCols.length < d.nb then finish s
      else
        let s := if d.type = 1 then statsEnd k s else s
        finish (setTask t (fun k => { k with phase := .finished }) s)

/-! The vector unit (03, R77; log entry 63). -/

/-- VECTOR_TASK_START: the task's whole effect on SRAM (R77–R82, R101). -/
def execVectorTaskStart (t : Nat) (s : State) : Host.Outcome State Fault Refusal :=
  match s.task t with
  | none => finish s
  | some k =>
    let d := k.desc
    let free := !(s.mer.tasks.any fun p => p.2.desc.type == 2 && p.2.loc == k.loc &&
      (p.2.phase == .running || p.2.phase == .finished))
    if d.type ≠ 2 ∨ !s.mayStart t k ∨ !free then finish s
    else
      let s := startTask t s
      let done := setTask t (fun k => { k with phase := .finished })
      if d.vcount = 0 then finish (done s)
      else
        let runs := (d.vwords.filter (· != 5)).flatMap d.vruns
        let s := taskMeets t runs s
        let o := vecRun s.mem d (s.rng { k with step := (s.stream k.stream).step })
        let s := o.writes.foldl (fun s w => taskWrite t w.1 w.2 s) s
        finish (done (setTask t (fun k => { k with sat := o.sat, flush := o.flush, nan := o.nan, amax := o.amax }) s))

/-! SET_COELOSTAT_CONFIG (06, R151). -/

/-- SET_COELOSTAT_CONFIG (16, Table 16-7). -/
def execSetCoelostatConfig (m : Fin 16) (s : State) : Host.Outcome State Fault Refusal :=
  mbxCommand 0x0109 anyArgs m (fun a s =>
    let n := bits (a.n 0) 11 8
    let c := bits (a.n 0) 5 0
    let cs := if c = 0x3F then List.range 32 else [c]
    if n > 8 ∨ (c ≥ 32 ∧ c ≠ 0x3F) ∨ cs.any (fun c => decide (512 * n + s.sgKib c > 8192)) then .done St.argInvalid [] s
    else .done St.ok [] { s with strm := { s.strm with
      mcastKib := cs.foldl (fun t c => kvPut 2048 c (512 * n) t) s.strm.mcastKib } }) s

end Sys2Proof.Machine
end

