-- ==== Sys2Proof/Machine/Fabric.lean ====
section
/-!
DEFINITION. Chapter 13: the port commands, training and link events, the router, and the requests of other modules that
this module answers.
-/

namespace Sys2Proof.Machine

/-! A port leaves service (13, R306, R307). -/

/-- Queued packets are routed again; sent and unacknowledged ones, and those for which no route is found, are discarded and
counted. -/
def leaveService (i : Nat) (st : PortSt) (s : State) : State :=
  let p := s.port i
  let lost := (p.replay.map (·.ends)).sum
  let s := setPortAt i (fun p => { p with
    st := st
    downCount := if p.st = .active then min (p.downCount + 1) 0xFFFFFFFF else p.downCount
    replay := [], part := [], txq := [], nakked := false, ackOwed := false, nakCount := 0, peerResetting := false
    partnerKnown := false, txSeq := 0, rxSeq := 0, stall := none
    vcOwed := Vector.replicate 8 0, sharedOwed := 0 }) s
  let s := match p.stall with
    | some t => count .creditStall i (s.cyc - t) s
    | none => s
  let unrouted := fun (s : State) => s.ctr.get .unroutable (portDie i)
  let before := unrouted s
  let s := p.txq.foldl (fun s x =>
    if x.pkt.dst / 8 = s.ownId / 8 then toMember (x.pkt.dst % 8) (portDie i) x s else toGlink (portDie i) x s) s
  count .lostPackets i (lost + (unrouted s - before)) s

/-- The port is declared DOWN (R306). PORT_DOWN carries the port's count of lost packets (R307). -/
def portFails (i : Nat) (s : State) : State :=
  let was := (s.port i).st
  let s := leaveService i .down (if was = .active then linkState i 2 s else s)
  let s := setPortAt i (fun p => { p with warm := true, degrading := false }) s
  if was = .active then post Ev.portDown [i, s.ctr.get .lostPackets i] s else s

/-- A port starts training again: cold, or warm with its saved settings. -/
def retrain (i : Nat) (warm : Bool) (st : PortSt) (s : State) : State :=
  setPortAt i (fun p => { p with warm := warm }) (leaveService i st s)

/-! Commands. -/

/-- The port status record (13, Table 13-7). -/
def portRecord (p : Port) : List Nat :=
  [b2n p.incompatible + b2n p.peerResetting * 2 + b2n p.miswired * 4 + p.lanes * 8 + p.st.code * 32,
   p.medium * 2 ^ 10 + min p.length 1048575 * 2 ^ 12 + p.oneWay % 2 ^ 32 * 2 ^ 32,
   p.extMib + p.downCount * 2 ^ 32, p.partner]

/-- READ_PORT_STATUS (13, R305). -/
def execReadPortStatus (m : Fin 16) (s : State) : Host.Outcome State Fault Refusal :=
  mbxCommand 0x0501 anyArgs m (fun a s =>
    let bs := wordBytes ((List.range 30).flatMap fun i => portRecord (s.port i))
    replyBytes (a.n 0) 960 1 bs [] s) s

/-- RETRAIN_PORT (13, R306; 16, Table 16-7). -/
def execRetrainPort (m : Fin 16) (s : State) : Host.Outcome State Fault Refusal :=
  mbxCommand 0x0502 anyArgs m (fun a s =>
    if a.n 0 = 0 then .done St.portArgInvalid [] s
    else .done St.ok [] ((List.range 30).foldl (fun s i =>
      if bit (a.n 0) i then
        setPortAt i (fun p => { p with usable := 3, degrading := false }) (retrain i (a.n 1 == 0) .detect s)
      else s) s)) s

/-- SET_PORT_CONFIG (13, R309). -/
def execSetPortConfig (m : Fin 16) (s : State) : Host.Outcome State Fault Refusal :=
  mbxCommand 0x0503 anyArgs m (fun a s =>
    let i := bits (a.n 0) 4 0
    let ext := bits (a.n 0) 15 8
    let n := ext * 2 ^ 20
    if i < 14 ∨ i > 29 ∨ ext > 64 ∨ ext % 4 ≠ 0 then .done St.portArgInvalid [] s
    else match (bufCheck (a.n 1) n 65536 s).orElse fun _ => bufCheck (a.n 2) n 65536 s with
      | some f => bufFault f s
      | none =>
        if regionOf (a.n 1) ≠ some .gddr7 ∨ regionOf (a.n 2) ≠ some .gddr7 then .done St.portArgInvalid [] s
        else
          let s := setPortAt i (fun p => { p with extMib := ext, rxRing := a.n 1, replayRing := a.n 2 }) s
          .done St.ok [] (if (s.port i).st = .active then retrain i true .train s else s)) s

/-- The canonical global link table of group `g` of `n` (13, Table 13-13). -/
def canonicalLinks (n g : Nat) : KV (Nat × Nat) :=
  if n ≤ 1 then []
  else
    let b := 128 / (n - 1)
    ((List.range 128).filter fun i => i < (n - 1) * b).map fun i =>
      let t := i / (n - 1)
      let r := i % (n - 1)
      (i, ((g + r + 1) % n, (n - 1) * t + n - 2 - r))

/-- Port states of this module's global ports, as a PORT_STATES packet carries them (14, Table 14-7). -/
def State.ownStates (s : State) : Nat :=
  (List.range 16).foldl (fun x i => x + (s.port (14 + i)).st.code * 2 ^ (3 * i)) 0

/-- SET_TOPOLOGY (13, R313). -/
def execSetTopology (m : Fin 16) (s : State) : Host.Outcome State Fault Refusal :=
  mbxCommand 0x0504 anyArgs m (fun a s =>
    let n := a.n 0
    if n < 1 ∨ n > 128 then .done St.argInvalid [] s
    else match s.fab.id with
      | none => .done St.notReady [] s
      | some id =>
        .done St.ok [] (checkAllWiring (digestStep (fun s => { s with fab := { s.fab with
          groups := some n, links := canonicalLinks n (id / 8) } }) s))) s

/-- SET_GLOBAL_LINK (13, R313). -/
def execSetGlobalLink (m : Fin 16) (s : State) : Host.Outcome State Fault Refusal :=
  mbxCommand 0x0505 anyArgs m (fun a s =>
    let g := bits (a.n 0) 6 0
    let h := bits (a.n 0) 14 8
    let g' := bits (a.n 0) 22 16
    match s.fab.groups with
    | none => .done St.notReady [] s
    | some n =>
      if !bit (a.n 0) 24 && decide (h ≥ n) then .done St.argInvalid [] s
      else
        let links := if bit (a.n 0) 24 then kvDel g s.fab.links else kvSet g (h, g') s.fab.links
        .done St.ok [] (checkAllWiring { s with fab := { s.fab with links := links } })) s

/-- SET_ROUTING (13, R316, R320). -/
def execSetRouting (m : Fin 16) (s : State) : Host.Outcome State Fault Refusal :=
  mbxCommand 0x0506 anyArgs m (fun a s =>
    if a.n 1 < 100 ∨ a.n 1 > 10000000 then .done St.argInvalid [] s
    else .done St.ok [] { s with fab := { s.fab with thr := a.n 0, timeoutUs := a.n 1 } }) s

/-! Training (13, R302–R304). -/

/-- May a port train: the module is past its measuring, and the cage admits the medium (19, R459; 21, R510)? -/
def State.mayTrain (s : State) (i : Nat) : Bool :=
  s.powered && (s.boot.phase == 3 || s.boot.phase == 4) && !(kvFind i s.pow.cages).any (fun mw => decide (mw > 12000))

/-- Bring-up starts this port from its saved settings (13, R302; 19, R454). -/
def State.portSaved (s : State) (i : Nat) : Bool := s.boot.run.any fun r => r.saved.isSome && !bit r.coldPorts i

/-- PORT_SIGNAL_DETECT (13, R302, Table 13-5): training starts warm where the port's settings are saved. -/
def execPortSignalDetect (i : Fin 30) (s : State) : Host.Outcome State Fault Refusal :=
  let p := s.port i.val
  if s.mayTrain i.val && (p.st == .down || p.st == .detect) then
    finish (setPortAt i.val (fun p => { p with
      st := .train, warm := p.warm || (p.st == .down && s.portSaved i.val) }) s)
  else finish s

/-- A warm start of bring-up that fails falls back to a cold one: it counts in the report (19, Table 19-5). -/
def portFellBack (i : Nat) (s : State) : State :=
  let s := setPortAt i (fun p => { p with warm := false }) s
  if s.boot.phase = 3 then
    { s with boot := { s.boot with report := { s.boot.report with fallbacks := s.boot.report.fallbacks + 1 } } }
  else s

/-- PORT_TRAIN_DONE (13, R302): the lanes found good, bit i for lane i. A port that degrades comes up with one pair and
keeps to it (R306). -/
def execPortTrainDone (i : Fin 30) (good : Nat) (s : State) : Host.Outcome State Fault Refusal :=
  let p := s.port i.val
  if p.st ≠ .train then finish s
  else
    let lo := good % 4 == 3 && (p.usable == 3 || p.usable == 1)
    let hi := good / 4 % 4 == 3 && (p.usable == 3 || p.usable == 2)
    let lanes := if lo && hi then (if p.degrading then 1 else 3) else if lo then 1 else if hi then 2 else 0
    if lanes ≠ 0 then
      finish (setPortAt i.val (fun p => { p with
        st := .length, lanes := lanes, good := good % 16, usable := if p.degrading then lanes else p.usable }) s)
    else if p.warm then finish (portFellBack i.val s)
    else finish (setPortAt i.val (fun p => { p with st := .failed, lanes := 0 }) s)

/-- PORT_LENGTH_DONE (13, R303): 64 samples of round trip and partner's turnaround in 0.25 ns, the medium of the CMIS
identity, this end's own turnaround. -/
def execPortLengthDone (i : Fin 30) (samples : List (Nat × Nat)) (medium turn : Nat) (s : State) :
    Host.Outcome State Fault Refusal :=
  let p := s.port i.val
  if p.st ≠ .length ∨ samples.length ≠ 64 then finish s
  else
    let t := (((samples.map fun x => x.1 - x.2).sum) + 64) / 128
    let k := if medium = 2 then 490 else 440
    let len := (t * 250 + k / 2) / k
    finish (sendCaps i.val (setPortAt i.val (fun p => { p with
      st := .caps, oneWay := t, length := len, medium := medium % 4, turn := turn, capsTries := 0 }) s))

/-- CAPS_RECORD_RECEIVED (13, R304, R314): the eight words of the partner's record. -/
def execCapsRecordReceived (i : Fin 30) (words : List Nat) (s : State) : Host.Outcome State Fault Refusal :=
  let p := s.port i.val
  if p.st ≠ .caps ∧ p.st ≠ .active then finish s
  else
    let q := fun (k : Nat) => words.getD k 0
    let bare := (List.range 8).map fun k => if k = 7 then 0 else q k
    let good := bits (q 7) 31 0 == (crc32c (wordBytes bare)).toNat && bits (q 7) 63 32 == 0 && q 3 == 0 && q 4 == 0 &&
      q 5 == 0 && q 6 == 0 && bits (q 1) 31 0 == 0 && bits (q 0) 10 0 == 0
    if !good then
      if p.capsTries ≥ 8 then finish (leaveService i.val .failed s)
      else finish (emit (.link i.val "CAPS_REQUEST" []) (setPortAt i.val (fun p => { p with capsTries := p.capsTries + 1 }) s))
    else
      let bad := bits (q 0) 47 32 != 0x0009 || bits (q 0) 63 48 != 0x0402
      let vc := bits (q 2) 31 16
      let sh := bits (q 2) 63 32
      let s := setPortAt i.val (fun p => { p with
        st := .active, incompatible := bad, partner := q 0, partnerKnown := true, capsTries := 0
        peerResetting := bit (q 0) 11, degrading := false }) s
      let s := if p.st = .active then s else
        setPortAt i.val (fun p => { p with
          vcCr := Vector.replicate 8 vc, sharedCr := sh, vcCr0 := vc, sharedCr0 := sh, rxUsed := Vector.replicate 8 0 }) s
      let s := if p.st = .active || p.warm || s.boot.phase != 3 then s else
        { s with boot := { s.boot with run := s.boot.run.map fun r => { r with cold := true } } }
      let s := if bad && !(p.incompatible && p.st == .active) then post Ev.portPartnerIncompatible [i.val, q 0] s else s
      let s := if p.st = .active then s
        else post (if p.degrading then Ev.portDegraded else Ev.portUp) [i.val, (s.port i.val).lanes] s
      finish (checkWiring i.val s)

/-- PORT_DEGRADE (13, R306): lane `lane` of an ACTIVE port is lost; `otherGood`: the other pair is wholly good. -/
def execPortDegrade (i : Fin 30) (lane : Fin 4) (otherGood : Bool) (s : State) : Host.Outcome State Fault Refusal :=
  let p := s.port i.val
  if p.st ≠ .active then finish s
  else if p.lanes = 3 ∧ otherGood then
    let pair := if lane.val < 2 then 2 else 1
    let s := retrain i.val true .train (linkState i.val 1 s)
    finish (setPortAt i.val (fun p => { p with usable := pair, lanes := pair, degrading := true }) s)
  else finish (portFails i.val s)

/-- PORT_DOWN (13, R306): no codeword for 2 µs, the replay limit, or both pairs lost. -/
def execPortDown (i : Fin 30) (s : State) : Host.Outcome State Fault Refusal :=
  let p := s.port i.val
  if p.st = .down ∨ p.st = .failed then finish s else finish (portFails i.val s)

/-! The link layer (13, R300, R301). -/

/-- Distance from sequence number `a` forward to `b`. -/
def seqDist (a b : BitVec 24) : Nat := (b - a).toNat

/-- The flits of the on-die receive buffer (R309). -/
def dieFlits : Nat := 8192

/-- Flits held in the receive buffer and its ring. -/
def Port.held (p : Port) : Nat := p.rxUsed.toList.sum

/-- Where the ring's flit `k` lies. -/
def Port.ringAt (p : Port) (k : Nat) : Nat := p.rxRing + 64 * (k % (p.extMib * 16384))

/-- Flits for which the on-die buffer has no room move to the receive ring, each written there (R309; log entry 55). -/
def ringPut (i : Nat) (fs : List (List Nat)) (s : State) : State :=
  let p := s.port i
  let s := ((List.range fs.length).zip fs).foldl (fun s x => devPut (p.ringAt (p.rxAt + x.1)) (wordBytes x.2) s) s
  count .extBytes i (64 * fs.length) (setPortAt i (fun p => { p with
    rxExt := p.rxExt + fs.length, rxAt := p.rxAt + fs.length }) s)

/-- A packet is whole: it enters the receive buffer. -/
def packetIn (i : Nat) (k : Packet) (s : State) : State :=
  let p := s.port i
  let room := dieFlits - (p.held - p.rxExt)
  let s := if p.extMib = 0 ∨ k.flits ≤ room then s else ringPut i ((k.wire.map Prod.fst).drop room) s
  count .rxFlits i k.flits (setPortAt i (fun p => { p with
    rx := p.rx ++ [k], rxUsed := p.rxUsed.setIfInBounds k.vc ((p.rxUsed[k.vc]?.getD 0) + k.flits) }) s)

/-- The packet flits of an accepted codeword, in order. -/
def flitsIn (i : Nat) (flits : List (List Nat)) (s : State) : State :=
  flits.foldl (fun s f =>
    let part := (s.port i).part ++ [f]
    let need := 1 + bits ((part.headD []).getD 0 0) 16 11
    if part.length < need then setPortAt i (fun p => { p with part := part }) s
    else
      let k := Packet.ofFlits (part.headD []) ((part.drop 1).flatMap wordBytes)
      packetIn i k (setPortAt i (fun p => { p with part := [] }) s)) s

/-- CODEWORD_RECEIVED (13, R300, Table 13-3): whether FEC corrected it, its seq_lo and lpos, the symbols corrected on
each lane, and its packet flits, eight words each. After a NAK the codewords that follow are discarded until the one it
named comes again; where that one too is uncorrectable, it is named again. `seqLo` says which codeword it is also where
FEC cannot correct it. -/
def execCodewordReceived (i : Fin 30) (ok : Bool) (seqLo : Byte) (lpos : Fin 16) (fec : List Nat)
    (flits : List (List Nat)) (s : State) : Host.Outcome State Fault Refusal :=
  let p := s.port i.val
  if p.st ≠ .active then finish s
  else
    let s := (List.range 4).foldl (fun s l => count .fecCorrected (4 * i.val + l) (fec.getD l 0) s) s
    let good := ok && !(decide (0xA ≤ lpos.val) && lpos.val != 0xF) && seqLo == p.rxSeq.setWidth 8
    if good then
      finish (flitsIn i.val flits
        (setPortAt i.val (fun p => { p with rxSeq := p.rxSeq + 1, nakked := false, ackOwed := true }) s))
    else if p.nakked && seqLo != p.rxSeq.setWidth 8 then finish s
    else finish (linkFlit i.val 1 p.rxSeq.toNat 0 (count .uncorrectable i.val 1
      (setPortAt i.val (fun p => { p with nakked := true }) s)))

/-- Credits come back, up to what the partner announced. -/
def creditBack (i : Nat) (vcRet sharedRet : Nat) (s : State) : State :=
  let s := setPortAt i (fun p => { p with
    vcCr := Vector.ofFn fun v => min p.vcCr0 (p.vcCr[v] + bits vcRet (8 * v.val + 7) (8 * v.val))
    sharedCr := min p.sharedCr0 (p.sharedCr + sharedRet) }) s
  servePort i s

/-- A link flit whose reserved fields are 0 (13, Table 13-4). -/
def linkFlitOk (q : Nat → Nat) : Bool :=
  q 4 == 0 && q 5 == 0 && q 6 == 0 && q 7 == 0 && bits (q 2) 47 0 == 0 && bits (q 0) 15 2 == 0

/-- LINK_FLIT_RECEIVED (13, R300, Table 13-4): its words. Kind 3 and reserved states are ignored, and so is a flit with a
reserved field that is not 0 (00, R16). -/
def execLinkFlitReceived (i : Fin 30) (words : List Nat) (s : State) : Host.Outcome State Fault Refusal :=
  let p := s.port i.val
  if p.st ≠ .active then finish s
  else
    let q := fun (k : Nat) => words.getD k 0
    let ack := BitVec.ofNat 24 (bits (q 0) 63 40)
    let kind := q 0 % 4
    if kind = 3 || !linkFlitOk q then finish s
    else
      let acked := fun (x : Codeword) => decide (seqDist x.seq ack < 2 ^ 23)
      let s := setPortAt i.val (fun p => { p with replay := p.replay.filter fun x => !acked x }) s
      let s := creditBack i.val (q 1) (bits (q 2) 63 48) s
      if kind = 1 then
        let nak := BitVec.ofNat 24 (bits (q 0) 39 16)
        let n := if p.nakCount > 0 ∧ p.nakSeq = nak then p.nakCount + 1 else 1
        if n > 8 then finish (portFails i.val s)
        else
          let again := (s.port i.val).replay.filter fun x => decide (seqDist nak x.seq < 2 ^ 23)
          let s := setPortAt i.val (fun p => { p with nakSeq := nak, nakCount := n }) s
          let s := count .replays i.val again.length s
          finish (again.foldl (fun s x => emit (.codeword i.val x.control x.flits) s) s)
      else if kind = 2 then
        match q 3 with
        | 1 =>
          if p.lanes = 3 then
            finish (setPortAt i.val (fun p => { p with degrading := true }) (retrain i.val true .train s))
          else finish s
        | 2 => finish (portFails i.val s)
        | 3 => finish (setPortAt i.val (fun p => { p with peerResetting := true }) s)
        | 4 => finish (setPortAt i.val (fun p => { p with peerResetting := false }) s)
        | _ => finish s
      else finish s

/-- LINK_FLIT_DUE (13, R301): the port sends what acknowledgement and credits it owes. -/
def execLinkFlitDue (i : Fin 30) (s : State) : Host.Outcome State Fault Refusal :=
  let p := s.port i.val
  let owes := p.ackOwed || decide (p.sharedOwed > 0) || p.vcOwed.toList.any (fun x => decide (x > 0))
  if p.st ≠ .active ∨ !owes then finish s
  else
    finish (linkFlit i.val 0 0 0 s)

/-! The router (13, R317). -/

/-- Flits move back from the receive ring, oldest first, as the on-die buffer has room (R309). -/
def ringTakeBack (i : Nat) (s : State) : State :=
  let p := s.port i
  let n := min p.rxExt (dieFlits - (p.held - p.rxExt))
  if n = 0 then s
  else
    let s := (List.range n).foldl (fun s k => (devRead (p.ringAt (p.rxAt - p.rxExt + k)) 64 s).2.2) s
    count .extBytes i (64 * n) (setPortAt i (fun p => { p with rxExt := p.rxExt - n }) s)

/-- A packet leaves the receive buffer: its credits are owed to the partner, shared ones first. -/
def freeRx (i : Nat) (k : Packet) (s : State) : State :=
  ringTakeBack i <| setPortAt i (fun p =>
    let used := p.rxUsed[k.vc]?.getD 0
    let sh := min k.flits (used - 256)
    { p with
      rx := p.rx.erase k, rxUsed := p.rxUsed.setIfInBounds k.vc (used - k.flits), sharedOwed := p.sharedOwed + sh
      vcOwed := p.vcOwed.setIfInBounds k.vc ((p.vcOwed[k.vc]?.getD 0) + (k.flits - sh)) }) s

/-- A packet is discarded at its destination (13, R310). -/
def malformed (i : Nat) (crc : Bool) (s : State) : State :=
  let s := count (if crc then .crcDrop else .malformed) (portDie i) 1 s
  match kvFind i s.fab.lastMalformed with
  | some t => if s.cyc < t + 1000000 then s else
    post Ev.fabricMalformed [i, s.ctr.get .crcDrop (portDie i), s.ctr.get .malformed (portDie i)]
      { s with fab := { s.fab with lastMalformed := kvSet i s.cyc s.fab.lastMalformed } }
  | none =>
    post Ev.fabricMalformed [i, s.ctr.get .crcDrop (portDie i), s.ctr.get .malformed (portDie i)]
      { s with fab := { s.fab with lastMalformed := kvSet i s.cyc s.fab.lastMalformed } }

/-- Eject a packet to this module (13, R310, R317; 14, R342). -/
def eject (i : Nat) (k : Packet) (s : State) : State :=
  let s := count .ejectedPackets (portDie i) 1 s
  if !k.crcOk then malformed i true s
  else if !k.wellFormed then malformed i false s
  else if s.fenceDrops k then count .fenceDrop 0 1 s
  else { s with fab := { s.fab with inbox := s.fab.inbox ++ [(i, k)] } }

/-- The module's response queue has room (13, R308): an empty one has. Its size is not given (log entry 110). -/
def State.respRoom (s : State) : Bool :=
  let n := s.fab.inject.countP fun x => x.pkt.wantCls == 1
  n == 0 || decide (n < Config.respSlots)

/-- A packet that the router may not take yet: a request for this module while its response queue is full (R308). -/
def State.heldBack (s : State) (k : Packet) : Bool := k.dst == s.ownId && k.cls != 1 && !s.respRoom

/-- The oldest packet received on a port that the router may take: packets of one VC stay in order, and none waits behind
another VC's. -/
def State.nextRx (s : State) (i : Nat) : Option Packet :=
  let firsts := (s.port i).rx.foldl (fun (l : List Packet) k => if l.any (fun x => x.vc == k.vc) then l else l ++ [k]) []
  firsts.find? fun k => !s.heldBack k

/-- PACKET_FORWARD (13, R317): the router takes the oldest packet received on a port; `hop` is its latency in ns for
the monitors (20, Table 20-6). -/
def execPacketForward (i : Fin 30) (hop : Nat) (s : State) : Host.Outcome State Fault Refusal :=
  match s.nextRx i.val with
  | none => finish s
  | some k =>
    if !s.inService i.val then finish s
    else
      let die := portDie i.val
      let s := monSample 0x08 die hop (freeRx i.val k s)
      let k := if i.val ≥ 14 then { k with level := k.level + 1 } else k
      if decide (i.val ≥ 14) && !levelOk k then finish (unroutable die k s)
      else if k.dst = s.ownId then finish (eject i.val k s)
      else
        let s := count .transitPackets die 1 s
        let g := s.ownId / 8
        if k.dst / 8 = g ∧ !(k.val && k.igroup != g) then finish (toMember (k.dst % 8) die ⟨k, true, none⟩ s)
        else if k.val && k.igroup == g && decide (i.val ≥ 14) then
          let c := s.cand (k.dst / 8)
          let pick := if k.det || k.cls == 2 then
              (if c = [] then none else some (c.getD ((k.src ^^^ k.dst ^^^ k.flow) % c.length) 0))
            else s.leastOcc c
          match pick with
          | none => finish (unroutable die k s)
          | some gl => finish (toGlink die ⟨{ k with val := false, igroup := 0, glink := gl }, true, none⟩ s)
        else finish (toGlink die ⟨k, true, none⟩ s)

/-! Requests of other modules (13, R318, R319). -/

/-- Take the oldest ejected packet that satisfies a test. -/
def takeIn (f : Packet → Bool) (s : State) : Option (Nat × Packet × State) :=
  match s.fab.inbox.find? fun x => f x.2 with
  | none => none
  | some (i, k) => some (i, k, { s with fab := { s.fab with inbox := s.fab.inbox.erase (i, k) } })

/-- A tier being filled, or a channel under a field test, refuses its accesses (07, R173; 19, R477, R478). -/
def State.memBusy (s : State) (a n : Nat) : Bool :=
  inDram a &&
  ((kvFind (tierOf a) s.tiers.fills).isSome ||
   (match s.boot.test with
    | none => false
    | some t => t.chan / 256 == tierOf a &&
      (List.range (ceilDiv n 2048 + 1)).any fun j => decide (j * 2048 < n ∨ j = 0) && (s.loc (a + j * 2048)).chan == t.chan))

/-- The status of an inbound request (13, Table 13-11; 15, R355). -/
def inboundStatus (k : Packet) (n : Nat) (s : State) : Nat :=
  if s.inTenant && !s.sec.peers.contains k.src then 2
  else match checkAccess .remote k.addr n with
    | some (.reserved, _) => 3
    | some (.denied, _) => 2
    | none => if s.memBusy k.addr n then 1 else 0

/-- The response to a request, to its sender, with its token. -/
def respond (i : Nat) (k : Packet) (typ : PType) (status : Nat) (data : List Byte) (s : State) : State :=
  sendPkts [{ pkt := { typ := typ, cls := 1, det := k.det, dst := k.src, src := s.ownId, flow := k.flow, addr := k.addr
                       token := k.token, tdie := k.tdie, status := status, data := data }
              die := portDie i }] s

/-- INBOUND_WRITE (13, R318). -/
def execInboundWrite (s : State) : Host.Outcome State Fault Refusal :=
  match takeIn (fun k => k.typ == .write) s with
  | none => finish s
  | some (i, k, s) =>
    let st := inboundStatus k k.data.length s
    let s := if st = 0 ∧ regionOf k.addr = some .sems then count .finderWrites (portDie i) 1 s else s
    let (bad, s) := if st = 0 then devWrite k.addr k.data s else (false, s)
    let st := if bad then 4 else st
    finish (if k.ack then respond i k .writeAck st [] s else s)

/-- INBOUND_READ_REQ (13, R318). -/
def execInboundReadReq (s : State) : Host.Outcome State Fault Refusal :=
  match takeIn (fun k => k.typ == .readReq) s with
  | none => finish s
  | some (i, k, s) =>
    let n := k.lenM1 + 1
    let st := inboundStatus k n s
    let sems := regionOf k.addr == some .sems && s.boot.reset.any (fun r => r.scope == 1)
    let st := if st = 0 && sems then 1 else st
    if st ≠ 0 then finish (respond i k .readRsp st [] s)
    else
      let s := if n ≤ 256 then count .finderReads (portDie i) (finderReqs [(k.addr, n)]) s else s
      let (p, bs, s) := devRead k.addr n s
      match p with
      | some _ => finish (respond i k .readRsp 4 [] s)
      | none => finish (respond i k .readRsp 0 bs s)

/-- The index of a semaphore at an address; none elsewhere (01, Table 1-7). -/
def semIndex (a : Nat) : Option Nat :=
  if regionOf a = some .sems ∧ aligned a 8 then some ((a - 0x30000000000) / 8) else none

/-- The status of an inbound semaphore request. -/
def semStatus (k : Packet) (s : State) : Nat :=
  if s.inTenant && !s.sec.peers.contains k.src then 2
  else match checkAccess .remote k.addr 8 with
    | some (.reserved, _) => 3
    | some (.denied, _) => 2
    | none =>
      if (semIndex k.addr).isNone then 2
      else if s.boot.reset.any (fun r => r.scope == 1) then 1 else 0

/-- INBOUND_SEM_OP (13, R319; 04, R104). -/
def execInboundSemOp (s : State) : Host.Outcome State Fault Refusal :=
  match takeIn (fun k => k.typ == .semOp) s with
  | none => finish s
  | some (i, k, s) =>
    let st := semStatus k s
    match semIndex k.addr with
    | some j =>
      if st = 0 then
        if k.op = 0 then finish (semAdd j k.operand s).2 else finish (semSet j (BitVec.ofNat 32 k.operand) s)
      else finish (respond i k .writeAck st [] s)
    | none => finish (respond i k .writeAck st [] s)

/-- The die of a semaphore's watch table (01, Table 1-7; 05, R138). -/
def semDie (i : Nat) : Nat := i / 8192

/-- INBOUND_SEM_WATCH (05, R138; 13, R318): answered at once, registered, or BUSY with the table full. -/
def execInboundSemWatch (s : State) : Host.Outcome State Fault Refusal :=
  match takeIn (fun k => k.typ == .semWatch) s with
  | none => finish s
  | some (i, k, s) =>
    let st := semStatus k s
    match semIndex k.addr with
    | some j =>
      if st ≠ 0 then finish (respond i k .watchRsp st [] s)
      else
        let c := (s.sem j).count.toNat
        let w : Watch := ⟨semDie j, k.src, k.tdie * 4096 + k.token, j, k.operand⟩
        if k.operand ≤ c then finish (sendPkts [watchAnswer s.ownId w 0 c] s)
        else if s.mer.watches.countP (fun x => x.die == w.die) ≥ 4096 then
          finish (sendPkts [watchAnswer s.ownId w 2 c] s)
        else finish (sendPkts [watchAnswer s.ownId w 1 c]
          { s with mer := { s.mer with watches := s.mer.watches ++ [w] } })
    | none => finish (respond i k .watchRsp st [] s)

/-- INBOUND_WATCH_CANCEL (05, R138). -/
def execInboundWatchCancel (s : State) : Host.Outcome State Fault Refusal :=
  match takeIn (fun k => k.typ == .watchCancel) s with
  | none => finish s
  | some (_, k, s) =>
    finish { s with mer := { s.mer with watches := s.mer.watches.filter fun w =>
      !(w.module == k.src && w.token == k.tdie * 4096 + k.token) } }

/-! Port-state reports (13, R315). -/

/-- The seven group peers. -/
def State.groupPeers (s : State) : List Nat :=
  ((List.range 8).map fun i => s.ownId / 8 * 8 + i).filter (· != s.ownId)

/-- An MGMT packet of this module (14, R339). -/
def mgmtPkt (dst : Nat) (words : List Nat) (s : State) : Inject :=
  { pkt := { typ := .mgmt, cls := 2, dst := dst, src := s.ownId, flow := 0xFE, mgmt := words }, die := 0 }

/-- PORT_STATES_SEND (13, R315): within 2 µs of a change, and every 100 µs. -/
def execPortStatesSend (s : State) : Host.Outcome State Fault Refusal :=
  if s.fab.id.isSome && s.fab.groups.isSome then
    finish (sendPkts (s.groupPeers.map fun d => mgmtPkt d [2 ^ 56 + s.ownStates, 0, 0] s) s)
  else finish s

/-- The kind of a management payload. -/
def Packet.kind (k : Packet) : Nat := k.mgmt.getD 0 0 / 2 ^ 56

/-- PORT_STATES_RECEIVED (13, R315): a group peer's report. -/
def execPortStatesReceived (s : State) : Host.Outcome State Fault Refusal :=
  match takeIn (fun k => k.typ == .mgmt && k.kind == 1) s with
  | none => finish s
  | some (_, k, s) =>
    if k.src / 8 = s.ownId / 8 then
      finish { s with fab := { s.fab with
        peers := kvSet (k.src % 8) (k.mgmt.getD 0 0 % 2 ^ 48, s.cyc) s.fab.peers } }
    else finish s

/-- PEER_REPORT_STALE (13, R315): a peer unreported for 300 µs has all its global ports out of service. -/
def execPeerReportStale (member : Fin 8) (s : State) : Host.Outcome State Fault Refusal :=
  match kvFind member.val s.fab.peers with
  | some (_, t) =>
    if s.cyc ≥ t + 300000 then finish { s with fab := { s.fab with peers := kvDel member.val s.fab.peers } } else finish s
  | none => finish s

end Sys2Proof.Machine
end

