-- ==== Sys2Proof/Machine/Store.lean ====
section
/-!
DEFINITION. The checkpoint store's commands (18, R430–R438, R448): manifests, capture, commit, restore, listing.
-/

namespace Sys2Proof.Machine

/-! Manifests (R430). -/

/-- The region entries of a manifest: base, granules, and whether the reserved bits are 0. -/
def manifestRegions : List Nat → List (Nat × Nat × Bool)
  | a :: b :: t => (bits a 51 0, bits b 31 0, bits a 63 52 == 0 && bits b 63 32 == 0) :: manifestRegions t
  | _ => []

/-- Regions lie in ascending order, apart, each in one tier, aligned. -/
def regionsOk : Nat → List (Nat × Nat × Bool) → Bool
  | _, [] => true
  | lo, (a, n, ok) :: t =>
    let e := a + n * granBytes
    ok && decide (n ≥ 1) && aligned a granBytes && decide (lo ≤ a) && inDram a && inDram (e - 1) &&
      tierOf a == tierOf (e - 1) && regionsOk e t

/-- The header's own words are valid (Table 18-3); with `stage`, the staging fields, too. -/
def headerOk (w : List Nat) (rs : List (Nat × Nat × Bool)) (stage : Bool) : Bool :=
  let q := fun (i hi lo : Nat) => bits (w.getD i 0) hi lo
  let base := q 2 51 0
  let n := q 3 63 32
  q 0 63 32 == 0x4D43575A && q 0 15 1 == 0 && q 1 63 0 == 0 && q 2 63 52 == 0 && q 3 31 0 == 0 &&
  (List.range 4).all (fun i => q (4 + i) 63 0 == 0) &&
  (!stage || (decide (1024 ≤ n) && decide (n ≤ 65536) && aligned base granBytes && inDram base &&
    inDram (base + n * granBytes - 1) && tierOf base == tierOf (base + n * granBytes - 1) &&
    rs.all fun r => decide (r.1 + r.2.1 * granBytes ≤ base) || decide (base + n * granBytes ≤ r.1)))

/-- Read a manifest: its header words and regions, or the refusal. -/
def readManifest (a : Nat) (stage : Bool) (s : State) (k : List Nat → List (Nat × Nat) → State → Reply) : Reply :=
  readBuffer a 64 1 s fun h s =>
    let w := bytesWords h
    let n := bits (w.getD 0 0) 31 16
    if n = 0 ∨ n > 4096 ∨ !aligned a 64 then .done St.ckptManifestInvalid [] s
    else
      readBuffer (a + 64) (16 * n) 1 s fun bs s =>
        let rs := manifestRegions (bytesWords bs)
        if headerOk w rs stage && regionsOk 0 rs then k w (rs.map fun r => (r.1, r.2.1)) s
        else .done St.ckptManifestInvalid [] s

/-! Capture (R432, R433). -/

/-- The content of a granule as the store reads it: its bytes and its poisoned sectors. -/
def captureGran (a : Nat) (s : State) : StoredGran × State :=
  let (_, _, s) := devRead a granBytes s
  let cells := (s.mem.filter fun c => decide (a ≤ c.1) && decide (c.1 < a + granBytes)).map fun c => (c.1 - a, c.2)
  ({ addr := a, cells := cells, lost := (List.range 256).filter fun i => s.sectorPoisoned (a + 256 * i) }, s)

/-- Captured granules enter the staging area while it has room, in address order (R433; log entry 91). -/
def stageMore : Nat → State → State
  | 0, s => s
  | n + 1, s =>
    match s.store.write with
    | none => s
    | some w =>
      match w.todo with
      | [] => s
      | g :: t =>
        if w.staged.length ≥ w.room then s
        else
          let (x, s) := draw s
          let s := devPut (w.stage + w.slot % w.room * granBytes) ((List.range granBytes).map (Config.scratchByte x)) s
          stageMore n (setStore (fun st => { st with
            write := some { w with todo := t, staged := w.staged ++ [g], slot := w.slot + 1 } }) s)

/-- Background capture runs as far as the staging area allows. -/
def capturePump (s : State) : State :=
  match s.store.write with
  | some w => stageMore w.todo.length s
  | none => s

/-- The capture point (R432). -/
def capture (s : State) : State :=
  match s.store.write with
  | none => s
  | some w =>
    if w.captured then s
    else
      let gs := (regionGrans w.gen.regions).map (· / granBytes)
      let set := if w.gen.parent = 0 then gs
        else gs.filter fun g => s.tiers.active.contains g || s.tiers.frozen.contains g
      let s := { s with tiers := { s.tiers with
        active := s.tiers.active.filter fun g => !gs.contains g
        frozen := s.tiers.frozen.filter fun g => !gs.contains g } }
      let (xs, s) := set.foldl (fun (p : List StoredGran × State) g =>
        let (x, s) := captureGran (g * granBytes) p.2
        (p.1 ++ [x], s)) ([], s)
      let step := match s.mer.boundary with | some st => (kvGet ({} : Stream) st s.mer.streams).step.toNat | none => 0
      capturePump (setStore (fun st => { st with write := some { w with
        captured := true, set := set, todo := xs
        gen := { w.gen with tCapture := s.now, step := step } } }) s)

/-- A WRITE_CHECKPOINT ends without a commit (R434): its capture set goes back into the frozen map. -/
def ckptDrop (s : State) : State :=
  match s.store.write with
  | none => s
  | some w =>
    setStore (fun x => { x with write := none })
      { s with tiers := { s.tiers with frozen := w.set.foldl (fun l g => setIns g l) s.tiers.frozen } }

/-- It ends with a status. -/
def ckptEnd (status : Nat) (s : State) : State :=
  match s.store.write with
  | none => s
  | some w =>
    let s := ckptDrop s
    if h : w.mbx < 16 then mbxComplete ⟨w.mbx, h⟩ status [w.gen.bytes] s else s

/-- R431 with the manifest's regions `rs`: the first refusal of the table. -/
def ckptRefused (full : Bool) (slot id : Nat) (mirror : Bool) (rs : List (Nat × Nat)) (s : State) : Option Nat :=
  let x := s.store
  let base := x.gens.find? fun g => g.id == x.base
  let total := (rs.map fun r => r.2 * granBytes).sum
  let keyOk := match kvFind slot s.sec.keys with | some k => k.storage | none => false
  let tests : List (Bool × Nat) :=
    [(id == 0 || x.gens.any (fun g => g.id == id), St.ckptIdInUse),
     (!full && base.isNone, St.ckptNoParent),
     (!full && (match base with | some g => g.regions != rs | none => false), St.ckptManifestChanged),
     (slot == 0xFF && s.inTenant, St.ckptKeyRequired),
     (slot != 0xFF && !keyOk, St.ckptKeyMismatch),
     (mirror && s.fab.buddy.isNone, St.ckptNoBuddy),
     (full && decide (x.free < total), St.ckptNoSpace),
     (x.failed, St.ckptStoreFailed)]
  (tests.find? fun t => t.1).map Prod.snd

/-- WRITE_CHECKPOINT accepted as full or incremental (R430, R431); while the store mounts, it waits (19, R460). -/
def writeCheckpoint (full : Bool) (m : Fin 16) (s : State) : Host.Outcome State Fault Refusal :=
  if s.store.mounting then finish s
  else
    mbxCommand 0x0801 (fun a => bit (a.n 0) 0 == full) m (fun a s =>
      readManifest (a.n 1) true s fun w rs s =>
        let slot := bits (a.n 0) 15 8
        let mirror := bit (a.n 0) 1
        match ckptRefused full slot (a.n 2) mirror rs s with
        | some st => .done st [] s
        | none =>
          let k := kvFind slot s.sec.keys
          let parent := if full then 0 else s.store.base
          let depth := if full then 0 else
            ((s.store.gens.find? fun g => g.id == parent).map fun g => g.depth + 1).getD 0
          let gen : Generation :=
            { id := a.n 2, parent := parent, regions := rs, keyId := (k.map KeySlot.keyId).getD 0xFFFFFFFF
              key := k.map KeySlot.key, source := s.fab.id.getD 0, mirror := b2n mirror, depth := depth }
          let job : CkptWrite :=
            { mbx := m.val, gen := gen, since := s.cyc, stage := bits (w.getD 2 0) 51 0, room := bits (w.getD 3 0) 63 32 }
          let s := setStore (fun x => { x with write := some job }) s
          .run (if bit (w.getD 0 0) 0 then capture s else s)) s

/-- WRITE_CHECKPOINT_FULL. -/
def execWriteCheckpointFull (m : Fin 16) (s : State) : Host.Outcome State Fault Refusal := writeCheckpoint true m s

/-- WRITE_CHECKPOINT_INCREMENTAL. -/
def execWriteCheckpointIncremental (m : Fin 16) (s : State) : Host.Outcome State Fault Refusal := writeCheckpoint false m s

/-- CAPTURE_ON_DEMAND (R433): a write to the granule at `a`, held for `ns`, makes the store capture it at once, where
the staging area has room; else the write waits on. -/
def execCaptureOnDemand (a ns : Nat) (s : State) : Host.Outcome State Fault Refusal :=
  match s.store.write with
  | none => finish s
  | some w =>
    let g := a / granBytes * granBytes
    match w.todo.find? fun x => x.addr == g with
    | none => finish s
    | some x =>
      if w.staged.length ≥ w.room then finish s
      else
        let rest := w.todo.filter fun y => y.addr != g
        let s := setStore (fun st => { st with write := some { w with todo := x :: rest, heldNs := w.heldNs + ns } }) s
        let s := stageMore 1 s
        finish s

/-- STAGING_DRAIN (R433): `n` staged granules are programmed, in the order staged, into die blocks of `blocks`; capture
goes on into the space freed. A store without room for the next ends the command CKPT_NO_SPACE (R434). -/
def execStagingDrain (n : Nat) (blocks : List Nat) (s : State) : Host.Outcome State Fault Refusal :=
  match s.store.write with
  | none => finish s
  | some w =>
    let take := w.staged.take n
    let room := s.store.free / granBytes
    let put := take.take room
    let w := { w with staged := w.staged.drop put.length, gen := { w.gen with grans := w.gen.grans ++ put } }
    let s := programmed (put.length * granBytes) blocks (setStore (fun x => { x with write := some w }) s)
    let s := setProgress w.mbx w.gen.bytes s
    finish (if put.length < take.length then ckptEnd St.ckptNoSpace s else capturePump s)

/-! Restoring (R436, R437). -/

/-- A generation may be read by the commands under R436. -/
def State.mayRead (s : State) (g : Generation) : Bool :=
  if g.keyId = 0xFFFFFFFF then !s.inTenant else (s.storageKey g.keyId).isSome

/-- Where the granules of a generation go: content resolved through the chain, and destination. -/
def restorePlan (chain : List Generation) (from_ to_ : List (Nat × Nat)) : List (Generation × StoredGran × Nat) :=
  (List.zip from_ to_).flatMap fun p => (List.range p.1.2).filterMap fun i =>
    (resolve chain (p.1.1 + i * granBytes)).map fun x => (x.1, x.2, p.2.1 + i * granBytes)

/-- One granule is restored: whole pages, its dirty bits cleared, lost sectors poisoned (R437). -/
def restoreGran (bs : List Byte) (lost : List Nat) (dst : Nat) (s : State) : State :=
  let s := devPut dst bs s
  let g := dst / granBytes
  let s := { s with tiers := { s.tiers with active := setDel g s.tiers.active, frozen := setDel g s.tiers.frozen } }
  lost.foldl (fun s i => poisonRange (dst + 256 * i) 256 s) s

/-- A restore ends with a status (R437). -/
def restoreEnd (status : Nat) (s : State) : State :=
  match s.store.restore with
  | none => s
  | some r =>
    let s := setStore (fun x => { x with restore := none, base := if status = 0 then r.gen else x.base }) s
    if h : r.mbx < 16 then mbxComplete ⟨r.mbx, h⟩ status [r.written] s else s

/-- RESTORE_CHECKPOINT with source 0 (R437). -/
def execRestoreCheckpointLocal (m : Fin 16) (s : State) : Host.Outcome State Fault Refusal :=
  mbxCommand 0x0802 (fun a => !bit (a.n 0) 0) m (fun a s =>
    readManifest (a.n 1) false s fun _ rs s =>
      if s.store.failed then .done St.ckptStoreFailed [] s
      else
        match s.store.gens.find? fun g => g.id == a.n 2 with
        | none => .done St.ckptNotFound [] s
        | some g =>
          if !s.mayRead g then .done St.ckptKeyMismatch [] s
          else if g.regions.map Prod.snd ≠ rs.map Prod.snd then .done St.ckptManifestMismatch [] s
          else
            let job : CkptRestore :=
              { mbx := m.val, gen := g.id, regions := rs, buddy := false
                todo := (restorePlan (s.store.chainOf g.id) g.regions rs).map fun p => (p.2.1, p.2.2) }
            .run (setStore (fun x => { x with restore := some job }) s)) s

/-- RESTORE_DONE (R437): the restore writes its next `n` granules; with the last it completes. -/
def execRestoreDone (n : Nat) (s : State) : Host.Outcome State Fault Refusal :=
  match s.store.restore with
  | none => finish s
  | some r =>
    if r.buddy then finish s
    else
      let chain := s.store.chainOf r.gen
      let (s, lost) := (r.todo.take n).foldl (fun (p : State × Bool) x =>
        match resolve chain x.1.addr with
        | none => p
        | some (g, y) =>
          let (bs, bad) := unsealGran g y (p.1.storageKey g.keyId)
          (restoreGran bs bad x.2 p.1, p.2 || !bad.isEmpty)) (s, r.lost)
      let todo := r.todo.drop n
      let r := { r with todo := todo, written := r.written + (Nat.min n r.todo.length) * granBytes, lost := lost }
      let s := setProgress r.mbx r.written (setStore (fun x => { x with restore := some r }) s)
      finish (if todo.isEmpty then restoreEnd (if lost then St.ckptDataLost else 0) s else s)

/-! Listing and deleting (R448). -/

/-- A generation record (Table 18-7). -/
def Generation.record (g : Generation) : List Byte :=
  wordBytes [g.lost % 2 ^ 32 + g.depth % 65536 * 2 ^ 32 + b2n (g.parent != 0) * 2 ^ 48 + g.mirror * 2 ^ 50 +
      b2n g.sealed * 2 ^ 52 + b2n g.foreign * 2 ^ 53 + g.source * 2 ^ 54,
    g.regions.length + g.keyId * 2 ^ 32, g.id, g.parent, g.tCapture, g.step, g.tCommit, g.bytes]

/-- LIST_CHECKPOINTS. -/
def execListCheckpoints (m : Fin 16) (s : State) : Host.Outcome State Fault Refusal :=
  mbxCommand 0x0803 anyArgs m (fun a s => replyBytes (a.n 0) (a.n 1) 1 (s.store.gens.flatMap Generation.record) [] s) s

/-- DELETE_CHECKPOINT; while the store mounts, it waits (19, R460). -/
def execDeleteCheckpoint (m : Fin 16) (s : State) : Host.Outcome State Fault Refusal :=
  if s.store.mounting then finish s
  else
    mbxCommand 0x0804 anyArgs m (fun a s =>
      if s.store.failed then .done St.ckptStoreFailed [] s
      else
        match s.store.gens.find? fun g => g.id == a.n 0 with
        | none => .done St.ckptNotFound [] s
        | some g =>
          if s.store.gens.any fun x => x.parent == g.id then .done St.ckptHasChildren [] s
          else if g.keyId ≠ 0xFFFFFFFF ∧ s.inTenant ∧ (s.storageKey g.keyId).isNone then .done St.ckptKeyMismatch [] s
          else .done St.ok [] (setStore (fun x => { x with
            gens := x.gens.filter fun y => y.id != g.id
            base := if x.base = g.id then 0 else x.base }) s)) s

/-- READ_STORE_HEALTH (R447). -/
def execReadStoreHealth (m : Fin 16) (s : State) : Host.Outcome State Fault Refusal :=
  mbxCommand 0x0805 anyArgs m (fun a s => replyBytes (a.n 0) (a.n 1) 1 s.storeHealth [] s) s

/-! Repair reads (R438). -/

/-- The page at `p` of generation `id`: none where the read ends as a failure. -/
def State.storePage (s : State) (id p : Nat) : Option (List Byte) :=
  let g0 := p / granBytes * granBytes
  match s.store.gens.find? fun g => g.id == id with
  | none => none
  | some g =>
    if !(regionGrans g.regions).contains g0 then none
    else
      match resolve (s.store.chainOf id) g0 with
      | none => none
      | some (g, x) =>
        let (bs, bad) := unsealGran g x (s.storageKey g.keyId)
        let k := p % granBytes / 256
        if (List.range 8).any fun i => bad.contains (k + i) then none
        else some ((bs.drop (p % granBytes)).take 2048)

end Sys2Proof.Machine
end

