-- ==== Sys2Proof/Machine/Mirror.lean ====
section
/-!
DEFINITION. The buddy mirror (14, R344; 18, R439–R442): records in the buddies' rings, foreign generations, restores from
the buddy; the commit of a checkpoint (R434).
-/

namespace Sys2Proof.Machine

/-- The mirror is suspended: no buddy, a lost one, or one fenced off at the other site. -/
def State.mirrorDown (s : State) : Bool :=
  match s.fab.buddy with
  | none => true
  | some b => s.fab.buddyLost || (s.fab.fenced.isSome && s.otherSite b)

/-! Sending (R439). -/

/-- The header of a record (Table 18-5). -/
def MirrorRec.header (r : MirrorRec) (own seq : Nat) : List Byte :=
  wordBytes [r.typ + own * 2 ^ 22 + 0x4D42575A * 2 ^ 32, seq % 2 ^ 32 * 2 ^ 32, b2n r.sealed + r.payload.length * 2 ^ 32,
    r.gen, r.parent, r.arg, 0, 0]

/-- The ring space of a record. -/
def MirrorRec.size (r : MirrorRec) : Nat := alignUp (64 + r.payload.length) 64

/-- The WRITEs that put bytes at an offset of the buddy's ring: at most a page each, acknowledged, in one deterministic
flow (14, R344; log entry 92). -/
def ringWrites (dst off : Nat) (bs : List Byte) (s : State) : State :=
  let a := s.fab.ringBase + off
  let ps := (List.range (ceilDiv bs.length 2048)).map fun i => (a + 2048 * i, (bs.drop (2048 * i)).take 2048)
  let s := sendPkts (ps.map fun p =>
    { pkt := { typ := .write, ack := true, det := true, dst := dst, src := s.ownId, flow := 0xFF, addr := p.1, data := p.2 }
      die := 0 }) s
  setStore (fun x => { x with unacked := x.unacked ++ ps.map fun p => (p.1, p.2.length) }) s

/-- Send the next record while the ring space that is not credited, or not acknowledged, stays below the ring's size
(14, R344): its payload before its header. -/
def mirrorSend (s : State) : Option State :=
  match s.store.outQ with
  | [] => none
  | r :: rest =>
    let n := s.fab.ringBytes
    let at_ := s.fab.mirrorAt
    let skip := if at_ + r.size > n then n - at_ else 0
    let open_ := (s.store.unacked.map Prod.snd).sum
    if s.mirrorDown || decide (s.fab.credit ≤ skip + r.size) || decide (open_ + skip + r.size ≥ n) then none
    else
      let s := if skip = 0 then s else
        ringWrites r.dst at_ (wordBytes [2 ^ 64 - 1, 0, 0, 0, 0, 0, 0, 0]) s
      let off := if skip = 0 then at_ else 0
      let s := ringWrites r.dst (off + 64) r.payload s
      let s := ringWrites r.dst off (r.header s.ownId s.store.seqOut) s
      let next := off + r.size
      some { s with
        fab := { s.fab with credit := s.fab.credit - (skip + r.size), mirrorAt := if next = n then 0 else next }
        store := { s.store with outQ := rest, seqOut := s.store.seqOut + 1 } }

/-- Send records while there is room. -/
def mirrorSends : Nat → State → State
  | 0, s => s
  | n + 1, s =>
    match mirrorSend s with
    | some s => mirrorSends n s
    | none => s

/-- The region entries of a generation as bytes (Table 18-4). -/
def regionBytes (rs : List (Nat × Nat)) : List Byte := wordBytes (rs.flatMap fun r => [r.1, r.2])

/-- A granule record; the bytes of a lost sector are free (log entry 92). -/
def granRecord (g : Generation) (x : StoredGran) (dst fill : Nat) : MirrorRec :=
  let sealed := g.keyId != 0xFFFFFFFF
  let plain := (List.range granBytes).map fun i =>
    if x.lost.contains (i / 256) then Config.scratchByte fill i else kvGet 0 i x.cells
  { typ := 2, gen := g.id, parent := g.parent, arg := x.addr, sealed := sealed, dst := dst
    payload := if sealed then sealedBytes g x else plain }

/-- The records of a generation: BEGIN, its granules, COMMIT. -/
def genRecords (g : Generation) (xs : List (Generation × StoredGran)) (dst fill : Nat) : List MirrorRec :=
  let sealed := g.keyId != 0xFFFFFFFF
  { typ := 1, gen := g.id, parent := g.parent, sealed := sealed, dst := dst, payload := g.record ++ regionBytes g.regions } ::
  xs.map (fun x => granRecord x.1 x.2 dst fill) ++
  [{ typ := 3, gen := g.id, parent := g.parent, sealed := sealed, dst := dst }]

/-- The next own generation that waits to be mirrored begins, in commit order; then records go out as far as credit
allows. -/
def mirrorPump (s : State) : State :=
  if s.mirrorDown then s
  else
    let s :=
      match s.fab.buddy, s.store.mirroring,
        s.store.gens.find? fun g => g.mirror == 1 && !g.foreign && !s.store.mirrorHalt with
      | some b, none, some g =>
        let (x, s) := draw s
        setStore (fun st => { st with
          mirroring := some g.id, outQ := st.outQ ++ genRecords g (g.grans.map fun y => (g, y)) b x }) s
      | _, _, _ => s
    mirrorSends s.store.outQ.length s

/-- Set the mirror mark of a generation. -/
def setMirror (id v : Nat) (s : State) : State :=
  setStore (fun x => { x with gens := x.gens.map fun g => if g.id = id then { g with mirror := v } else g }) s

/-- The mirror may begin again, with the generation that was abandoned (R441). -/
def mirrorAgain (s : State) : State := mirrorPump (setStore (fun x => { x with mirrorHalt := false }) s)

/-- The mirror is abandoned at this end (R441): what is on its way out and in is dropped; it starts again later. -/
def mirrorAbandon (cause : Nat) (s : State) : State :=
  let out := s.store.mirroring
  let inc := s.store.incoming.map Generation.id
  let s := setStore (fun x => { x with mirroring := none, outQ := [], incoming := none, mirrorHalt := x.mirrorHalt || out.isSome }) s
  let s := match out with | some g => post Ev.mirrorFailed [g, cause] s | none => s
  match inc with | some g => post Ev.mirrorFailed [g, cause] s | none => s

/-- The buddy is lost: the mirror is abandoned, and a restore from it ends (R441, R442). -/
def mirrorLost (s : State) : State :=
  let s := mirrorAbandon 0 s
  match s.store.restore with
  | some r => if r.buddy then restoreEnd St.ckptBuddyLost s else s
  | none => s

/-- An acknowledgement of a mirror WRITE: its bytes are counted (14, Table 14-8). -/
def mirrorAck (addr status : Nat) (s : State) : State :=
  match s.store.unacked.find? fun p => p.1 == addr with
  | none => s
  | some p =>
    let s := setStore (fun x => { x with unacked := x.unacked.erase p }) s
    if status = 0 then count .mirrorBytes 0 p.2 s else s

/-- CHECKPOINT_COMMIT (R434): once every granule is programmed, the commit record is; the generation exists and becomes
the base. -/
def execCheckpointCommit (s : State) : Host.Outcome State Fault Refusal :=
  match s.store.write with
  | none => finish s
  | some w =>
    if !w.captured || !w.todo.isEmpty || !w.staged.isEmpty then finish s
    else
      let g := { w.gen with tCommit := s.now }
      let s := setStore (fun x => { x with gens := x.gens ++ [g], base := g.id, write := none }) s
      let s := post Ev.checkpointCommitted [g.id, g.bytes, s.cyc - w.since, w.heldNs, g.lost] s
      let s := if h : w.mbx < 16 then mbxComplete ⟨w.mbx, h⟩ St.ok [g.bytes] s else s
      finish (mirrorPump s)

/-! Receiving (R439, R440, R442). -/

/-- A record that breaks Table 18-5, or the region entries of a BEGIN that break Table 18-4: a reserved bit or type, or a
length that is none of its type's. -/
def recordBad (w : List Nat) (pb : List Byte) : Bool :=
  let q := fun (i hi lo : Nat) => bits (w.getD i 0) hi lo
  let typ := q 0 7 0
  let len := q 2 63 32
  q 0 21 8 != 0 || q 1 31 0 != 0 || q 2 31 1 != 0 || q 5 63 52 != 0 || q 6 63 0 != 0 || q 7 63 0 != 0 ||
  typ == 0 || decide (typ > 6) || (typ != 4 && typ != 2 && q 5 51 0 != 0) ||
  (match typ with
   | 1 => decide (len ≠ 64 + 16 * bits ((bytesWords (pb.take 64)).getD 1 0) 31 0) ||
       (manifestRegions (bytesWords (pb.drop 64))).any fun r => !r.2.2
   | 2 => decide (len ≠ if bit (w.getD 2 0) 0 then 67584 else 65536)
   | _ => len != 0)

/-- The complete record at the ring's take point (R439): header words, payload, and the state with it taken. A skip
marker leads to the ring's base. -/
def ringNext (s : State) : Option (List Nat × List Byte × State) :=
  let n := s.fab.ringBytes
  if n = 0 ∨ s.fab.buddy.isNone then none
  else
    let off := s.fab.drainAt
    let skip := if s.mem.word (s.fab.ringBase + off) 8 = 2 ^ 64 - 1 then n - off else 0
    let off := if skip = 0 then off else 0
    let (_, hb, s) := devRead (s.fab.ringBase + off) 64 s
    let w := bytesWords hb
    let len := bits (w.getD 2 0) 63 32
    if bits (w.getD 0 0) 63 32 ≠ 0x4D42575A ∨ bits (w.getD 1 0) 63 32 ≠ s.store.seqIn % 2 ^ 32 ∨ off + 64 + len > n then none
    else
      let (_, pb, s) := devRead (s.fab.ringBase + off + 64) len s
      let size := alignUp (64 + len) 64
      let next := off + size
      some (w, pb, { s with
        fab := { s.fab with drainAt := if next = n then 0 else next }
        store := { s.store with seqIn := s.store.seqIn + 1, freed := s.store.freed + skip + size } })

/-- The next record, where it is a sound one of a type. -/
def ringTake (typ : Nat) (s : State) : Option (List Nat × List Byte × State) :=
  match ringNext s with
  | some (w, pb, s) => if bits (w.getD 0 0) 7 0 = typ ∧ !recordBad w pb then some (w, pb, s) else none
  | none => none

/-- A record that breaks its table is taken from the ring and nothing of it is done (00, R16; log entry 92). -/
def ringDrop (s : State) : State :=
  match ringNext s with
  | some (w, pb, s') => if recordBad w pb then s' else s
  | none => s

/-- Header fields. -/
def mrModule (w : List Nat) : Nat := bits (w.getD 0 0) 31 22
def mrGen (w : List Nat) : Nat := w.getD 3 0
def mrParent (w : List Nat) : Nat := w.getD 4 0
def mrArg (w : List Nat) : Nat := bits (w.getD 5 0) 51 0
def mrSealed (w : List Nat) : Bool := bit (w.getD 2 0) 0

/-- The generation that a BEGIN describes. -/
def beginGen (w : List Nat) (pb : List Byte) : Generation :=
  let r := bytesWords (pb.take 64)
  let rs := manifestRegions (bytesWords (pb.drop 64))
  { id := mrGen w, parent := mrParent w, regions := rs.map fun x => (x.1, x.2.1), keyId := bits (r.getD 1 0) 63 32
    source := bits (r.getD 0 0) 63 54, foreign := true, sealed := mrSealed w, depth := bits (r.getD 0 0) 47 32
    step := r.getD 5 0, tCapture := r.getD 4 0 }

/-- The restore from the buddy that waits for records. -/
def State.buddyRestore (s : State) : Option CkptRestore :=
  match s.store.restore with
  | some r => if r.buddy then some r else none
  | none => none

/-- That restore, where a record of generation `g` is of its answer. A generation that the buddy mirrors meanwhile has
records of its own (R440, R442). -/
def State.restoreOf (g : Nat) (s : State) : Option CkptRestore := s.buddyRestore.filter fun r => r.gen == g

/-- That restore, where a granule of generation `g` is of its answer, which names the generations of the chain. -/
def State.restoreGranOf (g : Nat) (s : State) : Option CkptRestore :=
  s.buddyRestore.filter fun _ => !s.store.incoming.any fun x => x.id == g

/-- Queue a record and send what can be sent. -/
def mirrorPost (r : MirrorRec) (s : State) : State :=
  mirrorPump (setStore (fun x => { x with outQ := x.outQ ++ [r] }) s)

/-- MIRROR_BEGIN_RECEIVED (R440, R442). -/
def execMirrorBeginReceived (s : State) : Host.Outcome State Fault Refusal :=
  match ringTake 1 s with
  | none => finish (ringDrop s)
  | some (w, pb, s) =>
    let g := beginGen w pb
    match s.restoreOf g.id with
    | some r =>
      if r.head.isNone then
        if !s.mayRead g then finish (restoreEnd St.ckptKeyMismatch s)
        else if g.regions.map Prod.snd ≠ r.regions.map Prod.snd then finish (restoreEnd St.ckptManifestMismatch s)
        else finish (setStore (fun x => { x with restore := some { r with head := some g } }) s)
      else finish s
    | none =>
      let bytes := (bytesWords (pb.take 64)).getD 7 0
      let cause : Option Nat :=
        if s.fab.buddy ≠ some (mrModule w) then some 3
        else if s.store.gens.any fun x => x.id == g.id then some 4
        else if g.parent ≠ 0 ∧ !(s.store.gens.any fun x => x.id == g.parent) then some 5
        else if s.store.failed ∨ bytes > s.store.free then some 6 else none
      match cause with
      | some c => finish (mirrorPost { typ := 4, gen := g.id, parent := g.parent, arg := c, dst := mrModule w } s)
      | none => finish (setStore (fun x => { x with incoming := some g }) s)

/-- The destination of a granule of a buddy restore. -/
def CkptRestore.dest (r : CkptRestore) (h : Generation) (a : Nat) : Option Nat :=
  (List.zip h.regions r.regions).findSome? fun p =>
    if p.1.1 ≤ a ∧ a < p.1.1 + p.1.2 * granBytes then some (p.2.1 + (a - p.1.1)) else none

/-- MIRROR_GRANULE_RECEIVED (R440, R442): a granule goes into the foreign generation, or is restored. -/
def execMirrorGranuleReceived (s : State) : Host.Outcome State Fault Refusal :=
  match ringTake 2 s with
  | none => finish (ringDrop s)
  | some (w, pb, s) =>
    let cells := ((List.range granBytes).zip pb).filter fun c => c.2 != 0
    let x : StoredGran := if mrSealed w then { addr := mrArg w, cells := [], sealed := pb } else { addr := mrArg w, cells := cells }
    match s.restoreGranOf (mrGen w) with
    | some r =>
      match r.head with
      | none => finish s
      | some h =>
        match r.dest h x.addr with
        | none => finish s
        | some dst =>
          let g := { h with id := mrGen w, sealed := mrSealed w }
          let (bs, bad) := unsealGran g x (s.storageKey h.keyId)
          let s := restoreGran bs bad dst s
          let r := { r with written := r.written + granBytes, lost := r.lost || !bad.isEmpty }
          finish (setProgress r.mbx r.written (setStore (fun x => { x with restore := some r }) s))
    | none =>
      match s.store.incoming with
      | none => finish s
      | some g =>
        if g.id ≠ mrGen w then finish s
        else finish (programmed granBytes [] (setStore (fun st => { st with
          incoming := some { g with grans := g.grans ++ [x] } }) s))

/-- MIRROR_COMMIT_RECEIVED (R440, R442). -/
def execMirrorCommitReceived (s : State) : Host.Outcome State Fault Refusal :=
  match ringTake 3 s with
  | none => finish (ringDrop s)
  | some (w, _, s) =>
    match s.restoreOf (mrGen w) with
    | some r =>
      if r.head.isSome then finish (restoreEnd (if r.lost then St.ckptDataLost else 0) s) else finish s
    | none =>
      match s.store.incoming with
      | none => finish s
      | some g =>
        if g.id ≠ mrGen w then finish s
        else
          let g := { g with tCommit := s.now }
          let s := setStore (fun x => { x with gens := x.gens ++ [g], incoming := none }) s
          let s := post Ev.mirrorReceived [g.id, mrModule w] s
          finish (mirrorPost { typ := 5, gen := g.id, parent := g.parent, dst := mrModule w } s)

/-- The refusal that the cause of an ABORT names, for a restore from the buddy (R442; log entry 92). -/
def abortStatus (cause : Nat) : Nat :=
  match cause with
  | 3 => St.ckptNoBuddy
  | 4 => St.ckptIdInUse
  | 5 => St.ckptNoParent
  | 6 => St.ckptNoSpace
  | _ => St.ckptNotFound

/-- MIRROR_ABORT_RECEIVED (R440–R442). -/
def execMirrorAbortReceived (s : State) : Host.Outcome State Fault Refusal :=
  match ringTake 4 s with
  | none => finish (ringDrop s)
  | some (w, _, s) =>
    match s.restoreOf (mrGen w) with
    | some _ => finish (restoreEnd (abortStatus (mrArg w)) s)
    | none =>
      if s.store.mirroring = some (mrGen w) then
        let s := setStore (fun x => { x with
          mirroring := none, outQ := x.outQ.filter fun r => r.typ != 2 && r.typ != 3 }) (setMirror (mrGen w) 3 s)
        finish (mirrorPump (post Ev.mirrorFailed [mrGen w, mrArg w] s))
      else if s.store.incoming.any fun g => g.id == mrGen w then
        finish (post Ev.mirrorFailed [mrGen w, mrArg w] (setStore (fun x => { x with incoming := none }) s))
      else finish s

/-- MIRROR_DONE_RECEIVED (R440). -/
def execMirrorDoneReceived (s : State) : Host.Outcome State Fault Refusal :=
  match ringTake 5 s with
  | none => finish (ringDrop s)
  | some (w, _, s) =>
    if s.store.mirroring = some (mrGen w) then
      let s := setStore (fun x => { x with mirroring := none }) (setMirror (mrGen w) 2 s)
      finish (mirrorPump (post Ev.mirrorDone [mrGen w, s.fab.buddy.getD 0] s))
    else finish s

/-- RESTORE_REQ_RECEIVED (R442): the records of the generation's resolved chain, or ABORT. -/
def execRestoreReqReceived (s : State) : Host.Outcome State Fault Refusal :=
  match ringTake 6 s with
  | none => finish (ringDrop s)
  | some (w, _, s) =>
    let own := mrModule w
    match s.store.gens.find? fun g => g.id == mrGen w with
    | none =>
      let (x, s) := draw s
      finish (mirrorPost { typ := 4, gen := mrGen w, arg := x % 3, dst := own } s)
    | some g =>
      if s.fab.buddy ≠ some own ∨ g.source ≠ own then
        finish (mirrorPost { typ := 4, gen := g.id, parent := g.parent, arg := 3, dst := own } s)
      else
        let (x, s) := draw s
        let chain := s.store.chainOf g.id
        let xs := (regionGrans g.regions).filterMap (resolve chain)
        finish (mirrorPump (setStore (fun st => { st with outQ := st.outQ ++ genRecords g xs own x }) s))

/-- MIRROR_RING_DRAINED (14, R344; R439): space taken from the ring is returned in whole 64 KiB units. -/
def execMirrorRingDrained (s : State) : Host.Outcome State Fault Refusal :=
  match s.fab.buddy with
  | none => finish s
  | some b =>
    let n := s.store.freed / 65536
    if n = 0 then finish s
    else finish (sendPkts [mgmtPkt b [4 * 2 ^ 56 + n, 0, 0] s]
      (setStore (fun x => { x with freed := x.freed - n * 65536 }) s))

/-- RESTORE_CHECKPOINT with source 1 (R442). -/
def execRestoreCheckpointBuddy (m : Fin 16) (s : State) : Host.Outcome State Fault Refusal :=
  mbxCommand 0x0802 (fun a => bit (a.n 0) 0) m (fun a s =>
    readManifest (a.n 1) false s fun _ rs s =>
      if s.store.failed then .done St.ckptStoreFailed [] s
      else
        match s.fab.buddy with
        | none => .done St.ckptNoBuddy [] s
        | some b =>
          if s.mirrorDown then .done St.ckptBuddyLost [] s
          else
            let job : CkptRestore := { mbx := m.val, gen := a.n 2, regions := rs, buddy := true }
            .run (mirrorPost { typ := 6, gen := a.n 2, dst := b } (setStore (fun x => { x with restore := some job }) s))) s

/-- What a COMPUTE reset or a tenant scrub ends (R450): the mailboxes are completed by their own rules. -/
def storeReset (s : State) : State :=
  mirrorAbandon 2 (setStore (fun x => { x with restore := none }) (ckptDrop s))

end Sys2Proof.Machine
end

