-- ==== Sys2Proof/Machine/Movers.lean ====
section
/-!
DEFINITION. Index-driven moves and transfers (06, R153–R161; 07, R176, R177), and the answers of other modules to the
requests of tasks (05, R136–R138, R142; 13, R318–R320).
-/

namespace Sys2Proof.Machine

/-! The unit queue of a cluster's coelostats (05, R127; 06, R147). -/

/-- What a unit takes next: a task, or the parts of the stash copy of a slot. -/
inductive UnitPick
  | task (t : Nat) (k : Task)
  | copy (slot : Nat)
deriving DecidableEq, Repr

/-- The stash copies whose parts run on the coelostats of a cluster, and those that wait in its unit queue, as tasks of the
copy stream (08, R201). -/
def State.copiesOn (s : State) (c : Nat) : Nat := s.copies.countP fun p => p.2.run == some c
def State.copyTasks (s : State) (c : Nat) : List (Nat × Task) :=
  (s.copies.filter fun p => p.2.run.isNone && s.copyAt p.2 == some c).map fun p =>
    (s.mer.nextTask + p.1, { desc := [7 * 2 ^ 60], queue := 0, stream := 0, cls := s.copyClass, age := p.2.age, loc := c })

/-- A started unit task whose read is held and whose repair has ended, or what is taken next: of the tasks that wait, and
of the stash copies at a coelostat queue, while fewer than `cap` places are held and the cluster can be scheduled (R133).
The four parts of a stash copy start together (log entry 119). -/
def State.unitPick (s : State) (c : Nat) (unit : Nat) (tys : List Nat) (cap : Nat) : Option UnitPick :=
  if s.inCompute then none
  else
    let mine := s.tasksWhere fun k => tys.contains k.desc.type && ({ k with charged := 0 } : Task).unitNo == unit && k.loc == c
    let held := mine.filter fun p => p.2.phase == .running &&
      (match p.2.heldBy with | some g => (s.heldPage g 1).isNone | none => false)
    match held.head? with
    | some p => some (.task p.1 p.2)
    | none =>
      let coel := tys.contains 7
      let used := (mine.countP fun p => p.2.busy) + if coel then 4 * s.copiesOn c else 0
      let copies := if coel && decide (used + 4 ≤ cap) then s.copyTasks c else []
      if used ≥ cap || !s.clusterUp c then none
      else (s.unitChoose unit ((mine.filter fun p => p.2.phase == .admitted) ++ copies)).map fun p =>
        if p.1 < s.mer.nextTask then .task p.1 p.2 else .copy (p.1 - s.mer.nextTask)

/-- The parts of a stash copy start on the coelostats of a cluster. -/
def startCopy (slot c : Nat) (s : State) : State :=
  setEntry slot (fun e => { e with copy := e.copy.map fun x => { x with run := some c, charged := s.now } }) s

/-- The coelostat of a cluster that takes a unit task: the lowest with a free place of its two (06, R146, R147). -/
def State.freeCoel (s : State) (c : Nat) : Nat :=
  ((List.range 4).find? fun q => decide (s.copiesOn c + (s.mer.tasks.countP fun p =>
    [3, 4, 7].contains p.2.desc.type && p.2.loc == c && p.2.coel == q && p.2.busy) < 2)).getD 0

/-- A unit task starts, unless it had. -/
def startUnit (t : Nat) (s : State) : State :=
  match s.task t with
  | none => s
  | some k =>
    if k.phase = .admitted then startTask t (setTask t (fun k => { k with coel := s.freeCoel k.loc }) s)
    else setTask t (fun k => { k with heldBy := none }) s

/-! GATHER and SCATTER. -/

/-- The runs of a unit: at table value or local position `v`, on the side of operand word `w`. -/
def Desc.unitRuns (d : Desc) (w v : Nat) : List (Nat × Nat) :=
  let es := esizeOf (d.fmt w)
  let bb := bbytesOf (d.fmt w)
  let stride := if w = 3 then d.gstride else ceilDiv d.glen 32
  match d.gunit with
  | 0 => [(d.addr w + v * bb, bb)]
  | 1 => (List.range (ceilDiv d.glen 32)).map fun j =>
    (d.addr w + (v / 32 * stride + j) * bb + 32 * (v % 32) * es, Nat.min 32 (d.glen - 32 * j) * es)
  | _ => [(d.addr w + v * d.glen * es, d.glen * es)]

/-- Elements of a unit. -/
def Desc.unitLen (d : Desc) : Nat := if d.gunit = 0 then 1024 else d.glen

/-- A move in progress: counts, the page that holds it, and the read that met it. -/
structure Moving where
  s : State
  moved : Nat := 0
  oob : Nat := 0
  sat : Nat := 0
  flush : Nat := 0
  nan : Nat := 0
  held : Option Nat := none
  again : List (Nat × Nat) := []

/-- Count the flags of converted elements (R57, R156). -/
def Moving.tally (m : Moving) (xs : List (Nat × Flags)) : Moving :=
  { m with
    sat := m.sat + xs.countP fun x => x.2.sat
    flush := m.flush + xs.countP fun x => x.2.flush
    nan := m.nan + xs.countP fun x => x.2.nan }

/-- Read runs for a task: zeros once poison is met. -/
def Moving.read (m : Moving) (t die : Nat) (fd : Bool) (runs : List (Nat × Nat)) : List Byte × Moving :=
  let n := (runs.map Prod.snd).sum
  let (g, s) := taskReads die runs m.s
  let s := if fd then count .finderReads die (finderReqs runs) s else s
  match g with
  | .held page => ([], { m with s := s, held := some page, again := runs })
  | .poison a => (List.replicate n 0, { m with s := taskPoison t a s })
  | .ok bs => (bs, { m with s := s })

/-- Write runs for a task. -/
def Moving.write (m : Moving) (t die : Nat) (fd : Bool) (runs : List (Nat × Nat)) (bs : List Byte) : Moving :=
  let s := (runs.foldl (fun (p : List Byte × State) r =>
    (p.1.drop r.2, taskWrite t r.1 (p.1.take r.2) p.2)) (bs, m.s)).2
  { m with s := if fd then count .finderWrites die (finderReqs runs) s else s }

/-- One element from the format of word `a` to that of word `b` (R38, R102, Table 2-4): equal formats copy the
pattern, U16 widens to U32. -/
def Desc.moveEl (d : Desc) (r : Rnd) (a b x : Nat) : Nat × Flags :=
  if d.fmt a = d.fmt b then (x, {})
  else
    match ffmtOf (d.fmt a), ffmtOf (d.fmt b) with
    | some fa, some fb => fconv fa fb r (d.b 7 59) x
    | _, _ => (x, {})

/-- Local element `y` added to table element `x` (R102): the exact sum rounded once into the table's format. -/
def Desc.addEl (d : Desc) (r : Rnd) (x y : Nat) : Nat × Flags :=
  match ffmtOf (d.fmt 3), ffmtOf (d.fmt 4) with
  | some ft, some fl =>
    let (vx, ax) := fdecode ft x
    let (vy, ay) := fdecode fl y
    let (z, az) := fenc ft r (d.b 7 59) (fvAdd vx vy)
    (z, (ax.or ay).or az)
  | _, _ => (x, {})

/-- The rounding of element `e` of unit `n` (09, R220, Table 9-6). -/
def Desc.unitRnd (d : Desc) (g : RngCtx) (n e : Nat) : Rnd := g.rnd (d.f 7 61 60) ((n * d.unitLen + e) % 2 ^ 30)

/-- The padding of a ROW unit's last block column, written +0 (R62, R153). -/
def gatherPad (t die n : Nat) (d : Desc) (m : Moving) : Moving :=
  let es := esizeOf (d.fmt 4)
  if d.gunit = 1 ∧ d.glen % 32 ≠ 0 then
    match (d.unitRuns 4 n).getLast? with
    | some (a, b) => m.write t die false [(a + b, 32 * es - b)] (List.replicate (32 * es - b) 0)
    | none => m
  else m

/-- One unit of a GATHER (R153, R155). -/
def gatherUnit (t die : Nat) (g : RngCtx) (d : Desc) (n v : Nat) (m : Moving) : Moving :=
  let out := d.unitRuns 4 n
  let len := (out.map Prod.snd).sum
  if m.held.isSome then m
  else if v ≥ d.extent then gatherPad t die n d ({ m with oob := m.oob + 1 }.write t die d.finder out (List.replicate len 0))
  else
    let (bs, m) := m.read t die d.finder (d.unitRuns 3 v)
    if m.held.isSome then m
    else
      let xs := patterns (esizeOf (d.fmt 3)) d.unitLen bs
      let ys := (List.range xs.length).zipWith (fun e x => d.moveEl (d.unitRnd g n e) 3 4 x) xs
      let m := { m with moved := m.moved + 1 }.tally ys
      gatherPad t die n d (m.write t die d.finder out (patBytes (esizeOf (d.fmt 4)) (ys.map Prod.fst)))

/-- One unit of a SCATTER (R153, R155, R156). -/
def scatterUnit (t die : Nat) (g : RngCtx) (d : Desc) (n v : Nat) (m : Moving) : Moving :=
  if m.held.isSome then m
  else if v ≥ d.extent then { m with oob := m.oob + 1 }
  else
    let out := d.unitRuns 3 v
    let (bs, m) := m.read t die d.finder (d.unitRuns 4 n)
    let ys := patterns (esizeOf (d.fmt 4)) d.unitLen bs
    let add := d.f 7 63 62 = 1
    let (old, m) := if add ∧ m.held.isNone then m.read t die d.finder out else ([], m)
    if m.held.isSome then m
    else
      let xs := patterns (esizeOf (d.fmt 3)) d.unitLen old
      let zs := (List.range ys.length).zipWith (fun e y =>
        if add then d.addEl (d.unitRnd g n e) (xs.getD e 0) y else d.moveEl (d.unitRnd g n e) 4 3 y) ys
      let m := { m with moved := m.moved + 1 }.tally zs
      m.write t die d.finder out (patBytes (esizeOf (d.fmt 3)) (zs.map Prod.fst))

/-- The units of one 4,096-byte piece of the index stream (R154; log entry 69). -/
def movePiece (t die : Nat) (g : RngCtx) (d : Desc) (m : Moving) (j : Nat) : Moving :=
  if m.held.isSome then m
  else
    let es := esizeOf (d.fmt 2)
    let per := 4096 / es
    let cnt := Nat.min per (d.gcount - j * per)
    let m := { m with s := sramReads (d.addr 2 + j * 4096) (cnt * es) m.s }
    let before := m.s.firstPoison (d.addr 2 + j * 4096) (cnt * es)
    let (bs, m) := m.read t die false [(d.addr 2 + j * 4096, cnt * es)]
    if m.held.isSome then m
    else if before.isSome then
      if d.type = 3 then
        (List.range cnt).foldl (fun m i =>
          let out := d.unitRuns 4 (j * per + i)
          m.write t die d.finder out (List.replicate (out.map Prod.snd).sum 0)) m
      else m
    else
      ((List.range cnt).zip (patterns es cnt bs)).foldl (fun m p =>
        let v := (p.2 + 2 ^ 32 - d.f 6 31 0) % 2 ^ 32
        (if d.type = 3 then gatherUnit else scatterUnit) t die g d (j * per + p.1) v m) m

/-- The padding rows of a GATHER's local tensor (R62, R153). -/
def gatherRows (t die : Nat) (d : Desc) (m : Moving) : Moving :=
  let es := esizeOf (d.fmt 4)
  let k := d.gcount % 32
  if m.held.isNone ∧ d.type = 3 ∧ d.gunit = 1 ∧ k ≠ 0 then
    (List.range (ceilDiv d.glen 32)).foldl (fun m j =>
      let a := d.addr 4 + (d.gcount / 32 * ceilDiv d.glen 32 + j) * bbytesOf (d.fmt 4) + 32 * k * es
      let n := 32 * (32 - k) * es
      m.write t die false [(a, n)] (List.replicate n 0)) m
  else m

/-- A unit task whose read is held waits for the repair that this read meets or starts; it then runs from its start, so of
its move nothing but that read is done yet (17, R418). -/
def waitRepair (t die page : Nat) (m : Moving) (s : State) : State :=
  setTask t (fun k => { k with heldBy := some page }) (taskReads die m.again s).2

/-- A GATHER or SCATTER of cluster `c` (R102, R153–R157). -/
def moveTask (c ty : Nat) (s : State) : State :=
  let s := chargeAll s
  match s.unitPick c c [3, 4, 7] 8 with
  | none => s
  | some (.copy slot) => startCopy slot c s
  | some (.task t k) =>
    let d := k.desc
    if d.type ≠ ty then s
    else
      let s := startUnit t s
      match s.task t with
      | none => s
      | some k =>
        let pieces := ceilDiv d.gcount (4096 / Nat.max 1 (esizeOf (d.fmt 2)))
        let m := gatherRows t (c / 16) d
          ((List.range pieces).foldl (movePiece t (c / 16) (s.rng k) d) { s := s })
        match m.held with
        | some page => waitRepair t (c / 16) page m s
        | none =>
          let out := if ty = 3 then d.unitLen * esizeOf (d.fmt 4) else d.unitLen * esizeOf (d.fmt 3)
          let cap := fun (x : Nat) => Nat.min x 0xFFFFFFFF
          let s := count .unitBytes c (m.moved * out) (count .oob c m.oob m.s)
          setTask t (fun k => { k with
            phase := .finished, sat := cap m.sat, flush := cap m.flush, nan := cap m.nan
            result := m.moved * 2 ^ 40 + m.oob * 2 ^ 16 + b2n d.finder }) s

/-- GATHER_TASK. -/
def execGatherTask (c : Fin 32) (s : State) : Host.Outcome State Fault Refusal := finish (moveTask c.val 3 s)

/-- SCATTER_TASK. -/
def execScatterTask (c : Fin 32) (s : State) : Host.Outcome State Fault Refusal := finish (moveTask c.val 4 s)

/-! TRANSFER (R159; 07, R176, R177). -/

/-- The pieces of `n` bytes from `a` that cross no 2 KiB boundary: offset and bytes. -/
def pagesOf : Nat → Nat → Nat → Nat → List (Nat × Nat)
  | 0, _, _, _ => []
  | fuel + 1, a, o, n =>
    if n = 0 then []
    else
      let k := Nat.min n (2048 - a % 2048)
      (o, k) :: pagesOf fuel (a + k) (o + k) (n - k)

/-- The pieces of a range. -/
def pages (a n : Nat) : List (Nat × Nat) := pagesOf (n / 2048 + 2) a 0 n

/-- A TRANSFER's length in bytes. -/
def Desc.tbytes (d : Desc) : Nat := 64 * d.f 5 63 32

/-- R159: a short TRANSFER with both ends here goes by Finder. -/
def State.tfinder (s : State) (d : Desc) : Bool :=
  decide (d.f 5 63 32 ≤ 4) && !s.remote (d.f 2 63 0) && !s.remote (d.f 3 63 0)

/-- Bytes of a TRANSFER have been moved: the result word counts them in units of 64 (R159). -/
def movedUnits (t n : Nat) (s : State) : State :=
  setTask t (fun k => if k.poisoned then k else { k with result := k.result + n / 64 * 2 ^ 32 }) s

/-- A copy within the module and the host window. -/
def transferLocal (t die : Nat) (d : Desc) (s : State) : Moving :=
  let fd := s.tfinder d
  let src := gaAddr (d.f 2 63 0)
  let dst := gaAddr (d.f 3 63 0)
  (pages dst d.tbytes).foldl (fun (m : Moving) p =>
    if m.held.isSome then m
    else
      let (bs, m) := m.read t die fd [(src + p.1, p.2)]
      if m.held.isSome then m
      else
        let m := m.write t die fd [(dst + p.1, p.2)] bs
        { m with s := movedUnits t p.2 m.s }) { s := s }

/-- A write to another module: WRITEs of whole lines, none of data that is poisoned. -/
def transferOut (t die tk : Nat) (ack : Bool) (d : Desc) (s : State) : Moving :=
  let src := gaAddr (d.f 2 63 0)
  let ga := d.f 3 63 0
  (pages (gaAddr ga) d.tbytes).foldl (fun (m : Moving) p =>
    if m.held.isSome then m
    else
      let (bs, m) := m.read t die false [(src + p.1, p.2)]
      let bad := match m.s.task t with | some k => k.poisoned | none => true
      if m.held.isSome || bad then m
      else { m with
        moved := m.moved + 1
        s := sendPkts [{ pkt := { typ := .write, det := false, ack := ack, dst := gaModule ga, src := m.s.ownId
                                  addr := gaAddr ga + p.1, token := tk % 4096, tdie := tk / 4096, data := bs }
                         die := die, task := some t }] (if ack then m.s else movedUnits t p.2 m.s) }) { s := s }

/-- A read from another module: READ_REQs of at most a page. -/
def transferIn (t die tk : Nat) (d : Desc) (s : State) : State :=
  let ga := d.f 2 63 0
  let ps := pages (gaAddr ga) d.tbytes
  let s := sendPkts (ps.map fun p =>
    { pkt := { typ := .readReq, det := false, dst := gaModule ga, src := s.ownId, addr := gaAddr ga + p.1
               token := tk % 4096, tdie := tk / 4096, lenM1 := p.2 - 1 }
      die := die, task := some t }) s
  setTask t (fun k => { k with phase := .parked, remaining := ps.length, ackWait := true, prog := s.cyc }) s

/-- Reads that wait are sent while fewer than 1,024 are outstanding (15, Table 15-1), each under the lowest free number. -/
def issueReads : Nat → State → State
  | 0, s => s
  | n + 1, s =>
    match s.host.readQ with
    | [] => s
    | r :: q =>
      match (List.range 1024).find? fun i => !kvHas i s.host.reads with
      | none => s
      | some i => issueReads n { s with host := { s.host with
          reads := kvSet i { r with since := s.cyc } s.host.reads, readQ := q } }

/-- The Max Read Request Size that the host has set, 128 to 4,096 bytes; 512 before it is written, as PCIe resets it
(15, Table 15-1; log entry 97). -/
def State.readSize (s : State) : Nat :=
  match kvFind 4096 s.host.cfg with
  | some v => 128 * 2 ^ Nat.min (bits v.toNat 14 12) 5
  | none => 512

/-- The parts of a range between the multiples of `m`: offset and length of each. -/
def cuts (m a n : Nat) : List (Nat × Nat) :=
  (List.range (ceilDiv (a % m + n) m)).map fun i =>
    let lo := Nat.max (i * m) (a % m)
    (lo - a % m, Nat.min ((i + 1) * m) (a % m + n) - lo)

/-- The reads of a TRANSFER from the host window, none longer than the Max Read Request Size: each waits for its
completion (15, R347, R350). -/
def transferHost (t : Nat) (parks : Bool) (d : Desc) (s : State) : State :=
  let src := gaAddr (d.f 2 63 0)
  let ga := d.f 3 63 0
  let ps := pages (gaAddr ga) d.tbytes
  let rs := ps.flatMap fun p => (cuts s.readSize (src + p.1) p.2).map fun c =>
    (⟨t, src + p.1 + c.1, c.2, ga + p.1 + c.1, 0⟩ : HostRead)
  let acks := if parks then ps.length else 0
  let s := { s with host := { s.host with readQ := s.host.readQ ++ rs } }
  issueReads rs.length (setTask t (fun k => { k with
    phase := if parks then .parked else .running, remaining := rs.length + acks, ackWait := false, prog := 0 }) s)

/-- Does a TRANSFER need a park token (R136; log entry 70)? -/
def State.needsToken (s : State) (d : Desc) : Bool :=
  s.remote (d.f 2 63 0) || (s.remote (d.f 3 63 0) && d.b 5 31)

/-- Count a TRANSFER's bytes. -/
def transferCount (c : Nat) (d : Desc) (s : State) : State :=
  let s := count .unitBytes c d.tbytes s
  if d.b 5 30 then count .prefetchBytes (c / 16) d.tbytes s else s

/-- TRANSFER_TASK (R159): a stash copy is a TRANSFER too (08, R201). -/
def execTransferTask (c : Fin 32) (s : State) : Host.Outcome State Fault Refusal :=
  let s := chargeAll s
  let c := c.val
  let die := c / 16
  let blocked := s.tasksWhere fun k => k.desc.type == 7 && k.loc == c && k.phase == .admitted && s.needsToken k.desc
  let blocked := if (s.freeToken die).isSome then [] else blocked
  let s := blocked.foldl (fun s p => waitToken p.1 s) s
  match s.unitPick c c [3, 4, 7] 8 with
  | none => finish s
  | some (.copy slot) => finish (startCopy slot c s)
  | some (.task t k) =>
    let d := k.desc
    if d.type ≠ 7 then finish s
    else
      let go := if s.needsToken d && k.phase == .admitted then takeToken t die (endWait t s) else some (k.token.getD 0, s)
      match go with
      | none => finish s
      | some (tk, s) =>
        let s := setTask t (fun k => { k with result := b2n (s.tfinder d) }) (startUnit t s)
        let out := s.remote (d.f 3 63 0)
        if s.remote (d.f 2 63 0) then finish (transferCount c d (transferIn t die tk d s))
        else if regionOf (gaAddr (d.f 2 63 0)) = some .hostWin then
          finish (transferCount c d (transferHost t (out && d.b 5 31) d s))
        else
          let m := if out then transferOut t die tk (d.b 5 31) d s else transferLocal t die d s
          match m.held with
          | some page => finish (waitRepair t die page m s)
          | none =>
            let s := transferCount c d m.s
            if out && d.b 5 31 && decide (m.moved > 0) then
              finish (setTask t (fun k => { k with
                phase := .parked, remaining := m.moved, ackWait := true, prog := s.cyc }) s)
            else finish (setTask t (fun k => { k with phase := .finished }) s)

/-! Answers. -/

/-- The task that holds a token. -/
def State.byToken (s : State) (k : Packet) : Option (Nat × Task) :=
  match kvFind (k.tdie * 4096 + k.token) s.mer.park with
  | none => none
  | some t => (s.task t).map fun x => (t, x)

/-- A response finds no task (R320). -/
def lateRsp (i : Nat) (s : State) : State := count .lateRsp (portDie i) 1 s

/-- An answer to a watch finds its SEM_WAIT ended (05, R143; R320). -/
def lateWatch (i : Nat) (p : Packet) (s : State) : State := count .lateArrival p.tdie 1 (lateRsp i s)

/-- The status of a task whose request was answered with an error (13, Table 13-11). -/
def rspStatus (st : Nat) : Nat := if st = 3 then Ts.addrReserved else if st = 4 then Ts.poisoned else Ts.addrDenied

/-- An error answer at a remote address: the first is the task's status. -/
def rspError (t st ga : Nat) (s : State) : State :=
  if st = 4 then taskPoison t ga s
  else setTask t (fun k => if k.status = 0 then { k with status := rspStatus st, detail := ga } else k) s

/-- One answer less is awaited; with the last, the token returns and the task's work is done (R136). -/
def answered (t : Nat) (s : State) : State :=
  match s.task t with
  | none => s
  | some k =>
    if k.remaining ≤ 1 then
      dropToken t (setTask t (fun k => { k with phase := .finished, remaining := 0, token := none }) s)
    else setTask t (fun k => { k with remaining := k.remaining - 1, ackWait := false }) s

/-- Bytes of a destination page that have come, from offset `o` on; none where some are missing. -/
def gatherPieces : Nat → List (Nat × List Byte) → Nat → Nat → Option (List Byte)
  | 0, _, _, n => if n = 0 then some [] else none
  | fuel + 1, l, o, n =>
    if n = 0 then some []
    else
      match l.find? fun p => decide (p.1 ≤ o) && decide (o < p.1 + p.2.length) with
      | none => none
      | some p =>
        let bs := (p.2.drop (o - p.1)).take n
        (gatherPieces fuel l (o + bs.length) (n - bs.length)).map (bs ++ ·)

/-- The destination pages of a TRANSFER that have come whole are put, each at once (07, R176); with its last answer also
what has come of the others. -/
def landWith (put : Nat → List Byte → State → State) (t : Nat) (last : Bool) (s : State) : State :=
  match s.task t with
  | none => s
  | some k =>
    let s := (pages (gaAddr (k.desc.f 3 63 0)) k.desc.tbytes).foldl (fun s p =>
      match s.task t with
      | none => s
      | some k =>
        match gatherPieces (k.pieces.length + 1) k.pieces p.1 p.2 with
        | none => s
        | some bs => put p.1 bs (setTask t (fun k => { k with
            pieces := k.pieces.flatMap fun x =>
              (if x.1 < p.1 then [(x.1, x.2.take (p.1 - x.1))] else []) ++
              (if p.1 + p.2 < x.1 + x.2.length then
                [(Nat.max x.1 (p.1 + p.2), x.2.drop (p.1 + p.2 - x.1))] else []) }) s)) s
    if last then
      match s.task t with
      | none => s
      | some k => k.pieces.foldl (fun s p => put p.1 p.2 s) (setTask t (fun k => { k with pieces := [] }) s)
    else s

/-- Pages that land in this module. -/
def landPieces (t : Nat) (last : Bool) (s : State) : State :=
  match s.task t with
  | none => s
  | some k => landWith (fun o bs s => taskWrite t (gaAddr (k.desc.f 3 63 0) + o) bs s) t last s

/-- Bytes at offset `o` of a TRANSFER's destination have come. -/
def addPiece (t o : Nat) (bs : List Byte) (s : State) : State :=
  if bs = [] then s else setTask t (fun k => { k with pieces := k.pieces ++ [(o, bs)] }) s

/-- A READ_RSP of a TRANSFER: its data lands at the task's destination (R136; 13, R318); none where no task waits for
it. -/
def readRsp (p : Packet) (s : State) : Option State :=
  match s.byToken p with
  | none => none
  | some (t, k) =>
    let d := k.desc
    let ga := d.f 2 63 0
    let o := p.addr - gaAddr ga
    let mine := d.type == 7 && k.phase == .parked && gaModule ga == p.src && decide (gaAddr ga ≤ p.addr ∧ o < d.tbytes)
    if !mine then none
    else
      let n := Nat.min (2048 - p.addr % 2048) (d.tbytes - o)
      let s := if p.status ≠ 0 then rspError t p.status (gaModule ga * 2 ^ 52 + p.addr) s else s
      let bs := if p.status = 0 then p.data.take n else if p.status = 4 then List.replicate n 0 else []
      let s := addPiece t o bs s
      let s := if p.status = 0 then movedUnits t n s else s
      some (answered t (landPieces t (decide (k.remaining ≤ 1)) s))

/-- WRITE_ACK_RECEIVED (13, R318, R319): the acknowledgement of a TRANSFER, or the failure of a SEM_OP. -/
def execWriteAckReceived (s : State) : Host.Outcome State Fault Refusal :=
  match takeIn (fun k => k.typ == .writeAck) s with
  | none => finish s
  | some (i, p, s) =>
    let sem := regionOf p.addr == some .sems && p.flow == 0xFD
    if p.flow = 0xFF ∧ (s.store.unacked.any fun u => u.1 == p.addr) then finish (mirrorAck p.addr p.status s)
    else match s.byToken p with
    | some (t, k) =>
      let d := k.desc
      let ga := d.f 3 63 0
      let mine := d.type = 7 ∧ k.phase = .parked ∧ s.remote ga ∧ gaModule ga = p.src ∧ gaAddr ga ≤ p.addr ∧
        p.addr - gaAddr ga < d.tbytes
      let n := Nat.min (2048 - p.addr % 2048) (d.tbytes - (p.addr - gaAddr ga))
      if mine then
        finish (answered t (if p.status = 0 then movedUnits t n s
          else rspError t p.status (gaModule ga * 2 ^ 52 + p.addr) s))
      else finish (if sem then post Ev.remoteSignalFailed [p.src, p.addr, p.status] s else lateRsp i s)
    | none => finish (if sem then post Ev.remoteSignalFailed [p.src, p.addr, p.status] s else lateRsp i s)

/-- WATCH_RSP_RECEIVED (R138, R142): registered, busy, or the count that satisfies the wait. -/
def execWatchRspReceived (s : State) : Host.Outcome State Fault Refusal :=
  match takeIn (fun k => k.typ == .watchRsp) s with
  | none => finish s
  | some (i, p, s) =>
    match s.byToken p with
    | none => finish (lateWatch i p s)
    | some (t, k) =>
      let ga := k.desc.f 2 63 0
      if !k.watchedBy p then finish (lateWatch i p s)
      else if k.expired s.now then finish (lateWatch i p (timeoutWait t s))
      else if p.status ≠ 0 then
        finish (dropToken t (setTask t (fun k => { k with phase := .finished, token := none, remaining := 0 })
          (rspError t p.status ga (cancelWatch k s))))
      else if p.op = 1 then finish (setTask t (fun k => { k with remaining := 0, result := p.operand }) s)
      else if p.op = 2 then
        finish (setTask t (fun k => { k with remaining := 0, busySince := some s.cyc, result := p.operand }) s)
      else if p.operand < k.desc.f 3 63 32 then finish s
      else finish (dropToken t (setTask t (fun k => { k with
        phase := .finished, token := none, remaining := 0, result := p.operand }) s))

/-- FABRIC_TIMEOUT (R320): no answer at all has come to a parked request. -/
def execFabricTimeout (t : Nat) (s : State) : Host.Outcome State Fault Refusal :=
  match s.task t with
  | none => finish s
  | some k =>
    let d := k.desc
    let waits := k.phase = .parked ∧
      ((d.type = 7 ∧ k.ackWait) ∨ (d.type = 9 ∧ k.token.isSome ∧ k.remaining > 0))
    if waits ∧ s.cyc ≥ k.prog + s.fab.timeoutUs * 1000 then
      let ga := if d.type = 9 ∨ s.remote (d.f 2 63 0) then d.f 2 63 0 else d.f 3 63 0
      let s := if d.type = 9 then cancelWatch k s else s
      finish (count .fabricTimeouts k.dieOf 1 (dropToken t (setTask t (fun k => { k with
        phase := .finished, status := Ts.timeout, detail := ga, token := none, remaining := 0, ackWait := false }) s)))
    else finish s

end Sys2Proof.Machine
end

