-- ==== Sys2Proof/Machine/Programs.lean ====
section
/-!
DEFINITION. Layer programs: LOAD_LAYER_PROGRAM and UNLOAD_LAYER_PROGRAM (04, R111–R113; 16, Table 16-7).
-/

namespace Sys2Proof.Machine

/-- A layer program's image. -/
structure LpImage where
  bytes : List Byte
deriving DecidableEq, Repr

/-- A field of the image: bits `hi..lo` of the little-endian number of `n` bytes at offset `o`. -/
def LpImage.f (x : LpImage) (o n hi lo : Nat) : Nat := bits (ofLE ((x.bytes.drop o).take n)) hi lo

/-- A field of the header (Table 4-13). -/
def LpImage.h (x : LpImage) (hi lo : Nat) : Nat := x.f 0 64 hi lo

def LpImage.size (x : LpImage) : Nat := x.h 95 64
def LpImage.tpls (x : LpImage) : Nat := x.h 159 128
def LpImage.patches (x : LpImage) : Nat := x.h 191 160
def LpImage.stages (x : LpImage) : Nat := x.h 207 192
def LpImage.objs (x : LpImage) : Nat := x.h 223 208
def LpImage.pfs (x : LpImage) : Nat := x.h 255 224

/-- The sections: offset, records, record size (R111). -/
def LpImage.sections (x : LpImage) : List (Nat × Nat × Nat) :=
  [(x.h 319 288, x.patches, 16), (x.h 287 256, x.tpls, 64), (x.h 351 320, x.stages, 8), (x.h 383 352, x.objs, 32),
   (x.h 415 384, x.pfs, 16)]

/-- R111: alignment, bounds and overlap of the sections. -/
def LpImage.boundsBad (x : LpImage) : Bool :=
  let one := fun (s : Nat × Nat × Nat) => s.1 % 64 != 0 || decide (s.1 < 64) || decide (s.1 + s.2.1 * s.2.2 > x.size)
  let full := ((List.range 5).zip x.sections).filter fun p => decide (p.2.2.1 > 0)
  let meet := fun (a b : Nat × Nat × Nat × Nat) =>
    a.1 != b.1 && decide (a.2.1 < b.2.1 + b.2.2.1 * b.2.2.2) && decide (b.2.1 < a.2.1 + a.2.2.1 * a.2.2.2)
  x.sections.any one || full.any fun a => full.any fun b => meet a b

/-- LP_LIMIT. -/
def LpImage.limitBad (x : LpImage) : Bool :=
  x.tpls == 0 || decide (x.tpls > 1048575) || decide (x.patches > 16777215) || x.stages == 0 || decide (x.stages > 256) ||
  decide (x.pfs > 1048575) || decide (x.h 431 416 > 8192)

/-- A patch record (Table 4-16). -/
def LpImage.patch (x : LpImage) (i hi lo : Nat) : Nat := x.f (x.h 319 288 + 16 * i) 16 hi lo

/-- The bits of a template that a patch covers, of its 512. -/
def LpImage.patchMask (x : LpImage) (i : Nat) : Nat :=
  let q := x.patch i 107 105
  let l := x.patch i 104 99
  let w := x.patch i 98 93
  if l + w > 63 then 0 else fm q (l + w) l

/-- The bits of each template that patches cover, and whether two cover one bit (R112). -/
def LpImage.masks (x : LpImage) : KV Nat × Bool :=
  (List.range x.patches).foldl (fun (p : KV Nat × Bool) i =>
    let t := x.patch i 127 108
    let m := x.patchMask i
    let old := kvGet 0 t p.1
    (kvSet t (old ||| m) p.1, p.2 || (old &&& m) != 0)) ([], false)

/-- A patch record that is refused by itself. -/
def LpImage.patchBad (x : LpImage) (i : Nat) : Bool :=
  let src := x.patch i 92 89
  let l := x.patch i 104 99
  decide (src > 4) || decide (x.patch i 127 108 ≥ x.tpls) || decide (l + x.patch i 98 93 > 63) || x.patch i 68 64 != 0 ||
  (if src = 0 then decide (x.patch i 88 69 ≥ x.objs) else x.patch i 88 69 != 0) ||
  (x.patchMask i &&& fm 0 63 60) != 0

/-- A field of stage record `i` (Table 4-14). -/
def LpImage.stage (x : LpImage) (i hi lo : Nat) : Nat := x.f (x.h 351 320 + 8 * i) 8 hi lo

/-- The stage records. -/
def LpImage.stageRecs (x : LpImage) : List Stage :=
  (List.range x.stages).map fun i =>
    ⟨x.stage i 55 48, x.stage i 47 44, x.stage i 43 42, x.stage i 31 16, x.stage i 15 0⟩

/-- LP_STAGE_INVALID. -/
def LpImage.stageBad (x : LpImage) : Bool :=
  decide (x.h 439 432 ≥ x.stages) ||
  (List.range x.stages).any fun i => x.stage i 63 56 != i || x.stage i 43 42 == 3 || x.stage i 41 32 != 0

/-- Template `i`. -/
def LpImage.tpl (x : LpImage) (i : Nat) : Desc := bytesWords ((x.bytes.drop (x.h 287 256 + 64 * i)).take 64)

/-- The first template that fails R113: its index and its status. -/
def LpImage.tplBad (x : LpImage) (s : State) (masks : KV Nat) : Option (Nat × Nat) :=
  let stages := x.stageRecs
  let own := (stages[x.h 439 432]?).map Stage.stream
  (List.range x.tpls).findSome? fun i =>
    let d := x.tpl i
    let m := kvGet 0 i masks
    if d.vstage ≥ x.stages then some (i, Ts.descFieldInvalid)
    else
      let st := ((stages[d.vstage]?).map Stage.stream).getD 0
      (checkDesc s d.home st (own.toList ++ s.stepStreams) m d).map fun c => (i, c.1)

/-- The first record that LP_RECORD_INVALID names: record index and section. -/
def LpImage.recordBad (x : LpImage) : Option (Nat × Nat) :=
  let obj := fun (i hi lo : Nat) => x.f (x.h 383 352 + 32 * i) 32 hi lo
  let pf := fun (i hi lo : Nat) => x.f (x.h 415 384 + 16 * i) 16 hi lo
  let objBad := fun (i : Nat) =>
    obj i 255 136 != 0 || obj i 127 116 != 0 || obj i 55 52 != 0 || decide (obj i 135 128 < 6) ||
    decide (obj i 135 128 > 21) || obj i 63 62 == 3 || fmtReserved (obj i 59 56)
  let pfBad := fun (i : Nat) =>
    pf i 85 64 != 0 || decide (pf i 127 108 ≥ x.tpls) || decide (pf i 107 88 ≥ x.objs) || pf i 87 86 == 3 || pf i 31 0 == 0
  if x.h 511 440 ≠ 0 then some (0, 0)
  else
    match (List.range x.objs).find? objBad with
    | some i => some (i, 1)
    | none => ((List.range x.pfs).find? pfBad).map fun i => (i, 2)

/-- A stage binds a stream to a class other than the one it has, or the program binds one stream to two. -/
def LpImage.conflict (x : LpImage) (s : State) : Bool :=
  let l := x.stageRecs
  l.any fun a => ((s.stream a.stream).cls.any (· != a.cls)) || l.any fun b => a.stream == b.stream && a.cls != b.cls

/-- The first refusal of Table 4-18: its code and results. -/
def LpImage.refusal (x : LpImage) (buf : Nat) (s : State) : Option (Nat × List Nat) :=
  let crc := (crc32c (x.bytes.take 12 ++ [0, 0, 0, 0] ++ x.bytes.drop 16)).toNat
  let (masks, twice) := x.masks
  if x.h 31 0 ≠ 0x504C575A then some (St.lpBadMagic, [])
  else if x.h 47 32 ≠ 0x0402 then some (St.lpVersion, [])
  else if x.h 63 48 ≠ 0x0009 then some (St.lpMemberMismatch, [])
  else if x.size < 64 ∨ x.size > 268435456 ∨ x.size > buf then some (St.lpSize, [])
  else if crc ≠ x.h 127 96 then some (St.lpCrc, [])
  else if x.boundsBad then some (St.lpSectionBounds, [])
  else if x.limitBad then some (St.lpLimit, [])
  else
    match x.tplBad s masks with
    | some (i, st) => some (St.lpTemplateInvalid, [0, i * 2 ^ 32 + st])
    | none =>
      if twice ∨ (List.range x.patches).any x.patchBad then some (St.lpPatchInvalid, [])
      else if x.stageBad then some (St.lpStageInvalid, [])
      else
        match x.recordBad with
        | some (i, sec) => some (St.lpRecordInvalid, [0, i * 2 ^ 32 + sec])
        | none =>
          if x.conflict s then some (St.lpStageConflict, [])
          else if s.prog.length ≥ 64 ∨ (s.prog.map fun p => p.2.size).sum + x.size > 2 ^ 30 then some (St.lpNoSpace, [])
          else none

/-- LOAD_LAYER_PROGRAM (R113). -/
def execLoadLayerProgram (m : Fin 16) (s : State) : Host.Outcome State Fault Refusal :=
  mbxCommand 0x0107 anyArgs m (fun a s =>
    let at_ := a.n 0
    let buf := a.n 1
    match bufCheck at_ buf 1 s with
    | some f => bufFault f s
    | none =>
      let (p, head, s) := devRead at_ (Nat.min buf 64) s
      let size := (LpImage.mk (head ++ List.replicate (64 - head.length) 0)).size
      let n := if 64 ≤ size ∧ size ≤ 268435456 ∧ size ≤ buf then size else Nat.min buf 64
      let (p, body, s) := if p.isSome ∨ n ≤ 64 then (p, head, s) else devRead at_ n s
      if p.isSome then .done St.poisoned [] s
      else
        let x : LpImage := ⟨body ++ List.replicate (64 - body.length) 0⟩
        match x.refusal buf s with
        | some (st, res) => .done st res s
        | none =>
          let h := ((List.range 64).find? fun i => !kvHas i s.prog).getD 0
          let g : Program := ⟨at_, x.size, x.h 439 432, x.h 431 416, x.stageRecs⟩
          let s := { s with prog := kvSet h g s.prog }
          let s := x.stageRecs.foldl (fun s r => setStream r.stream (fun y => { y with cls := some r.cls }) s) s
          .done St.ok [h] s) s

/-- UNLOAD_LAYER_PROGRAM: refused while a stream of one of its stages is not halted (04, R116). -/
def execUnloadLayerProgram (m : Fin 16) (s : State) : Host.Outcome State Fault Refusal :=
  mbxCommand 0x0108 anyArgs m (fun a s =>
    match kvFind (a.n 0) s.prog with
    | none => .done St.lpUnknown [] s
    | some g =>
      if g.stages.any fun x => !(s.stream x.stream).halted then .done St.lpInUse [] s
      else
        let s := { s with prog := kvDel (a.n 0) s.prog }
        .done St.ok [] (g.stages.foldl (fun s x => unbindStream x.stream s) s)) s

end Sys2Proof.Machine
end

