-- ==== Sys2Proof/Machine/Stash.lean ====
section
/-!
DEFINITION. The stash manager (08, R190–R205).
-/

namespace Sys2Proof.Machine

/-! The context and its pools (08, R191). -/

/-- CONFIGURE_STASH. -/
def execConfigureStash (m : Fin 16) (s : State) : Host.Outcome State Fault Refusal :=
  mbxCommand 0x0204 anyArgs m (fun a s =>
    let w := a.n 1
    let log := bits w 3 0
    let imb := bits w 31 24
    let pool := fun (r : Region) (x n : Nat) =>
      aligned x 65536 && aligned n 65536 && decide (r.lo ≤ x) && decide (x + n ≤ r.hi)
    let ring := a.n 0
    let ok := decide (4 ≤ log) && decide (log ≤ 14) && aligned ring 4096 && decide (Region.gddr7.lo ≤ ring) &&
      decide (ring + 64 * 2 ^ log ≤ Region.gddr7.hi) && pool .gddr7 (a.n 2) (a.n 3) && pool .lpddr (a.n 4) (a.n 5) &&
      (imb == 0 || decide (17 ≤ imb))
    if !ok then .done St.argInvalid [] s
    else .done St.ok [] { s with stash :=
      { ctx := some ⟨ring, log, a.n 2, a.n 3, a.n 4, a.n 5, bits w 15 8, bits w 20 16, imb⟩
        ranges := s.stash.ranges.filter fun r => decide (r.kind ≥ 3) } }) s

/-- First fit from the lowest granule of a pool of `total`, `n` granules in one run. -/
def firstFit (total n : Nat) (runs : KV Nat) : Option Nat :=
  let free := fun (g : Nat) => decide (g + n ≤ total) && runs.all fun r => decide (r.1 + r.2 ≤ g) || decide (g + n ≤ r.1)
  ((0 :: runs.map fun r => r.1 + r.2).filter free).foldl
    (fun (b : Option Nat) g => some (match b with | none => g | some x => Nat.min x g)) none

/-- Granules in use. -/
def runsSize (runs : KV Nat) : Nat := (runs.map Prod.snd).sum

/-- The largest free run of a pool. -/
def largestFree (total : Nat) (runs : KV Nat) : Nat :=
  (0 :: runs.map fun r => r.1 + r.2).foldl (fun b g =>
    let next := runs.foldl (fun m r => if g ≤ r.1 then Nat.min m r.1 else m) total
    Nat.max b (next - g)) 0

/-- Take a run of the GDDR7 pool: its address. The high-water mark is that of all granules in use, not of the longest run
(DESIGN CHOICE: R204 says 'largest allocation of each pool'; log entry 120). -/
def allocG (c : StashCtx) (n : Nat) (s : State) : Option (Nat × State) :=
  (firstFit (c.gSize / 65536) n s.stash.gRuns).map fun g =>
    let runs := kvSet g n s.stash.gRuns
    (c.gBase + 65536 * g, countHigh .gHigh 0 (runsSize runs) { s with stash := { s.stash with gRuns := runs } })

/-- Take a run of the LPDDR5X pool: its address; its high-water mark as there. -/
def allocL (c : StashCtx) (n : Nat) (s : State) : Option (Nat × State) :=
  (firstFit (c.lSize / 65536) n s.stash.lRuns).map fun g =>
    let runs := kvSet g n s.stash.lRuns
    (c.lBase + 65536 * g, countHigh .lHigh 0 (runsSize runs) { s with stash := { s.stash with lRuns := runs } })

/-- Give a run back. -/
def freeG (c : StashCtx) (a : Nat) (s : State) : State :=
  { s with stash := { s.stash with gRuns := kvDel ((a - c.gBase) / 65536) s.stash.gRuns } }
def freeL (c : StashCtx) (a : Nat) (s : State) : State :=
  { s with stash := { s.stash with lRuns := kvDel ((a - c.lBase) / 65536) s.stash.lRuns } }

/-! Entries (08, R192, R193). -/

/-- The lowest bit of the first offending field of an entry, fields taken from bit 0 upwards (R193; log entry 86). -/
def StashEntry.badBit (s : State) (e : StashEntry) : Option Nat :=
  let held := fun (w : Nat) => match kvFind (e.f w 63 48) s.mer.queues with
    | some q => q.held
    | none => false
  let badAddr := fun (a : Nat) => !aligned a 65536 || regionOf a != some .gddr7
  let needWork := e.policy == 2 || e.rcOk
  let tests : List (Bool × Nat) :=
    [(e.f 0 59 48 != 0, 48), (e.rcOk && e.rcN == 0, 60), (e.policy == 3, 62), (e.f 1 7 0 != 0, 64),
     (e.f 2 17 0 != 0, 128), (e.size == 0 && e.policy != 2, 162), (e.rcN == 0 && e.sRcDone != 0, 178),
     (e.f 3 15 0 == 0 || !held 3, 192), (e.f 4 15 0 == 0 || !held 4, 256),
     (if e.rcN = 0 then e.f 5 63 16 != 0 else !held 5, 320),
     (if e.workAddr = 0 then needWork else badAddr e.workAddr, 384), (e.f 6 63 52 != 0, 436),
     (if e.rcN = 0 then e.rcAddr != 0 else badAddr e.rcAddr, 448), (e.f 7 63 52 != 0, 500)]
  (tests.find? fun t => t.1).map Prod.snd

/-- The count of the oldest entry not finished; the tail where there is none. -/
def Stash.oldest (x : Stash) : W32 :=
  let age := x.entries.foldl (fun m p => Nat.max m (x.tail - p.2.count).toNat) 0
  x.tail - BitVec.ofNat 32 age

/-- The stash manager reads and checks one published entry (R193). -/
def acceptEntry (c : StashCtx) (k : W32) (s : State) : State :=
  let slot := k.toNat % 2 ^ c.log
  let (bad, bs, s) := devRead (c.ring + 64 * slot) 64 s
  let e : StashEntry := { count := k, words := bytesWords bs }
  match if bad.isSome then some 0 else e.badBit s with
  | some b => post Ev.stashEntryInvalid [slot, b] s
  | none => { s with stash := { s.stash with entries := kvSet slot e s.stash.entries } }

/-- A write of the stash doorbell (R193). -/
def stashDoorbell (v : Nat) (s : State) : State :=
  let t := BitVec.ofNat 32 v
  let x := s.stash
  let refuse := post Ev.stashDoorbellInvalid [t.toNat] (refuseWrite s)
  match x.ctx with
  | none => refuse
  | some c =>
    let n := (t - x.tail).toNat
    if 0 < n ∧ (t - x.oldest).toNat ≤ 2 ^ c.log then
      (List.range n).foldl (fun s i => acceptEntry c (x.tail + BitVec.ofNat 32 i) s)
        { s with stash := { x with tail := t } }
    else refuse

/-! Binding and the fallbacks (08, R195–R198). -/

/-- Entries that may be off-loaded, in descending need_key, the higher slot first (R196). -/
def State.stashVictims (s : State) (above : Option Nat) : List (Nat × StashEntry) :=
  let ok := fun (p : Nat × StashEntry) =>
    (match p.2.place with | .pool _ => true | _ => false) && p.2.fwdDone && !p.2.bwdTrig &&
    (p.2.offOk || p.2.policy == 1) && p.2.copy.isNone && (match above with | some k => decide (k < p.2.key) | none => true)
  (s.stash.entries.filter ok).mergeSort fun a b => decide (b.2.key < a.2.key) || (b.2.key == a.2.key && decide (b.1 ≤ a.1))

/-- A copy of an entry enters the unit queue of its cluster (R201). -/
def newCopy (slot : Nat) (x : StashCopy) (s : State) : State :=
  let x := { x with age := s.mer.nextAge }
  let at_ := (s.copyAt x).map fun c => 16 * c + s.copyClass
  setEntry slot (fun e => { e with copy := some x }) { s with mer := { s.mer with
    nextAge := s.mer.nextAge + 1
    unitActive := match at_ with | some u => setIns u s.mer.unitActive | none => s.mer.unitActive } }

/-- Start the off-load copy of an entry, where an LPDDR5X run is free (R196, R198). -/
def startOff (c : StashCtx) (slot : Nat) (s : State) : Option State :=
  match kvFind slot s.stash.entries with
  | none => none
  | some e =>
    match e.place with
    | .pool a => (allocL c e.size s).map fun x => newCopy slot ⟨true, a, x.1, 0, none, 0⟩ x.2
    | _ => none

/-- Start copies of victims until their sizes and the free granules reach `n`: the slots started. -/
def startVictims (c : StashCtx) (n : Nat) (above : Option Nat) (s : State) : List Nat × State :=
  let free := c.gSize / 65536 - runsSize s.stash.gRuns
  let (_, got, s) := (s.stashVictims above).foldl (fun (r : Nat × List Nat × State) v =>
    if r.1 ≥ n then r
    else match startOff c v.1 r.2.2 with
      | none => r
      | some s => (r.1 + v.2.size, r.2.1 ++ [v.1], s)) (free, [], s)
  (got, s)

/-- Bind an entry as RECOMPUTE to its work area and release its forward range. -/
def bindRc (slot : Nat) (e : StashEntry) (s : State) : State :=
  let s := count .bindsRecompute 0 1 s
  let s := match e.bindFrom with
    | some t => count .bindWait 0 (s.cyc - t) s
    | none => s
  askRange slot 0 (.release e.workAddr)
    (setEntry slot (fun e => { e with place := .rc e.workAddr, recompute := true, bindFrom := none }) s)

/-- The loop of R195, up to where it waits for copies. The shortfall of STASH_EXHAUSTED is measured against the largest free
run (DESIGN CHOICE: R197 does not say against what; log entry 121). -/
def bindLoop (c : StashCtx) (slot : Nat) (s : State) : State :=
  match kvFind slot s.stash.entries with
  | none => s
  | some e =>
    match allocG c e.size s with
    | some (a, s) =>
      let s := count .bindsPool 0 1 s
      let s := match e.bindFrom with
        | some t => count .fallbackOffload 0 1 (count .bindWait 0 (s.cyc - t) s)
        | none => s
      askRange slot 0 (.release a) (setEntry slot (fun e => { e with place := .pool a, bindFrom := none }) s)
    | none =>
      let (vs, s) := if e.offOk then startVictims c e.size none s else ([], s)
      if !vs.isEmpty then
        let s := if e.fallback then s else post Ev.stashFallback [slot, e.inst, e.layer, 1] s
        setEntry slot (fun e => { e with waits := vs, bindFrom := some (e.bindFrom.getD s.cyc), fallback := true }) s
      else if e.rcOk then
        let s := { s with stash := { s.stash with rcFlags := setIns e.inst s.stash.rcFlags } }
        bindRc slot e (count .fallbackRecompute 0 1 (post Ev.stashFallback [slot, e.inst, e.layer, 2] s))
      else
        let s := match e.bindFrom with
          | some t => count .bindWait 0 (s.cyc - t) s
          | none => s
        let short := e.size - largestFree (c.gSize / 65536) s.stash.gRuns
        let s := post Ev.stashExhausted [slot, e.inst, e.layer, short] (count .exhausted 0 1 s)
        let s := askRange slot 0 .first s
        { s with stash := { s.stash with entries := kvDel slot s.stash.entries } }

/-- The backward range is released; the recompute range of an entry that is not RECOMPUTE is discarded (R198). -/
def releaseBwd (slot base : Nat) (s : State) : State :=
  match kvFind slot s.stash.entries with
  | none => s
  | some e =>
    let s := if !e.recompute && decide (e.rcN > 0) && !e.rcReq then askRange slot 1 .discard s else s
    askRange slot 2 (.release base) s

/-- The backward need of an entry handled as RECOMPUTE (R198). -/
def needRc (slot : Nat) (e : StashEntry) (s : State) : State :=
  if e.rcN > 0 then askRange slot 1 (.release e.rcAddr) s else releaseBwd slot e.workAddr s

/-- An OFFLOADED entry is needed: its reload starts, or waits (R198). -/
def reload (c : StashCtx) (slot : Nat) (s : State) : State :=
  match kvFind slot s.stash.entries with
  | none => s
  | some e =>
    match e.place with
    | .off l =>
      match allocG c e.size s with
      | some (a, s) =>
        let s := match e.reloadFrom with
          | some t => count .reloadWait 0 (s.cyc - t) s
          | none => s
        newCopy slot ⟨false, l, a, 0, none, 0⟩ (setEntry slot (fun e => { e with reloadFrom := none }) s)
      | none =>
        let (vs, s) := startVictims c e.size (some e.key) s
        if !vs.isEmpty then
          setEntry slot (fun e => { e with waits := vs, reloadFrom := some (e.reloadFrom.getD s.cyc) }) s
        else if e.rcOk then
          let s := match e.reloadFrom with
            | some t => count .reloadWait 0 (s.cyc - t) s
            | none => s
          needRc slot e (setEntry slot (fun e => { e with recompute := true, reloadFrom := none }) s)
        else setEntry slot (fun e => { e with reloadFrom := some (e.reloadFrom.getD s.cyc) }) s
    | _ => s

/-- Reloads that wait for space, then binds whose copies have ended, try again, the lower slot first (R195, R200). -/
def retryStash (c : StashCtx) (s : State) : State :=
  let due := s.stash.entries.filter fun p => p.2.waits.isEmpty && p.2.copy.isNone
  let need := fun (p : Nat × StashEntry) => match p.2.place with
    | .off _ => p.2.bwdTrig && !p.2.recompute
    | _ => false
  let s := (due.filter need).foldl (fun s p => reload c p.1 s) s
  (due.filter fun p => p.2.bindTrig && p.2.place == .none).foldl (fun s p => bindLoop c p.1 s) s

/-- The copy of a slot has ended: nothing waits for it any more. -/
def unwait (slot : Nat) (s : State) : State :=
  { s with stash := { s.stash with entries := s.stash.entries.map fun p =>
    (p.1, { p.2 with waits := p.2.waits.filter (· != slot) }) } }

/-- A live entry's trigger, while the block computes: the context and the entry. -/
def State.stashAt (s : State) (slot : Nat) : Option (StashCtx × StashEntry) :=
  if s.inCompute || !s.powered then none
  else
    match s.stash.ctx, kvFind slot s.stash.entries with
    | some c, some e => some (c, e)
    | _, _ => none

/-- s_bind of an entry is observed triggered (R195). -/
def onBind (c : StashCtx) (slot : Nat) (s : State) : State :=
  match kvFind slot s.stash.entries with
  | none => s
  | some e =>
    if e.bindTrig || !s.triggered e.sBind then s
    else
      let s := setEntry slot (fun e => { e with bindTrig := true }) s
      if e.policy = 2 ∨ (s.stash.rcFlags.contains e.inst ∧ e.rcOk) then bindRc slot e s else bindLoop c slot s

/-- The imbalance test and the record of a forward span (R202). -/
def noteSpan (c : StashCtx) (e : StashEntry) (span : Nat) (s : State) : State :=
  let old := kvGet [] e.layer s.stash.spans
  let mean := old.sum / old.length
  let s :=
    if c.imb ≠ 0 ∧ old.length ≥ 4 ∧ span * 16 > c.imb * mean then
      count .imbalance 0 1 (post Ev.microbatchImbalance [e.inst, e.layer, span, mean] s)
    else s
  let l := old ++ [span]
  { s with stash := { s.stash with spans := kvSet e.layer (if l.length > 8 then l.drop 1 else l) s.stash.spans } }

/-- s_fwd_done (R198, R202). An off-load that s_bwd_need has met does not start (R200). -/
def onFwdDone (c : StashCtx) (slot : Nat) (s : State) : State :=
  match kvFind slot s.stash.entries with
  | none => s
  | some e =>
    match e.fwdRel with
    | none => s
    | some t =>
      if e.fwdDone || !s.triggered e.sFwdDone then s
      else
        let s := noteSpan c e (s.cyc - t) (setEntry slot (fun e => { e with fwdDone := true }) s)
        if e.policy = 1 ∧ !e.bwdTrig ∧ !s.triggered e.sBwdNeed then (startOff c slot s).getD s else s

/-! Copies (08, R201). -/

/-- `n` bytes within a page of a copy, by a coelostat of a die; poison goes with its sectors (17, R414). Across a failed
bridge a read meets poison and a write does not happen (17, R411). -/
def copyRun (die src dst n : Nat) (s : State) : State :=
  if n = 0 ∨ (s.rel.bridgeFailed && s.crosses die dst n) then s
  else if s.rel.bridgeFailed && s.crosses die src n then poisonOut dst n s
  else
    let (bad, bs, s) := dieRead die src n s
    if bad.isNone then diePut die dst bs s
    else (List.range (ceilDiv n 256)).foldl (fun s i =>
      let m := Nat.min 256 (n - 256 * i)
      if s.sectorPoisoned (src + 256 * i) then poisonOut (dst + 256 * i) m s
      else diePut die (dst + 256 * i) ((bs.drop (256 * i)).take m) s) s

/-- The first `n` bytes from granule `g` of a copy on, page by page. -/
def copyBytes (die : Nat) (x : StashCopy) (g n : Nat) (s : State) : State :=
  (List.range (ceilDiv n 2048)).foldl (fun s i =>
    let o := 65536 * g + 2048 * i
    copyRun die (x.src + o) (x.dst + o) (Nat.min 2048 (n - 2048 * i)) s) s

/-- The four parts of a copy of `n` granules: first granule and length; the remainder goes to the lowest coelostat
(R201). -/
def copyParts (n : Nat) : List (Nat × Nat) :=
  let q := n / 4
  let r := n % 4
  (0, q + r) :: [1, 2, 3].map fun i => (r + q * i, q)

/-- What a copy that does not complete has moved: of each part that runs some of its first units of `unit` bytes. How far
each has come is not given: free values (R200, R205). -/
def copyPartly (unit : Nat) (x : StashCopy) (size : Nat) (s : State) : State :=
  match x.run with
  | none => s
  | some c => (copyParts size).foldl (fun s p =>
      let (r, s) := draw s
      copyBytes (c / 16) x p.1 (unit * (r % (65536 * p.2 / unit + 1))) s) s

/-- s_bwd_need (R198, R200): an off-load copy that runs is cancelled at its next 64 KiB boundary. -/
def onBwdNeed (c : StashCtx) (slot : Nat) (s : State) : State :=
  match kvFind slot s.stash.entries with
  | none => s
  | some e =>
    if e.bwdTrig || !e.fwdReq || !s.triggered e.sBwdNeed then s
    else
      let s := setEntry slot (fun e => { e with bwdTrig := true }) s
      match e.place with
      | .none => s
      | .rc _ => needRc slot e s
      | .off _ => reload c slot s
      | .pool a =>
        match e.copy with
        | none => releaseBwd slot a s
        | some x =>
          let s := setEntry slot (fun e => { e with copy := none }) (copyPartly 65536 x e.size (chargeAll s))
          let s := count .offloadCancel 0 1 (freeL c x.dst s)
          retryStash c (unwait slot (releaseBwd slot a s))

/-- STASH_S_RC_DONE (R198). -/
def execStashSRcDone (slot : Nat) (s : State) : Host.Outcome State Fault Refusal :=
  match s.stashAt slot with
  | none => finish s
  | some (_, e) =>
    if e.recompute && e.rcReq && e.bwdTrig && !e.bwdReq && s.triggered e.sRcDone then finish (releaseBwd slot e.rcAddr s)
    else finish s

/-- Every run an entry holds. -/
def freeRuns (c : StashCtx) (e : StashEntry) (s : State) : State :=
  let s := match e.place with
    | .pool a => freeG c a s
    | .off a => freeL c a s
    | _ => s
  match e.copy with
  | none => s
  | some x => if x.out then freeL c x.dst s else freeG c x.dst s

/-- s_free (R199). -/
def onFree (c : StashCtx) (slot : Nat) (s : State) : State :=
  match kvFind slot s.stash.entries with
  | none => s
  | some e =>
    if !s.triggered e.sFree then s
    else
      let s := match e.copy with
        | some x => copyPartly 65536 x e.size (chargeAll s)
        | none => s
      let s := freeRuns c e s
      let s := { s with stash := { s.stash with
        ranges := s.stash.ranges.map fun r => if r.slot = slot ∧ r.kind < 3 then { r with act := .discard } else r } }
      let s := if e.fwdReq then s else askRange slot 0 .discard s
      let s := if e.rcReq || e.rcN == 0 then s else askRange slot 1 .discard s
      let s := if e.bwdReq then s else askRange slot 2 .discard s
      let s := { s with stash := { s.stash with entries := kvDel slot s.stash.entries } }
      retryStash c (unwait slot s)

/-! What is observed in one cycle (08, R200). -/

/-- The triggers in the order in which the stash manager takes them. -/
inductive StashTrig
  | free
  | need
  | fwdDone
  | bind
deriving DecidableEq, Repr

/-- Act on one trigger of an entry, where it has triggered and has not been acted on. -/
def StashTrig.act (k : StashTrig) (c : StashCtx) (slot : Nat) (s : State) : State :=
  match k with
  | .free => onFree c slot s
  | .need => onBwdNeed c slot s
  | .fwdDone => onFwdDone c slot s
  | .bind => onBind c slot s

/-- The triggers of `ks` of every entry of `slots`, the lower slot first within a kind. -/
def actTrigs (c : StashCtx) (ks : List StashTrig) (slots : List Nat) (s : State) : State :=
  ks.foldl (fun s k => slots.foldl (fun s j => k.act c j s) s) s

/-- A trigger of the entry in `slot` is observed, after those of the kinds before it and of lower slots (R200). -/
def observe (before : List StashTrig) (k : StashTrig) (slot : Nat) (s : State) : State :=
  match s.stashAt slot with
  | none => s
  | some (c, _) =>
    let all := s.stash.entries.map Prod.fst
    k.act c slot (actTrigs c [k] (all.filter fun j => decide (j < slot)) (actTrigs c before all s))

/-- STASH_S_BIND (R195): s_bind of the entry in `slot` is observed triggered. -/
def execStashSBind (slot : Nat) (s : State) : Host.Outcome State Fault Refusal :=
  finish (observe [.free, .need, .fwdDone] .bind slot s)

/-- STASH_S_FWD_DONE (R198, R202). -/
def execStashSFwdDone (slot : Nat) (s : State) : Host.Outcome State Fault Refusal :=
  finish (observe [.free, .need] .fwdDone slot s)

/-- STASH_S_BWD_NEED (R198, R200). -/
def execStashSBwdNeed (slot : Nat) (s : State) : Host.Outcome State Fault Refusal :=
  finish (observe [.free] .need slot s)

/-- STASH_S_FREE (R199). -/
def execStashSFree (slot : Nat) (s : State) : Host.Outcome State Fault Refusal :=
  finish (observe [] .free slot s)

/-- STASH_COPY_DONE: the four parts of the copy of the entry in `slot` have completed; its source run is freed, an entry
that waited for it tries again (R195, R198, R200). The frees of lower slots go first (R200). -/
def execStashCopyDone (slot : Nat) (s : State) : Host.Outcome State Fault Refusal :=
  match s.stashAt slot with
  | none => finish s
  | some (c, e) =>
    match e.copy.bind fun x => x.run.map fun k => (x, k) with
    | none => finish s
    | some (x, k) =>
      let n := 65536 * e.size
      if (s.heldPage x.src n).isSome then finish s
      else
        let s := actTrigs c [.free] ((s.stash.entries.map Prod.fst).filter fun j => decide (j < slot)) (chargeAll s)
        let s := (copyParts e.size).foldl (fun s p => copyBytes (k / 16) x p.1 (65536 * p.2) s) s
        let s := count .unitBytes k n s
        if x.out then
          let s := count .offloadBytes 0 n (count .offloads 0 1 (freeG c x.src s))
          let s := setEntry slot (fun e => { e with place := .off x.dst, copy := none }) s
          finish (retryStash c (unwait slot s))
        else
          let s := count .reloadBytes 0 n (count .reloads 0 1 (freeL c x.src s))
          let s := setEntry slot (fun e => { e with place := .pool x.dst, copy := none }) s
          finish (retryStash c (releaseBwd slot x.dst s))

/-- The step boundary clears every rcflag (R195). -/
def stashBoundary (s : State) : State := { s with stash := { s.stash with rcFlags := [] } }

/-- The copies in progress are abandoned: their destinations hold the lines already accepted (R205; 06, R166). -/
def stashAbandon (s : State) : State :=
  s.stash.entries.foldl (fun s p => match p.2.copy with
    | some x => copyPartly 64 x p.2.size s
    | none => s) s

/-- What a COMPUTE reset leaves of the stash manager (R205). -/
def stashReset (s : State) : State :=
  { s with
    stash := { ctx := s.stash.ctx, tail := s.stash.tail, spans := [] }
    mer := { s.mer with queues := s.mer.queues.map fun p =>
      if p.2.held then (p.1, { p.2 with head := p.2.tail, holdMark := p.2.tail, skips := [], exhausted := [] }) else p } }

end Sys2Proof.Machine
end

