-- ==== Sys2Proof/Machine/Guards.lean ====
section
/-!
DEFINITION. Numerics control (09): scale records, scale guards, the generator's seed, the numeric watch.
-/

namespace Sys2Proof.Machine

/-! Commands (09, R211, R219, R224; 16, Table 16-7). -/

/-- CONFIGURE_NUMERICS (R211). DESIGN CHOICE (log entry 80): a scale table or guard ring that is misaligned or does not lie
wholly in GDDR7 is answered ARG_INVALID (16, R385, step 6), not an address status of step 7. -/
def execConfigureNumerics (m : Fin 16) (s : State) : Host.Outcome State Fault Refusal :=
  mbxCommand 0x0301 anyArgs m (fun a s =>
    let n := a.n 1
    let log := a.n 3
    let inG := fun (x n : Nat) => decide (Region.gddr7.lo ≤ x) && decide (x + n ≤ Region.gddr7.hi)
    let ok := decide (1 ≤ n) && decide (n ≤ 65536) && decide (4 ≤ log) && decide (log ≤ 12) && aligned (a.n 0) 64 &&
      aligned (a.n 2) 4096 && inG (a.n 0) (64 * n) && inG (a.n 2) (64 * 2 ^ log)
    if !ok then .done St.argInvalid [] s
    else .done St.ok [] { s with
      num := { s.num with ctx := some ⟨a.n 0, n, a.n 2, log⟩, tail := 0, guards := [] }
      stash := { s.stash with ranges := s.stash.ranges.filter fun r => decide (r.kind < 3) } }) s

/-- SET_RNG_SEED (R219). -/
def execSetRngSeed (m : Fin 16) (s : State) : Host.Outcome State Fault Refusal :=
  mbxCommand 0x0302 anyArgs m (fun a s =>
    .done St.ok [] { s with num := { s.num with seed := BitVec.ofNat 64 (a.n 0) } }) s

/-- A watch entry. -/
def State.watchEntry (s : State) (i : Nat) : WatchEntry := kvGet {} i s.num.watch

/-- Put a watch entry. -/
def setWatchEntry (i : Nat) (x : WatchEntry) (s : State) : State :=
  { s with num := { s.num with watch := kvPut {} i x s.num.watch } }

/-- Its 32 bytes (Table 9-8). -/
def WatchEntry.bytes (x : WatchEntry) : List Byte :=
  wordBytes [x.hi.toNat * 2 ^ 32 + x.lo.toNat, x.zeroRun.toNat * 2 ^ 32 + x.zeroLimit.toNat,
    x.ratioAlarms.toNat * 2 ^ 32 + x.zeroAlarms.toNat, x.lastRatio.toNat * 2 ^ 32]

/-- READ_WATCH. -/
def execReadWatch (m : Fin 16) (s : State) : Host.Outcome State Fault Refusal :=
  mbxCommand 0x0303 anyArgs m (fun a s =>
    let i := a.n 0
    let n := a.n 1
    if n = 0 ∨ i + n > 16384 then .done St.argInvalid [] s
    else replyBytes (a.n 2) (32 * n) 1 ((List.range n).flatMap fun k => (s.watchEntry (i + k)).bytes) [] s) s

/-- A band value that SET_WATCH refuses (R224): a NaN, or below 0. -/
def bandBad (x : W32) : Bool := fisNan x.toNat || (x.getLsbD 31 && !fisZero x.toNat)

/-- SET_WATCH (R224): the masked fields of one entry; the checks are on the values the entry would have. -/
def execSetWatch (m : Fin 16) (s : State) : Host.Outcome State Fault Refusal :=
  mbxCommand 0x0304 anyArgs m (fun a s =>
    let i := bits (a.n 0) 13 0
    let on := fun (b : Nat) => bit (a.n 0) (16 + b)
    let w := fun (k hi lo : Nat) => BitVec.ofNat 32 (bits (a.n k) hi lo)
    let x := s.watchEntry i
    let x := { x with
      lo := if on 0 then w 1 31 0 else x.lo
      hi := if on 1 then w 1 63 32 else x.hi
      zeroLimit := if on 2 then w 2 31 0 else x.zeroLimit
      zeroRun := if on 3 then w 2 63 32 else x.zeroRun }
    if bandBad x.lo || bandBad x.hi || fgt x.lo.toNat x.hi.toNat then .done St.watchArgInvalid [] s
    else .done St.ok [] (setWatchEntry i x s)) s

/-- A delivery to the numeric watch (R225): entry, step, ratio, and whether a gradient element was not zero. -/
def watchDeliver (i step r : Nat) (z : Bool) (s : State) : State :=
  if i ≥ 16384 then count .watchDropped 0 1 s
  else
    let up := fun (v : W32) => if v.toNat = 0xFFFFFFFF then v else v + 1
    let x := s.watchEntry i
    let x := { x with lastRatio := BitVec.ofNat 32 r, zeroRun := if z then 0 else up x.zeroRun }
    let alarm := fisNan r || fgt r x.hi.toNat || fgt x.lo.toNat r
    let zero := x.zeroLimit != 0 && decide (x.zeroRun.toNat ≥ x.zeroLimit.toNat) &&
      decide ((x.zeroRun.toNat - x.zeroLimit.toNat) % x.zeroLimit.toNat = 0)
    let s := if alarm then post Ev.updateRatioAlarm [i, step, r] (count .ratioAlarms 0 1 s) else s
    let s := if zero then post Ev.zeroGradientRun [i, step, x.zeroRun.toNat] (count .zeroAlarms 0 1 s) else s
    setWatchEntry i { x with
      ratioAlarms := if alarm then up x.ratioAlarms else x.ratioAlarms
      zeroAlarms := if zero then up x.zeroAlarms else x.zeroAlarms } s

/-! Scale records (R208–R210). -/

/-- A scale record's words (Table 9-1). -/
abbrev ScaleRec := List Nat

def ScaleRec.f (r : ScaleRec) (w hi lo : Nat) : Nat := bits (r.getD w 0) hi lo
def ScaleRec.k (r : ScaleRec) : Int := toSigned 8 (r.f 0 63 56)
def ScaleRec.kInit (r : ScaleRec) : Int := toSigned 8 (r.f 0 55 48)
def ScaleRec.len (r : ScaleRec) : Nat := r.f 0 47 44 + 1
def ScaleRec.count (r : ScaleRec) : Nat := r.f 0 43 40
def ScaleRec.head (r : ScaleRec) : Nat := r.f 0 39 36
def ScaleRec.room (r : ScaleRec) : Nat := r.f 0 35 33
def ScaleRec.fmt0 (r : ScaleRec) : Nat := r.f 0 32 29
def ScaleRec.pend (r : ScaleRec) : Bool := r.f 0 28 28 == 1
def ScaleRec.pending (r : ScaleRec) : Nat := r.f 1 63 32
def ScaleRec.hist (r : ScaleRec) (i : Nat) : Nat := r.f (2 + i / 2) (32 * (i % 2) + 31) (32 * (i % 2))

/-- A scale exponent in range (R206). -/
def kOk (k : Int) : Bool := decide (-63 ≤ k) && decide (k ≤ 63)

/-- R208. -/
def ScaleRec.malformed (r : ScaleRec) : Bool :=
  (r.fmt0 != 2 && r.fmt0 != 3) || decide (r.len > 12) || decide (r.count > r.len) || decide (r.head ≥ r.len) ||
  !kOk r.k || !kOk r.kInit || r.f 0 27 0 != 0

/-- Bits `hi..lo` of word `w` replaced. -/
def ScaleRec.put (r : ScaleRec) (w hi lo v : Nat) : ScaleRec :=
  (List.range 8).map fun i => let x := r.getD i 0; if i = w then x - bits x hi lo * 2 ^ lo + v * 2 ^ lo else x

/-- The largest valid history entry under R41, the `count` entries before `head` being valid (log entry 87). -/
def ScaleRec.largest (r : ScaleRec) : Nat :=
  (List.range r.count).foldl (fun m i => fmax m (r.hist ((r.head + 2 * r.len - 1 - i) % r.len))) 0

/-- A positive value. -/
def fpos (x : Nat) : Bool := !fisNan x && !fisZero x && !bit x 31

/-- R209. -/
def kFrom (m f h : Nat) : Int :=
  let k : Int := (f / 2 ^ 23 : Nat) - (m / 2 ^ 23 : Nat) - h
  let k := if m % 2 ^ 23 > 0x600000 then k - 1 else k
  if k > 63 then 63 else if k < -63 then -63 else k

/-- The format maximum of R209: 448 for E4M3, 57,344 for E5M2. -/
def fmtMax (f : Nat) : Nat := if f = 2 then 0x43E00000 else 0x47600000

/-- The address of a record. -/
def NumCtx.recAt (c : NumCtx) (i : Nat) : Nat := c.table + 64 * i

/-- A record read; none where it reads poisoned. -/
def readRec (c : NumCtx) (i : Nat) (s : State) : Option ScaleRec × State :=
  let (bad, bs, s) := devRead (c.recAt i) 64 s
  (if bad.isSome then none else some (bytesWords bs), s)

/-- A record written back. -/
def writeRec (c : NumCtx) (i : Nat) (r : ScaleRec) (s : State) : State := devPut (c.recAt i) (wordBytes r) s

/-- The boundary update of one record (R210). -/
def ScaleRec.shift (r : ScaleRec) : ScaleRec :=
  let h := r.head
  let r := r.put (2 + h / 2) (32 * (h % 2) + 31) (32 * (h % 2)) r.pending
  let r := (r.put 0 39 36 ((h + 1) % r.len)).put 0 43 40 (Nat.min (r.count + 1) r.len)
  let r := (r.put 0 28 28 0).put 1 63 32 0
  let m := r.largest
  if fisZero m then r else r.put 0 63 56 (ofSigned 8 (kFrom m (fmtMax r.fmt0) r.room))

/-- The boundary update (R210) at the step register's value `step`. A record that is malformed or reads poisoned is
passed over (log entry 87). -/
def boundaryUpdate (step : W64) (s : State) : State :=
  let s := match s.num.ctx with
    | none => s
    | some c =>
      ((List.range c.records).filter fun i => bit (s.mem.word (c.recAt i) 8) 28).foldl (fun s i =>
        let s := count .updateNs 0 50 s
        match readRec c i s with
        | (some r, s) => if r.malformed then s else writeRec c i r.shift s
        | (none, s) => s) s
  { s with num := { s.num with sstep := step } }

/-! Guards (R211–R218). -/

def Guard.tagBase (g : Guard) : Nat := g.f 0 27 0
def Guard.recNo (g : Guard) : Nat := g.f 0 63 48
def Guard.rec2 (g : Guard) : Nat := g.f 0 47 32
def Guard.step (g : Guard) : Nat := g.f 2 63 0
def Guard.sTrig (g : Guard) : Nat := g.f 1 63 50
def Guard.sVerdict (g : Guard) : Nat := g.f 1 49 36

/-- The lowest bit of the first offending field of a guard entry, fields taken from bit 0 upwards (R212). -/
def Guard.badBit (c : NumCtx) (g : Guard) (r : Option ScaleRec) : Option Nat :=
  let fmt0 := match r with | some r => r.fmt0 | none => 0
  let recBad := match r with | some r => r.malformed | none => true
  let tests : List (Bool × Nat) :=
    [(decide (g.tag0 4 > 2 ^ 28), 0), (g.f 0 31 28 != 0, 28), (g.rec2 != 0xFFFF && decide (g.rec2 ≥ c.records), 32),
     (decide (g.recNo ≥ c.records) || recBad, 48), (g.f 1 35 0 != 0, 64), (g.n 1 == 0, 256),
     (decide (g.n 3 > 0) && fmt0 == 3, 384), (g.f 7 63 0 != 0, 448)]
  (tests.find? fun t => t.1).map Prod.snd

/-- The count of the oldest guard not finished; the tail where there is none. -/
def Numerics.oldest (x : Numerics) : W32 :=
  x.tail - BitVec.ofNat 32 (x.guards.foldl (fun m p => Nat.max m (x.tail - p.2.count).toNat) 0)

/-- One published guard entry is read and checked (R212). DEDUCED (log entry 86): an entry that reads poisoned is refused
with GUARD_ENTRY_INVALID at bit 0. -/
def acceptGuard (c : NumCtx) (k : W32) (s : State) : State :=
  let slot := k.toNat % 2 ^ c.log
  let (bad, bs, s) := devRead (c.ring + 64 * slot) 64 s
  let g : Guard := { count := k, words := bytesWords bs }
  let (r, s) := if bad.isNone && decide (g.recNo < c.records) then readRec c g.recNo s else (none, s)
  match if bad.isSome then some 0 else g.badBit c r with
  | some b => post Ev.guardEntryInvalid [slot, b] s
  | none => { s with num := { s.num with guards := kvSet slot g s.num.guards } }

/-- A write of the guard doorbell (R211). DEDUCED (log entry 86): before any CONFIGURE_NUMERICS it is refused with
GUARD_DOORBELL_INVALID. -/
def guardDoorbell (v : Nat) (s : State) : State :=
  let t := BitVec.ofNat 32 v
  let x := s.num
  let refuse := post Ev.guardDoorbellInvalid [t.toNat] (refuseWrite s)
  match x.ctx with
  | none => refuse
  | some c =>
    let n := (t - x.tail).toNat
    if 0 < n ∧ (t - x.oldest).toNat ≤ 2 ^ c.log then
      (List.range n).foldl (fun s i => acceptGuard c (x.tail + BitVec.ofNat 32 i) s) { s with num := { x with tail := t } }
    else refuse


/-- Fold a real amax into the guard's record, which then holds the larger value as pending (R214). -/
def foldAmax (c : NumCtx) (g : Guard) (a : Nat) (last : Bool) (s : State) : State :=
  match readRec c g.recNo s with
  | (none, s) => s
  | (some r, s) =>
    let p := if r.pend then r.pending else 0
    let r := (r.put 1 63 32 (fmax p a)).put 0 28 28 1
    writeRec c g.recNo (if last then r.put 1 31 0 a else r) s

/-- Is a record's read at a guard's use refused (R208)? -/
def recRefused (r : Option ScaleRec) : Bool := match r with | some r => r.malformed | none => true

/-- A guard that reads a record it may not use fails as at its entry check: its ranges stay held (R208, R212). -/
def refuseGuard (slot b : Nat) (s : State) : State :=
  post Ev.guardEntryInvalid [slot, b] { s with num := { s.num with guards := kvDel slot s.num.guards } }

/-- Release a range of a guard with the exponent `k` (R213, R214); a probe range that has not run is discarded before a
variant is released. The second record is read here, at every release, and a guard that may not use it fails (R208). -/
def runGuard (c : NumCtx) (slot i : Nat) (k : Int) (fmt : Nat) (s : State) : State :=
  match kvFind slot s.num.guards with
  | none => s
  | some g =>
    let (r2, s) := if g.rec2 = 0xFFFF then (none, s) else readRec c g.rec2 s
    if g.rec2 ≠ 0xFFFF ∧ recRefused r2 then refuseGuard slot 32 s
    else
      let s := if 0 < i ∧ g.n 0 > 0 ∧ !g.asked.contains 0 then drainRanges (lineGuard slot 0 .discard s) else s
      let s := setGuard slot (fun g => { g with
        cur := some i, k := k, fmt := fmt, counted := 0, tally := 0, amax := 0, firstTag := 0 }) s
      drainRanges (lineGuard slot i (.scale k (r2.map ScaleRec.k) (g.tag0 i))
        (if i = 0 then count .probes 0 1 s else s))

/-- A triggered guard whose step has come starts, or is found stale, or waits (R214). -/
def startGuard (c : NumCtx) (slot : Nat) (s : State) : State :=
  match kvFind slot s.num.guards with
  | none => s
  | some g =>
    if g.step > s.num.sstep.toNat then setGuard slot (fun g => { g with waitFrom := some (g.waitFrom.getD s.cyc) }) s
    else
      let s := match g.waitFrom with
        | some t => count .scaleWait 0 (s.cyc - t) (setGuard slot (fun g => { g with waitFrom := none }) s)
        | none => s
      if g.step < s.num.sstep.toNat then
        drainRanges (endGuard slot
          (post Ev.guardStepStale [slot, g.step, s.num.sstep.toNat] (count .stale 0 1 s)))
      else
        let (r, s) := readRec c g.recNo s
        match r with
        | none => refuseGuard slot 48 s
        | some r =>
          if r.malformed then refuseGuard slot 48 s
          else if r.count > 0 ∧ fpos r.largest then runGuard c slot 1 r.k r.fmt0 s
          else if g.n 0 > 0 then runGuard c slot 0 0 r.fmt0 s
          else runGuard c slot 1 r.kInit r.fmt0 s

/-- GUARD_TRIGGER (R214): s_trig of the guard in `slot` has triggered. -/
def execGuardTrigger (slot : Nat) (s : State) : Host.Outcome State Fault Refusal :=
  match s.num.ctx, kvFind slot s.num.guards with
  | some c, some g =>
    if s.inCompute || !s.powered || g.cur.isSome || !s.triggered g.sTrig then finish s else finish (startGuard c slot s)
  | _, _ => finish s

/-- The guards that wait for their step look again, the lower slot first (R217). -/
def retryGuards (s : State) : State :=
  match s.num.ctx with
  | none => s
  | some c => (s.num.guards.filter fun p => p.2.waitFrom.isSome).foldl (fun s p => startGuard c p.1 s) s

/-- The payload of Table 9-4, as qw2 to qw4 (16, Table 16-9). -/
def overflowPayload (step amax tally tag : Nat) (k k2 : Int) (f f2 slot : Nat) : List Nat :=
  [tag % 2 ^ 28 * 2 ^ 36 + ofSigned 8 k * 2 ^ 28 + ofSigned 8 k2 * 2 ^ 20 + f * 2 ^ 16 + f2 * 2 ^ 12 + slot % 2 ^ 12,
   amax * 2 ^ 32 + tally, step]

/-- The result stands: s_verdict is signalled and the guard finishes (R214). -/
def guardVerdict (slot : Nat) (g : Guard) (s : State) : State :=
  let s := (semAdd g.sVerdict 1 s).2
  drainRanges (endGuard slot (count .guardsDone 0 1 s))

/-- The next wider format (R214): E4M3, E5M2, BF16. -/
def widerFmt (f : Nat) : Nat := if f = 2 then 3 else 1

/-- A variant of a guard is complete (R214, R218). -/
def variantDone (c : NumCtx) (slot i : Nat) (g : Guard) (r : ScaleRec) (s : State) : State :=
  let a := fmul g.amax (pow2f (-g.k))
  let finite := !fisNan a && !fisInf a
  let s := if i = 1 ∧ finite then foldAmax c g a true s else s
  if g.tally = 0 then guardVerdict slot g s
  else
    match ([2, 3].filter fun j => decide (i < j) && decide (g.n j > 0)).head? with
    | none =>
      let p := overflowPayload g.step a g.tally g.firstTag g.k 0 g.fmt g.fmt slot
      guardVerdict slot g (post Ev.overflowUnresolved p (count .unresolved 0 1 s))
    | some j =>
      let f := widerFmt g.fmt
      let k := if f = 1 then 0 else if finite && fpos a then kFrom a (fmtMax f) r.room else g.k
      let p := overflowPayload g.step a g.tally g.firstTag g.k k g.fmt f slot
      let s := post Ev.overflowReplay p s
      let s := if f = 1 then count .replayBf16 0 1 s else count .replayE5m2 0 1 s
      runGuard c slot j k f s

/-- GUARD_RANGE_COMPLETE (R214): the current range of the guard in `slot` has counted its completions. -/
def execGuardRangeComplete (slot : Nat) (s : State) : Host.Outcome State Fault Refusal :=
  match s.num.ctx, kvFind slot s.num.guards with
  | some c, some g =>
    match g.cur with
    | none => finish s
    | some i =>
      if s.inCompute || !s.powered || decide (g.counted < g.n i) then finish s
      else
        match readRec c g.recNo s with
        | (none, s) => finish (refuseGuard slot 48 s)
        | (some r, s) =>
          if r.malformed then finish (refuseGuard slot 48 s)
          else if i = 0 then
            let p := g.amax
            let use := fpos p && !fisInf p
            let k := if use then kFrom p (fmtMax r.fmt0) r.room else r.kInit
            finish (runGuard c slot 1 k r.fmt0 (if use then foldAmax c g p false s else s))
          else finish (variantDone c slot i g r s)
  | _, _ => finish s

/-- What a COMPUTE reset leaves of numerics control (R228). -/
def numReset (s : State) : State := { s with num := { s.num with guards := [], sstep := 0 } }

end Sys2Proof.Machine
end

