-- ==== Sys2Proof/Machine/SpecMath.lean ====
section
/-!
DEFINITION. The arithmetic of the Spectrograph (11): normalisation, the dense iterations, residuals, the vectors of
conjugate gradients.
-/

namespace Sys2Proof.Machine

/-! Dense matrices, as rows of Q1.31 integers (R248, R253, R255). -/

abbrev QMat := List (List Int)

/-- Element (i, j). -/
def qAt (m : QMat) (i j : Nat) : Int := (m.getD i []).getD j 0

/-- The symmetric matrix whose element (i, j), i ≤ j, is `f i j`. -/
def qSym (d : Nat) (f : Nat → Nat → Int) : QMat :=
  (List.range d).map fun i => (List.range d).map fun j => f (min i j) (max i j)

/-- The flags of numbered elements. -/
def Marks.of (l : List (Nat × Flags)) : Marks :=
  ⟨(l.filter fun x => x.2.sat).map Prod.fst, (l.filter fun x => x.2.flush).map Prod.fst⟩

/-- The number of element (i, j) of a dense matrix. -/
def qKey (i j : Nat) : Nat := 8192 * i + j

/-- The upper triangle of a symmetric matrix of results, with the flags of its elements. -/
def qUpper (d : Nat) (f : Nat → Nat → Int × Flags) : QMat × Marks :=
  let up := (List.range d).map fun i => (List.range (d - i)).map fun j => (qKey i (i + j), f i (i + j))
  (qSym d fun i j => ((up.getD i []).getD (j - i) (0, 0, {})).2.1,
   Marks.of ((up.flatMap id).map fun x => (x.1, x.2.2)))

/-- One element of a product: Q16.48 sums over K in ascending order, then Q1.31 at exponent `e` (R248; 02, R47). -/
def qDot (ea e : Int) (a b : List Int) : Int × Flags :=
  let (acc, c) := (List.zip a b).foldl (fun (p : Int × Bool) x =>
    let (y, c) := q48Mac p.1 x.1 x.2
    (y, p.2 || c)) (0, false)
  let (v, fl) := q48ToQ ea e acc
  (v, { fl with sat := fl.sat || c })

/-- A product of two symmetric matrices, the sum of whose exponents is `ea`, at exponent `e`. -/
def qProduct (d : Nat) (ea e : Int) (p q : QMat) : QMat × Marks :=
  qUpper d fun i j => qDot ea e (p.getD i []) (q.getD j [])

/-- T of Table 11-6 for p = 1, 2 or 4: ((p + 1) I − M) / p at exponent 1. -/
def qT (p d : Nat) (m : QMat) : QMat × Marks :=
  qUpper d fun i j =>
    let x := (if i = j then ((p + 1 : Nat) : Int) * 2 ^ 30 else 0) - qAt m i j
    let (v, c) := clampS 32 (if p = 1 then x else rneShift x (if p = 2 then 1 else 2))
    (v, { sat := c, flush := decide (x ≠ 0 ∧ v = 0) })

/-- e_X of Table 11-6. -/
def qEx (p : Nat) (k : Int) : Int := (k + p - 1) / p + 1

/-- A step of Table 11-6 over the matrices 0 M, 1 T, 2 X, 3 T2, 4 T4: T formed from M, or a product. -/
inductive QOp
  | formT
  | prod (dst a b : Nat)
deriving DecidableEq, Repr

/-- The steps of an iteration (R255, Table 11-6). -/
def qSteps (p : Nat) : List QOp :=
  if p = 1 then [.formT, .prod 2 2 1, .prod 0 1 0]
  else if p = 2 then [.formT, .prod 3 1 1, .prod 0 3 0, .prod 2 2 1]
  else [.formT, .prod 3 1 1, .prod 4 3 3, .prod 0 4 0, .prod 2 2 1]

/-- The exponent of a matrix (R255, Table 11-6). -/
def qExp (p : Nat) (k : Int) (i : Nat) : Int :=
  if i = 2 then qEx p k else if (i = 3 ∧ p = 2) ∨ i = 4 then 2 else 1

/-- How far an iteration has come: the matrices, those it wrote in order, the flags. -/
structure QRun where
  mats : List QMat
  wrote : List Nat := []
  marks : Marks := {}
deriving DecidableEq, Repr

/-- A matrix is written, with the flags of its elements. -/
def QRun.put (r : QRun) (i : Nat) (x : QMat × Marks) : QRun :=
  { mats := r.mats.set i x.1, wrote := r.wrote ++ [i], marks := r.marks.join (x.2.shift (2 ^ 26 * i)) }

/-- The next step, unless a clamp has ended the iteration at the end of the step before (R256). -/
def QRun.step (p d : Nat) (k : Int) (r : QRun) (op : QOp) : QRun :=
  if !r.marks.sat.isEmpty then r
  else
    match op with
    | .formT => r.put 1 (qT p d (r.mats.getD 0 []))
    | .prod dst a b =>
      r.put dst (qProduct d (qExp p k a + qExp p k b) (qExp p k dst) (r.mats.getD a []) (r.mats.getD b []))

/-- One iteration (R255). -/
def qIterate (p d : Nat) (k : Int) (mats : List QMat) : QRun := (qSteps p).foldl (QRun.step p d k) { mats := mats }

/-- ρ of R257. -/
def qResidual (d : Nat) (m : QMat) : Nat :=
  (List.range d).foldl (fun r i =>
    let s := ((List.range d).map fun j => (((if i = j then (2 ^ 30 : Int) else 0) - qAt m i j).natAbs : Int)).sum
    fmax r (q48ToF32 0 (s * 2 ^ 18)).1) 0

/-! Normalisation (R253). -/

/-- Floor of log2 of a positive normal value. -/
def fexp (x : Nat) : Int := ((x / 2 ^ 23 % 256 : Nat) : Int) - 127

/-- A positive normal value. -/
def fposNormal (x : Nat) : Bool := !bit x 31 && bits x 30 23 != 0 && bits x 30 23 != 255

/-- Not a finite value. -/
def fnonfinite (x : Nat) : Bool := fisNan x || fisInf x

/-- a ≤ +0. -/
def fle0 (x : Nat) : Bool := !fisNan x && !fgt x 0

/-- What the bounds of an Assembler give: λ, σ and K, or a reason of Table 11-7. -/
abbrev Bound := Except Nat (Nat × Int × Int)

/-- The last steps of R253's first pass: σ a multiple of `p`, from the bound `c`. -/
def boundOf (p : Nat) (lam c : Nat) : Bound :=
  let sig := (p : Int) * (fexp c / p + 1)
  let k := sig - fexp lam
  if k > 24 then .error 3 else .ok (lam, sig, k)

/-- λ under lmode, for a trace `tau` and dimension `d`. -/
def lamOf (lmode : Bool) (lambda tau d : Nat) : Nat := if lmode then fmul lambda (fdiv tau (ffromInt d)) else lambda

/-- The first pass of R253 over the upper triangle `f`. -/
def densePass (p d : Nat) (lmode : Bool) (lambda : Nat) (f : Nat → Nat → Nat) : Bound :=
  let up := fun (i j : Nat) => f (min i j) (max i j)
  if (List.range d).any fun i => (List.range d).any fun j => fnonfinite (up i j) then .error 5
  else
    let tau := (List.range d).foldl (fun t i => fadd t (f i i)) 0
    let gam := (List.range d).foldl (fun g i =>
      fmax g ((List.range d).foldl (fun s j => fadd s (fabs (up i j))) 0)) 0
    let lam := lamOf lmode lambda tau d
    if !fposNormal lam then .error 3
    else if (List.range d).any fun i => fle0 (fadd (f i i) lam) then .error 2
    else boundOf p lam (fmin (fadd tau (fmul lam (ffromInt d))) (fadd gam lam))

/-- An element normalised (R253, R254): damped on the diagonal, then Q1.31 with exponent 1 after 2^(−σ). -/
def dampToQ (sig : Int) (lam : Nat) (diag : Bool) (x : Nat) : Int × Flags :=
  let (v, a) := if diag then addF x lam else (x, {})
  let (q, b) := f32ToQ (1 + sig) v
  (q, a.or b)

/-- The second pass: M₀ at exponent 1. -/
def denseM0 (d : Nat) (lam : Nat) (sig : Int) (f : Nat → Nat → Nat) : QMat × Marks :=
  qUpper d fun i j => dampToQ sig lam (i == j) (f i j)

/-! Vectors (R261), formed exactly as integers times powers of two. -/

/-- A value m × 2^k. -/
abbrev Dy := Int × Int

def dyAdd (a b : Dy) : Dy :=
  let k := min a.2 b.2
  (a.1 * 2 ^ (a.2 - k).toNat + b.1 * 2 ^ (b.2 - k).toNat, k)
def dyMul (a b : Dy) : Dy := (a.1 * b.1, a.2 + b.2)

/-- An FP32 pattern as such a value; none where it is not finite. -/
def dyOf (x : Nat) : Option Dy :=
  match f32v x with
  | .fin neg m e => some (if neg then -(m : Int) else m, e)
  | _ => none

/-- Element `i` of a vector. -/
def QVec.at (u : QVec) (i : Nat) : Dy := (u.v.getD i 0, u.e - 31)

/-- A vector formed under R261, with the flags of its elements; it may need an exponent above 127. -/
structure QvOut where
  v : QVec
  big : Bool := false
  marks : Marks := {}
deriving DecidableEq, Repr

/-- It ends the task with FAILED_BOUND (R256, R261). -/
def QvOut.bad (x : QvOut) : Bool := x.big || !x.marks.sat.isEmpty

/-- A vector from exact elements: the smallest exponent that holds them, each rounded once. -/
def qvOf (xs : List Dy) : QvOut :=
  let top := xs.foldl (fun (b : Int) x => if x.1 = 0 then b else max b (bitLen x.1.natAbs + x.2)) (-127)
  if top > 127 then { v := ⟨127, []⟩, big := true }
  else
    let r := xs.map fun x =>
      let n : Int := roundGrid .rne x.1.natAbs (x.2 - top + 31) 0
      let (v, c) := clampS 32 (if x.1 < 0 then -n else n)
      (v, ({ sat := c, flush := decide (x.1 ≠ 0 ∧ v = 0) } : Flags))
    { v := ⟨top, r.map Prod.fst⟩, marks := Marks.of ((List.range r.length).zip (r.map Prod.snd)) }

/-- The elements of FP32 patterns that are flushed as they are read (02, R39). -/
def readMarks (xs : List Nat) : Marks :=
  Marks.of ((List.range xs.length).zip (xs.map fun x => (fdecode ffp32 x).2))

/-- u + α·w. -/
def qvComb (u : QVec) (alpha : Nat) (w : QVec) : QvOut :=
  match dyOf alpha with
  | none => { v := u, big := true }
  | some a => qvOf ((List.range u.v.length).map fun i => dyAdd (u.at i) (dyMul a (w.at i)))

/-- A dot product: runs of 8,192 elements in Q16.48, each converted to FP32, added in order. -/
def qvDot (u w : QVec) : Nat :=
  (List.range ((u.v.length + 8191) / 8192)).foldl (fun s r =>
    let xs := List.zip ((u.v.drop (8192 * r)).take 8192) ((w.v.drop (8192 * r)).take 8192)
    fadd s (q48ToF32 (u.e + w.e) (xs.foldl (fun a x => (q48Mac a x.1 x.2).1) 0)).1) 0

/-- Â·v for stored blocks: Q16.48 sums, at the exponent of v (R260). -/
def bsrApply (nd : Nat) (blocks : List (Nat × Nat × List Int)) (u : QVec) : QvOut :=
  let add := fun (acc : List Int) (i : Nat) (x : Int) => acc.set i (acc.getD i 0 + x)
  let acc := blocks.foldl (fun acc b =>
    (List.range 1024).foldl (fun acc e =>
      let r := 32 * b.1 + e / 32
      let c := 32 * b.2.1 + e % 32
      let x := b.2.2.getD e 0
      let acc := add acc r (rneShift (x * u.v.getD c 0) 14)
      if b.1 = b.2.1 then acc else add acc c (rneShift (x * u.v.getD r 0) 14)) acc) (List.replicate nd 0)
  let r := acc.map (q48ToQ (1 + u.e) u.e)
  { v := ⟨u.e, r.map Prod.fst⟩, marks := Marks.of ((List.range nd).zip (r.map Prod.snd)) }

/-- Â·v = (q + λ·v) × 2^(−σ) for an operator (R262). -/
def operApply (lam : Nat) (sig : Int) (q : List Nat) (u : QVec) : QvOut :=
  match dyOf lam with
  | none => { v := u, big := true }
  | some l =>
    if q.any fun x => (dyOf x).isNone then { v := u, big := true }
    else
      let r := qvOf ((List.range u.v.length).map fun i =>
        let y := dyAdd ((dyOf (q.getD i 0)).getD (0, 0)) (dyMul l (u.at i))
        (y.1, y.2 - sig))
      { r with marks := r.marks.join (readMarks q) }

/-- The Jacobi weights applied; the vector itself where there are none (R259). -/
def precOf (w : List Nat) (u : QVec) : QvOut :=
  if w.isEmpty then { v := u }
  else if w.any fun x => (dyOf x).isNone then { v := u, big := true }
  else qvOf ((List.range u.v.length).map fun i => dyMul ((dyOf (w.getD i 0)).getD (0, 0)) (u.at i))

/-- A column of b, or of x_init, scaled by 2^(−σ_j). -/
def scaledCol (sig : Int) (xs : List Nat) : QvOut :=
  let r := qvOf (xs.map fun x => let y := (dyOf x).getD (0, 0); (y.1, y.2 - sig))
  { r with marks := r.marks.join (readMarks xs) }

/-- σ_j of R254; 0 for a column of zeros. -/
def colSig (xs : List Nat) : Int :=
  let m := xs.foldl (fun m x => fmax m (fabs x)) 0
  if fisZero m then 0 else fexp m + 1

/-- The flags of vector `n` of a column: 0 x, 1 the residual, 2 z, 3 the direction, 4 Â times it, 5 p of R262. -/
def QvOut.as (x : QvOut) (n : Nat) : Marks := x.marks.shift (65536 * n)

/-- What a column has come to: the column, the flags of what it wrote, and a reason of Table 11-7 that ends the task. -/
abbrev PcgTurn := PcgCol × Marks × Option Nat

/-- The start of a column, given Â·x₀ where x_init is used (R259). -/
def pcgStart (w : List Nat) (c : PcgCol) (ax : Option QVec) : PcgTurn :=
  let b := c.res
  let r := match ax with
    | none => ({ v := b } : QvOut)
    | some y => qvComb b (fneg f1) y
  let z := precOf w r.v
  if r.bad then (c, r.as 1, some 3)
  else
    ({ c with res := r.v, pv := z.v, rz := qvDot r.v z.v, nb := fsqrt (qvDot b b) }, (r.as 1).join (z.as 2),
     if z.bad then some 3 else none)

/-- One iteration of a column, given q = Â·pv (R259). -/
def pcgStep (w : List Nat) (tol : Nat) (c : PcgCol) (q : QVec) : PcgTurn :=
  let pq := qvDot c.pv q
  if fle0 pq then (c, {}, some 1)
  else
    let alpha := fdiv c.rz pq
    let x := qvComb c.x alpha c.pv
    let r := qvComb c.res (fneg alpha) q
    let marks := (x.as 0).join (r.as 1)
    if x.bad || r.bad then (c, marks, some 3)
    else
      let rel := fdiv (fsqrt (qvDot r.v r.v)) c.nb
      let c := { c with x := x.v, res := r.v, rel := rel, frozen := !fisNan rel && !fgt rel tol }
      if c.frozen then (c, marks, none)
      else if fgt rel 0x43800000 then (c, marks, some 4)
      else
        let z := precOf w r.v
        let marks := marks.join (z.as 2)
        if z.bad then (c, marks, some 3)
        else
          let rz := qvDot r.v z.v
          let pv := qvComb z.v (fdiv rz c.rz) c.pv
          ({ c with rz := rz, pv := pv.v }, marks.join (pv.as 3), if pv.bad then some 3 else none)

/-- The elements of column `j`. -/
def colMarks (j : Nat) (m : Marks) : Marks := m.shift (2 ^ 20 * j)

/-- The columns from number `j` on, each stepped by `f` unless frozen, up to the first that fails. -/
def pcgAll (f : Nat → PcgCol → PcgTurn) : Nat → List PcgCol → List PcgCol × Marks × Option Nat
  | _, [] => ([], {}, none)
  | j, c :: t =>
    let (c, m, e) := if c.frozen then (c, {}, none) else f j c
    match e with
    | some r => (c :: t, colMarks j m, some r)
    | none =>
      let (t, m', e) := pcgAll f (j + 1) t
      (c :: t, (colMarks j m).join m', e)

/-- A result element: Q1.31 at exponent `e` to FP32, scaled exactly by 2^s, then to the output format (R258). -/
def specOut (bf16 : Bool) (e s : Int) (v : Int) : Nat × Flags :=
  let (x, fl) := qToF32 e v
  let (y, fl2) := match f32v x with
    | .fin neg m k => fenc ffp32 .rne true (.fin neg m (k + s))
    | z => fenc ffp32 .rne true z
  if bf16 then
    let (b, fl3) := fconv ffp32 fbf16 .rne true y
    (b, (fl.or fl2).or fl3)
  else (y, fl.or fl2)

end Sys2Proof.Machine
end

