-- ==== Sys2Proof/Machine/Spectro.lean ====
section
/-!
DEFINITION. The Spectrographs, their Assemblers and the table store (11).
-/

namespace Sys2Proof.Machine

/-! Tables and entries (R266–R271). -/

/-- A field of words. -/
def wf (w : List Nat) (i hi lo : Nat) : Nat := bits (w.getD i 0) hi lo

/-- Bits `hi..lo` of word `i` replaced. -/
def wput (w : List Nat) (i hi lo v : Nat) : List Nat :=
  (List.range w.length).map fun j =>
    let x := w.getD j 0
    if j = i then x - bits x hi lo * 2 ^ lo + v % 2 ^ (hi + 1 - lo) * 2 ^ lo else x

/-- Change a table. -/
def setTable (i : Nat) (f : PTable → PTable) (s : State) : State :=
  { s with spec := { s.spec with tables := kvUpd i f s.spec.tables } }

/-- The entry fields of a parity: sel, age, src_gen (Table 11-10). -/
def entSel (w : List Nat) (p : Nat) : Nat := wf w 4 p p
def entAge (w : List Nat) (p : Nat) : Nat := wf w 4 (47 + 16 * p) (32 + 16 * p)
def entSrc (w : List Nat) (p : Nat) : Nat := wf w 5 (31 + 32 * p) (32 * p)
/-- The result buffer `b`, and the buffers' size in bytes. -/
def entBuf (w : List Nat) (b : Nat) : Nat := wf w (2 + b) 51 0
def entCap (w : List Nat) : Nat := wf w 6 31 0 * 65536

/-- The address of entry `i`. -/
def PTable.entry (t : PTable) (i : Nat) : Nat := t.entries + 64 * i

/-- The lowest bit of the first offending field of an entry (R267). -/
def entryBad (w : List Nat) : Option Nat :=
  let buf := fun (b : Nat) =>
    let a := entBuf w b
    !aligned a 4096 || !inDram a || !inDram (a + entCap w - 1) || tierOf a != tierOf (a + entCap w - 1)
  let tests : List (Bool × Nat) :=
    [(wf w 0 63 0 != 0, 0), (wf w 1 63 0 != 0, 64), (buf 0, 128), (wf w 2 63 52 != 0, 180), (buf 1, 192),
     (wf w 3 63 52 != 0, 244), (wf w 4 31 2 != 0, 258)]
  (tests.find? fun t => t.1).map Prod.snd

/-- The lowest bit of the first offending field of directory record `i`, valid or record 0 (R266). -/
def dirBad (i : Nat) (w : List Nat) : Option Nat :=
  let a := wf w 1 51 0
  let n := 64 * wf w 0 31 16
  let tests : List (Bool × Nat) :=
    [(wf w 0 13 0 != 0, 0), (i == 0, 15), (wf w 0 31 16 == 0, 16),
     (!aligned a 64 || !inDram a || !inDram (a + n - 1) || tierOf a != tierOf (a + n - 1), 64), (wf w 1 63 52 != 0, 116),
     (wf w 2 23 0 != 0, 128)] ++ (List.range 3).map fun j => (wf w (5 + j) 63 0 != 0, 64 * (5 + j))
  (tests.find? fun t => t.1).map Prod.snd

/-- Words in records of `n`. -/
def chunks (n : Nat) : Nat → List Nat → List (List Nat)
  | 0, _ => []
  | k + 1, ws => ws.take n :: chunks n k (ws.drop n)

/-- A table from its record and its entries: those that the record counts as done are known by done_gen. -/
def tableOf (w : List Nat) (es : List (List Nat)) : PTable :=
  let g := wf w 0 63 32
  let n := wf w 0 31 16
  let done := if wf w 3 63 32 = 0 then [] else (List.range n).filter fun i => wf (es.getD i []) 6 63 32 == genSucc g
  { entries := wf w 1 51 0, count := n, gen := g, halt := wf w 0 14 14 == 1, haltStream := wf w 2 31 24
    staleLimit := wf w 2 47 32, ageLimit := wf w 2 63 48, done := done, staleRun := wf w 3 31 0
    staleTotal := wf w 4 31 0, commits := wf w 4 63 32, opened := !done.isEmpty }

/-- The entries of every valid record, one table after the other: refused at the first offending one. -/
def loadTables (k : KV PTable → State → Reply) : List (Nat × List Nat) → KV PTable → State → Reply
  | [], ts, s => k ts s
  | (i, w) :: rest, ts, s =>
    let n := wf w 0 31 16
    match dirBad i w with
    | some b => .done St.spectroArgInvalid [i, 0, b] s
    | none =>
      readBuffer (wf w 1 51 0) (64 * n) 64 s fun bs s =>
        let es := chunks 8 n (bytesWords bs)
        match ((List.range n).zip es).findSome? fun e => (entryBad e.2).map fun b => (e.1, b) with
        | some (e, b) => .done St.spectroArgInvalid [i, e, b] s
        | none => loadTables k rest (kvSet i (tableOf w es) ts) s

/-- CONFIGURE_SPECTROGRAPH (R247, R266). -/
def execConfigureSpectrograph (m : Fin 16) (s : State) : Host.Outcome State Fault Refusal :=
  mbxCommand 0x0402 anyArgs m (fun a s =>
    let n := a.n 1
    let x := a.n 2
    let kib := bits x 31 16
    let c := bits x 5 0
    let cs := if c = 0x3F then List.range 32 else [c]
    let sgBad := bit x 6 && ((kib != 1024 && kib != 2048 && kib != 4096) || (decide (c ≥ 32) && c != 0x3F) ||
      cs.any fun c => decide (kvGet 2048 c s.strm.mcastKib + kib > 8192))
    if sgBad || (a.n 0 != 0 && (n == 0 || decide (n > 4096))) then .done St.spectroArgInvalid [] s
    else
      let sg := fun (s : State) => if bit x 6 then
        { s with spec := { s.spec with sgKib := cs.foldl (fun t c => kvPut 2048 c kib t) s.spec.sgKib } } else s
      if a.n 0 = 0 then .done St.ok [] (sg s)
      else
        readBuffer (a.n 0) (64 * n) 64 s fun bs s =>
          let rs := (List.range n).zip (chunks 8 n (bytesWords bs))
          loadTables (fun ts s =>
            .done St.ok [] (sg { s with spec := { s.spec with dir := some (a.n 0, n), tables := ts } }))
            (rs.filter fun r => wf r.2 0 15 15 == 1) [] s) s

/-- Take a table hold: the generation held; none where the table has none; nothing yet where 65,535 are held (R270). -/
def tableHold (i : Nat) (s : State) : Option (Option Nat) × State :=
  match kvFind i s.spec.tables with
  | none => (some none, s)
  | some t =>
    if t.gen = 0 then (some none, s)
    else if kvGet 0 t.gen t.holds ≥ 65535 then (none, s)
    else (some (some t.gen), setTable i (fun t => { t with holds := kvMod 0 t.gen (· + 1) t.holds }) s)

/-- Release a hold on generation `g`. -/
def tableDrop (i g : Nat) (s : State) : State :=
  setTable i (fun t => { t with holds := kvMod 0 g (· - 1) t.holds }) s

/-- A hold on a generation other than G pins the build buffers (R270). -/
def PTable.pinned (t : PTable) : Bool := t.holds.any fun h => h.1 != t.gen && h.2 != 0

/-- The directory record of a table is written back. -/
def writeDir (i : Nat) (s : State) : State :=
  match s.spec.dir, kvFind i s.spec.tables with
  | some (base, _), some t =>
    let a := base + 64 * i
    let (_, bs, s) := devRead a 64 s
    let w := wput (bytesWords bs) 0 63 32 t.gen
    let w := wput (wput w 3 63 32 t.done.length) 3 31 0 t.staleRun
    devPut a (wordBytes (wput (wput w 4 63 32 t.commits) 4 31 0 t.staleTotal)) s
  | _, _ => s

/-- A table's event under action HALT halts its stream (R271; 16, cause TABLE). -/
def tableHalt (t : PTable) (s : State) : State := if t.halt then haltStream t.haltStream 0 0x100 s else s

/-- The commit of a table, or its staleness (R269, R271). -/
def tableStep (i : Nat) (s : State) : State :=
  match kvFind i s.spec.tables with
  | none => s
  | some t =>
    let cap := fun (x : Nat) => Nat.min (x + 1) 0xFFFFFFFF
    if t.done.length = t.count then
      let g := genSucc t.gen
      let (es, s) := (List.range t.count).foldl (fun (p : List (List Nat) × State) k =>
        let (_, bs, s) := devRead (t.entry k) 64 p.2
        (p.1 ++ [bytesWords bs], s)) ([], s)
      let old := es.countP fun w => decide (entAge w (g % 2) > t.ageLimit) || entAge w (g % 2) == 0xFFFF
      let t := { t with gen := g, done := [], staleRun := 0, commits := cap t.commits, opened := false }
      let s := writeDir i (count .commits 0 1 (setTable i (fun _ => t) s))
      if t.ageLimit ≠ 0 ∧ old > 0 then
        tableHalt t (post Ev.tableAgeExceeded [i, g, old] (count .ageEvents 0 1 s))
      else s
    else if t.opened then
      let t := { t with staleRun := cap t.staleRun, staleTotal := cap t.staleTotal }
      let s := writeDir i (count .staleBoundaries 0 1 (setTable i (fun _ => t) s))
      if t.staleLimit ≠ 0 ∧ t.staleRun = t.staleLimit + 1 then
        tableHalt t (post Ev.tableStaleExceeded [i, t.gen, t.staleRun] (count .staleEvents 0 1 s))
      else s
    else writeDir i s

/-- TABLE_COMMIT: the step boundary visits every valid table in ascending id (R269). -/
def tableBoundary (s : State) : State := s.spec.tables.foldl (fun s p => tableStep p.1 s) s

/-! Jobs. -/

/-- The fields of a SPECTRO task (04, Table 4-8). -/
def Desc.sgen (d : Desc) : Nat := d.f 6 63 32
def Desc.stable (d : Desc) : Nat := d.f 6 31 16
def Desc.stol (d : Desc) : Nat := d.f 5 63 32
def Desc.scap (d : Desc) : Nat := d.f 5 31 16
def Desc.sdeadline (d : Desc) : Nat := d.f 4 63 0
def Desc.sout (d : Desc) : Nat := d.f 3 51 0
def Desc.skind (d : Desc) : Nat := d.f 2 63 60
def Desc.sproblem (d : Desc) : Nat := d.f 2 51 0
/-- p of R253. -/
def Desc.sp (d : Desc) : Nat := if d.skind = 0 then 1 else if d.skind = 1 then 2 else if d.skind = 2 then 4 else 1

/-- Fields of the problem record (Table 11-2). -/
def SpJob.f (j : SpJob) (w hi lo : Nat) : Nat := wf j.rec_ w hi lo
def SpJob.kindSrc (j : SpJob) : Nat := j.f 0 63 60
def SpJob.nbr (j : SpJob) : Nat := j.f 1 31 20
def SpJob.nrhs (j : SpJob) : Nat := j.f 1 19 13
def SpJob.bf16 (j : SpJob) : Bool := j.f 0 57 56 == 1
def SpJob.lambda (j : SpJob) : Nat := j.f 0 31 0
def SpJob.lmode (j : SpJob) : Bool := j.f 0 59 59 == 1
def SpJob.mat (j : SpJob) : Nat := j.f 3 51 0
def SpJob.dim (j : SpJob) : Nat := 32 * j.nbr
/-- Block columns of the right-hand sides. -/
def SpJob.bcols (j : SpJob) : Nat := ceilDiv j.nrhs 32

/-- The scratch that a problem needs, in bytes before rounding up (Table 11-3). -/
def SpJob.need (j : SpJob) (kind : Nat) : Nat :=
  let np := 64 * ceilDiv j.dim 64
  match j.kindSrc with
  | 2 => 6 * j.dim * 256
  | 3 => 5 * j.dim * 256
  | _ => (3 + kind) * np * np * 4

/-- Change a job. -/
def setJob (t : Nat) (f : SpJob → SpJob) (s : State) : State :=
  { s with spec := { s.spec with jobs := kvUpd t f s.spec.jobs } }

/-- The job of a cluster in one of the given stages. -/
def State.jobIn (s : State) (c : Nat) (l : List SpStage) : Option SpJob :=
  (s.spec.jobs.find? fun p => p.2.cluster == c && l.contains p.2.stage).map Prod.snd

/-- A job's Photometer hold is released (10, R240). -/
def unhold (t : Nat) (s : State) : State :=
  match (kvFind t s.spec.jobs).bind SpJob.held with
  | none => s
  | some (slot, b) =>
    setJob t (fun j => { j with held := none })
      { s with phot := { s.phot with slots := kvUpd slot (fun x => x.dropHold b) s.phot.slots } }

/-- The result word (Table 11-12). -/
def specResult (reason outcome iters rho : Nat) : Nat :=
  reason * 2 ^ 56 + outcome * 2 ^ 48 + iters % 65536 * 2 ^ 32 + rho

/-- The task's work is over. -/
def specFinish (t c st det result : Nat) (s : State) : State :=
  count .spTasks c 1 (setTask t (fun k => { k with
    phase := .finished, status := if k.poisoned then k.status else st, detail := if k.poisoned then k.detail else det
    result := result }) s)

/-- The counter of a job's wait: for a Photometer hold, for its build buffer, for an application (Table 11-13). -/
def SpStage.waits : SpStage → Counter
  | .hold => .holdWait
  | .out => .buildHoldWait
  | _ => .operatorWait

/-- A job waits from now on, or still does. -/
def startWait (t : Nat) (s : State) : State := setJob t (fun j => { j with waitFrom := some (j.waitFrom.getD s.cyc) }) s

/-- A job's wait is over: it is counted once (R273). -/
def stopWait (t : Nat) (s : State) : State :=
  match kvFind t s.spec.jobs with
  | none => s
  | some j =>
    match j.waitFrom with
    | none => s
    | some x => setJob t (fun j => { j with waitFrom := none }) (count j.stage.waits j.cluster (s.cyc - x) s)

/-- Elements have been written with these flags (R272). -/
def addMarks (t : Nat) (m : Marks) (s : State) : State := setJob t (fun j => { j with marks := j.marks.join m }) s

/-- A job ends: its task's counters take each element's flags once (02, R58; R272). -/
def closeJob (j : SpJob) (st det result : Nat) (s : State) : State :=
  let s := stopWait j.task s
  let m := ((kvFind j.task s.spec.jobs).map SpJob.marks).getD {}
  let s := setTask j.task (fun k => { k with
    sat := Nat.min (k.sat + m.sat.length) 0xFFFFFFFF, flush := Nat.min (k.flush + m.flush.length) 0xFFFFFFFF }) s
  specFinish j.task j.cluster st det result { s with spec := { s.spec with jobs := kvDel j.task s.spec.jobs } }

/-- A task ends at a fault that finishes no entry (R249, R250; 17, R414). -/
def stopJob (j : SpJob) (st det : Nat) (s : State) : State :=
  closeJob j st det (specResult 0 0 j.iters j.rho) (unhold j.task s)

/-- A job is decided: its entry is to be finished, once no application is in flight (R262, R268). The wait for such an
application goes on; any other wait ends. -/
def decideJob (t outcome reason st : Nat) (s : State) : State :=
  let flying := (kvFind t s.spec.jobs).any fun j => j.stage == .applying || j.stage == .draining
  let s := unhold t (if flying then s else stopWait t s)
  setJob t (fun j => { j with
    stage := if flying then .draining else .out, outcome := outcome, reason := reason, status := st }) s

/-- A job ends INFEASIBLE (R263). -/
def infeasible (j : SpJob) (d : Desc) (reason : Nat) (s : State) : State :=
  let s := post Ev.spectroInfeasible [d.stable, j.entry, reason, d.sproblem] (count .infeasible j.cluster 1 s)
  decideJob j.task 2 reason Ts.infeasible s

/-- Its deadline has expired before a decision (R264). -/
def missed (j : SpJob) (s : State) : State :=
  decideJob j.task 2 0 Ts.deadlineMissed (count .deadlineMissed j.cluster 1 s)

/-- The cycle in which a task's deadline expires is past: a decision in that cycle itself stands (R264, R265). -/
def State.expired (s : State) (d : Desc) : Bool := decide (d.sdeadline < s.now)

/-! The scratch region (R248, R254, R255; log entry 89). -/

/-- n_p of R255. -/
def qSide (d : Nat) : Nat := 64 * ceilDiv d 64

/-- The bytes of a full matrix, and of its upper triangle. -/
def qFull (d : Nat) : Nat := 4 * (qSide d * qSide d)
def qHalf (d : Nat) : Nat := 4 * (qSide d * (qSide d + 1) / 2)

/-- A full matrix as scratch holds it: in blocks (03, R60). -/
def qBytes (d : Nat) (m : QMat) : List Byte :=
  let nb := 2 * ceilDiv d 64
  patBytes 4 ((List.range (nb * nb)).flatMap fun b => (List.range 1024).map fun e =>
    ofSigned 32 (qAt m (32 * (b / nb) + e / 32) (32 * (b % nb) + e % 32)))

/-- Matrix `i` of M, T, X, T2, T4 is written, in that order from the scratch base (R255). -/
def writeMat (j : SpJob) (i : Nat) (m : QMat) (s : State) : State :=
  taskWrite j.task (j.f 2 51 0 + i * qFull j.dim) (qBytes j.dim m) s

/-- Bytes of a PCG problem's scratch before its vectors: the normalised blocks, and the diagonal under JACOBI (R254). -/
def SpWork.matBytes (d : Nat) : SpWork → Nat
  | .bsr bl w _ => 4096 * bl.length + if w.isEmpty then 0 else 4 * d
  | _ => 0

/-- The vectors of a PCG problem are read and written in scratch: the spec states neither their bytes nor their traffic
(log entry 89). -/
def useVectors (j : SpJob) (s : State) : State :=
  let o := j.work.matBytes j.dim
  let n := Nat.min (5 * j.dim * 256) (j.f 1 63 32 * 65536 - o)
  let (x, s) := draw s
  let (rd, s) := draw s
  let (wr, s) := draw s
  count .writeBytes j.cluster wr (count .readBytes j.cluster rd
    (taskWrite j.task (j.f 2 51 0 + o) ((List.range n).map (Config.scratchByte x)) s))

/-- Read for a job: its task ends POISONED, or its read is held, or it goes on with the bytes. -/
def jobRead (j : SpJob) (runs : List (Nat × Nat)) (s : State) (k : List Byte → State → State) : State :=
  match taskReads (j.cluster / 16) runs s with
  | (.held _, s) => s
  | (.poison a, s) => stopJob j Ts.poisoned a s
  | (.ok bs, s) => k bs (count .readBytes j.cluster (runs.map Prod.snd).sum s)

/-- The header of a source is read through Finder (06, Table 6-5). -/
def headRead (j : SpJob) (s : State) (k : List Byte → State → State) : State :=
  jobRead j [(j.mat, 64)] s fun bs s => k bs (count .finderReads (j.cluster / 16) 1 s)

/-- Addresses that a record names: address, bytes, alignment (R249). The first fault as status and detail. -/
def jobAddrs (s : State) (c : Nat) (l : List (Nat × Nat × Nat)) : Option (Nat × Nat) :=
  match l.find? fun x => !aligned x.1 x.2.2 with
  | some x => some (Ts.addrMisaligned, x.1)
  | none =>
    l.findSome? fun x => (s.taskFault (.spectro c) x.1 x.2.1).map fun f =>
      ((match f.1 with | .reserved => Ts.addrReserved | .denied => Ts.addrDenied), f.2)

/-! Taking a task (R245, R249, R266). -/

/-- The table and the entry index of a task; none where R266 finds a mismatch. -/
def State.specEntry (s : State) (d : Desc) : Option (PTable × Nat) :=
  match kvFind d.stable s.spec.tables with
  | none => none
  | some t =>
    let i := (d.sout - t.entries) / 64
    if d.stable ≠ 0 ∧ d.sgen = genSucc t.gen ∧ d.sout = t.entry i ∧ i < t.count ∧ !t.done.contains i then some (t, i)
    else none

/-- The problem record breaks Table 11-2 or 11-3, or its result does not fit (R249, R258). -/
def SpJob.invalid (j : SpJob) (d : Desc) (s : State) (ent : List Nat) : Bool :=
  let src := j.kindSrc
  let kind := d.skind
  let dense := src < 2
  let need := j.need kind
  let blocks := if dense then j.nbr * j.nbr else j.nbr * j.bcols
  let slotBad := match kvFind (j.f 0 55 40) s.phot.slots with
    | some x => x.nb != j.nbr
    | none => true
  decide (src ≥ 4) || decide (j.f 0 57 56 ≥ 2) || j.f 0 39 32 != 0 || j.f 1 12 0 != 0 || j.f 2 63 52 != 0 ||
  j.f 3 63 52 != 0 || j.f 4 63 52 != 0 || j.f 5 63 52 != 0 || j.f 6 63 0 != 0 || j.f 7 63 0 != 0 ||
  (if dense then kind == 3 || decide (j.nbr > 256) || j.nrhs != 0 || j.f 4 51 0 != 0 || j.f 5 51 0 != 0 || j.f 0 58 58 != 0
   else kind != 3 || decide (j.nbr > 2048) || j.nrhs == 0 || decide (j.nrhs > 64)) ||
  j.nbr == 0 || (src == 3 && (j.f 0 58 58 != 0 || j.lmode)) || (src == 0 && (j.mat != 0 || slotBad)) ||
  (src != 0 && j.f 0 55 40 != 0) || !fposNormal j.lambda || decide (j.f 1 63 32 < ceilDiv need 65536) ||
  decide (blocks * (if j.bf16 then 2048 else 4096) > entCap ent)

/-- The addresses that the problem record names. -/
def SpJob.names (j : SpJob) : List (Nat × Nat × Nat) :=
  let side := j.nbr * j.bcols * 4096
  [(j.f 2 51 0, j.f 1 63 32 * 65536, 65536)] ++
  (match j.kindSrc with
   | 0 => []
   | 1 => [(j.mat, j.nbr * j.nbr * 4096, 4096)]
   | _ => [(j.mat, 64, 64), (j.f 4 51 0, side, 4096)]) ++
  (if j.kindSrc ≥ 2 ∧ j.f 5 51 0 ≠ 0 then [(j.f 5 51 0, side, 4096)] else [])

/-- The entry that a task's out names: one of the table (R266); none named is reported as a free value. -/
def entryNamed (s : State) (d : Desc) : Option Nat :=
  match kvFind d.stable s.spec.tables with
  | none => none
  | some t =>
    let i := (d.sout - t.entries) / 64
    if d.sout = t.entry i ∧ i < t.count then some i else none

/-- The Assembler takes a task. -/
def takeProblem (c t : Nat) (d : Desc) (s : State) : State :=
  match s.specEntry d with
  | none =>
    let (e, s) := match entryNamed s d with | some i => (i, s) | none => draw s
    let s := post Ev.spectroInfeasible [d.stable, e, 8, d.sproblem] (count .infeasible c 1 s)
    specFinish t c Ts.infeasible 0 (specResult 8 2 0 0) s
  | some (tb, i) =>
    let put := fun (j : SpJob) (s : State) => { s with spec := { s.spec with jobs := kvSet t j s.spec.jobs } }
    let j : SpJob := { task := t, cluster := c, stage := .passes, rec_ := [], entry := i }
    if s.expired d then missed j (put j s)
    else
      match taskReads (c / 16) [(d.sproblem, 64), (tb.entry i, 64)] s with
      | (.held g, s) => setTask t (fun k => { k with heldBy := some g }) s
      | (.poison a, s) => specFinish t c Ts.poisoned a 0 s
      | (.ok bs, s) =>
        let ws := bytesWords bs
        let j := { j with rec_ := ws.take 8 }
        let s := count .finderReads (c / 16) 1 (count .readBytes c 128 (put j s))
        if j.invalid d s (ws.drop 8) then infeasible j d 7 s
        else
          match jobAddrs s c j.names with
          | some (st, a) => stopJob j st a s
          | none => if j.kindSrc = 0 then setJob t (fun j => { j with stage := .hold }) s else s

/-- SPECTRO_TASK (R245): the Assembler of cluster `c` takes the next task of its unit queue. -/
def execSpectroTask (c : Fin 32) (s : State) : Host.Outcome State Fault Refusal :=
  let s := chargeAll s
  let c := c.val
  let busy := (s.jobIn c [.hold, .passes, .ready]).isSome
  let stuck := s.mer.tasks.any fun p => p.2.desc.type == 5 && p.2.loc == c && p.2.phase == .running && p.2.heldBy.isSome
  match s.unitPick c (32 + c) [5] 64 with
  | none => finish s
  | some (.copy _) => finish s
  | some (.task t k) =>
    if !s.clusterUp c || busy || (stuck && k.phase != .running) then finish s
    else finish (takeProblem c t k.desc (startUnit t s))

/-! Holds and passes (R252–R254). -/

/-- Under its hold the Assembler compares the generation with the entry's (R252). -/
def holdCompare (j : SpJob) (d : Desc) (s : State) : State :=
  match kvFind d.stable s.spec.tables with
  | none => infeasible j d 8 s
  | some tb =>
    let p := tb.gen % 2
    jobRead j [(tb.entry j.entry, 64)] s fun bs s =>
      let w := bytesWords bs
      if tb.gen ≥ 1 ∧ entAge w p ≠ 0xFFFF ∧ entSrc w p = j.src then decideJob j.task 3 0 0 s
      else setJob j.task (fun j => { j with stage := .passes }) s

/-- PHOTOMETER_HOLD (R252; 10, R240). -/
def execPhotometerHold (c : Fin 32) (s : State) : Host.Outcome State Fault Refusal :=
  match s.jobIn c.val [.hold] with
  | none => finish s
  | some j =>
    match s.task j.task with
    | none => finish s
    | some k =>
      let d := k.desc
      let slot := j.f 0 55 40
      if s.expired d then finish (missed j s)
      else if j.held.isSome then finish (holdCompare j d s)
      else
        match kvFind slot s.phot.slots with
        | none => finish (infeasible j d 6 (count .holdsRefused 0 1 s))
        | some x =>
          if x.gen = 0 then finish (infeasible j d 6 (count .holdsRefused 0 1 s))
          else if x.holds x.cur ≥ 65535 then finish (startWait j.task s)
          else
            let j' := { j with held := some (slot, x.cur), src := x.gen, waitFrom := none }
            let s := setSlot slot (fun x => x.addHold x.cur) (stopWait j.task s)
            finish (holdCompare j' d (setJob j.task (fun _ => j') s))

/-- PHOTOMETER_HOLD_RELEASE (R252): after its second pass the Assembler releases its hold. -/
def execPhotometerHoldRelease (c : Fin 32) (s : State) : Host.Outcome State Fault Refusal :=
  match s.spec.jobs.find? fun p => p.2.cluster == c.val && p.2.held.isSome && p.2.stage != .passes with
  | none => finish s
  | some (t, _) => finish (unhold t s)

/-- The passes over a dense source (R253): each reads its upper triangle. -/
def denseDone (j : SpJob) (d : Desc) (s : State) : State :=
  let nb := j.nbr
  let runs := match j.held with
    | some (slot, b) =>
      match kvFind slot s.phot.slots with
      | some x => [(x.bufAt b 0, packedCount nb * 4096)]
      | none => []
    | none => (List.range nb).map fun i => (j.mat + (i * nb + i) * 4096, (nb - i) * 4096)
  let elem := fun (bs : List Byte) =>
    let xs := patterns 4 (packedCount nb * 1024) bs
    fun (r c : Nat) => xs.getD (packedIndex nb (r / 32) (c / 32) * 1024 + 32 * (r % 32) + c % 32) 0
  jobRead j runs s fun bs s =>
    match densePass d.sp j.dim j.lmode j.lambda (elem bs) with
    | .error r => infeasible j d r s
    | .ok (lam, sig, k) =>
      jobRead j runs s fun bs s =>
        let (m, c) := denseM0 j.dim lam sig (elem bs)
        let one := 2 ^ (31 - qEx d.sp k).toNat
        let j' := { j with
          stage := .ready, lam := lam, sig := sig, k := k, marks := c
          work := .dense [m, [], qSym j.dim fun r c => if r = c then one else 0, [], []] }
        let s := count .writeBytes j.cluster (qFull j.dim) (writeMat j' 0 m (setJob j.task (fun _ => j') s))
        if c.sat.isEmpty then s else infeasible j' d 3 s

/-- Column `i` of a blocked nd × 32·bc FP32 tensor. -/
def blockCol (bc nd : Nat) (xs : List Nat) (i : Nat) : List Nat :=
  (List.range nd).map fun r => xs.getD ((r / 32 * bc + i / 32) * 1024 + 32 * (r % 32) + i % 32) 0

/-- Column `i` of a PCG problem from b and x_init, with b̂ as its residual; one of zeros is solved at once (R254). -/
def pcgCol (j : SpJob) (b x : List Nat) (i : Nat) : PcgTurn :=
  let bi := blockCol j.bcols j.dim b i
  let sig := colSig bi
  let b := scaledCol sig bi
  let x := scaledCol sig (blockCol j.bcols j.dim x i)
  let marks := (x.as 0).join (b.as 1)
  if b.v.v.all (· == 0) then
    ({ sig := sig, x := ⟨-127, b.v.v.map fun _ => 0⟩, res := b.v, pv := b.v, frozen := true }, marks, none)
  else ({ sig := sig, x := x.v, res := b.v, pv := b.v }, marks, if b.bad || x.bad then some 3 else none)

/-- Read b and x_init. -/
def pcgSides (j : SpJob) (s : State) (k : List Nat → List Nat → State → State) : State :=
  let n := j.nbr * j.bcols * 4096
  jobRead j [(j.f 4 51 0, n)] s fun b s =>
    if j.f 5 51 0 = 0 then k (patterns 4 (n / 4) b) [] s
    else jobRead j [(j.f 5 51 0, n)] s fun x s => k (patterns 4 (n / 4) b) (patterns 4 (n / 4) x) s

/-- The right-hand sides of a PCG problem are scaled, and it is assembled (R254). -/
def pcgReady (j : SpJob) (d : Desc) (bd : Nat × Int × Int) (work : List PcgCol → SpWork) (s : State) : State :=
  pcgSides j s fun b x s =>
    let none' : PcgCol := { sig := 0, x := ⟨0, []⟩, res := ⟨0, []⟩, pv := ⟨0, []⟩ }
    if (List.range j.nrhs).any fun i =>
        (blockCol j.bcols j.dim b i).any fnonfinite || (blockCol j.bcols j.dim x i).any fnonfinite then infeasible j d 5 s
    else
      let (cols, m, e) := pcgAll (fun i _ => pcgCol j b x i) 0 (List.replicate j.nrhs none')
      let j' := { j with
        stage := .ready, lam := bd.1, sig := bd.2.1, k := bd.2.2, marks := j.marks.join m, work := work cols }
      let s := useVectors j' (setJob j.task (fun _ => j') s)
      match e with
      | some r => infeasible j' d r s
      | none => s

/-- R250: the row pointers and columns of a block-sparse matrix. -/
def bsrBad (nbr nnzb : Nat) (rp ci : List Nat) : Bool :=
  rp.getD 0 1 != 0 || rp.getD nbr 0 != nnzb ||
  (List.range nbr).any fun r =>
    let lo := rp.getD r 0
    let hi := rp.getD (r + 1) 0
    decide (hi ≤ lo) || decide (hi > nnzb) || ci.getD lo nbr != r ||
    (List.range (hi - lo)).any fun k => decide (ci.getD (lo + k) 0 ≥ nbr) ||
      (k != 0 && decide (ci.getD (lo + k) 0 ≤ ci.getD (lo + k - 1) 0))

/-- The block row of stored block `b`. -/
def bsrRow (nbr : Nat) (rp : List Nat) (b : Nat) : Nat := ((List.range nbr).filter fun r => decide (rp.getD r 0 ≤ b)).length - 1

/-- Stored blocks: row, column, and the elements as FP32 patterns with the flags of their reading. -/
abbrev BsrBlocks := List (Nat × Nat × List (Nat × Flags))

/-- Element `e` of a block. -/
def bsrAt (b : Nat × Nat × List (Nat × Flags)) (e : Nat) : Nat × Flags := b.2.2.getD e (0, {})

/-- The first pass of R254 over stored blocks: the bound. -/
def bsrBound (j : SpJob) (bl : BsrBlocks) : Bound :=
  let nd := j.dim
  let g := bl.foldl (fun g b =>
    (List.range 1024).foldl (fun (g : List Nat) e =>
      let r := 32 * b.1 + e / 32
      let c := 32 * b.2.1 + e % 32
      let v := fabs (bsrAt b e).1
      let g := g.set r (fadd (g.getD r 0) v)
      if b.1 = b.2.1 then g else g.set c (fadd (g.getD c 0) v)) g) (List.replicate nd 0)
  let diag := bl.flatMap fun b => if b.1 = b.2.1 then (List.range 32).map fun i => (bsrAt b (33 * i)).1 else []
  let lam := lamOf j.lmode j.lambda (diag.foldl fadd 0) nd
  if !fposNormal lam then .error 3
  else if diag.any fun x => fle0 (fadd x lam) then .error 2
  else boundOf 1 lam (fadd (g.foldl fmax 0) lam)

/-- The second pass: the normalised blocks, and the flags of the elements on and above the diagonal (R250, R254). -/
def bsrNorm (lam : Nat) (sig : Int) (bl : BsrBlocks) : List (Nat × Nat × List Int) × Marks :=
  let r := bl.map fun b => (b.1, b.2.1, (List.range 1024).map fun e =>
    let x := bsrAt b e
    let (q, f) := dampToQ sig lam (b.1 == b.2.1 && e % 33 == 0) x.1
    (q, if b.1 = b.2.1 ∧ e % 32 < e / 32 then ({} : Flags) else x.2.or f))
  (r.map fun b => (b.1, b.2.1, b.2.2.map Prod.fst),
   (Marks.of (((List.range r.length).zip r).flatMap fun b =>
     ((List.range 1024).zip b.2.2.2).map fun e => (1024 * b.1 + e.1, e.2.2))).shift (2 ^ 40))

/-- The normalised diagonal. -/
def bsrDiag (bl : List (Nat × Nat × List Int)) : List Int :=
  bl.flatMap fun b => if b.1 = b.2.1 then (List.range 32).map fun i => b.2.2.getD (33 * i) 0 else []

/-- The second pass over the stored blocks at `at_`: they are written into scratch, with the diagonal under JACOBI, as far
as the region reaches (R254; log entry 89). -/
def bsrReady (j : SpJob) (d : Desc) (at_ : Nat) (blocks : BsrBlocks) (s : State) : State :=
  match bsrBound j blocks with
  | .error r => infeasible j d r s
  | .ok bd =>
    jobRead j [(at_, 4096 * blocks.length)] s fun _ s =>
      let (bl, m) := bsrNorm bd.1 bd.2.1 blocks
      let diag := if j.f 0 58 58 = 1 then bsrDiag bl else []
      let bytes := patBytes 4 (((bl.flatMap fun b => b.2.2) ++ diag).map (ofSigned 32))
      let bytes := bytes.take (j.f 1 63 32 * 65536)
      let j' := { j with marks := m }
      let s := count .writeBytes j.cluster bytes.length
        (taskWrite j.task (j.f 2 51 0) bytes (setJob j.task (fun _ => j') s))
      if m.sat.isEmpty then
        pcgReady j' d bd (.bsr bl (diag.map fun v => fdiv f1 (qToF32 1 v).1)) s
      else infeasible j' d 3 s

/-- The passes over a stored block-sparse matrix (R250, R254). -/
def bsrDone (j : SpJob) (d : Desc) (s : State) : State :=
  headRead j s fun hb s =>
    let h := bytesWords hb
    let nnzb := wf h 0 39 16
    let nbr := j.nbr
    if wf h 0 7 0 = 128 then stopJob j Ts.qExponentReserved j.mat s
    else if wf h 0 15 8 != 0 || wf h 0 63 52 != 0 || wf h 0 51 40 != nbr || nnzb == 0 ||
        ((List.range 3).any fun i => wf h (i + 1) 63 52 != 0) || ((List.range 4).any fun i => wf h (i + 4) 63 0 != 0) then
      infeasible j d 7 s
    else
      let rp := wf h 1 51 0
      let ci := wf h 2 51 0
      let bl := wf h 3 51 0
      match jobAddrs s j.cluster [(rp, 4 * (nbr + 1), 64), (ci, 4 * nnzb, 64), (bl, 4096 * nnzb, 4096)] with
      | some (st, a) => stopJob j st a s
      | none =>
        jobRead j [(rp, 4 * (nbr + 1)), (ci, 4 * nnzb)] s fun ib s =>
          let ws := patterns 4 (nbr + 1 + nnzb) ib
          let rps := ws.take (nbr + 1)
          let cis := ws.drop (nbr + 1)
          if bsrBad nbr nnzb rps cis then infeasible j d 7 s
          else
            jobRead j [(bl, 4096 * nnzb)] s fun vb s =>
              let e := toSigned 8 (wf h 0 7 0)
              let raw := patterns 4 (1024 * nnzb) vb
              let blocks := (List.range nnzb).map fun b =>
                let r := bsrRow nbr rps b
                let c := cis.getD b 0
                (r, c, (List.range 1024).map fun i =>
                  let i := if r = c ∧ i % 32 < i / 32 then 32 * (i % 32) + i / 32 else i
                  qToF32 e (toSigned 32 (raw.getD (1024 * b + i) 0)))
              bsrReady j d bl blocks s

/-- The passes over an operator (R251, R254). -/
def operDone (j : SpJob) (d : Desc) (s : State) : State :=
  headRead j s fun hb s =>
    let o := bytesWords hb
    let count := wf o 0 33 20
    let cb := wf o 4 31 0
    let qBad := match kvFind (wf o 0 63 48) s.mer.queues with
      | some q => decide (2 ^ q.log < count)
      | none => true
    if wf o 0 19 0 != 0 || count == 0 || decide (count > 4095) || wf o 4 63 32 != 0 || !fposNormal cb || qBad ||
        ((List.range 3).any fun i => wf o (i + 1) 63 52 != 0) || ((List.range 3).any fun i => wf o (i + 5) 63 0 != 0) then
      infeasible j d 7 s
    else
      match jobAddrs s j.cluster [(wf o 1 51 0, 64 * count, 64), (wf o 2 51 0, j.nbr * 4096, 2048),
          (wf o 3 51 0, j.nbr * 8192, 4096)] with
      | some (st, a) => stopJob j st a s
      | none =>
        match boundOf 1 j.lambda (fadd cb j.lambda) with
        | .error r => infeasible j d r s
        | .ok bd => pcgReady j d bd (.oper o) s

/-- ASSEMBLER_PASS_DONE (R253, R254): the passes end, with the problem assembled or ended. -/
def execAssemblerPassDone (c : Fin 32) (s : State) : Host.Outcome State Fault Refusal :=
  match s.jobIn c.val [.passes] with
  | none => finish s
  | some j =>
    match s.task j.task with
    | none => finish s
    | some k =>
      if s.expired k.desc then finish (missed j s)
      else
        match j.kindSrc with
        | 2 => finish (bsrDone j k.desc s)
        | 3 => finish (operDone j k.desc s)
        | _ => finish (denseDone j k.desc s)

/-! The array stage (R255–R262). -/

/-- A result is decided: FRESH, or CAPPED with its event (R257, R259). -/
def resultJob (j : SpJob) (d : Desc) (rho : Nat) (capped : Bool) (s : State) : State :=
  let s := if capped then post Ev.spectroCapReached [d.stable, j.entry, rho] s else s
  decideJob j.task (b2n capped) 0 0 s

/-- Bytes that a product reads (R248). -/
def productReads (s : State) (c d : Nat) : Nat :=
  let t := match s.sgKib c with | 1024 => 128 | 4096 => 512 | _ => 256
  let m := ceilDiv (qSide d) t
  8 * t * qSide d * (m * (m + 1) / 2)

/-- A matrix that a step has written reaches scratch: T costs an element-wise pass, any other a product (R248, R255). -/
def stepDone (j : SpJob) (mats : List QMat) (i : Nat) (s : State) : State :=
  let rd := if i = 1 then qHalf j.dim else productReads s j.cluster j.dim
  let s := count .products j.cluster (if i = 1 then 0 else 1) (writeMat j i (mats.getD i []) s)
  count .writeBytes j.cluster (qFull j.dim) (count .readBytes j.cluster rd s)

/-- The next iteration of a dense kind, or its first residual, and the decision after it (R255–R257). An iteration counts
once its product for M is complete. -/
def denseStep (j : SpJob) (d : Desc) (mats : List QMat) (s : State) : State :=
  let n := j.dim
  let run := if j.begun then qIterate d.sp n j.k mats else { mats := mats }
  let done := b2n (run.wrote.contains 0)
  let j := { j with work := .dense run.mats, begun := true, iters := j.iters + done, marks := j.marks.join run.marks }
  let s := count .iterations j.cluster done (setJob j.task (fun _ => j) s)
  let s := run.wrote.foldl (fun s i => stepDone j run.mats i s) s
  if !run.marks.sat.isEmpty then infeasible j d 3 s
  else
    let rho := qResidual n (run.mats.getD 0 [])
    let rises := if decide (done = 1) && fgt rho j.rho then j.rises + 1 else 0
    let j := { j with rho := rho, rises := rises }
    let s := count .readBytes j.cluster (qHalf n) (setJob j.task (fun _ => j) s)
    if !fisNan rho && !fgt rho d.stol then resultJob j d rho false s
    else if rises ≥ 2 then infeasible j d 4 s
    else if j.iters ≥ d.scap then resultJob j d rho true s
    else s

/-- The columns after a step are judged: a column that failed ends the task, with the largest rel there is (R259). -/
def pcgJudge (j : SpJob) (d : Desc) (put : List PcgCol → SpWork) (r : List PcgCol × Marks × Option Nat) (s : State) :
    State :=
  let (cols, m, e) := r
  let j' := { j with marks := j.marks.join m, rho := cols.foldl (fun m c => fmax m c.rel) 0 }
  match e with
  | some r => infeasible j' d r (setJob j.task (fun _ => j') s)
  | none =>
    let j'' := { j' with work := put cols, begun := true, iters := j.iters + b2n j.begun, q := none }
    let s := useVectors j'' (count .iterations j.cluster (b2n j.begun) (setJob j.task (fun _ => j'') s))
    if cols.all fun c => c.frozen then resultJob j'' d j''.rho false s
    else if j''.iters ≥ d.scap then resultJob j'' d j''.rho true s
    else s

/-- One turn of PCG over all active columns, `ap` applying Â to a vector of a column where the turn needs it: a clamp in
the application ends the task (R256, R259, R260). -/
def pcgTurn (j : SpJob) (d : Desc) (put : List PcgCol → SpWork) (w : List Nat) (cols : List PcgCol)
    (ap : Option (Nat → QVec → QvOut)) (s : State) : State :=
  match ap with
  | none => pcgJudge j d put (pcgAll (fun _ c => pcgStart w c none) 0 cols) s
  | some f =>
    let qs := ((List.range cols.length).zip cols).map fun c =>
      if c.2.frozen then { v := c.2.pv } else f c.1 (if j.begun then c.2.pv else c.2.x)
    let m := ((List.range qs.length).zip qs).foldl (fun m q => m.join (colMarks q.1 (q.2.as 4))) ({} : Marks)
    let j := { j with marks := j.marks.join m }
    let s := setJob j.task (fun _ => j) s
    if qs.any QvOut.bad then infeasible j d 3 s
    else
      pcgJudge j d put (pcgAll (fun i c =>
        let q := (qs.map QvOut.v).getD i c.pv
        if j.begun then pcgStep w d.stol c q else pcgStart w c (some q)) 0 cols) s

/-- An application of an operator: p is written, the program's descriptors are copied into its queue and published
under R117 (R262). Where the queue has no room for them, nothing happens yet. -/
def publishOp (j : SpJob) (o : List Nat) (vs : List (Option QVec)) (s : State) : State :=
  let n := wf o 0 33 20
  match kvFind (wf o 0 63 48) s.mer.queues with
  | none => s
  | some q =>
    if (q.tail - q.head).toNat + n > 2 ^ q.log then s
    else
      let nd := j.dim
      let conv := fun (u : QVec) (r : Nat) =>
        let y := u.at r
        fenc fbf16 .rne false (.fin (decide (y.1 < 0)) y.1.natAbs y.2)
      let val := fun (r c : Nat) => match vs.getD c none with | none => 0 | some u => (conv u r).1
      let marks := ((List.range vs.length).zip vs).foldl (fun (m : Marks) c => match c.2 with
        | none => m
        | some u => m.join (colMarks c.1 ((Marks.of ((List.range nd).map fun r => (r, (conv u r).2))).shift (65536 * 5))))
        ({} : Marks)
      let bytes := (List.range (j.nbr * 2)).flatMap fun b =>
        (List.range 1024).flatMap fun e => leBytes 2 (val (32 * (b / 2) + e / 32) (32 * (b % 2) + e % 32))
      jobRead j [(wf o 1 51 0, 64 * n)] s fun ds s =>
        let s := taskWrite j.task (wf o 2 51 0) bytes s
        let s := (List.range n).foldl (fun s i =>
          diePut (j.cluster / 16) (q.ring + 64 * ((q.tail.toNat + i) % 2 ^ q.log)) ((ds.drop (64 * i)).take 64) s) s
        let s := setQueue (wf o 0 63 48) (fun q => { q with
          tail := q.tail + BitVec.ofNat 32 n, headSince := if q.head = q.tail ∧ q.fetched = none then s.cyc else q.headSince }) s
        let s := count .writeBytes j.cluster (256 * nd) (addMarks j.task marks s)
        setJob j.task (fun j => { j with stage := .applying, apps := j.apps + 1, waitFrom := some s.cyc }) s

/-- One turn of the array on the job it holds. -/
def arrayTurn (j : SpJob) (d : Desc) (s : State) : State :=
  let apply := j.begun || j.f 5 51 0 != 0
  match j.work with
  | .none => s
  | .dense mats => denseStep j d mats s
  | .bsr bl w cols =>
    let go := apply && cols.any fun c => !c.frozen
    pcgTurn j d (.bsr bl w) w cols (if go then some fun _ u => bsrApply j.dim bl u else none)
      (count .readBytes j.cluster (if go then 4096 * bl.length else 0) s)
  | .oper o cols =>
    if !apply || cols.all fun c => c.frozen then pcgTurn j d (.oper o) [] cols none s
    else
      match j.q with
      | none => publishOp j o (cols.map fun c => if c.frozen then none else some (if j.begun then c.pv else c.x)) s
      | some q => pcgTurn j d (.oper o) [] cols (some fun i u => operApply j.lam j.sig (q.getD i []) u) s

/-- SPECTRO_DECISION (R257, R259, R264, R265): the array of cluster `c` takes the assembled job where it is free, and
comes to its next decision; one after the expiry cycle is none. -/
def execSpectroDecision (c : Fin 32) (s : State) : Host.Outcome State Fault Refusal :=
  let c := c.val
  let job := match s.jobIn c [.array] with
    | some j => some j
    | none => if (s.jobIn c [.applying, .draining, .out]).isSome then none else s.jobIn c [.ready]
  match job with
  | none => finish s
  | some j =>
    match s.task j.task with
    | none => finish s
    | some k =>
      if s.expired k.desc then finish (missed j s)
      else
        let (busy, s) := draw s
        let s := count .spArrayBusy c busy s
        finish (arrayTurn { j with stage := .array } k.desc (setJob j.task (fun j => { j with stage := .array }) s))

/-- SPECTRO_DEADLINE (R264): every undecided job of cluster `c` whose deadline the observed time has reached. -/
def execSpectroDeadline (c : Fin 32) (s : State) : Host.Outcome State Fault Refusal :=
  let due := s.spec.jobs.filter fun p => p.2.cluster == c.val && p.2.stage != .draining && p.2.stage != .out &&
    (match s.task p.1 with | some k => decide (k.desc.sdeadline ≤ s.now) | none => false)
  finish (due.foldl (fun s p => missed p.2 s) s)

/-! Resets (R274). -/

/-- What a COMPUTE reset leaves. -/
def spectroReset (s : State) : State :=
  { s with spec := { s.spec with
    jobs := []
    tables := s.spec.tables.map fun p => (p.1, { p.2 with done := [], opened := false, staleRun := 0, holds := [] }) } }

/-- A CLUSTER reset ends the cluster's SPECTRO tasks ABORTED and finishes their entries as CARRIED. -/
def spectroCluster (c : Nat) (s : State) : State :=
  (s.tasksWhere fun k => k.desc.type == 5 && k.loc == c && (k.phase == .admitted || k.phase == .running)).foldl
    (fun s p =>
      if kvHas p.1 s.spec.jobs then decideJob p.1 2 0 Ts.aborted s
      else
        match s.specEntry p.2.desc with
        | none => abortTask p.1 s
        | some (_, i) =>
          let j : SpJob :=
            { task := p.1, cluster := c, stage := .out, rec_ := [], entry := i, outcome := 2, status := Ts.aborted }
          { s with spec := { s.spec with jobs := kvSet p.1 j s.spec.jobs } }) s

/-- An operator application of the cluster is in flight (R274). -/
def specApplying (c : Nat) (s : State) : Bool := (s.jobIn c [.applying, .draining]).isSome

/-- The Spectrograph of a cluster has no task (19, R470). -/
def specIdle (c : Nat) (s : State) : Bool :=
  !(s.mer.tasks.any fun p => p.2.desc.type == 5 && p.2.loc == c && p.2.phase != .head)

/-- What a CLUSTER reset, or the end of a Collimation slice's drain, ends: the cluster's bound and running core tasks
(05, R128, R145) and the tasks of its coelostats, all reported ABORTED (06, R166); its folds (10, R244) and its SPECTRO
tasks (R274). A selected task with nothing staged stays in its run queue (05, R133); a parked one that has released its
unit is none of the cluster's (05, R136). The stash copies it carries start again from their first bytes elsewhere (08,
R205). -/
def clusterDiscard (c : Nat) (s : State) : State :=
  let ends := fun (k : Task) =>
    if k.desc.core then k.loc / 16 == c && k.bound
    else clusterUnit k.desc.type && k.desc.type != 5 && k.loc == c && k.phase != .head && !k.released
  let s := (s.copies.filter fun p => p.2.run == some c).foldl (fun s p =>
    setEntry p.1 (fun e => { e with copy := e.copy.map fun x => { x with run := none } }) s) (chargeAll s)
  spectroCluster c (photoCluster c ((s.tasksWhere ends).foldl (fun s p => abortTask p.1 s) s))

/-- A CLUSTER reset that waited for an operator application of its cluster goes on (19, R468). -/
def clusterResume (c : Nat) (s : State) : State :=
  match s.boot.reset with
  | some r =>
    if r.scope = 2 ∧ r.cluster = c ∧ r.waiting ∧ !specApplying c s then
      clusterDiscard c { s with boot := { s.boot with reset := some { r with waiting := false } } }
    else s
  | none => s

/-- OPERATOR_APPLY_DONE (R262): s_apply has reached the application count, and the Spectrograph reads q. -/
def execOperatorApplyDone (c : Fin 32) (s : State) : Host.Outcome State Fault Refusal :=
  match s.jobIn c.val [.applying, .draining] with
  | none => finish s
  | some j =>
    match j.work with
    | .oper o cols =>
      if (s.sem (wf o 0 47 34)).count.toNat < j.apps then finish s
      else
        let s := stopWait j.task s
        if j.stage = .draining then finish (clusterResume c.val (setJob j.task (fun j => { j with stage := .out }) s))
        else
          finish (clusterResume c.val (jobRead j [(wf o 3 51 0, j.nbr * 8192)] s fun bs s =>
            let xs := patterns 4 (j.dim * 64) bs
            setJob j.task (fun j => { j with
              stage := .array, q := some ((List.range cols.length).map fun i => blockCol 2 j.dim xs i) }) s))
    | _ => finish s

/-! Finishing (R258, R268, R270). -/

/-- The blocks of a result in the output format, with their flags (R258, R259). -/
def SpJob.result (j : SpJob) (d : Desc) : List (Nat × Flags) :=
  match j.work with
  | .dense mats =>
    let x := mats.getD 2 []
    let ex := qEx d.sp j.k
    (List.range (j.nbr * j.nbr)).flatMap fun b => (List.range 1024).map fun e =>
      specOut j.bf16 ex (-(j.sig / d.sp)) (qAt x (32 * (b / j.nbr) + e / 32) (32 * (b % j.nbr) + e % 32))
  | .bsr _ _ cols | .oper _ cols =>
    (List.range (j.nbr * j.bcols)).flatMap fun b => (List.range 1024).map fun e =>
      match cols[32 * (b % j.bcols) + e % 32]? with
      | none => (0, {})
      | some c => specOut j.bf16 c.x.e (c.sig - j.sig) (c.x.v.getD (32 * (b / j.bcols) + e / 32) 0)
  | .none => []

/-- The flags of the result's elements, which are those of X on and above the diagonal, or of the columns' x: the mirror
and the padding have none (log entry 89). -/
def SpJob.resultMarks (j : SpJob) (xs : List (Nat × Flags)) : Marks :=
  let at_ := fun (n p : Nat) => (32 * (p / 1024 / n) + p % 1024 / 32, 32 * (p / 1024 % n) + p % 32)
  Marks.of (((List.range xs.length).zip xs).filterMap fun p =>
    match j.work with
    | .dense _ =>
      let (r, c) := at_ j.nbr p.1
      if r ≤ c then some (2 ^ 26 * 2 + qKey r c, p.2.2) else none
    | _ =>
      let (r, c) := at_ j.bcols p.1
      some (2 ^ 20 * c + r, p.2.2))

/-- The entry's words once it has finished for generation `g` (R268, Table 11-11). -/
def finishEntry (w : List Nat) (g : Nat) (cur : Nat) (j : SpJob) : List Nat :=
  let n := g % 2
  let fresh := j.outcome < 2
  let age := entAge w cur
  let sel := if fresh then 1 - entSel w cur else entSel w cur
  let age := if fresh then 0 else if j.outcome = 3 ∨ age = 0xFFFF then age else Nat.min (age + 1) 0xFFFE
  let src := if fresh then j.src else entSrc w cur
  let w := wput (wput w 4 n n sel) 4 (47 + 16 * n) (32 + 16 * n) age
  let w := wput (wput w 5 (31 + 32 * n) (32 * n) src) 6 63 32 g
  wput w 7 63 0 (j.rho * 2 ^ 32 + j.iters % 65536 * 65536 + j.reason * 256 + j.outcome)

/-- Count an outcome (Table 11-13). -/
def countOutcome (c o : Nat) (s : State) : State :=
  match o with
  | 0 => count .fresh c 1 s
  | 1 => count .capped c 1 s
  | 2 => count .carried c 1 s
  | _ => count .sameSource c 1 s

/-- SPECTRO_WRITE_OUT (R258, R268, R270): when no hold pins the build buffer, a decided job writes its result, finishes
its entry and ends. -/
def execSpectroWriteOut (c : Fin 32) (s : State) : Host.Outcome State Fault Refusal :=
  match s.jobIn c.val [.out] with
  | none => finish s
  | some j =>
    match s.task j.task with
    | none => finish s
    | some k =>
      let d := k.desc
      match kvFind d.stable s.spec.tables with
      | none => finish (stopJob j j.status 0 s)
      | some t =>
        if t.pinned then finish (startWait j.task s)
        else
          finish (jobRead j [(t.entry j.entry, 64)] (stopWait j.task s) fun bs s =>
            let w := bytesWords bs
            let cur := t.gen % 2
            let s :=
              if j.outcome < 2 then
                let xs := j.result d
                let bytes := patBytes (if j.bf16 then 2 else 4) (xs.map Prod.fst)
                let s := taskWrite j.task (entBuf w (1 - entSel w cur)) bytes s
                let s := count .readBytes j.cluster (if j.kindSrc < 2 then qHalf j.dim else 0) s
                count .writeBytes j.cluster bytes.length (addMarks j.task (j.resultMarks xs) s)
              else s
            let s := diePut (j.cluster / 16) (t.entry j.entry) (wordBytes (finishEntry w (genSucc t.gen) cur j)) s
            let s := setTable d.stable (fun t => { t with done := setIns j.entry t.done }) s
            closeJob j j.status 0 (specResult j.reason j.outcome j.iters j.rho) (countOutcome c.val j.outcome s))

end Sys2Proof.Machine
end

