-- ==== Sys2Proof/Machine/Ephem.lean ====
section
/-!
DEFINITION. Ephemeris (12): the hyperparameter table, OPTIM tasks, the Kronecker passes and their table holds, ratio
partials; and the step boundary (04, R105; 12, R292).
-/

namespace Sys2Proof.Machine

/-! The hyperparameter table (R277). -/

/-- The lowest bit of the first offending field of a hyperparameter record. -/
def hyperBad (w : List Nat) : Option Nat :=
  let x := fun (i hi lo : Nat) => wf w i hi lo
  let beta := fun (b : Nat) => fisNan b || bit b 31 || !fgt f1 b
  let tests : List (Bool × Nat) :=
    [(beta (x 0 31 0), 0), (beta (x 0 63 32), 32), (x 1 31 0 != 0 && !fposNormal (x 1 31 0), 64),
     (!fposNormal (x 1 63 32), 96), (x 2 31 0 != 0, 128),
     (!fposNormal (x 2 63 32) && x 2 63 32 != 0x7F800000, 160),
     (x 4 51 0 != 0 && (!aligned (x 4 51 0) 4 || !inDram (x 4 51 0) || !inDram (x 4 51 0 + 3)), 256),
     (x 4 63 52 != 0, 308), (x 5 63 0 != 0, 320), (x 6 63 0 != 0, 384), (x 7 63 0 != 0, 448)]
  (tests.find? fun t => t.1).map Prod.snd

/-- CONFIGURE_EPHEMERIS (R277). -/
def execConfigureEphemeris (m : Fin 16) (s : State) : Host.Outcome State Fault Refusal :=
  mbxCommand 0x0403 anyArgs m (fun a s =>
    let n := bits (a.n 1) 12 0
    if n = 0 ∨ n > 4096 then .done St.ephemerisArgInvalid [] s
    else
      readBuffer (a.n 0) (64 * n) 64 s fun bs s =>
        let rs := chunks 8 n (bytesWords bs)
        match ((List.range n).zip rs).findSome? fun r => (hyperBad r.2).map fun b => (r.1, b) with
        | some (i, b) => .done St.ephemerisArgInvalid [i, b] s
        | none => .done St.ok [] { s with ephem := { s.ephem with hyper := rs } }) s

/-! Fields. -/

def Desc.orule (d : Desc) : Nat := d.f 2 63 60
def Desc.ostate (d : Desc) : Nat := d.f 2 51 0
def Desc.ofirst (d : Desc) : Nat := d.f 5 63 32
def Desc.oblocks (d : Desc) : Nat := d.f 5 31 0
def Desc.otable (d : Desc) : Nat := d.f 6 31 16
def Desc.omrnd (d : Desc) : Nat := d.f 7 1 0
def Desc.odigest (d : Desc) : Bool := d.b 7 2
def Desc.oratio (d : Desc) : Bool := d.b 7 3
def Desc.okron (d : Desc) : Bool := d.orule == 5 || d.orule == 6

/-- A parameter-state record's words (Table 12-2). -/
abbrev ParamRec := List Nat

def ParamRec.h (r : ParamRec) : Nat := wf r 0 51 0
def ParamRec.rows (r : ParamRec) : Nat := wf r 0 63 52
def ParamRec.l (r : ParamRec) : Nat := wf r 1 51 0
def ParamRec.cols (r : ParamRec) : Nat := wf r 1 63 52
def ParamRec.m (r : ParamRec) : Nat := wf r 2 51 0
def ParamRec.v (r : ParamRec) : Nat := wf r 3 51 0
def ParamRec.rent (r : ParamRec) : Nat := wf r 4 47 32
def ParamRec.lent (r : ParamRec) : Nat := wf r 4 63 48
def ParamRec.aux (r : ParamRec) : Nat := wf r 5 51 0
def ParamRec.tsc (r : ParamRec) : Nat := wf r 6 51 0
/-- The element size of the preconditioner buffers, as a format code. -/
def ParamRec.pfmt (r : ParamRec) : Nat := wf r 7 33 33
def ParamRec.nfskip (r : ParamRec) : Bool := wf r 7 34 34 == 1
def ParamRec.watch (r : ParamRec) : Option Nat := if wf r 7 35 35 = 1 then some (wf r 7 49 36) else none
def ParamRec.bstride (r : ParamRec) : Nat := wf r 7 63 50

/-- o of R279, and the addresses it gives block j. -/
def ParamRec.o (r : ParamRec) (j : Nat) : Nat := j / r.cols * r.bstride + j % r.cols
def ParamRec.hAt (r : ParamRec) (j : Nat) : Nat := r.h + r.o j * 2048
def ParamRec.lAt (r : ParamRec) (j : Nat) : Nat := r.l + r.o j * 2048
def ParamRec.codeAt (r : ParamRec) (a j : Nat) : Nat := a + r.o j * 1024
def ParamRec.scaleAt (r : ParamRec) (a j : Nat) : Nat := a + r.rows * r.bstride * 1024 + r.o j * 32
def ParamRec.facAt (r : ParamRec) (j : Nat) : Nat := r.v + r.o j * 256
def ParamRec.tAt (r : ParamRec) (j : Nat) : Nat := r.tsc + j * 4096

/-- Does a rule keep its second moments as codes (Table 12-3)? -/
def Desc.ocodes2 (d : Desc) : Bool := d.orule == 2 || d.orule == 5

/-- The lowest bit of the first offending field of a record (R278, Table 12-3). -/
def ParamRec.bad (r : ParamRec) (d : Desc) (hypers : Nat) : Option Nat :=
  let usesV := d.ocodes2 || d.orule == 4
  let tests : List (Bool × Nat) :=
    [(r.h == 0 || !aligned r.h 2048, 0),
     (r.rows == 0 || decide (r.rows * r.cols > 524288), 52),
     (r.l == 0 || !aligned r.l 2048, 64), (r.cols == 0, 116),
     (r.m == 0 || !aligned r.m 1024, 128), (decide (wf r 2 63 52 ≥ hypers), 180),
     (usesV == (r.v == 0) || !aligned r.v (if d.orule = 4 then 256 else 1024), 192), (wf r 3 63 52 != 0, 244),
     (wf r 4 31 0 != 0, 256), (!aligned r.aux 16, 320), (wf r 5 63 52 != 0, 372),
     (d.okron == (r.tsc == 0) || !aligned r.tsc 4096, 384), (wf r 6 63 52 != 0, 436), (wf r 7 32 0 != 0, 448),
     (decide (r.bstride < r.cols), 498)]
  (tests.find? fun t => t.1).map Prod.snd

/-! A task in progress. -/

/-- An OPTIM task while it computes: the move underneath, the fault that ends it, what its record and its partials
report. -/
structure OptRun where
  mv : Moving
  fault : Option (Nat × Nat) := none
  digest : W64 := 0
  /-- ΔM and M of the elements so far (R294). -/
  dm : List El := []
  mm : List El := []
  z : Bool := false
  amax : Nat := 0
  products : Nat := 0
  /-- Blocks whose masters have been written (R296). -/
  updated : Nat := 0
  /-- s of R280; the NaNs and infinities of G that a skip looks for (R289); the new moments of a block row (R286). -/
  scale : Nat := 0
  nonfin : Nat × Nat := (0, 0)
  row : List (List El) := []

/-- What stays the same while a task computes. -/
structure OptTask where
  t : Nat
  die : Nat
  d : Desc
  r : ParamRec
  k : OptK
  rng : RngCtx

/-- Read runs under R32 and the Ephemeris row of Table 1-8, through Finder where `fd` is set. -/
def OptRun.readBy (x : OptRun) (c : OptTask) (fd : Bool) (runs : List (Nat × Nat)) (k : List Byte → OptRun → OptRun) :
    OptRun :=
  if x.fault.isSome then x
  else
    match runs.findSome? fun r => x.mv.s.taskFault .ephemeris r.1 r.2 with
    | some (.reserved, a) => { x with fault := some (Ts.addrReserved, a) }
    | some (.denied, a) => { x with fault := some (Ts.addrDenied, a) }
    | none =>
      let (bs, mv) := x.mv.read c.t c.die fd runs
      k bs { x with mv := mv }

/-- Read runs of state. -/
def OptRun.read (x : OptRun) (c : OptTask) (runs : List (Nat × Nat)) (k : List Byte → OptRun → OptRun) : OptRun :=
  x.readBy c false runs k

/-- Write one run under the same checks. -/
def OptRun.write (x : OptRun) (c : OptTask) (a : Nat) (bs : List Byte) : OptRun :=
  if x.fault.isSome then x
  else
    match x.mv.s.taskFault .ephemeris a bs.length with
    | some (.reserved, b) => { x with fault := some (Ts.addrReserved, b) }
    | some (.denied, b) => { x with fault := some (Ts.addrDenied, b) }
    | none => { x with mv := x.mv.write c.t c.die false [(a, bs.length)] bs }

/-- Count the flags of written elements. -/
def OptRun.tally (x : OptRun) (xs : List El) : OptRun := { x with mv := x.mv.tally xs }

/-- The gradient bytes of block `j`: compact in region order (R276). -/
def OptTask.gAt (c : OptTask) (j : Nat) : Nat × Nat :=
  (c.d.addr 3 + (j - c.d.ofirst) * bbytesOf (c.d.fmt 3), bbytesOf (c.d.fmt 3))

/-- The scaled gradient of a block, from its bytes (R281). -/
def OptTask.scaled (c : OptTask) (bs : List Byte) : List El × List El :=
  let g := (patterns (esizeOf (c.d.fmt 3)) 1024 bs).map (elIn (c.d.fmt 3))
  (g, g.map fun x => el2 mulF x (elK c.k.s))

/-- The moments of block `j`, decoded: first moments, second moments or factors (R283). -/
def OptRun.moments (x : OptRun) (c : OptTask) (j : Nat) (k : List El → List El → List Nat → OptRun → OptRun) : OptRun :=
  let r := c.r
  let ended := fun (x : OptRun) (e : Nat × Nat) => { x with fault := some e }
  x.read c [(r.codeAt r.m j, 1024), (r.scaleAt r.m j, 32)] fun bs x =>
    match momDecode false (r.codeAt r.m j) (bs.take 1024) (bs.drop 1024) with
    | .error e => ended x e
    | .ok m =>
      if c.d.ocodes2 then
        x.read c [(r.codeAt r.v j, 1024), (r.scaleAt r.v j, 32)] fun bs x =>
          match momDecode true (r.codeAt r.v j) (bs.take 1024) (bs.drop 1024) with
          | .error e => ended x e
          | .ok v => k m v [] x
      else if c.d.orule = 4 then
        x.read c [(r.facAt j, 256)] fun bs x => k m [] (patterns 4 64 bs) x
      else k m [] [] x

/-- The masters of block `j` (R284). -/
def OptRun.masters (x : OptRun) (c : OptTask) (j : Nat) (k : List Nat → OptRun → OptRun) : OptRun :=
  x.read c [(c.r.hAt j, 2048), (c.r.lAt j, 2048)] fun bs x =>
    match joinBlock (bs.take 2048) (bs.drop 2048) with
    | none => { x with fault := some (Ts.splitPairReserved, c.r.hAt j) }
    | some mo => k mo x

/-- The rounding of a moment element of block `j` (R283). -/
def OptTask.rnd (c : OptTask) (two : Bool) (j e : Nat) : Rnd :=
  c.rng.rnd c.d.omrnd (j * 1024 + e + (if two then 2 ^ 29 else 0))

/-- Write the moments of block `j`; the elements carry the encodings' flags. -/
def OptRun.putMoments (x : OptRun) (c : OptTask) (j : Nat) (m v : List El) (fac : List Nat) : OptRun × List El :=
  let r := c.r
  let (cm, sm, fm) := momEncode false (c.rnd false j) m
  let x := (x.write c (r.codeAt r.m j) cm).write c (r.scaleAt r.m j) sm
  if c.d.ocodes2 then
    let (cv, sv, fv) := momEncode true (c.rnd true j) v
    let x := (x.write c (r.codeAt r.v j) cv).write c (r.scaleAt r.v j) sv
    (x, List.zipWith (fun (a b : El) => ((a.1, a.2.or b.2) : El)) fm fv)
  else if c.d.orule = 4 then (x.write c (r.facAt j) (patBytes 4 fac), fm)
  else (x, fm)

/-- The last two lines of R281 for block `j`, with the digest and the ratio's terms. -/
def OptRun.putMasters (x : OptRun) (c : OptTask) (j : Nat) (d : List El) (mo : List Nat) : OptRun × List El :=
  let mn := List.zipWith (fun a b => optMaster c.k a (elK b)) d mo
  let (h, l, fl) := splitBlock mn
  let x := (x.write c (c.r.hAt j) h).write c (c.r.lAt j) l
  ({ x with
     updated := x.updated + b2n x.fault.isNone
     digest := if c.d.odigest then x.digest + digestBlock j ((joinBlock h l).getD []) else x.digest
     dm := if c.d.oratio then x.dm ++ List.zipWith (fun (a : El) b => elK (fsub a.1 b)) mn mo else x.dm
     mm := if c.d.oratio then x.mm ++ mn.map (fun a => elK a.1) else x.mm }, fl)

/-- fp32_max over the absolute values of elements, from `m` (R295; 02, R41). -/
def amaxOf (m : Nat) (xs : List El) : Nat := xs.foldl (fun (m : Nat) (a : El) => fmax m (fabs a.1)) m

/-- The amax and z that the scaled gradient of a block gives (R294, R295). -/
def OptRun.noteG (x : OptRun) (g gs : List El) : OptRun :=
  { x with
    z := x.z || g.any fun a => !fisZero a.1
    amax := amaxOf x.amax gs }

/-- Flags of an element that several results share. -/
def mergeFlags (a b : List El) : List El := List.zipWith (fun (p q : El) => ((p.1, p.2.or q.2) : El)) a b

/-- One block of a single-pass rule (R281–R284). -/
def optBlock (c : OptTask) (x : OptRun) (j : Nat) : OptRun :=
  x.read c [c.gAt j] fun gb x =>
    x.moments c j fun m0 v0 fac x =>
      x.masters c j fun mo x =>
        let (g, gs) := c.scaled gb
        let m := List.zipWith (optM c.k) gs m0
        let (fr, fc) := factors c.k (gs.map Prod.fst) (fac.take 32) (fac.drop 32)
        let v := if c.d.orule = 2 then List.zipWith (optV c.k) gs v0
          else if c.d.orule = 4 then vhat fr fc else List.replicate 1024 (0, {})
        let d := (List.range 1024).map fun e =>
          optD c.k (gs.getD e (0, {})) (m0.getD e (0, {})) (m.getD e (0, {})) (v.getD e (0, {}))
        let (x, f1) := (x.noteG g gs).putMoments c j m v (fr ++ fc)
        let (x, f2) := x.putMasters c j d mo
        x.tally (mergeFlags f1 f2)

/-! The Kronecker passes (R285–R288). -/

/-- A table entry as a pass reads it: the buffer's address, or the identity. -/
def sideBuf (w : List Nat) (g : Option Nat) : Option Nat :=
  match g with
  | none => none
  | some g => if entAge w (g % 2) = 0xFFFF then none else some (entBuf w (entSel w (g % 2)))

/-- The blocks of a matrix in memory, from address `a`, as product operands. -/
def OptRun.blocks (x : OptRun) (c : OptTask) (f a n : Nat) (k : List (List El) → OptRun → OptRun) : OptRun :=
  x.read c [(a, n * bbytesOf f)] fun bs x =>
    k ((groups (bbytesOf f) n bs).map fun b => (patterns (esizeOf f) 1024 b).map fun y => prodIn f (y, {})) x

/-- One output block: Σ over k in ascending order (R286). -/
def sumProducts (as bs : List (List El)) : List El :=
  (List.zip as bs).foldl (fun acc p => gridProduct p.1 p.2 acc) (List.replicate 1024 (0, {}))

/-- A NaN result shows in its element's flags. -/
def markNan (xs : List El) : List El := xs.map fun (x : El) => (x.1, x.2.or { nan := fisNan x.1 })

/-- The first-pass moments of block `j` (R286). -/
def pass1Block (c : OptTask) (x : OptRun) (j : Nat) : OptRun :=
  x.read c [c.gAt j] fun gb x =>
    x.moments c j fun m0 v0 _ x =>
      let (g, gs) := c.scaled gb
      let m := List.zipWith (optM c.k) gs m0
      let v := if c.d.orule = 5 then List.zipWith (optV c.k) gs v0 else []
      let (x, fl) := (x.noteG g gs).putMoments c j m v []
      { x with row := x.row ++ [fl] }

/-- T of block row `i` is written (R286). -/
def putT (c : OptTask) (i : Nat) (x : OptRun) (ts : List (List El)) : OptRun :=
  ((List.range c.r.cols).zip (List.zip ts x.row)).foldl (fun (x : OptRun) p =>
    let t := markNan p.2.1
    (x.write c (c.r.tAt (i * c.r.cols + p.1)) (patBytes 4 (t.map Prod.fst))).tally (mergeFlags t p.2.2)) x

/-- Pass 1 on block row `i`: the moments, then T (R286). -/
def pass1Row (c : OptTask) (right : Option Nat) (x : OptRun) (i : Nat) : OptRun :=
  let cols := c.r.cols
  let x := ((List.range cols).map fun q => i * cols + q).foldl (pass1Block c) { x with row := [] }
  if x.fault.isSome then x
  else
    match right with
    | none => putT c i x (x.row.map (·.map fun e => elK e.1))
    | some a =>
      x.blocks c c.r.pfmt a (cols * cols) fun ps x =>
        let ops := x.row.map (·.map fun e => prodIn 0 (elK e.1))
        let ts := (List.range cols).map fun j => sumProducts ops ((List.range cols).map fun k => ps.getD (k * cols + j) [])
        putT c i { x with products := x.products + cols * cols } ts

/-- D of pass 2 for block row `i` (R286). -/
def pass2D (c : OptTask) (left : Option Nat) (i : Nat) (x : OptRun) (k : List (List El) → OptRun → OptRun) : OptRun :=
  let cols := c.r.cols
  let rows := c.r.rows
  match left with
  | none =>
    x.read c [(c.r.tAt (i * cols), cols * 4096)] fun bs x =>
      k ((groups 4096 cols bs).map fun b => (patterns 4 1024 b).map elK) x
  | some a =>
    x.blocks c 0 c.r.tsc (rows * cols) fun ts x =>
      x.blocks c c.r.pfmt (a + i * rows * bbytesOf c.r.pfmt) rows fun ps x =>
        k ((List.range cols).map fun j => sumProducts ps ((List.range rows).map fun q => ts.getD (q * cols + j) []))
          { x with products := x.products + rows * cols }

/-- Pass 2 on block row `i` (R286, R287). -/
def pass2Row (c : OptTask) (left : Option Nat) (x : OptRun) (i : Nat) : OptRun :=
  pass2D c left i x fun ds x =>
    ((List.range c.r.cols).zip ds).foldl (fun (x : OptRun) p =>
      let j := i * c.r.cols + p.1
      let write := fun (d : List El) (x : OptRun) =>
        x.masters c j fun mo x =>
          let x := { x with amax := amaxOf x.amax d }
          let (x, fl) := x.putMasters c j d mo
          x.tally fl
      if c.d.orule = 6 then write p.2 x
      else
        x.moments c j fun m v _ x => write (graft p.2 (List.zipWith (optAdam c.k) m v)) x) x

/-! Whole tasks. -/

/-- The block rows of a Kronecker task. -/
def OptTask.blockRows (c : OptTask) : List Nat :=
  (List.range (c.d.oblocks / c.r.cols)).map fun i => c.d.ofirst / c.r.cols + i

/-- The region blocks of a task. -/
def OptTask.js (c : OptTask) : List Nat := (List.range c.d.oblocks).map fun i => c.d.ofirst + i

/-- The digest of unchanged state (R293). -/
def digestOnly (c : OptTask) (x : OptRun) : OptRun :=
  if c.d.odigest then
    c.js.foldl (fun x j => x.masters c j fun mo x => { x with digest := x.digest + digestBlock j mo }) x
  else x

/-- The words of R280 that a task with gradients reads: the global multiplier and the layer norm, 0 where not used. -/
def OptTask.words (c : OptTask) (hyp : List Nat) : Nat × Nat :=
  (wf hyp 4 51 0, if fisInf (wf hyp 2 63 32) then 0 else c.r.aux)

/-- s of R280, its words read through Finder before the first block. -/
def OptRun.scaleOf (x : OptRun) (c : OptTask) (hyp : List Nat) : OptRun :=
  let word := fun (x : OptRun) (a : Nat) (k : Nat → OptRun → OptRun) =>
    if a = 0 then k 0 x else x.readBy c true [(a, 4)] fun bs x => k (ofLE bs) x
  let (gm, na) := c.words hyp
  let tau := wf hyp 2 63 32
  let useN := na != 0
  word x gm fun g x =>
    word x na fun n x =>
      let s := if gm = 0 then c.d.f 4 31 0 else fmul (c.d.f 4 31 0) g
      { x with scale := if useN then normScale s tau n else s }

/-- Non-finite elements of G (R289): NaNs and infinities. -/
def OptRun.nonFinite (x : OptRun) (c : OptTask) : OptRun :=
  x.read c [(c.d.addr 3, c.d.oblocks * bbytesOf (c.d.fmt 3))] fun bs x =>
    let g := (patterns (esizeOf (c.d.fmt 3)) (1024 * c.d.oblocks) bs).map fun y => (elIn (c.d.fmt 3) y).1
    { x with nonfin := (g.countP fisNan, g.countP fisInf) }

/-- The bytes a task will read. -/
def OptTask.reads (c : OptTask) (pass : Nat) (hyp : List Nat) (left right : Option Nat) : List (Nat × Nat) :=
  let side := fun (b : Option Nat) (n : Nat) => match b with | some a => [(a, n * n * bbytesOf c.r.pfmt)] | none => []
  let g := (c.d.addr 3, c.d.oblocks * bbytesOf (c.d.fmt 3))
  let moms := fun (j : Nat) =>
    [(c.r.codeAt c.r.m j, 1024), (c.r.scaleAt c.r.m j, 32)] ++
    (if c.d.ocodes2 then [(c.r.codeAt c.r.v j, 1024), (c.r.scaleAt c.r.v j, 32)]
     else if c.d.orule = 4 then [(c.r.facAt j, 256)] else [])
  let pair := fun (j : Nat) => [(c.r.hAt j, 2048), (c.r.lAt j, 2048)]
  let words := (if (c.words hyp).1 = 0 then [] else [((c.words hyp).1, 4)]) ++
    (if (c.words hyp).2 = 0 then [] else [((c.words hyp).2, 4)])
  let sum := if c.d.odigest ∧ c.r.aux ≠ 0 ∧ pass ≠ 1 then [(c.r.aux + 8, 8)] else []
  match pass with
  | 0 => words ++ g :: sum ++ c.js.flatMap fun j => moms j ++ pair j
  | 1 => words ++ g :: side right c.r.cols ++ c.js.flatMap moms
  | _ => (c.r.tsc, c.r.rows * c.r.cols * 4096) :: sum ++ side left c.r.rows ++ c.js.flatMap fun j => moms j ++ pair j

/-- A task's reads go to their channels ahead of its compute (R290): a repair that holds one of them, or that one of them
starts, makes the task wait with the state so far (17, R418). -/
def readAhead (runs : List (Nat × Nat)) (s : State) : Option (Nat × State) :=
  let runs := runs.filter fun r => inDram r.1 && (s.taskFault .ephemeris r.1 r.2).isNone
  let s := runs.foldl (fun s r => channelReads r.1 r.2 s) s
  (runs.findSome? fun r => s.heldPage r.1 r.2).map fun g => (g, s)

/-- The end of a task's work (R293–R296): `skip` it wrote no state. -/
def optDone (c : OptTask) (pass : Nat) (skip : Bool) (x : OptRun) : State :=
  let cap := fun (n : Nat) => Nat.min n 0xFFFFFFFF
  let digests := c.d.odigest && pass != 1
  let x := if digests && c.r.aux != 0 then
      x.read c [(c.r.aux + 8, 8)] fun bs x =>
        x.write c (c.r.aux + 8) (leBytes 8 (BitVec.ofNat 64 (ofLE bs) + x.digest).toNat)
    else x
  let s := x.mv.s
  let (st, det) := x.fault.getD (0, 0)
  let ok := x.fault.isNone
  let s := setTask c.t (fun k => { k with
    phase := .finished
    status := if k.poisoned then k.status else st
    detail := if k.poisoned then k.detail else det
    result := if digests && ok then x.digest.toNat else 0
    sat := cap x.mv.sat, flush := cap x.mv.flush, nan := cap x.mv.nan, amax := x.amax }) s
  let s := if digests && ok then count .digests c.die 1 s else s
  let s := count .elements c.die (1024 * x.updated) s
  let s := if x.products = 0 then s else
    let (ns, s) := draw s
    count .epArrayBusy c.die ns s
  let s := count .epTasks c.die 1 s
  match c.r.watch with
  | none => s
  | some e =>
    if !c.d.oratio || skip || !ok then s
    else if s.ephem.partials.countP (fun p => p.die == c.die) ≥ 16384 then count .ratioDropped c.die 1 s
    else
      let p : RatioPart :=
        { die := c.die, entry := e, first := c.d.ofirst, z := x.z
          sums := if pass = 1 then none else some ((vSumSq x.dm).1, (vSumSq x.mm).1) }
      { s with ephem := { s.ephem with partials := s.ephem.partials ++ [p] } }

/-- Change the open-record entry of a record on a die. -/
def setOpen (die record : Nat) (f : OpenRec → OpenRec) (s : State) : State :=
  { s with ephem := { s.ephem with
    openRecs := s.ephem.openRecs.map fun e => if e.die == die && e.record == record then f e else e } }

/-- The open-record entry of a record. -/
def State.openRec (s : State) (die record : Nat) : Option OpenRec :=
  s.ephem.openRecs.find? fun e => e.die == die && e.record == record

/-- A pass has done `n` more blocks of a record: the entry moves on, or closes and gives up its hold (R285). -/
def countBlocks (die record total n : Nat) (s : State) : State :=
  match s.openRec die record with
  | none => s
  | some e =>
    if e.count + n < total then setOpen die record (fun e => { e with count := e.count + n }) s
    else if e.pass = 1 then setOpen die record (fun e => { e with pass := 2, count := 0 }) s
    else
      { s with ephem := { s.ephem with
        openRecs := s.ephem.openRecs.filter fun e => !(e.die == die && e.record == record)
        releases := s.ephem.releases ++ (match e.hold with | some (some g) => [(e.table, g)] | _ => []) } }

/-- A skip (R289): no state is written; the record counts the elements that caused it. -/
def optSkip (c : OptTask) (pass : Nat) (x : OptRun) : OptRun :=
  let x := c.js.foldl (fun (x : OptRun) j => x.read c [c.gAt j] fun gb x =>
    { x with amax := amaxOf x.amax (c.scaled gb).2 }) x
  let s := post Ev.gradientSkipped [c.d.ostate, c.rng.step.toNat] (count .skipped c.die 1 x.mv.s)
  let s := if pass = 1 then setOpen c.die c.d.ostate (fun e => { e with skip := true }) s else s
  let x := { x with mv := { x.mv with s := s, nan := x.nonfin.1, sat := x.nonfin.2 } }
  if pass = 1 then x else digestOnly c x

/-- The compute of a pass (0 the single pass of rules 0 to 4, else 1 or 2), and whether it was a skip. -/
def optBody (c : OptTask) (pass : Nat) (hyp : List Nat) (left right : Option Nat) (marked : Bool) (x : OptRun) :
    OptRun × Bool :=
  if pass = 2 then (if marked then (digestOnly c x, true) else (c.blockRows.foldl (pass2Row c left) x, false))
  else
    let x := x.scaleOf c hyp
    let x := if c.r.nfskip then x.nonFinite c else x
    let c := { c with k := { c.k with s := x.scale } }
    if x.fault.isSome then (x, false)
    else if c.r.nfskip && (x.nonfin != (0, 0) || fnonfinite x.scale) then (optSkip c pass x, true)
    else if pass = 0 then (c.js.foldl (optBlock c) x, false)
    else (c.blockRows.foldl (pass1Row c right) x, false)

/-- The work of a started task. -/
def optWork (c : OptTask) (pass : Nat) (hyp : List Nat) (left right : Option Nat) (s : State) : State :=
  match readAhead (c.reads pass hyp left right) s with
  | some (g, s) => setTask c.t (fun k => { k with heldBy := some g }) s
  | none =>
    let s := if pass = 1 then count .precondIdentity c.die (b2n left.isNone + b2n right.isNone) s else s
    let marked := match s.openRec c.die c.d.ostate with | some e => e.skip | none => false
    let (x, skip) := optBody c pass hyp left right marked { mv := { s := s } }
    let ok := x.fault.isNone
    let s := optDone c pass skip x
    if pass ≠ 0 ∧ ok then countBlocks c.die c.d.ostate (c.r.rows * c.r.cols) c.d.oblocks s else s

/-- A task that its record ends (R278, R286). -/
def optRecordBad (t die record b : Nat) (s : State) : State :=
  let s := post Ev.optimRecordInvalid [record, b] s
  count .epTasks die 1 (setTask t (fun k => { k with phase := .finished, status := Ts.descFieldInvalid, detail := 128 }) s)

/-- A task whose record or table entries read poisoned completes POISONED (17, R414). -/
def optPoisoned (t die a : Nat) (s : State) : State :=
  count .epTasks die 1 (setTask t (fun k => { k with phase := .finished }) (taskPoison t a s))

/-- What a started task computes with. -/
def State.optTask (s : State) (t die : Nat) (k : Task) (r : ParamRec) : OptTask :=
  let hyp := s.ephem.hyper.getD (wf r 2 63 52) []
  { t := t, die := die, d := k.desc, r := r
    k := optK hyp k.desc.orule (k.desc.f 4 63 32) 0 k.step.toNat
    rng := s.rng k }

/-- A Kronecker task runs the pass its entry is in (R285, R286, R288): its hold is answered. -/
def kronPass (t die : Nat) (k : Task) (r : ParamRec) (e : OpenRec) (s : State) : State :=
  let c := s.optTask t die k r
  let hyp := s.ephem.hyper.getD (wf r 2 63 52) []
  if e.count + k.desc.oblocks > r.rows * r.cols then
    count .epTasks die 1 (setTask t (fun k => { k with phase := .finished, status := Ts.descFieldInvalid, detail := 320 }) s)
  else
    let tb := kvFind e.table s.spec.tables
    let n := (tb.map PTable.count).getD 0
    let fits := decide (r.rent < n) && decide (r.lent < n)
    if e.pass = 1 ∧ !fits then optRecordBad t die k.desc.ostate (if r.rent ≥ n then 288 else 304) s
    else
      match tb with
      | none => optRecordBad t die k.desc.ostate 288 s
      | some tb =>
        match taskReads die [(tb.entry r.lent, 64), (tb.entry r.rent, 64)] s with
        | (.held g, s) => setTask t (fun k => { k with heldBy := some g }) s
        | (.poison a, s) => optPoisoned t die a s
        | (.ok bs, s) =>
          let lw := bytesWords (bs.take 64)
          let rw := bytesWords (bs.drop 64)
          let bb := bbytesOf r.pfmt
          if e.pass = 1 ∧ r.cols * r.cols * bb > entCap rw then optRecordBad t die k.desc.ostate 288 s
          else if e.pass = 1 ∧ r.rows * r.rows * bb > entCap lw then optRecordBad t die k.desc.ostate 304 s
          else
            let g := e.hold.getD none
            optWork c e.pass hyp (sideBuf lw g) (sideBuf rw g) s

/-- A started task has its record (R278, R285). -/
def optGo (t die : Nat) (s : State) : State :=
  match s.task t with
  | none => s
  | some k =>
    let d := k.desc
    match taskRead die d.ostate 64 (count .finderReads die 1 s) with
    | (.held g, s) => setTask t (fun k => { k with heldBy := some g }) s
    | (.poison a, s) => optPoisoned t die a s
    | (.ok bs, s) =>
      let r : ParamRec := bytesWords bs
      match r.bad d s.ephem.hyper.length with
      | some b => optRecordBad t die d.ostate b s
      | none =>
        if !d.okron then optWork (s.optTask t die k r) 0 (s.ephem.hyper.getD (wf r 2 63 52) []) none none s
        else
          match s.openRec die d.ostate with
          | some e => if e.hold.isSome then kronPass t die k r e s else s
          | none =>
            { s with ephem := { s.ephem with
              openRecs := s.ephem.openRecs ++ [{ die := die, record := d.ostate, table := d.otable, age := k.age }] } }

/-- The tasks of a die that Ephemeris has accepted, in acceptance order. -/
def State.acceptedOn (s : State) (die : Nat) : List (Nat × Task) :=
  s.ephem.accepted.filterMap fun p => match s.task p.1 with
    | some k => if k.loc = die ∧ k.desc.type = 6 then some (p.1, k) else none
    | none => none

/-- Would the task open an entry while none is free (R285)? -/
def State.noEntry (s : State) (die : Nat) (d : Desc) : Bool :=
  d.okron && (s.openRec die d.ostate).isNone && decide (s.ephem.openRecs.countP (fun e => e.die == die) ≥ 1024)

/-- A task starts waiting for an entry, or its wait is over. -/
def waitEntry (t : Nat) (s : State) : State :=
  setTask t (fun k => if k.waitWhy = 4 then k else { k with waitWhy := 4, waitFrom := s.cyc }) s

/-- OPTIM_TASK (R290): Ephemeris of a die starts the oldest accepted task that may start, or goes on with one whose
held page has been repaired. -/
def execOptimTask (die : Fin 2) (s : State) : Host.Outcome State Fault Refusal :=
  let die := die.val
  let s := { s with ephem := { s.ephem with accepted := s.ephem.accepted.filter fun p => kvHas p.1 s.mer.tasks } }
  let s := acceptMore 64 die (chargeAll s)
  if s.inCompute then finish s
  else
    let mine := s.acceptedOn die
    let held := mine.find? fun p => p.2.phase == .running &&
      (match p.2.heldBy with | some g => (s.heldPage g 1).isNone | none => false)
    match held with
    | some (t, _) => finish (optGo t die (setTask t (fun k => { k with heldBy := none }) s))
    | none =>
      let first := fun (p : Nat × Task) =>
        (mine.find? fun q => q.2.desc.ostate == p.2.desc.ostate).map Prod.fst == some p.1
      let ready := mine.filter fun p => p.2.phase == .admitted && first p
      let s := (ready.filter fun p => s.noEntry die p.2.desc).foldl (fun s p => waitEntry p.1 s) s
      if mine.countP (fun p => p.2.phase != .admitted) ≥ 8 then finish s
      else
        match ready.find? fun p => !s.noEntry die p.2.desc with
        | none => finish s
        | some (t, k) =>
          let s := count .stateWait die (s.cyc - ((kvFind t s.ephem.accepted).getD s.cyc)) s
          let s := if k.waitWhy = 4 then count .openFull die (s.cyc - k.waitFrom) s else s
          finish (optGo t die (startTask t (endWait t s)))

/-- TABLE_HOLD (11, R270; R285, R288): the oldest open-record entry of a die that waits for its hold is answered, and its
task runs its first pass. -/
def execTableHold (die : Fin 2) (s : State) : Host.Outcome State Fault Refusal :=
  let die := die.val
  match s.ephem.openRecs.find? fun e => e.die == die && e.hold.isNone with
  | none => finish s
  | some e =>
    match tableHold e.table s with
    | (none, s) => finish s
    | (some g, s) =>
      let s := setOpen die e.record (fun e => { e with hold := some g }) s
      match (s.acceptedOn die).find? fun p => p.2.phase == .running && p.2.desc.ostate == e.record with
      | none => finish s
      | some (t, _) => finish (optGo t die (chargeAll s))

/-- TABLE_HOLD_RELEASE (11, R270; R285): the table store releases the hold of an entry that has closed. -/
def execTableHoldRelease (s : State) : Host.Outcome State Fault Refusal :=
  match s.ephem.releases with
  | [] => finish s
  | (i, g) :: rest => finish (tableDrop i g { s with ephem := { s.ephem with releases := rest } })

/-! Watch delivery (R294). -/

/-- The partials of an entry in the order they are added: ascending first, d0 before d1. -/
def insPart (p : RatioPart) : List RatioPart → List RatioPart
  | [] => [p]
  | q :: t =>
    if p.first < q.first ∨ (p.first = q.first ∧ p.die < q.die) then p :: q :: t else q :: insPart p t

/-- The ratio of an entry's partials. -/
def ratioOf (ps : List RatioPart) : Nat :=
  let sum := fun (f : Nat × Nat → Nat) => ps.foldl (fun a p => match p.sums with | some x => fadd a (f x) | none => a) 0
  let d := sum Prod.fst
  let m := sum Prod.snd
  if fisZero d && fisZero m then 0 else fdiv (fsqrt d) (fsqrt m)

/-- The deliveries of a step boundary. -/
def deliverRatios (step : Nat) (s : State) : State :=
  let ps := s.ephem.partials.foldl (fun l p => insPart p l) []
  let es := ps.foldl (fun l p => setIns p.entry l) []
  es.foldl (fun s e =>
    let mine := ps.filter fun p => p.entry == e
    watchDeliver e step (ratioOf mine) (mine.any RatioPart.z) s) { s with ephem := { s.ephem with partials := [] } }

/-! Resets (R297). -/

/-- What a COMPUTE reset leaves of Ephemeris: its table holds are released, too (11, R274). -/
def ephemReset (s : State) : State :=
  { s with ephem := { s.ephem with accepted := [], openRecs := [], partials := [], releases := [] } }

end Sys2Proof.Machine
end

