-- ==== Sys2Proof/Machine/Scopes.lean ====
section
/-!
DEFINITION. The COMPUTE reset (19, R467): what every chapter keeps and clears.
-/

namespace Sys2Proof.Machine

/-- Every remote watch is cancelled (05, R145), and each open collective sends ABORT (14, R346). -/
def leaveOthers (s : State) : State :=
  let s := { s with fab := { s.fab with inject := s.fab.inject.filter fun x => x.task.isNone } }
  let s := s.mer.tasks.foldl (fun s p => cancelWatch p.2 s) s
  s.fab.colls.foldl (fun s c => collAbort c.task Ts.aborted s) s

/-- What a COMPUTE reset leaves of Meridian (05, R124, R145) and of the step registers (04, R105). -/
def merReset (s : State) : State :=
  let z : Vector Int 16 := Vector.replicate 16 0
  { s with mer := { s.mer with
    tasks := [], lends := [], park := [], watches := [], moves := [], rung := false, boundary := none
    deficit := z, heard := z, running := [], charged := [], active := [], unitDeficit := [], unitCharged := []
    unitActive := [], periodStart := s.cyc
    queues := s.mer.queues.map fun p => (p.1, { p.2 with
      head := p.2.tail, holdMark := if p.2.held then p.2.tail else p.2.holdMark, skips := [], exhausted := []
      cplHead := p.2.cplTail, reserved := 0, fetched := none, cplSince := none })
    streams := s.mer.streams.map fun p => (p.1, { p.2 with halted := true, step := 0 }) } }

/-- What is discarded as a COMPUTE reset begins (19, Table 19-7, step 2). Reads of the host window that are outstanding
stay so until they are completed or time out (15, R354), and their data goes nowhere. -/
def computeDiscard (s : State) : State :=
  let s := storeReset (ephemReset (spectroReset (photoReset (numReset (stashReset (merReset (leaveOthers (stashAbandon s))))))))
  { s with
    strm := { s.strm with mcast := [] }
    rel := { s.rel with repairs := [], flips := [] }
    host := { s.host with readQ := [] }
    sec := { s.sec with importing := none }
    fab := { s.fab with asked := [], comms := s.fab.comms.map fun p => (p.1, { p.2 with stale := true, count := 0 }) } }

/-- The counters that a COMPUTE reset keeps: tag_fail (15, R375) and the live count retired_frames (17, R425). -/
def keptCounters : List Counter := [.tagFail, .retiredFrames]

/-- What its later steps clear: semaphores (04, R104), counters, the contents of monitors (20, R504). They leave every
stream halted, one resumed since the reset began among them (Table 19-7, step 5). -/
def computeClear (s : State) : State :=
  restartMonitors { s with
    sems := [], ctr := s.ctr.clearBut (fun _ => true) keptCounters
    mer := { s.mer with streams := s.mer.streams.map fun p => (p.1, { p.2 with halted := true }) } }

/-- A COMPUTE reset begins (19, Table 19-7, steps 1 and 2): other commands complete RESET_ABORTED, one in progress that
asked for a CLUSTER reset among them (R465); tasks are discarded; the fills asked for start. -/
def computeStart (mbx : Option Nat) (fills : Nat) (s : State) : State :=
  if s.boot.reset.any (fun r => r.scope == 1) then s
  else
    let s := mbxEndAll St.resetAborted mbx s
    let s := abandonSlice s
    let s := { s with boot := { s.boot with reset := some ⟨1, 0, mbx, s.cyc, s.now, fills, false⟩ } }
    let s := computeDiscard (peerResetting s)
    let s := if bit fills 0 then startFill 0 .compute s else s
    if bit fills 1 then startFill 1 .compute s else s

/-- A COMPUTE reset ends (19, Table 19-7, steps 3 to 6). -/
def computeFinish (s : State) : State :=
  match s.boot.reset with
  | none => s
  | some r =>
    let s := (List.range 32).foldl (fun s c => zeroCluster c s) s
    let s := computeClear s
    let s := { s with
      boot := { s.boot with reset := none }
      host := { s.host with retry := s.host.retry && s.sec.scrub.isSome } }
    let s := post Ev.resetDone [1, 0, s.cyc - r.since] (peerResetDone s)
    match r.mbx with
    | none => s
    | some m => if h : m < 16 then (if mbxRuns 0x0901 ⟨m, h⟩ s then mbxComplete ⟨m, h⟩ St.ok [] s else s) else s

end Sys2Proof.Machine
end

