-- ==== Sys2Proof/Machine/Tiers.lean ====
section
/-!
DEFINITION. The memory tiers (07): interleave, fills, dirty maps, and the channels' own events.
-/

namespace Sys2Proof.Machine

/-- SET_MEMORY_INTERLEAVE (R171, R173): changed tiers are filled, and the command ends with the last fill. -/
def execSetMemoryInterleave (m : Fin 16) (s : State) : Host.Outcome State Fault Refusal :=
  mbxCommand 0x0201 anyArgs m (fun a s =>
    let bg := bits (a.n 0) 15 0
    let bl := bits (a.n 0) 31 16
    if bg % 8 ≠ 0 ∨ bg > 232 ∨ bl % 16 ≠ 0 ∨ bl > 464 then .done St.memArgInvalid [] s
    else if bg = s.tiers.bg ∧ bl = s.tiers.bl then .done St.ok [] s
    else
      let g := bg ≠ s.tiers.bg
      let l := bl ≠ s.tiers.bl
      let s := { s with tiers := { s.tiers with bg := bg, bl := bl } }
      let s := if g then startFill 0 (.interleave m.val) s else s
      .run (if l then startFill 1 (.interleave m.val) s else s)) s

/-- Fill every frame of one channel (19, R477; R173; 17, R405). -/
def fillChannel (chan : Nat) (s : State) : State :=
  let out := fun (k per : Nat) => k / per / 2 ^ 20 != chan
  let retired := s.retireList.filter fun k => k / 2 ^ 20 == chan
  let frames := retired.foldl (fun fs k => kvSet k ({ st := 2 } : FrameRec) fs) (s.rel.frames.filter fun p => out p.1 1)
  { s with
    mem := s.mem.filter fun c => !(inDram c.1 && (s.loc c.1).chan == chan)
    rel := { s.rel with
      frames := frames
      errs := s.rel.errs.filter fun p => out p.1 256
      parErrs := s.rel.parErrs.filter fun p => out p.1 32
      metaBad := s.rel.metaBad.filter fun p => out p.1 1
      tried := s.rel.tried.filter fun a => (s.loc a).chan != chan } }

/-- The fill of a channel after its traffic test ends, and the test with it (19, R477). -/
def trafficFilled (t : Nat) (s : State) : State :=
  match kvFind (2 + t) s.tiers.fills, s.boot.test with
  | some (.traffic mbx e f), some x =>
    let s := fillChannel x.chan { s with
      boot := { s.boot with test := none }, tiers := { s.tiers with fills := kvDel (2 + t) s.tiers.fills } }
    let s := post Ev.trafficTestDone [x.chan / 256, x.chan % 256, e, f] s
    if h : mbx < 16 then
      if mbxRuns 0x0903 ⟨mbx, h⟩ s then mbxComplete ⟨mbx, h⟩ St.ok [e, f] s else s
    else s
  | _, _ => s

/-- A frame that bring-up's repairs left on the retirement list is RETIRED again (17, R406, Table 17-7). -/
def leftRetired (k : Nat) (s : State) : State :=
  let tier := k / 2 ^ 28
  let ch := k / 2 ^ 20 % 256
  let frame := k % 2 ^ 20
  logErr ⟨s.now, frame * 65536, Ev.frameRetired, tier, tier, 5, frame, ch⟩ (post Ev.frameRetired [tier, ch, frame, 3] s)

/-- TIER_FILL_DONE (R173; 19, R477): the tier's frames hold zero data, and access to it resumes. -/
def execTierFillDone (t : Fin 2) (s : State) : Host.Outcome State Fault Refusal :=
  match kvFind t.val s.tiers.fills with
  | none => finish (trafficFilled t.val s)
  | some why =>
    let s := fillTier t.val s
    let s := { s with tiers := { s.tiers with fills := kvDel t.val s.tiers.fills } }
    match why with
    | .compute => finish s
    | .tenant => finish s
    | .traffic _ _ _ => finish s
    | .interleave m =>
      if h : m < 16 then
        if (s.tiers.fills.all fun p => decide (2 ≤ p.1)) ∧ mbxRuns 0x0201 ⟨m, h⟩ s then finish (mbxComplete ⟨m, h⟩ St.ok [] s) else finish s
      else finish s
    | .bringup =>
      match s.boot.run with
      | none => finish s
      | some r =>
        let ms := (s.cyc - r.t0) / 1000000
        let s := { s with boot := { s.boot with
          run := some { r with filled := setIns t.val r.filled }
          report := if t.val = 0 then { s.boot.report with tGddr := ms } else { s.boot.report with tLpddr := ms } } }
        finish (((s.retireList.filter fun k => k / 2 ^ 28 == t.val).foldl (fun s k => leftRetired k s)) s)

/-! Dirty maps (R179–R181). -/

/-- The bits of a tier's mask, from 0x1 GDDR7 and 0x2 LPDDR5X. -/
def inMask (mask : Nat) (g : Nat) : Bool := if g * 65536 < 0x10000000000 then bit mask 0 else bit mask 1

/-- The granules of a tier that have a page on a channel. -/
def chanGranules (tier ch : Nat) (s : State) : List Nat :=
  let r : Region := if tier = 0 then .gddr7 else .lpddr
  ((List.range ((r.hi - r.lo) / 65536)).map fun i => r.lo / 65536 + i).filter fun g =>
    (List.range 32).any fun p => (s.loc (g * 65536 + p * 2048)).ch == ch

/-- A traffic test writes its whole channel again and again while it runs: its granules are marked (R179; 19, R477). -/
def testMarks (s : State) : State :=
  match s.boot.test with
  | some t =>
    if t.margin ∨ kvHas (2 + t.chan / 256) s.tiers.fills then s
    else { s with tiers := { s.tiers with
      active := (chanGranules (t.chan / 256) (t.chan % 256) s).foldl (fun l g => setIns g l) s.tiers.active } }
  | none => s

/-- Swap the maps of the tiers of a mask and post DIRTY_SWAPPED with the boundary stream's step register, 0 before any
boundary (R180; R105). The writes of a test that runs mark the active map again. -/
def swapDirty (mask kind : Nat) (s : State) : State :=
  let mine := s.tiers.active.filter (inMask mask)
  let step := match s.mer.boundary with | some st => (s.stream st).step.toNat | none => 0
  post Ev.dirtySwapped [mask, step, kind] (testMarks { s with tiers := { s.tiers with
    active := s.tiers.active.filter fun g => !inMask mask g
    frozen := mine.foldl (fun l g => setIns g l) s.tiers.frozen } })

/-- SNAPSHOT_DIRTY at the step boundary (R180). The reserved action 3 is refused. -/
def execSnapshotDirtyAtBoundary (m : Fin 16) (s : State) : Host.Outcome State Fault Refusal :=
  mbxCommand 0x0202 (fun a => a.n 0 % 4 == 0 || a.n 0 % 4 == 3) m (fun a s =>
    if a.n 0 % 4 = 3 then .done St.argInvalid [] s
    else .done St.ok [] { s with tiers := { s.tiers with swapReq := s.tiers.swapReq ||| bits (a.n 0) 9 8 } }) s

/-- SNAPSHOT_DIRTY now. -/
def execSnapshotDirtyNow (m : Fin 16) (s : State) : Host.Outcome State Fault Refusal :=
  mbxCommand 0x0202 (fun a => a.n 0 % 4 == 1) m (fun a s =>
    .done St.ok [] (swapDirty (bits (a.n 0) 9 8) 1 s)) s

/-- SNAPSHOT_DIRTY release. -/
def execSnapshotDirtyRelease (m : Fin 16) (s : State) : Host.Outcome State Fault Refusal :=
  mbxCommand 0x0202 (fun a => a.n 0 % 4 == 2) m (fun a s =>
    let mask := bits (a.n 0) 9 8
    .done St.ok [] { s with tiers := { s.tiers with frozen := s.tiers.frozen.filter fun g => !inMask mask g } }) s

/-- READ_DIRTY_MAP (R181). -/
def execReadDirtyMap (m : Fin 16) (s : State) : Host.Outcome State Fault Refusal :=
  mbxCommand 0x0203 anyArgs m (fun a s =>
    let t := a.n 0
    let n := if t = 0 then 3801088 else 7602176
    let base := if t = 0 then 0 else 0x1000000
    let set := s.tiers.frozen
    let bs := (List.range (n / 8)).map fun i =>
      BitVec.ofNat 8 ((List.range 8).foldl (fun x j => x + b2n (set.contains (base + 8 * i + j)) * 2 ^ j) 0)
    replyBytes (a.n 1) (a.n 2) 1 bs [] s) s

/-! Channel events (R170; 06, R163, R164; 17, R399–R404). -/

/-- The class under which a waiting read is served: promoted by age (06, R163). -/
def readServed (r : ChanRead) : ReadCls :=
  match r.cls with
  | .lc => .lc
  | .bulk => if r.waited ≥ 4000 then .lc else .bulk
  | .bg => if r.waited ≥ 20000 then .lc else .bg

/-- The read that a channel grants of those whose bank timing allows issue, oldest first, after `run` LC grants in a row
while a BULK read waited; and whether the first guard of 06, R163, forced it. -/
def grantRead (run : Nat) (rs : List ChanRead) : Option (ChanRead × Bool) :=
  let first := fun (c : ReadCls) => rs.find? fun r => readServed r == c
  match first .bulk, first .lc with
  | some b, some l => if run ≥ 16 then some (b, true) else some (l, false)
  | some b, none => some (b, false)
  | none, some l => some (l, false)
  | none, none => (first .bg).map fun r => (r, false)

/-- A read that a channel can hold: bytes of one sector of it. -/
def readFits (r : ChanRead) (chan : Nat) (s : State) : Bool :=
  inDram r.a && decide (0 < r.n) && decide (r.a % 256 + r.n ≤ 256) && (s.loc r.a).chan == chan

/-- CHANNEL_READ (R170; 06, R163): of the reads that wait at channel `chan` the next is granted, and its bytes are read
through the channel. -/
def execChannelRead (chan : Nat) (rs : List ChanRead) (s : State) : Host.Outcome State Fault Refusal :=
  let rs := rs.filter fun r => readFits r chan s
  let run := kvGet 0 chan s.tiers.lcRun
  match grantRead run rs with
  | none => finish s
  | some (r, forced) =>
    let bulk := rs.any fun x => readServed x == .bulk
    let die := (s.loc r.a).die
    let s := { s with tiers := { s.tiers with
      lcRun := kvPut 0 chan (if readServed r == .lc && bulk then run + 1 else 0) s.tiers.lcRun } }
    let s := if forced then count .lcGuard die 1 s else s
    let s := if readServed r != r.cls then count .aged die 1 s else s
    finish (devRead r.a r.n s).2.2

/-- CHANNEL_WRITE (R170): the channel accepts a write within one page. -/
def execChannelWrite (a : Nat) (bs : List Byte) (s : State) : Host.Outcome State Fault Refusal :=
  if inDram a && !bs.isEmpty && decide (a % 2048 + bs.length ≤ 2048) then finish (devPut a bs s) else finish s

/-- CHANNEL_WRITE_DRAIN (06, R163): with no read eligible, the channel drains what its write queue holds. -/
def execChannelWriteDrain (chan : Nat) (s : State) : Host.Outcome State Fault Refusal :=
  match kvGet [] chan s.tiers.wq with
  | [] => finish s
  | x :: _ =>
    let i := (s.loc (64 * x.1)).cidx
    finish (drainQueue 64 chan i 0 (count .turnarounds i 1 s))

/-- METADATA_WRITEBACK (R170): records held for 1 ms are written back. -/
def execMetadataWriteback (chan : Nat) (s : State) : Host.Outcome State Fault Refusal :=
  finish { s with tiers := { s.tiers with
    heldMeta := kvMod [] chan (fun h => h.filter fun p => decide (s.cyc < p.2 + 1000000)) s.tiers.heldMeta } }

end Sys2Proof.Machine
end

