-- ==== Sys2Proof/Machine/Boot.lean ====
section
/-!
DEFINITION. Chapter 19: bring-up, saved training settings, the reset commands, Collimation, the field tests.
-/

namespace Sys2Proof.Machine

/-! Bring-up (19, R451–R463). -/

/-- Change the bring-up report. -/
def setReport (f : Report → Report) (s : State) : State :=
  { s with boot := { s.boot with report := f s.boot.report } }

/-- Change the bring-up in progress. -/
def setRun (f : BootRun → BootRun) (s : State) : State :=
  { s with boot := { s.boot with run := s.boot.run.map f } }

/-- t of the bring-up in ms (19, R451). -/
def State.bootMs (s : State) : Nat :=
  match s.boot.run with
  | none => 0
  | some r => (s.cyc - r.t0) / 1000000

/-- Bring-up meets a cause of Table 19-4 (19, R462). -/
def bootFail (cause unit : Nat) (s : State) : State :=
  let s := setReport (fun r => { r with cause := cause, unit := unit }) s
  post Ev.bringupFailed [cause, unit] { s with boot := { s.boot with phase := 5, run := none } }

/-- Phase 0 begins: the fuses are sensed, and with them the map of the clusters retired at manufacture (19, R461). -/
def bootStart (s : State) : State :=
  { s with boot := { s.boot with
    phase := 0, ready := false, run := some { t0 := s.cyc }
    retired := Config.fuseRetired } }

/-- BRINGUP_START (19, R451): power is good and PERST# released. -/
def execBringupStart (s : State) : Host.Outcome State Fault Refusal :=
  if s.powered && s.pow.pwrGood && s.boot.run.isNone && s.boot.phase == 0 then finish (bootStart s) else finish s

/-- PERST (19, R464; 21, R509, R515): a reset input changes. Without main power a reset has no effect. -/
def execPerst (pin : ResetPin) (s : State) : Host.Outcome State Fault Refusal :=
  match pin with
  | .perstHigh => finish { s with pow := { s.pow with perst := false } }
  | .perstLow =>
    if s.pow.rails = .on then
      let s := fullReset s
      finish { s with pow := { s.pow with perst := true } }
    else finish { s with pow := { s.pow with perst := true } }
  | .modReset => if s.pow.rails = .on then finish (fullReset s) else finish s

/-- An image that the boot ROM accepts (19, R453). -/
def imageOk (i : Option Image) : Option Image :=
  match i with
  | some x => if x.svn ≥ Config.svn.toNat then some x else none
  | none => none

/-- Doorbells written before Almanac runs are observed now (log entry 21). -/
def observeBells (s : State) : State :=
  let bells := s.alm.bells
  let s := { s with alm := { s.alm with bells := [] } }
  bells.foldl (fun s b => if h : b.1 < 16 then mbxDoorbell ⟨b.1, h⟩ b.2 false s else s) s

/-- FIRMWARE_BOOT (19, R453): phase 1 ends with Almanac running image A or B, the DRAM keys generated (15, R369); or
bring-up ends with FIRMWARE_INVALID. -/
def execFirmwareBoot (s : State) : Host.Outcome State Fault Refusal :=
  if s.powered && s.boot.run.isSome && decide (s.boot.phase < 2) then
    let im := (imageOk s.pow.imageA).orElse fun _ => imageOk s.pow.imageB
    match im with
    | none => finish (bootFail 1 0 s)
    | some x =>
      let s := setReport (fun r => { r with tBoot := s.bootMs }) s
      let s := { s with
        boot := { s.boot with phase := 2 }
        pow := { s.pow with running := some x }
        sec := { s.sec with dramKeys := s.sec.dramKeys + 1 } }
      finish (observeBells s)
  else finish s

/-- The newer copy of the saved settings (19, R454). -/
def Boot.newest (b : Boot) : Option Saved :=
  match b.copyA, b.copyB with
  | some x, some y => if x.gen ≥ y.gen then some x else some y
  | some x, none => some x
  | none, y => y

/-- MEASURE_DONE (19, R453, R454): phase 2 ends. The CMIS identities that it reads show the modules that a cage does not
admit (21, R510). -/
def execMeasureDone (r : Measured) (s : State) : Host.Outcome State Fault Refusal :=
  if s.powered && s.boot.run.isSome && s.boot.phase == 2 then
    match r.badRail, r.badTemp, r.badLp with
    | some i, _, _ => finish (bootFail 2 i s)
    | none, some i, _ => finish (bootFail 3 i s)
    | none, none, some ch => finish (bootFail 6 ch s)
    | none, none, none =>
      let memId := (Config.sha384 r.ids).toNat % 2 ^ 64
      let saved := s.boot.newest.filter fun c =>
        c.stepping == 0xB0 && c.serial == Config.serial && c.fw == 0x00040002 && c.memId == memId
      let far := fun (a b : Int) => decide (a - b > 25 ∨ b - a > 25)
      let coldG := saved.all fun c => far r.tG c.tG
      let coldL := saved.all fun c => far r.tL c.tL
      let ports := match saved with
        | some c => 0x3FFFFFFF - (c.ports &&& r.portsSame &&& 0x3FFFFFFF)
        | none => 0x3FFFFFFF
      let s := setRun (fun x => { x with
        saved := saved, coldG := coldG, coldL := coldL, coldPorts := ports, memId := memId, tG := r.tG, tL := r.tL
        badDevs := r.badDevs, badNand := r.badNand, measured := true }) s
      let s := digestStep (setReport fun x => { x with
        headerOk := saved.isSome
        gs0 := (saved.map (·.gs0)).getD 0xFF
        gs1 := (saved.map (·.gs1)).getD 0xFF }) s
      let s := if r.badNand = [] then s else storeFail s
      let s := { s with boot := { s.boot with phase := 3 } }
      finish ((s.pow.cages.filter fun c => decide (c.2 > 12000)).foldl
        (fun s c => post Ev.cagePowerRefused [c.1, c.2] s) s)
  else finish s

/-- A bring-up row acts in phase 3 alone. -/
def State.training (s : State) : Bool := s.powered && s.boot.run.isSome && s.boot.phase == 3

/-- The lowest group in which training finds two failed lanes, of which lane 20 is the spare (R458; 01, R26). -/
def twoLanes (lanes : List (Nat × Nat)) : Option Nat :=
  ((lanes.filter fun l => lanes.any fun x => x.1 == l.1 && x.2 != l.2).map Prod.fst).foldl
    (fun m g => some (match m with | some x => Nat.min x g | none => g)) none

/-- BRIDGE_TRAIN_DONE (19, R458): lanes spared as die × 256 + group and lane, a group with two failed lanes, the
sideband delay, and whether the saved settings held. -/
def execBridgeTrainDone (lanes : List (Nat × Nat)) (failed : Option Nat) (delay : Nat) (warmOk : Bool) (s : State) :
    Host.Outcome State Fault Refusal :=
  if s.training then
    match failed.or (twoLanes lanes) with
    | some u => finish (bootFail 4 u s)
    | none =>
      let steered := lanes.eraseDups.filter fun l => decide (l.2 < 20)
      let warm := warmOk && (s.boot.run.any fun r => r.saved.isSome)
      let fell := !warmOk && (s.boot.run.any fun r => r.saved.isSome)
      let s := setRun (fun r => { r with bridge := true, cold := r.cold || !warm }) s
      let ms := s.bootMs
      let s := setReport (fun r => { r with
        tBridge := ms, lanesSpared := r.lanesSpared + steered.length, fallbacks := r.fallbacks + b2n fell
        bridgeWarm := warm }) s
      let s := { s with boot := { s.boot with sideDelay := delay } }
      finish (lanes.eraseDups.foldl (fun s l =>
        let s := { s with rel := { s.rel with spared := kvSet l.1 l.2 s.rel.spared } }
        if l.2 ≥ 20 then s else post Ev.bridgeLaneSpared [l.1 / 256, l.1 % 256, l.2] (count .lanesSpared (l.1 / 256) 1 s)) s)
  else finish s

/-- Put a channel record of the report: 0–255 GDDR7, 256–319 LPDDR5X, 320–327 NAND. -/
def setChan (i : Nat) (f : ChanRec → ChanRec) (s : State) : State :=
  setReport (fun r => { r with chans := kvMod {} i f r.chans }) s

/-- A tier's fill starts once its training and its repairs have ended (19, R457). -/
def bootFill (t : Nat) (s : State) : State :=
  match s.boot.run with
  | none => s
  | some r =>
    let n := r.chansDone.countP fun c => c / 256 == t
    let filling := (kvFind t s.tiers.fills).isSome || r.filled.contains t
    if n = (if t = 0 then 256 else 64) ∧ r.index ∧ !filling then startFill t .bringup s else s

/-- The record and the marks of an item that has trained; `tried`: it was verified warm first, and where that failed it
has trained cold (R456). -/
def trained (i : Nat) (r : TrainResult) (tried warm spare : Bool) (s : State) : State :=
  let s := setChan i (fun c => { c with
    trainMs := r.ms, eyeUi := r.eyeUi, eyeMv := r.eyeMv, lane := r.lane, failed := false, spare := spare
    fallback := c.fallback || (tried && !warm), warm := warm, trained := true }) s
  let s := setReport (fun x => { x with fallbacks := x.fallbacks + b2n (tried && !warm) }) s
  setRun (fun x => { x with cold := x.cold || !warm }) s

/-- The record and the marks of an item that has failed training. -/
def untrained (i : Nat) (tried : Bool) (s : State) : State :=
  setReport (fun x => { x with fallbacks := x.fallbacks + b2n tried })
    (setChan i (fun c => { c with failed := true, trained := false, warm := false, fallback := c.fallback || tried }) s)

/-- A GDDR7 channel's training ends (19, R456): a failed channel's device gives way to the die's spare device, whose
training of those channels is then awaited. The spare device has saved settings where it had replaced this device
already. -/
def trainGddr (ch : Nat) (r : TrainResult) (x : BootRun) (s : State) : State :=
  let dev := ch / 4
  let die := dev / 32
  let spare := if die = 0 then s.boot.report.gs0 else s.boot.report.gs1
  let on := spare == dev
  let bad := x.badDevs.contains dev && !on
  let tried := !bad && !x.coldG && x.saved.any fun c => !on || (if die = 0 then c.gs0 else c.gs1) == dev
  let warm := tried && r.warmOk
  if warm || (r.coldOk && !bad) then
    bootFill 0 (setRun (fun x => { x with chansDone := setIns ch x.chansDone }) (trained ch r tried warm on s))
  else if spare ≠ 0xFF then bootFail 5 die (untrained ch tried s)
  else
    let s := untrained ch tried s
    let s := digestStep (setReport fun p => if die = 0 then { p with gs0 := dev } else { p with gs1 := dev }) s
    let s := setRun (fun x => { x with chansDone := x.chansDone.filter fun c => c / 4 != dev }) s
    post Ev.spareDeviceUsed [die, dev] s

/-- DRAM_TRAIN_DONE (19, R456): a DRAM channel's training ends. -/
def execDramTrainDone (tier : Fin 2) (ch : Nat) (r : TrainResult) (s : State) : Host.Outcome State Fault Refusal :=
  if !s.training then finish s
  else match s.boot.run with
    | none => finish s
    | some x =>
      if tier = 0 then
        if ch < 256 then finish (trainGddr ch r x s) else finish s
      else if ch < 64 then
        let tried := x.saved.isSome && !x.coldL
        let warm := tried && r.warmOk
        if warm || r.coldOk then
          finish (bootFill 1 (setRun (fun x => { x with chansDone := setIns (256 + ch) x.chansDone })
            (trained (256 + ch) r tried warm false s)))
        else finish (bootFail 6 ch (untrained (256 + ch) tried s))
      else finish s

/-- NAND_TRAIN_DONE (19, R456): a NAND interface's training ends; one that fails leaves the store FAILED. -/
def execNandTrainDone (n : Fin 8) (r : TrainResult) (s : State) : Host.Outcome State Fault Refusal :=
  if !s.training then finish s
  else match s.boot.run with
    | none => finish s
    | some x =>
      let s := setRun (fun x => { x with nandDone := setIns n.val x.nandDone }) s
      let tried := x.saved.isSome
      let warm := tried && r.warmOk
      if (warm || r.coldOk) && !x.badNand.contains n.val then finish (trained (320 + n.val) r tried warm false s)
      else finish (storeFail (untrained (320 + n.val) tried s))

/-- A cluster is retired (17, R413; 19, R461, R474); with the retired-cluster map the state digest changes (15, R359). -/
def retireCluster (c : Nat) (cause : Nat) (soft : Bool) (s : State) : State :=
  let b := BitVec.ofNat 32 (2 ^ c)
  post Ev.clusterRetired [c, cause] (digestStep (fun s => { s with boot := { s.boot with
    retired := s.boot.retired ||| b, retiredSoft := if soft then s.boot.retiredSoft ||| b else s.boot.retiredSoft } }) s)

/-- STORE_INDEX_LOADED (19, R457, R460; 17, R407, R413): the index and the system area are loaded. Post-package repair
mends the frames of `repaired`, as channel (256 × tier + channel) and frame; the clusters of `noSpares` have a bank
whose failures exceed its spares. Of a FAILED store nothing can be read: no frame is repaired, and no cluster is known
to be retired by the soft-repair list (log entry 124). -/
def execStoreIndexLoaded (repaired : List (Nat × Nat)) (noSpares : Nat) (s : State) :
    Host.Outcome State Fault Refusal :=
  if !s.training then finish s
  else
    let ms := s.bootMs
    let s := setRun (fun r => { r with index := true }) (setReport (fun r => { r with tStore := ms }) s)
    let keys := (repaired.map fun p => frameKey p.1 p.2).filter s.retireList.contains
    let s := { s with rel := { s.rel with retire := s.rel.retire.filter fun k => !keys.contains k } }
    let s := setReport (fun r => { r with pprRows := r.pprRows + keys.length }) s
    let s := keys.foldl (fun s k =>
      let chan := k / 2 ^ 20
      setChan chan (fun c => { c with ppr := c.ppr + 1 }) s) s
    let s := storeMount s
    let s := if s.store.failed then s else
      digestStep (fun s => { s with boot := { s.boot with retired := s.boot.retired ||| s.boot.retiredSoft } }) s
    let s := (List.range 32).foldl (fun s c =>
      if bit noSpares c && !s.boot.retired.getLsbD c then retireCluster c 0 false s else s) s
    let die := fun (d : Nat) => (List.range 16).all fun i => s.boot.retired.getLsbD (16 * d + i)
    if die 0 then finish (bootFail 7 0 s)
    else if die 1 then finish (bootFail 7 1 s)
    else finish (bootFill 1 (bootFill 0 s))

/-- PORT_WINDOW_CLOSE (19, R459). -/
def execPortWindowClose (s : State) : Host.Outcome State Fault Refusal :=
  if s.training then
    finish (setReport (fun r => { r with portsActive := s.portsActive }) (setRun (fun r => { r with window := true }) s))
  else finish s

/-- Every activity of Table 19-1 has ended (19, R461). -/
def BootRun.complete (r : BootRun) : Bool :=
  r.bridge && r.chansDone.length == 320 && r.nandDone.length == 8 && r.index && r.window && r.filled.length == 2

/-- The warm mask (19, Table 19-5): the saved header is valid, and every item of a kind has trained warm. -/
def Report.warmMask (r : Report) : Nat :=
  let all := fun (lo n : Nat) => (List.range n).all fun i => (kvGet ({} : ChanRec) (lo + i) r.chans).warm
  b2n r.headerOk + b2n r.bridgeWarm * 2 + b2n (all 0 256) * 4 + b2n (all 256 64) * 8 + b2n (all 320 8) * 16

/-- BRINGUP_READY (19, R461; 21, R517): Survey's first passes begin (17, R409). -/
def execBringupReady (s : State) : Host.Outcome State Fault Refusal :=
  if s.training && s.boot.run.any BootRun.complete then
    let ms := s.bootMs
    let s := setReport (fun r => { r with tReady := ms, storeState := s.storeState }) s
    let s := { s with
      boot := { s.boot with phase := 4, ready := true, colLast := s.cyc, saveDue := s.boot.run.any (·.cold) }
      rel := { s.rel with pass := [(0, { start := s.cyc }), (1, { start := s.cyc })] } }
    let r := s.boot.report
    finish (post Ev.bringupDone [r.warmMask, r.tReady, s.boot.retired.toNat, r.fallbacks] s)
  else finish s

/-! Saved settings (19, R454, R455). -/

/-- The mean of the samples of sensors [lo, hi) in °C, rounded (19, Table 19-2). -/
def State.meanTemp (s : State) (lo hi : Nat) : Int :=
  let xs := ((List.range (hi - lo)).map fun i => kvGet ({} : Sensor) (768 + lo + i) s.sens.sensors).filter (·.valid)
  roundMean (xs.map (·.value)).sum xs.length 16 / 16

/-- Save the settings in use over the older copy (19, R455); a write that fails leaves the other copy alone. -/
def saveSettings (ok : Bool) (s : State) : State :=
  let b := s.boot
  let gen := (b.newest.map (·.gen)).getD 0 + 1
  let new : Saved := {
    savedAt := if s.time.timeSet then s.now else 0
    memId := (b.run.map (·.memId)).getD 0
    serial := Config.serial
    fw := 0x00040002
    gen := gen
    ports := s.portsActive
    tG := s.meanTemp 48 114
    tL := s.meanTemp 114 130
    gs0 := b.report.gs0
    gs1 := b.report.gs1
    stepping := 0xB0 }
  let put := if ok then some new else none
  let intoB := match b.copyA, b.copyB with
    | some x, some y => decide (x.gen ≥ y.gen)
    | some _, none => true
    | none, _ => false
  let s := { s with boot := if intoB then { b with copyB := put } else { b with copyA := put } }
  post Ev.settingsSaved [gen, b2n (!ok)] s

/-- SETTINGS_SAVE (19, R455): the save that a bring-up with cold training makes. -/
def execSettingsSave (ok : Bool) (s : State) : Host.Outcome State Fault Refusal :=
  if s.almanacUp && s.boot.ready && s.boot.saveDue then
    finish (saveSettings ok { s with boot := { s.boot with saveDue := false } })
  else finish s

/-- SAVE_TRAINING (19, R455); `ok`: the boot flash takes the write. -/
def execSaveTraining (m : Fin 16) (ok : Bool) (s : State) : Host.Outcome State Fault Refusal :=
  mbxCommand 0x0902 anyArgs m (fun _ s =>
    if !s.boot.ready then .done St.trainingNotSavable [] s
    else .done (if ok then St.ok else St.settingsWriteFailed) [] (saveSettings ok s)) s

/-! The bring-up report (19, R463). -/

/-- The summary (19, Table 19-5). -/
def reportWords (s : State) : List Nat :=
  let r := s.boot.report
  [r.warmMask + s.boot.phase * 2 ^ 5 + 0x5242575A * 2 ^ 32, 0, 0,
   r.gs1 * 2 ^ 48 + r.gs0 * 2 ^ 56,
   r.storeState * 2 ^ 16 + r.cause * 2 ^ 24 + r.unit * 2 ^ 32,
   r.portsActive,
   r.lanesSpared * 2 ^ 16 + r.fallbacks * 2 ^ 32,
   r.pprRows + s.boot.retired.toNat * 2 ^ 32,
   r.tBoot + r.tBridge * 2 ^ 32,
   r.tLpddr + r.tGddr * 2 ^ 32,
   r.tStore + r.tReady * 2 ^ 32,
   s.boot.colNext * 2 ^ 24 + r.colFailures * 2 ^ 32,
   r.colSkipped + r.colSlices * 2 ^ 32, 0, 0, 0]

/-- A channel record (19, Table 19-6). -/
def ChanRec.words (c : ChanRec) : List Nat :=
  [b2n c.trained + b2n c.warm * 2 + b2n c.fallback * 4 + b2n c.spare * 8 + b2n c.failed * 16 + c.ppr % 256 * 2 ^ 48 +
   c.lane % 256 * 2 ^ 56, c.eyeMv % 65536 + c.eyeUi % 65536 * 2 ^ 16 + c.trainMs % 2 ^ 32 * 2 ^ 32]

/-- READ_BRINGUP_REPORT (19, R463). -/
def execReadBringupReport (m : Fin 16) (s : State) : Host.Outcome State Fault Refusal :=
  mbxCommand 0x0906 anyArgs m (fun a s =>
    let ws := reportWords s ++ (List.range 328).flatMap fun i => (kvGet ({} : ChanRec) i s.boot.report.chans).words
    replyBytes (a.n 0) (a.n 1) 1 (wordBytes ws) [] s) s

/-! Resets (19, R464–R468). -/

/-- RESET_MODULE with scope FULL (19, R451, R464, R466): bring-up starts again with t = 0 at the acceptance. -/
def execResetModuleFull (m : Fin 16) (s : State) : Host.Outcome State Fault Refusal :=
  mbxCommand 0x0901 (fun a => a.n 0 % 4 == 0) m (fun a s =>
    if a.n 0 ≠ 0 then .done St.argInvalid [] s else .gone (bootStart (fullReset s))) s

/-- RESET_MODULE with scope COMPUTE, or with the reserved scope 3 (19, R466, R467). -/
def execResetModuleCompute (m : Fin 16) (s : State) : Host.Outcome State Fault Refusal :=
  mbxCommand 0x0901 (fun a => a.n 0 % 2 == 1) m (fun a s =>
    if a.n 0 % 4 = 3 ∨ !s.boot.ready ∨ bits (a.n 0) 20 16 ≠ 0 then .done St.argInvalid [] s
    else .run (computeStart (some m.val) (bits (a.n 0) 9 8) s)) s

/-- RESET_MODULE with scope CLUSTER (19, R466, R468). -/
def execResetModuleCluster (m : Fin 16) (s : State) : Host.Outcome State Fault Refusal :=
  mbxCommand 0x0901 (fun a => a.n 0 % 4 == 2) m (fun a s =>
    let c := bits (a.n 0) 20 16
    if !s.boot.ready ∨ bits (a.n 0) 9 8 ≠ 0 ∨ s.boot.retired.getLsbD c then .done St.argInvalid [] s
    else
      let s := if s.boot.slice.any (fun x => x.cluster == c) then abandonSlice s else s
      let wait := specApplying c s
      let s := { s with boot := { s.boot with reset := some ⟨2, c, some m.val, s.cyc, s.now, 0, wait⟩ } }
      .run (if wait then s else clusterDiscard c s)) s

/-- COMPUTE_RESET_DONE (19, R467): its steps, and the fills it asked for, have ended. -/
def execComputeResetDone (s : State) : Host.Outcome State Fault Refusal :=
  if s.boot.reset.any (fun r => r.scope == 1) && !(s.tiers.fills.any fun p => p.2 == .compute) then
    finish (computeFinish s)
  else finish s

/-- CLUSTER_RESET_DONE (19, R468): the cluster returns to service with its SRAM zeroed and its buffer empty. -/
def execClusterResetDone (s : State) : Host.Outcome State Fault Refusal :=
  match s.boot.reset with
  | some r =>
    if r.scope = 2 ∧ r.waiting = false then
      let s := zeroCluster r.cluster s
      let s := { s with
        boot := { s.boot with reset := none }
        strm := { s.strm with mcast := kvDel r.cluster s.strm.mcast } }
      let s := post Ev.resetDone [2, r.cluster, s.cyc - r.since] s
      match r.mbx with
      | none => finish s
      | some m => if h : m < 16 then finish (if mbxRuns 0x0901 ⟨m, h⟩ s then mbxComplete ⟨m, h⟩ St.ok [] s else s) else finish s
    else finish s
  | none => finish s

/-! Collimation (19, R469–R475). -/

/-- SET_COLLIMATION (19, R469). -/
def execSetCollimation (m : Fin 16) (s : State) : Host.Outcome State Fault Refusal :=
  mbxCommand 0x0905 anyArgs m (fun a s =>
    if a.n 0 = 0 then .done St.ok [] { s with boot := { s.boot with colEnable := false } }
    else
      let p := a.n 1
      let b := a.n 2
      if p < 10 ∨ p > 86400 ∨ b < 31 ∨ b > 1000 then .done St.argInvalid [] s
      else .done St.ok [] { s with boot := { s.boot with colEnable := true, colPeriod := p, colBudget := b } }) s

/-- A step boundary may begin a slice (19, R470). -/
def colBoundary (s : State) : State :=
  let b := s.boot
  if !b.colEnable || !b.ready || b.slice.isSome || decide (s.cyc < b.colLast + b.colPeriod * 1000000000) then s
  else
    let order := (List.range 32).map fun i => (b.colNext + i) % 32
    let able := order.filter s.clusterUp
    let pick := (able.find? fun c => specIdle c s).orElse fun _ => able.head?
    let s := { s with boot := { b with colLast := s.cyc } }
    match pick with
    | none =>
      post Ev.collimationSkipped [b.colNext, 1]
        (setReport (fun r => { r with colSkipped := r.colSkipped + 1 }) s)
    | some c => { s with boot := { s.boot with
        slice := some ⟨c, .drain, (b.colBudget - 23) / 4, none⟩, colNext := (c + 1) % 32 } }

/-- Change the slice in progress. -/
def setSlice (x : Slice) (s : State) : State := { s with boot := { s.boot with slice := some x } }

/-- A core task or a unit task runs on the cluster (19, R471). -/
def clusterBusy (c : Nat) (s : State) : Bool :=
  s.mer.tasks.any fun p =>
    if p.2.desc.core then p.2.loc / 16 == c && (p.2.phase == .running || p.2.phase == .finished)
    else clusterUnit p.2.desc.type && p.2.loc == c && p.2.phase != .head && p.2.phase != .admitted && !p.2.released

/-- COLLIMATION_DRAIN_END (19, R471): the cluster's running tasks have completed, or 2 ms have passed since the slice
began. -/
def execCollimationDrainEnd (s : State) : Host.Outcome State Fault Refusal :=
  match s.boot.slice with
  | some x =>
    if x.phase = .drain ∧ (!clusterBusy x.cluster s || decide (s.boot.colLast + 2000000 ≤ s.cyc)) = true then
      finish (setSlice { x with phase := .clear } (clusterDiscard x.cluster s))
    else finish s
  | none => finish s

/-- COLLIMATION_CLEAR_DONE (19, R472): the cluster is cleared and its multicast buffer with it. -/
def execCollimationClearDone (s : State) : Host.Outcome State Fault Refusal :=
  match s.boot.slice with
  | some x =>
    if x.phase = .clear then
      let s := zeroCluster x.cluster s
      let s := { s with strm := { s.strm with mcast := kvDel x.cluster s.strm.mcast } }
      finish (emit (.pin "SCAN_ENABLE" 1) (setSlice { x with phase := .march } s))
    else finish s
  | none => finish s

/-- COLLIMATION_MEMORY_TEST_DONE (19, R474): the banks with failing bits, and whether a word has more than one. -/
def execCollimationMemoryTestDone (banks : List Nat) (multi : Bool) (s : State) : Host.Outcome State Fault Refusal :=
  match s.boot.slice with
  | some x =>
    if x.phase = .march then
      let next := if x.blocks = 0 then ColPhase.restore else .logic x.blocks
      if banks = [] then finish (setSlice { x with phase := next } s)
      else
        let s := { s with rel := { s.rel with softRepair := banks.foldl (fun l b => setIns b l) s.rel.softRepair } }
        let s := post Ev.collimationFailed [x.cluster, 0, 1, if multi then 1 else 2] s
        let s := if multi then post Ev.clusterRetired [x.cluster, 2] s else s
        finish (setSlice { x with phase := next, retire := if multi then some 2 else none } s)
    else finish s
  | none => finish s

/-- COLLIMATION_BLOCK_DONE (19, R473, R474): whether the block's signature matches, and its retest. -/
def execCollimationBlockDone (matches_ retest : Bool) (s : State) : Host.Outcome State Fault Refusal :=
  match s.boot.slice with
  | some x =>
    match x.phase with
    | .logic n =>
      let blk := kvGet 0 x.cluster s.boot.colBlock
      let s := { s with boot := { s.boot with colBlock := kvSet x.cluster ((blk + 1) % 512) s.boot.colBlock } }
      let next := if n ≤ 1 then ColPhase.restore else .logic (n - 1)
      if matches_ then finish (setSlice { x with phase := next } s)
      else
        let s := setReport (fun r => { r with colFailures := r.colFailures + 1 }) s
        let s := post Ev.collimationFailed [x.cluster, blk, 0, b2n (!retest)] s
        if retest then finish (setSlice { x with phase := next } s)
        else
          let s := if x.retire = some 1 then s else post Ev.clusterRetired [x.cluster, 1] s
          finish (setSlice { x with phase := next, retire := some 1 } s)
    | _ => finish s
  | none => finish s

/-- COLLIMATION_RESTORE_DONE (19, R473, R474): the cluster returns to service, or its retirement takes effect. -/
def execCollimationRestoreDone (s : State) : Host.Outcome State Fault Refusal :=
  match s.boot.slice with
  | some x =>
    if x.phase = .restore then
      let s := emit (.pin "SCAN_ENABLE" 0) (zeroCluster x.cluster s)
      let b := BitVec.ofNat 32 (2 ^ x.cluster)
      let s := setReport (fun r => { r with colSlices := r.colSlices + 1 })
        { s with boot := { s.boot with slice := none } }
      match x.retire with
      | none => finish s
      | some why =>
        finish (digestStep (fun s => { s with boot := { s.boot with
          retired := s.boot.retired ||| b
          retiredSoft := if why = 1 then s.boot.retiredSoft ||| b else s.boot.retiredSoft } }) s)
    else finish s
  | none => finish s

/-! Field tests (19, R477, R478). -/

/-- RUN_TRAFFIC_TEST (19, R477). -/
def execRunTrafficTest (m : Fin 16) (s : State) : Host.Outcome State Fault Refusal :=
  mbxCommand 0x0903 anyArgs m (fun a s =>
    let tier := bits (a.n 0) 8 8
    let ch := bits (a.n 0) 7 0
    let pat := bits (a.n 0) 19 16
    if pat ≥ 4 ∨ (tier = 1 ∧ ch ≥ 64) ∨ a.n 1 < 1 ∨ a.n 1 > 60000 then .done St.argInvalid [] s
    else
      .run (testMarks { s with boot := { s.boot with test := some ⟨m.val, false, 256 * tier + ch, pat, 0, 0⟩ } })) s

/-- TRAFFIC_TEST_END (19, R477): the failing bits counted and the first failing raw channel address; the channel's fill
begins. -/
def execTrafficTestEnd (errors : Nat) (first : W64) (s : State) : Host.Outcome State Fault Refusal :=
  match s.boot.test with
  | some t =>
    if t.margin ∨ kvHas (2 + t.chan / 256) s.tiers.fills then finish s
    else
      let e := min errors (2 ^ 64 - 1)
      finish (startFill (2 + t.chan / 256) (.traffic t.mbx e (if e = 0 then 2 ^ 64 - 1 else first.toNat)) s)
  | none => finish s

/-- RUN_MARGINING (19, R478). -/
def execRunMargining (m : Fin 16) (s : State) : Host.Outcome State Fault Refusal :=
  mbxCommand 0x0904 anyArgs m (fun a s =>
    let tier := bits (a.n 0) 8 8
    let ch := bits (a.n 0) 7 0
    let need := if tier = 0 then 192 else 320
    if tier = 1 ∧ ch ≥ 64 then .done St.argInvalid [] s
    else match bufCheck (a.n 1) (a.n 2) 1 s with
      | some f => bufFault f s
      | none =>
        if a.n 2 < need then .done St.bufferSmall [need] s
        else .run { s with boot := { s.boot with
          test := some ⟨m.val, true, 256 * tier + ch, 0, a.n 1, a.n 2⟩ } }) s

/-- MARGINING_DONE (19, R478, Table 19-10): the device temperature in °C, whether every lane meets Table 19-3, and
each lane's margins. -/
def execMarginingDone (temp : Int) (pass : Bool) (lanes : List (Nat × Nat × Nat × Nat)) (s : State) :
    Host.Outcome State Fault Refusal :=
  match s.boot.test with
  | some t =>
    if !t.margin then finish s
    else
      let n := if t.chan < 256 then 8 else 16
      let head := [t.chan % 256 + t.chan / 256 * 2 ^ 8 + b2n pass * 2 ^ 40 + n * 2 ^ 48 + ofSigned 8 temp * 2 ^ 56,
        s.now, 0, 0, 0, 0, 0, 0]
      let lane := fun (i : Nat) =>
        let (l, r, lo, hi) := lanes.getD i (0, 0, 0, 0)
        [0, hi % 65536 + lo % 65536 * 2 ^ 16 + r % 65536 * 2 ^ 32 + l % 65536 * 2 ^ 48]
      let bs := wordBytes (head ++ (List.range n).flatMap lane)
      let s := { s with boot := { s.boot with test := none } }
      if h : t.mbx < 16 then
        if mbxRuns 0x0904 ⟨t.mbx, h⟩ s then finish (mbxComplete ⟨t.mbx, h⟩ St.ok [bs.length] (devPut t.dest bs s))
        else finish s
      else finish s
  | none => finish s

end Sys2Proof.Machine
end

