-- ==== Sys2Proof/Machine/HostReads.lean ====
section
/-!
DEFINITION. Completions of device reads of the host window (15, R350).
-/

namespace Sys2Proof.Machine

/-- How a completion ends a read. -/
inductive CplKind
  | data (bs : List Byte)
  | poisoned
  /-- Unsupported Request or Completer Abort. -/
  | refused
deriving DecidableEq, Repr

/-- A read is no longer outstanding; the next that waits is sent. -/
def dropRead (id : Nat) (s : State) : State :=
  issueReads 1 { s with host := { s.host with reads := kvDel id s.host.reads } }

/-- The host bus address of a read. -/
def HostRead.bus (r : HostRead) : Nat := r.addr - Region.hostWin.lo

/-- A task ends with a status because of a read; its other reads are forgotten. -/
def endByRead (t st det : Nat) (s : State) : State :=
  let s := { s with host := { s.host with
    reads := s.host.reads.filter fun p => p.2.task != t
    readQ := s.host.readQ.filter fun r => r.task != t } }
  dropToken t (setTask t (fun k => { k with
    phase := .finished, remaining := 0, token := none, ackWait := false
    status := if k.status = 0 then st else k.status, detail := if k.status = 0 then det else k.detail }) s)

/-- A page of a TRANSFER goes to another module as a WRITE; one of poisoned data does not, and no answer to it is
awaited. -/
def sendPage (t o : Nat) (bs : List Byte) (s : State) : State :=
  match s.task t with
  | none => s
  | some k =>
    let ga := k.desc.f 3 63 0
    let ack := k.desc.b 5 31
    let tk := k.token.getD 0
    if k.poisoned then (if ack then answered t s else s)
    else
      let s := sendPkts [{ pkt := { typ := .write, det := false, ack := ack, dst := gaModule ga, src := s.ownId
                                    addr := gaAddr ga + o, token := tk % 4096, tdie := tk / 4096, data := bs }
                           die := k.dieOf, task := some t }] s
      if !ack then movedUnits t bs.length s
      else if k.prog = 0 then setTask t (fun k => { k with ackWait := true, prog := s.cyc }) s
      else s

/-- The data of a read goes to its destination: here, or to another module. -/
def landPiece (t : Nat) (k : Task) (r : HostRead) (bs : List Byte) (s : State) : State :=
  let s := addPiece t (r.dst - k.desc.f 3 63 0) bs s
  if s.remote r.dst then answered t (landWith (sendPage t) t false s)
  else
    let s := if s.tfinder k.desc then count .finderWrites k.dieOf (finderReqs [(gaAddr r.dst, r.len)]) s else s
    answered t (landPieces t (decide (k.remaining ≤ 1)) (movedUnits t r.len s))

/-- A completion of read `id`. -/
def hostCompletion (id : Nat) (c : CplKind) (s : State) : State :=
  match kvFind id s.host.reads with
  | none => s
  | some r =>
    match s.task r.task with
    | none => dropRead id s
    | some k =>
      match c with
      | .data bs =>
        if bs.length ≠ r.len then s
        else
          let s := dropRead id s
          let s := count .dmaRdBytes 0 r.len { s with mem := s.mem.write r.addr bs }
          let s := if s.tfinder k.desc then count .finderReads k.dieOf (finderReqs [(r.addr, r.len)]) s else s
          landPiece r.task k r bs s
      | .poisoned => landPiece r.task k r (List.replicate r.len 0) (taskPoison r.task r.addr (dropRead id s))
      | .refused => issueReads 1024 (endByRead r.task Ts.addrDenied r.bus (dropRead id s))

/-- HOST_COMPLETION (R350): `st` 0 successful with its data, 1 poisoned, 2 Unsupported Request, 3 Completer Abort. One
that no outstanding read awaits, or whose length is not that asked for, is discarded. -/
def execHostCompletion (id : Nat) (st : Fin 4) (bs : List Byte) (s : State) : Host.Outcome State Fault Refusal :=
  if !s.powered then finish s
  else
    finish (hostCompletion id (match st.val with | 0 => .data bs | 1 => .poisoned | _ => .refused) s)

/-- HOST_COMPLETION_TIMEOUT (R350): no completion came within the Completion Timeout. -/
def execHostCompletionTimeout (id : Nat) (s : State) : Host.Outcome State Fault Refusal :=
  match kvFind id s.host.reads with
  | none => finish s
  | some r =>
    if s.cyc < r.since + s.host.cplTimeout then finish s
    else finish (issueReads 1024 (endByRead r.task Ts.timeout r.bus (count .cplTimeouts 0 1 (dropRead id s))))

end Sys2Proof.Machine
end

