-- ==== Sys2Proof/WellFormed.lean ====
section
/-!
DEFINITION. Which commands a sender can send: the checks on a command's own operands, apart from any state. A command that
fails one is no fault: the block answers it as a request that reaches no register and no memory (log entry 96).
-/

namespace Sys2Proof

/-- One request of the host reads or writes at least one byte, within one 4 KiB block (PCIe; log entry 96) of at most the
largest BAR2 (15, Table 15-2). -/
def blockOk (off n : Nat) : Bool := decide (1 ≤ n) && decide (off % 4096 + n ≤ 4096) && decide (off + n ≤ 2 ^ 41)

/-- The plaintext of a chunk of a sealed container: a multiple of 64 bytes, at most 65,536 (15, R367). -/
def chunkOk (bs : List Byte) : Bool := bs.length % 64 == 0 && decide (1 ≤ bs.length) && decide (bs.length ≤ 65536)

/-- A register access: 32 or 64 bits, naturally aligned, in BAR0 (16, R376; 15, Table 15-2). -/
def regOk (off width : Nat) : Bool := (width == 4 || width == 8) && off % width == 0 && decide (off < 0x80000)

/-- The well-formed commands: REGISTER_WRITE is of 32 or 64 bits, naturally aligned, in BAR0 (16, R376; 15, Table 15-2);
an aperture access lies in one block; the plaintext of a chunk is a multiple of 64 bytes, at most 65,536 (15, R367). Every
other command is well-formed whatever its operands. -/
def Instr.wf : Instr → Bool
  | .registerWrite off width _ _ => regOk off width
  | .tqDoorbell _ _ => true
  | .tqCplHead _ _ => true
  | .stashDoorbell _ _ => true
  | .guardDoorbell _ _ => true
  | .apertureBaseWrite _ _ => true
  | .bncInTailWrite _ _ => true
  | .bncOutHeadWrite _ _ => true
  | .mbxDoorbell _ _ _ => true
  | .mbxDoneClear _ _ _ => true
  | .errSummaryClear _ _ _ => true
  | .evtHeadWrite _ _ => true
  | .apertureRead off n _ => blockOk off n
  | .apertureWrite off bs _ => blockOk off bs.length
  | .pcieConfigRequest _ _ => true
  | .perst _ => true
  | .pcieFunctionReset _ => true
  | .hostCompletion _ _ _ => true
  | .hostCompletionTimeout _ => true
  | .getDeviceInfo _ => true
  | .nop _ => true
  | .setEventRing _ => true
  | .createQueue _ => true
  | .destroyQueue _ => true
  | .haltStream _ => true
  | .resumeStream _ => true
  | .resetStream _ => true
  | .setClassShares _ => true
  | .loadLayerProgram _ => true
  | .unloadLayerProgram _ => true
  | .setCoelostatConfig _ => true
  | .setMemoryInterleave _ => true
  | .snapshotDirtyAtBoundary _ => true
  | .snapshotDirtyNow _ => true
  | .snapshotDirtyRelease _ => true
  | .readDirtyMap _ => true
  | .configureStash _ => true
  | .configureNumerics _ => true
  | .setRngSeed _ => true
  | .readWatch _ => true
  | .setWatch _ => true
  | .configurePhotometer _ => true
  | .configureSpectrograph _ => true
  | .configureEphemeris _ => true
  | .readPortStatus _ => true
  | .retrainPort _ => true
  | .setPortConfig _ => true
  | .setTopology _ => true
  | .setGlobalLink _ => true
  | .setRouting _ => true
  | .setModuleId _ => true
  | .createCommunicator _ => true
  | .destroyCommunicator _ => true
  | .switchLayout _ => true
  | .setSiteMap _ => true
  | .clearFence _ => true
  | .setBuddy _ => true
  | .importWeights _ => true
  | .importChunkDone ok bs => !ok || chunkOk bs
  | .setScrubRate _ => true
  | .setFlipMask _ => true
  | .readErrorLog _ => true
  | .setRepairMap _ => true
  | .writeCheckpointFull _ => true
  | .writeCheckpointIncremental _ => true
  | .restoreCheckpointLocal _ => true
  | .restoreCheckpointBuddy _ => true
  | .listCheckpoints _ => true
  | .deleteCheckpoint _ => true
  | .readStoreHealth _ => true
  | .resetModuleFull _ => true
  | .resetModuleCompute _ => true
  | .resetModuleCluster _ => true
  | .saveTraining _ _ => true
  | .runTrafficTest _ => true
  | .trafficTestEnd _ _ => true
  | .runMargining _ => true
  | .marginingDone _ _ _ => true
  | .setCollimation _ => true
  | .readBringupReport _ => true
  | .setTimeSourceLoad _ => true
  | .setTimeSourcePps _ => true
  | .readTimeStatus _ => true
  | .configureMonitor _ => true
  | .readHistogram _ => true
  | .readSensors _ => true
  | .setPowerLimit _ => true
  | .readSchedCounters _ => true
  | .readStreamCounters _ => true
  | .readMemoryCounters _ => true
  | .readStashCounters _ => true
  | .readNumericCounters _ => true
  | .readPhotometerCounters _ => true
  | .readSpectroCounters _ => true
  | .readEphemerisCounters _ => true
  | .readFabricCounters _ => true
  | .readCollectiveCounters _ => true
  | .readHostCounters _ => true
  | .readReliabilityCounters _ => true
  | .mailboxCommandTimeout _ => true
  | .almanacHeartbeatTick => true
  | .almanacFailed => true
  | .msixModerationExpiry _ => true
  | .descriptorFetch _ => true
  | .taskAdmit _ => true
  | .coreSelect _ _ => true
  | .stealAttempt _ _ => true
  | .stealDescriptorMoved _ => true
  | .lendStart _ => true
  | .accountingPeriodEnd => true
  | .deficitBroadcast => true
  | .matrixTaskStart _ => true
  | .statsTaskStart _ => true
  | .vectorTaskStart _ => true
  | .sliceLanded _ _ _ => true
  | .resultDrain _ _ => true
  | .writebackAccepted _ => true
  | .gatherTask _ => true
  | .scatterTask _ => true
  | .transferTask _ => true
  | .spectroTask _ => true
  | .optimTask _ => true
  | .collectiveTask _ => true
  | .semWait _ => true
  | .semSignal _ => true
  | .timerTask _ => true
  | .timerExpired _ => true
  | .stepMark _ => true
  | .stepBoundary _ => true
  | .taskComplete _ _ _ => true
  | .semWaitTimeout _ => true
  | .parkTokenFree _ => true
  | .watchResend _ => true
  | .stashSBind _ => true
  | .stashSFwdDone _ => true
  | .stashSBwdNeed _ => true
  | .stashSRcDone _ => true
  | .stashSFree _ => true
  | .stashCopyDone _ => true
  | .guardTrigger _ => true
  | .guardRangeComplete _ => true
  | .foldSwap => true
  | .foldStart _ => true
  | .foldPublish _ => true
  | .photometerHold _ => true
  | .photometerHoldRelease _ => true
  | .assemblerPassDone _ => true
  | .spectroDecision _ => true
  | .spectroDeadline _ => true
  | .operatorApplyDone _ => true
  | .spectroWriteOut _ => true
  | .tableHold _ => true
  | .tableHoldRelease => true
  | .codewordReceived _ _ _ _ _ _ => true
  | .linkFlitReceived _ _ => true
  | .linkFlitDue _ => true
  | .portSignalDetect _ => true
  | .portTrainDone _ _ => true
  | .portLengthDone _ _ _ _ => true
  | .capsRecordReceived _ _ => true
  | .portDegrade _ _ _ => true
  | .portDown _ => true
  | .packetForward _ _ => true
  | .packetInject => true
  | .inboundWrite => true
  | .inboundReadReq => true
  | .readRspReceived => true
  | .writeAckReceived => true
  | .inboundSemOp => true
  | .inboundSemWatch => true
  | .watchRspReceived => true
  | .inboundWatchCancel => true
  | .collDataReceived => true
  | .collFreeReceived => true
  | .collAbortReceived => true
  | .collectiveTimeout _ => true
  | .fabricTimeout _ => true
  | .portStatesReceived => true
  | .portStatesSend => true
  | .peerReportStale _ => true
  | .siteStateReceived => true
  | .siteStateSend => true
  | .siteViewStale => true
  | .buddyBeatSend => true
  | .buddyBeatReceived => true
  | .buddyLost => true
  | .mirrorCreditReceived => true
  | .mirrorBeginReceived => true
  | .mirrorGranuleReceived => true
  | .mirrorCommitReceived => true
  | .mirrorAbortReceived => true
  | .mirrorDoneReceived => true
  | .restoreReqReceived => true
  | .channelRead _ _ => true
  | .channelWrite _ _ => true
  | .channelWriteDrain _ => true
  | .metadataWriteback _ => true
  | .strongCodeDecision _ => true
  | .surveyPageVisit _ => true
  | .channelTrainingLost _ => true
  | .bridgeLaneError _ _ _ => true
  | .repairStart => true
  | .repairPeerRetry _ => true
  | .repairDone _ => true
  | .repairFailed _ => true
  | .captureOnDemand _ _ => true
  | .stagingDrain _ _ => true
  | .checkpointCommit => true
  | .restoreDone _ => true
  | .storeRepairRead _ => true
  | .nandFrameRead _ _ _ => true
  | .storeBlockRefresh _ _ _ => true
  | .nandProgramFail _ _ => true
  | .storeDayTick => true
  | .storeReclaimDone _ => true
  | .bringupStart => true
  | .firmwareBoot => true
  | .measureDone _ => true
  | .bridgeTrainDone _ _ _ _ => true
  | .dramTrainDone _ _ _ => true
  | .nandTrainDone _ _ => true
  | .storeIndexLoaded _ _ => true
  | .portWindowClose => true
  | .tierFillDone _ => true
  | .bringupReady => true
  | .settingsSave _ => true
  | .computeResetDone => true
  | .clusterResetDone => true
  | .collimationDrainEnd => true
  | .collimationClearDone => true
  | .collimationMemoryTestDone _ _ => true
  | .collimationBlockDone _ _ => true
  | .collimationRestoreDone => true
  | .getVersion => true
  | .getCapabilities => true
  | .negotiateAlgorithms _ => true
  | .getDigests => true
  | .getCertificate _ _ _ => true
  | .challenge _ _ => true
  | .getMeasurements _ _ _ _ => true
  | .keyExchange _ => true
  | .finish _ _ => true
  | .heartbeat _ => true
  | .keyUpdate _ => true
  | .endSession _ => true
  | .spdmSessionIdle _ => true
  | .spdmUnsupportedRequest _ => true
  | .setSessionScope _ _ _ => true
  | .enterTenant _ _ _ _ _ _ _ _ => true
  | .exitTenant _ _ => true
  | .installKey _ _ _ _ _ _ => true
  | .destroyKey _ _ _ => true
  | .setPeerMap _ _ _ => true
  | .installMembership _ _ _ => true
  | .getMembershipProof _ _ _ => true
  | .vendorOpcodeInvalid _ _ => true
  | .getTdispVersion _ => true
  | .getTdispCapabilities _ => true
  | .lockInterfaceRequest _ => true
  | .getDeviceInterfaceReport _ => true
  | .getDeviceInterfaceState _ => true
  | .startInterfaceRequest _ => true
  | .stopInterfaceRequest _ => true
  | .ideKmQuery _ => true
  | .ideKmKeyProg _ _ _ _ _ => true
  | .ideKmKSetGo _ _ _ _ _ => true
  | .ideKmKSetStop _ _ _ _ _ => true
  | .ideIntegrityFailure _ _ => true
  | .tenantScrubDone => true
  | .bounceRecordFail => true
  | .bounceNop _ _ => true
  | .bounceWrite _ _ _ => true
  | .bounceReg _ _ _ _ => true
  | .bounceExport _ _ _ _ => true
  | .bounceRecordInvalid _ _ => true
  | .ppsEdge _ => true
  | .timeHoldover => true
  | .sensorSample _ _ _ _ => true
  | .powerControlSample => true
  | .protectiveShutdown _ _ _ _ => true
  | .powerDown => true
  | .pwrEnChange _ => true
  | .mainPowerChange _ _ => true
  | .auxPowerUp _ => true
  | .auxPowerLoss => true
  | .mainRailsUp => true
  | .cageModuleInsert _ _ => true
  | .setEndpointId _ => true
  | .getEndpointId => true
  | .getMctpVersionSupport _ => true
  | .getMessageTypeSupport => true
  | .getVendorMessageSupport => true
  | .enablePort _ _ => true
  | .disablePort _ _ => true
  | .regRead _ _ _ => true
  | .regWrite _ _ _ _ => true
  | .readHwStatus _ _ => true
  | .powerControlOff _ _ => true
  | .powerControlOn _ _ => true
  | .powerControlCycle _ _ => true
  | .fwWrite _ _ _ _ => true
  | .fwCommit _ _ _ _ => true
  | .memAccessEnable _ _ => true
  | .memAccessDisable _ _ => true
  | .memRead _ _ _ => true
  | .memWrite _ _ _ _ => true
  | .doeDiscovery _ => true
  | .jtagUnlock _ => true
  | .mirrorRingDrained => true

end Sys2Proof
end

