-- ==== Sys2Proof/Machine/HostWrite.lean ====
section
/-!
DEFINITION. What the host does through its PCIe function: writes of the registers of BAR0 (16, R376–R380), accesses
through the aperture (15, R349, R350), configuration requests and resets of the function (15, R347, R352).
-/

namespace Sys2Proof.Machine

/-! Reach (15, R353, Table 15-6). -/

/-- A request to BAR0 pages 0–2 or to the aperture is served: in OPEN; in TENANT_IDE, RUN, with T = 1. During a scrub
none is. -/
def State.hostServes (s : State) (tee : Bool) : Bool :=
  s.sec.scrub.isNone &&
  (match s.sec.mode with
   | .openMode => !(tee && s.sec.tdisp == .error)
   | .tenantIde => s.sec.tdisp == .run && tee
   | .tenantBounce => false)

/-- A request completed with Unsupported Request: AER sees it. -/
def urSeen (s : State) : State := { s with host := { s.host with aerUR := true } }

/-! The registers. -/

/-- A write of BNC_IN_TAIL (16, R379, Table 16-5: bits [30:0], no value refused). -/
def writeInTail (v : W64) (s : State) : State :=
  { s with sec := { s.sec with bounce := { s.sec.bounce with inTail := BitVec.ofNat 64 (v.toNat % 2 ^ 31) } } }

/-- A write of BNC_OUT_HEAD: waiting emission goes on as the command ends. -/
def writeOutHead (v : W64) (s : State) : State :=
  { s with sec := { s.sec with bounce := { s.sec.bounce with outHead := BitVec.ofNat 64 (v.toNat % 2 ^ 31) } } }

/-- A write of APERTURE_BASE (15, R349). -/
def writeApertureBase (v : W64) (s : State) : State :=
  let v := v.toNat % 2 ^ 52
  if v % 2 ^ s.host.bar2Log = 0 ∧ (s.host.bar2Log = 41 → v = 0) then
    { s with host := { s.host with winBase := BitVec.ofNat 64 v } }
  else refuseWrite s

/-- A message that was pending is sent once its vector is enabled and unmasked. -/
def msixRelease (v : Nat) (s : State) : State :=
  let masked := s.host.msixFnMask || (kvGet ({} : MsixEntry) v s.host.msix).ctrl.getLsbD 0
  if s.host.pba.getLsbD v && s.host.msixEnable && !masked then
    emit (.msix v) { s with host := { s.host with pba := s.host.pba &&& ~~~((1 : W64) <<< v) } }
  else s

/-- A write of the MSI-X table; the Pending Bit Array is read-only (16, R376). -/
def writeMsix (o width v : Nat) (s : State) : State :=
  if o ≥ 0x400 then s
  else
    let i := o / 16
    let e := kvGet ({} : MsixEntry) i s.host.msix
    let hi := BitVec.ofNat 64 (e.ctrl.toNat * 2 ^ 32 + e.data.toNat)
    let e := if o % 16 < 8 then { e with addr := mergeWord e.addr (o % 8) width v }
      else
        let w := mergeWord hi (o % 8) width v
        { e with data := BitVec.ofNat 32 w.toNat, ctrl := BitVec.ofNat 32 (w.toNat / 2 ^ 32 % 2) }
    msixRelease i { s with host := { s.host with msix := kvPut {} i e s.host.msix } }

/-- A write of a register of pages 0 to 2, with the flag bits whose set falls in the same HCLK cycle as a clear
(16, R376–R382). A write-only register acts on a 64-bit write alone; read-only and reserved ones ignore it. -/
def pageWrite (off width v meets : Nat) (s : State) : State :=
  let sh := 2 ^ (8 * (off % 8))
  let wide := width = 8
  if off < 0x1000 then
    if h : off / 0x100 < 16 then
      let m : Fin 16 := ⟨off / 0x100, h⟩
      if m = 15 ∧ s.pow.mpOwner then s
      else if off % 0x100 / 8 = 9 then (if wide then mbxDoorbell m v false s else s)
      else mbxRegWrite m (off % 0x100) width v s
    else s
  else match off / 8 * 8 with
    | 0x1020 => if off % 8 = 0 then writeEvtHead (BitVec.ofNat 32 v) s else s
    | 0x1028 => clearMbxDone (v * sh) meets s
    | 0x1030 => clearErrSummary (v * sh) meets s
    | 0x10000 => if wide then tqDoorbell v s else s
    | 0x10008 => if wide then tqCplHead v s else s
    | 0x20000 => if wide then stashDoorbell v s else s
    | 0x20008 => if wide then guardDoorbell v s else s
    | 0x20010 => writeApertureBase (mergeWord s.host.winBase off width v) s
    | _ => s

/-- A request completed with Unsupported Request, its completion sent (R347–R349). -/
def hostRefuse (s : State) : State := emit .hostUR (urSeen s)

/-- A posted host write to BAR0 (15, R348, R350, R353). An AtomicOp request completes with Unsupported Request
(Table 15-1). -/
def bar0Write (off width v meets : Nat) (tlp : Tlp) (s : State) : State :=
  if !s.powered then s
  else if tlp.atomic then hostRefuse s
  else if tlp.poisoned then count .hostPoisoned 0 1 s
  else if off ≥ 0x50000 then urSeen s
  else if off ≥ 0x40000 then writeMsix (off - 0x40000) width v s
  else if off ≥ 0x30000 then
    match off / 8 * 8 with
    | 0x30000 => writeInTail (mergeWord s.sec.bounce.inTail off width v) s
    | 0x30008 => writeOutHead (mergeWord s.sec.bounce.outHead off width v) s
    | _ => s
  else if s.hostServes tlp.tee then pageWrite off width v meets s
  else urSeen s

/-- REGISTER_WRITE (16, R376): a 32-bit or 64-bit write, naturally aligned, within the 512 KiB of BAR0. Of any other
width, misaligned, or outside BAR0, it reaches no register: it is an Unsupported Request (DESIGN CHOICE: log entry 96). -/
def execRegisterWrite (off width : Nat) (v : W64) (tlp : Tlp) (s : State) : Host.Outcome State Fault Refusal :=
  if regOk off width then
    finish (bar0Write off width (v.toNat % 2 ^ (8 * width)) 0 tlp s)
  else finish (if s.powered then urSeen s else s)

/-- TQ_DOORBELL (05, R117). -/
def execTqDoorbell (v : W64) (tlp : Tlp) (s : State) : Host.Outcome State Fault Refusal :=
  finish (bar0Write 0x10000 8 v.toNat 0 tlp s)

/-- TQ_CPL_HEAD (05, R119). -/
def execTqCplHead (v : W64) (tlp : Tlp) (s : State) : Host.Outcome State Fault Refusal :=
  finish (bar0Write 0x10008 8 v.toNat 0 tlp s)

/-- STASH_DOORBELL (08, R193). -/
def execStashDoorbell (v : W64) (tlp : Tlp) (s : State) : Host.Outcome State Fault Refusal :=
  finish (bar0Write 0x20000 8 v.toNat 0 tlp s)

/-- GUARD_DOORBELL (09, R211). -/
def execGuardDoorbell (v : W64) (tlp : Tlp) (s : State) : Host.Outcome State Fault Refusal :=
  finish (bar0Write 0x20008 8 v.toNat 0 tlp s)

/-- APERTURE_BASE_WRITE (15, R349). -/
def execApertureBaseWrite (v : W64) (tlp : Tlp) (s : State) : Host.Outcome State Fault Refusal :=
  finish (bar0Write 0x20010 8 v.toNat 0 tlp s)

/-- BNC_IN_TAIL_WRITE (15, R365). -/
def execBncInTailWrite (v : W64) (tlp : Tlp) (s : State) : Host.Outcome State Fault Refusal :=
  finish (bar0Write 0x30000 8 v.toNat 0 tlp s)

/-- BNC_OUT_HEAD_WRITE (15, R365). -/
def execBncOutHeadWrite (v : W64) (tlp : Tlp) (s : State) : Host.Outcome State Fault Refusal :=
  finish (bar0Write 0x30008 8 v.toNat 0 tlp s)

/-- MBX_DOORBELL (16, R382). -/
def execMbxDoorbell (m : Fin 16) (v : W64) (tlp : Tlp) (s : State) : Host.Outcome State Fault Refusal :=
  finish (bar0Write (0x100 * m.val + 0x48) 8 v.toNat 0 tlp s)

/-- MBX_DONE_CLEAR (16, R380): `meets` are the done bits whose set falls in the cycle in which the clear is applied. -/
def execMbxDoneClear (v meets : W64) (tlp : Tlp) (s : State) : Host.Outcome State Fault Refusal :=
  finish (bar0Write 0x1028 8 v.toNat meets.toNat tlp s)

/-- ERR_SUMMARY_CLEAR (16, R380). -/
def execErrSummaryClear (v meets : W64) (tlp : Tlp) (s : State) : Host.Outcome State Fault Refusal :=
  finish (bar0Write 0x1030 8 v.toNat meets.toNat tlp s)

/-- EVT_HEAD_WRITE (16, R379). -/
def execEvtHeadWrite (v : W64) (tlp : Tlp) (s : State) : Host.Outcome State Fault Refusal :=
  finish (bar0Write 0x1020 8 v.toNat 0 tlp s)

/-! The aperture (15, R349, R350). -/

/-- The offset and length of a host request lie in BAR2 (Table 15-2). -/
def State.inBar2 (s : State) (o n : Nat) : Bool := decide (o + max n 1 ≤ 2 ^ s.host.bar2Log)

/-- The address of an aperture access that is served; none where it is refused. An access of no bytes is judged by its
first address (log entry 96). -/
def State.aperture (s : State) (o n : Nat) (tee : Bool) : Option Nat :=
  let a := s.host.winBase.toNat + o
  if s.hostServes tee && s.boot.ready && (checkAccess .host a (max n 1)).isNone && !s.memBusy a n then some a else none

/-- A refused access through the aperture (R349). One outside BAR2 is not of the aperture: it is an Unsupported Request
that host_ur does not count (DESIGN CHOICE: log entry 96). -/
def apertureUR (o n : Nat) (s : State) : State := if s.inBar2 o n then count .hostUr 0 1 (urSeen s) else urSeen s

/-- APERTURE_READ (R349). Data that meets poison is returned poisoned (log entry 96). An AtomicOp request completes with
Unsupported Request (Table 15-1). -/
def execApertureRead (off n : Nat) (tlp : Tlp) (s : State) : Host.Outcome State Fault Refusal :=
  if !s.powered then finish s
  else if tlp.atomic then finish (hostRefuse s)
  else
    match if s.inBar2 off n then s.aperture off n tlp.tee else none with
    | none => finish (emit .hostUR (apertureUR off n s))
    | some a =>
      let (p, bs, s) := devRead a n s
      let s := count .hostRdBytes 0 n s
      finish (emit (if p.isSome then .hostPoison bs else .hostData bs) s)

/-- APERTURE_WRITE (R349, R350). -/
def execApertureWrite (off : Nat) (bs : List Byte) (tlp : Tlp) (s : State) : Host.Outcome State Fault Refusal :=
  if !s.powered then finish s
  else if tlp.atomic then finish (hostRefuse s)
  else if tlp.poisoned then finish (count .hostPoisoned 0 1 s)
  else
    match if s.inBar2 off bs.length then s.aperture off bs.length tlp.tee else none with
    | none => finish (apertureUR off bs.length s)
    | some a => finish (devPut a bs (count .hostWrBytes 0 bs.length s))

/-! What a host read of BAR0 returns. No row of the table is such a read (log entry 22). -/

/-- Eight bytes of page 4 from an aligned offset: the MSI-X table, then the Pending Bit Array (16, R376). -/
def State.page4 (s : State) (o : Nat) : Nat :=
  if o < 0x400 then
    let e := kvGet ({} : MsixEntry) (o / 16) s.host.msix
    if o % 16 < 8 then e.addr.toNat else e.ctrl.toNat * 2 ^ 32 + e.data.toNat
  else if o = 0x800 then s.host.pba.toNat else 0

/-- The 64-bit register of BAR0 at an aligned offset (16, Tables 16-1 to 16-5). -/
def State.bar0Word (s : State) (o : Nat) : Nat :=
  if o < 0x10000 then s.page0 o
  else if o ≥ 0x40000 then s.page4 (o - 0x40000)
  else match o with
    | 0x20010 => s.host.winBase.toNat
    | 0x30000 => s.sec.bounce.inTail.toNat
    | 0x30008 => s.sec.bounce.outHead.toNat
    | 0x30010 => s.sec.bounce.inHead.toNat
    | 0x30018 => s.sec.bounce.outTail.toNat
    | _ => 0

/-- What a host read of 4 or 8 bytes of BAR0 returns (15, R348, R353; 16, R376); none where it completes with Unsupported
Request: on a reserved page, as an AtomicOp, and on pages 0 to 2 where the mode refuses it. -/
def State.bar0Read (s : State) (off width : Nat) (tlp : Tlp) : Option Nat :=
  if tlp.atomic || !regOk off width || decide (off ≥ 0x50000) || (decide (off < 0x30000) && !s.hostServes tlp.tee) then none
  else some (s.bar0Word (off / 8 * 8) / 2 ^ (8 * (off % 8)) % 2 ^ (8 * width))

/-! Configuration space (15, R347, R348). -/

/-- The key of a configuration register in the state's table of written ones. -/
def cfgKey : CfgReg → Nat
  | .vendorDevice => 0
  | .classRevision => 2
  | .bar n => 4 + n % 6
  | .command => 1
  | .deviceControl => 4096
  | .deviceControl2 => 4097
  | .msixControl => 4098
  | .bar2Size => 4099
  | .expansionRom => 4100
  | .readiness1 => 4101
  | .readiness2 => 4102
  | .other d => 8192 + d

/-- The bits of a BAR dword that name its size and kind (Table 15-2): the writable mask and the fixed bits. -/
def State.barShape (s : State) (n : Nat) : Nat × Nat :=
  match n with
  | 0 => (2 ^ 32 - 2 ^ 19, 4)
  | 1 => (2 ^ 32 - 1, 0)
  | 2 => (if s.host.bar2Log ≥ 32 then 0 else 2 ^ 32 - 2 ^ s.host.bar2Log, 12)
  | 3 => (if s.host.bar2Log ≥ 32 then 2 ^ 32 - 2 ^ (s.host.bar2Log - 32) else 2 ^ 32 - 1, 0)
  | _ => (0, 0)

/-- 500 ms as Readiness Time Reporting codes it: 477 units of 2^20 ns (15, Table 15-1; the coding is PCIe's, PRESUMED: log
entry 97). -/
def readyTime : Nat := 4 * 2 ^ 9 + 477

/-- What a configuration read returns: there is no expansion ROM; reset-to-ready and FLR-to-ready are 500 ms; a register that PCIe defines and nobody has written gives a free value (log
entry 97). -/
def cfgRead (r : CfgReg) (s : State) : Nat × State :=
  let v := kvFind (cfgKey r) s.host.cfg
  match r with
  | .vendorDevice => (0x00E91F8E, s)
  | .classRevision =>
    let (x, s) := draw s
    (0x12000000 + x % 256, s)
  | .bar n =>
    let (m, f) := s.barShape n
    (((v.getD 0).toNat &&& m) + f, s)
  | .msixControl => (b2n s.host.msixEnable * 2 ^ 31 + b2n s.host.msixFnMask * 2 ^ 30 + 63 * 2 ^ 16 + 0x11, s)
  | .bar2Size => ((s.host.bar2Log - 20) * 2 ^ 8 + 0x22, s)
  | .expansionRom => (0, s)
  | .deviceControl =>
    match v with
    | some v => (v.toNat, s)
    | none =>
      let (x, s) := draw s
      (x % 2 ^ 12 + 2 * 2 ^ 12 + x / 2 ^ 15 % 2 ^ 17 * 2 ^ 15, s)
  | .readiness1 =>
    let (x, s) := draw s
    (2 ^ 31 + x % 2 ^ 12 * 2 ^ 12 + readyTime, s)
  | .readiness2 =>
    let (x, s) := draw s
    (x % 2 ^ 12 * 2 ^ 12 + readyTime, s)
  | _ =>
    match v with
    | some v => (v.toNat, s)
    | none =>
      let (x, s) := draw s
      (x, s)

/-- The Completion Timeout that a code of Device Control 2 sets, in ns: a free value within the code's range, as PCIe
codes them; 50 ms with code 0 (R350; log entry 97). -/
def timeoutOf (code : Nat) (s : State) : Option Nat × State :=
  let pick := fun (lo hi : Nat) =>
    let (x, s) := draw s
    (some (lo + x % (hi - lo + 1)), s)
  match code with
  | 0 => (some 50000000, s)
  | 1 => pick 50000 100000
  | 2 => pick 1000000 10000000
  | 5 => pick 16000000 55000000
  | 6 => pick 65000000 210000000
  | _ => (none, s)

/-- The effect of a configuration write. -/
def cfgWrite (r : CfgReg) (v : W32) (s : State) : State :=
  let put := fun (s : State) => { s with host := { s.host with cfg := kvSet (cfgKey r) v s.host.cfg } }
  match r with
  | .vendorDevice => s
  | .classRevision => s
  | .expansionRom => s
  | .readiness1 => s
  | .readiness2 => s
  | .bar n => if n < 4 then put s else s
  | .deviceControl2 =>
    let (t, s) := timeoutOf (v.toNat % 16) s
    put { s with host := { s.host with cplTimeout := t.getD s.host.cplTimeout } }
  | .msixControl =>
    let s := { s with host := { s.host with msixEnable := v.getLsbD 31, msixFnMask := v.getLsbD 30 } }
    (List.range 64).foldl (fun s i => msixRelease i s) s
  | .bar2Size =>
    let l := 20 + bits v.toNat 13 8
    if l < 28 ∨ l > 41 then s
    else
      let ok := s.host.winBase.toNat % 2 ^ l = 0 ∧ (l = 41 → s.host.winBase = 0)
      { s with host := { s.host with bar2Log := l, winBase := if ok then s.host.winBase else 0 } }
  | _ => put s

/-- A register that TDISP locks (15, R364). -/
def CfgReg.locked : CfgReg → Bool
  | .bar _ => true
  | .bar2Size => true
  | .command => true
  | .deviceControl => true
  | .msixControl => true
  | _ => false

end Sys2Proof.Machine
end

