-- ==== Sys2Proof/Machine/Shutter.lean ====
section
/-!
DEFINITION. Shutter (15): the tenant scrub, SPDM, the Zorwitra vendor messages, TDISP and IDE, the DOE mailbox, and the
PCIe events and configuration requests that act on it.
-/

namespace Sys2Proof.Machine

/-! When Shutter answers. -/

/-- Configuration requests get Request Retry Status: until phase 1 ends, and while the action of a PCIe event runs
(R352; 19, R451). -/
def State.cfgRetry (s : State) : Bool := decide (s.boot.phase < 2) || s.host.retry

/-- Shutter runs: it is started in phase 1 (19, Table 19-1, R453). -/
def State.shutterUp (s : State) : Bool :=
  s.powered && decide (2 ≤ s.boot.phase) && !(s.boot.phase == 5 && s.boot.report.cause == 1)

/-- Shutter runs and its DOE mailbox, which lies in configuration space, is reached. -/
def State.doeUp (s : State) : Bool := s.shutterUp && !s.cfgRetry

/-- A request that reaches Shutter has its effect. -/
def shutter (k : State → State) (s : State) : Host.Outcome State Fault Refusal :=
  if s.doeUp then finish (k s) else finish s

/-! Sessions (R356). -/

/-- The secured session of an id. -/
def State.session (s : State) (i : Nat) : Option Session :=
  s.sec.sessions.find? fun x => x.id == i && x.secured

/-- Change a session. -/
def setSession (i : Nat) (f : Session → Session) (s : State) : State :=
  { s with sec := { s.sec with sessions := s.sec.sessions.map fun x => if x.id = i then f x else x } }

/-- Remove a session. -/
def dropSession (i : Nat) (s : State) : State :=
  { s with sec := { s.sec with sessions := s.sec.sessions.filter fun x => x.id != i } }

/-- A session has carried a message. -/
def touch (i : Nat) (s : State) : State := setSession i (fun x => { x with last := s.cyc }) s

/-- SPDM error codes (R356; their values are SPDM's, log entry 100). -/
def spdmInvalid := 1
def spdmSession := 2
def spdmBusy := 3
def spdmUnexpected := 4
def spdmDecrypt := 6
def spdmUnsupported := 7

/-- A message in a session, or in none: one that names a session that is not open is answered InvalidSession. -/
def inSession (sess : Option Nat) (req : String) (k : State → State) (s : State) : State :=
  match sess with
  | none => k s
  | some i => if (s.session i).isSome then k (touch i s) else emit (.spdm req spdmSession []) s

/-- The session is the owner session (R360). -/
def State.isOwner (s : State) (sess : Option Nat) : Bool := sess.isSome && s.sec.owner == sess

/-! The tenant scrub (R373, R374). -/

/-- The event's trigger code (16, Table 16-10). -/
def ScrubTrigger.code : ScrubTrigger → Nat
  | .lock => 0
  | .stop => 1
  | .enter => 2
  | .exit => 3
  | .sessionEnd => 4
  | .error => 5
  | .pcie => 6

/-- Steps 1 and 2 of Table 15-15, and the start of steps 3 and 4. A trigger during a scrub starts no second one. -/
def scrubStart (trigger : ScrubTrigger) (target : Mode) (tdisp : Tdisp) (rings : Option Bounce) (s : State) : State :=
  if s.sec.scrub.isSome then s
  else
    let s := bounceFlush (mbxEndAll St.tenantEnded none s)
    let s := abandonSlice s
    let s := { s with
      alm := { s.alm with ring := none, pendingEv := [], lost := 0 }
      boot := { s.boot with reset := none }
      sec := { s.sec with
        scrub := some ⟨trigger, target, tdisp, rings, []⟩
        keys := [], bounceKeys := none, bounce := {}, ide := [], peers := [], dramKeys := s.sec.dramKeys + 1 } }
    startFill 1 .tenant (startFill 0 .tenant (computeStart none 0 s))

/-- What step 5 clears (Table 15-16), the counters but those that a scrub keeps among it (R375; 17, R425, R426). -/
def scrubClear (s : State) : State :=
  { s with
    alm := { s.alm with ring := none, pendingEv := [], lost := 0 }
    mer := { ({} : Meridian) with nextTask := s.mer.nextTask, nextAge := s.mer.nextAge, periodStart := s.cyc }
    prog := []
    strm := {}
    stash := {}
    num := {}
    phot := {}
    spec := {}
    ephem := {}
    sems := []
    fab := { s.fab with comms := [], colls := [] }
    tiers := { s.tiers with bg := 232, bl := 464, active := [], frozen := [], swapReq := 0 }
    rel := { s.rel with repairMap := [], repairs := [], log := [] }
    ctr := s.ctr.clearBut (fun _ => true) keptCounters }

/-- Free bytes that a standard's message carries: random data and key shares (log entry 100). -/
def freeBytes (n : Nat) (s : State) : List Byte × State :=
  let (k, s) := draw s
  ((List.range n).map (Config.spdmByte k), s)

/-- The answer to the request whose scrub has ended. -/
def scrubAnswer (t : ScrubTrigger) (s : State) : State :=
  match t with
  | .lock =>
    let (nonce, s) := freeBytes 32 s
    emit (.tdisp "LOCK_INTERFACE_REQUEST" 0 nonce) s
  | .stop => emit (.tdisp "STOP_INTERFACE_REQUEST" 0 []) s
  | .enter => emit (.vendor 2 0 []) s
  | .exit => emit (.vendor 3 0 []) s
  | _ => s

/-- The mode becomes the target mode: an entry raises the epoch and keeps the owner; an exit ends the owner session. -/
def scrubCommit (x : Scrub) (s : State) : State :=
  let s := { s with
    host := { s.host with retry := false }
    sec := { s.sec with scrub := none, mode := x.target, tdisp := x.tdisp, bounce := {} } }
  if x.target = .openMode then
    let s := match s.sec.owner with
      | some i => dropSession i s
      | none => s
    { s with sec := { s.sec with owner := none } }
  else
    let (k, s) := draw s
    { s with sec := { s.sec with
      epoch := s.sec.epoch + 1
      bounce := x.rings.getD {}
      bounceKeys := if x.target = .tenantBounce then some k else none } }

/-- Step 5 of Table 15-15, but for the requests that waited. -/
def scrubEnd (x : Scrub) (s : State) : State :=
  let s := count .scrubs 0 1 (scrubCommit x (scrubClear s))
  let s := post Ev.tenantScrubbed [x.trigger.code, x.target.code] s
  let s := stopMonitors (if x.target = .openMode then 1 else 0) s
  let s := if x.target = .openMode then s else post Ev.tenantEntered [x.target.code, s.sec.epoch.toNat] s
  scrubAnswer x.trigger s

/-- Entry to ERROR from CONFIG_LOCKED or RUN (R364): the scrub starts at once. -/
def tdispError (t : ScrubTrigger) (s : State) : State :=
  if (s.sec.tdisp = .configLocked ∨ s.sec.tdisp = .run) ∧ s.sec.scrub.isNone then
    scrubStart t .openMode .error none { s with sec := { s.sec with tdisp := .error } }
  else s

/-- The owner session has ended (R360, R374): the tenancy ends. Where its entry is still being scrubbed for, that scrub
ends in OPEN (log entry 101). -/
def ownerEnds (s : State) : State :=
  let s := { s with sec := { s.sec with owner := none } }
  match s.sec.scrub with
  | some x =>
    if x.target = .openMode then s
    else { s with sec := { s.sec with scrub := some { x with
      trigger := .sessionEnd, target := .openMode, tdisp := .configUnlocked, rings := none } } }
  | none =>
    match s.sec.mode with
    | .openMode => s
    | .tenantIde => tdispError .sessionEnd s
    | .tenantBounce => scrubStart .sessionEnd .openMode .configUnlocked none s

/-- A session ends. -/
def sessionEnds (i : Nat) (s : State) : State :=
  let owner := s.isOwner (some i)
  let s := dropSession i s
  if owner then ownerEnds s else s

/-! SPDM requests (R356, R358–R361). -/

/-- The 96 bytes of a signature by the identity key. -/
def signed (msg : List Byte) : List Byte := (List.range 96).map (Config.signByte msg)

/-- GET_VERSION: one version, 1.2. -/
def execGetVersion (s : State) : Host.Outcome State Fault Refusal :=
  shutter (emit (.spdm "GET_VERSION" 0 [0x00, 0x12])) s

/-- The capability flags of Table 15-7, at SPDM's bit positions (log entry 100): CERT 1, CHAL 2, MEAS with signature
4–3 = 2, ENCRYPT 6, MAC 7, KEY_EX 9, HBEAT 13, KEY_UPD 14. -/
def capabilityFlags : Nat := 2 + 4 + 16 + 64 + 128 + 512 + 8192 + 16384

/-- GET_CAPABILITIES. -/
def execGetCapabilities (s : State) : Host.Outcome State Fault Refusal :=
  shutter (emit (.spdm "GET_CAPABILITIES" 0 (leBytes 4 capabilityFlags))) s

/-- The algorithms of Table 15-7, as SPDM codes them (log entry 100): measurement specification and hash, base
asymmetric, base hash, DHE, AEAD, key schedule. -/
def algorithms : List Byte :=
  [1] ++ leBytes 4 4 ++ leBytes 4 0x80 ++ leBytes 4 2 ++ leBytes 2 0x10 ++ leBytes 2 2 ++ leBytes 2 1

/-- NEGOTIATE_ALGORITHMS: `ok` says that the requester offers the suite of Table 15-7. -/
def execNegotiateAlgorithms (ok : Bool) (s : State) : Host.Outcome State Fault Refusal :=
  shutter (emit (if ok then .spdm "NEGOTIATE_ALGORITHMS" 0 algorithms
    else .spdm "NEGOTIATE_ALGORITHMS" spdmInvalid [])) s

/-- The digest of the slot 0 chain. -/
def chainDigest : List Byte := digestBytes (Config.sha384 Config.certChain)

/-- GET_DIGESTS. -/
def execGetDigests (s : State) : Host.Outcome State Fault Refusal :=
  shutter (emit (.spdm "GET_DIGESTS" 0 chainDigest)) s

/-- GET_CERTIFICATE: a portion of the chain with its length and what remains; slot 0 only. -/
def execGetCertificate (slot off n : Nat) (s : State) : Host.Outcome State Fault Refusal :=
  shutter (fun s =>
    if slot ≠ 0 ∨ off ≥ Config.certChain.length then emit (.spdm "GET_CERTIFICATE" spdmInvalid []) s
    else
      let p := (Config.certChain.drop off).take n
      emit (.spdm "GET_CERTIFICATE" 0
        (leBytes 2 p.length ++ leBytes 2 (Config.certChain.length - off - p.length) ++ p)) s) s

/-- CHALLENGE: the chain's digest and a nonce, signed over the requester's nonce. -/
def execChallenge (slot : Nat) (nonce : List Byte) (s : State) : Host.Outcome State Fault Refusal :=
  shutter (fun s =>
    if slot ≠ 0 then emit (.spdm "CHALLENGE" spdmInvalid []) s
    else
      let (own, s) := freeBytes 32 s
      let body := chainDigest ++ own
      emit (.spdm "CHALLENGE" 0 (body ++ signed (nonce ++ body))) s) s

/-- The DMTF value type of a measurement index (Table 15-9), with bit 7 for a record given raw. -/
def measureType (i : Nat) : Nat :=
  if i = 1 then 0 else if i ≤ 4 then 1 else if i ≤ 8 then 0x82 else 2

/-- A measurement block: index, specification, size, then value type, value size and value. -/
def State.block (s : State) (i : Nat) : List Byte :=
  let v := s.measure i
  leBytes 1 i ++ [1] ++ leBytes 2 (v.length + 3) ++ leBytes 1 (measureType i) ++ leBytes 2 v.length ++ v

/-- A held certificate matches the state (R360, R362). -/
def State.certMatches (s : State) : Bool :=
  match s.sec.membership with
  | none => false
  | some c => (c.drop 32).take 48 == s.digest

/-- The scope of a session, or of requests outside any (R360). -/
def State.scopeOf (s : State) (sess : Option Nat) : Nat :=
  match sess with
  | none => s.sec.openScope
  | some i => match s.session i with
    | some x => x.scope
    | none => 1

/-- The indices that the scope returns (R360). -/
def State.indices (s : State) (sess : Option Nat) : List Nat :=
  if s.scopeOf sess > 64 ∧ s.certMatches then [7, 8, 9] else [1, 2, 3, 4, 5, 6, 7, 8, 9]

/-- The session has received a signed report (R367). -/
def attest (sess : Option Nat) (s : State) : State :=
  match sess with
  | none => s
  | some i => setSession i (fun x => { x with attested := true }) s

/-- GET_MEASUREMENTS (R358, R360): operation 0 counts the indices, 0xFF asks for all, any other value for one. -/
def execGetMeasurements (sess : Option Nat) (op : Nat) (sign : Bool) (nonce : List Byte) (s : State) :
    Host.Outcome State Fault Refusal :=
  shutter (inSession sess "GET_MEASUREMENTS" (fun s =>
    let all := s.indices sess
    let asked := if op = 0 then [] else if op = 0xFF then all else all.filter (· == op)
    let n := if op = 0 then all.length else asked.length
    let body := leBytes 1 n ++ asked.flatMap s.block
    if sign then emit (.spdm "GET_MEASUREMENTS" 0 (body ++ signed (nonce ++ body))) (attest sess s)
    else emit (.spdm "GET_MEASUREMENTS" 0 body) s)) s

/-- The heartbeat period in seconds (R356). -/
def heartbeatPeriod : Byte := 10

/-- The lowest session id that is not in use. -/
def State.freeSession (s : State) : Nat :=
  ([1, 2, 3, 4].find? fun i => !(s.sec.sessions.any fun x => x.id == i)).getD 0

/-- KEY_EXCHANGE: it opens a session, Busy beyond 4. The response's HeartbeatPeriod, its first parameter byte, is 10 s. -/
def execKeyExchange (slot : Nat) (s : State) : Host.Outcome State Fault Refusal :=
  shutter (fun s =>
    if slot ≠ 0 then emit (.spdm "KEY_EXCHANGE" spdmInvalid []) s
    else if s.sec.sessions.length ≥ 4 then emit (.spdm "KEY_EXCHANGE" spdmBusy []) s
    else
      let i := s.freeSession
      let (share, s) := freeBytes 128 s
      let s := { s with sec := { s.sec with sessions := s.sec.sessions ++ [{ id := i, last := s.cyc }] } }
      emit (.spdm "KEY_EXCHANGE" 0 ([heartbeatPeriod] ++ leBytes 2 i ++ share ++ signed share)) s) s

/-- FINISH: `ok` says that the requester's MAC verifies. -/
def execFinish (sid : Nat) (ok : Bool) (s : State) : Host.Outcome State Fault Refusal :=
  shutter (fun s =>
    match s.sec.sessions.find? (fun x => x.id == sid) with
    | none => emit (.spdm "FINISH" spdmSession []) s
    | some x =>
      if x.secured then emit (.spdm "FINISH" spdmUnexpected []) s
      else if ok then emit (.spdm "FINISH" 0 []) (setSession sid (fun x => { x with secured := true, last := s.cyc }) s)
      else emit (.spdm "FINISH" spdmDecrypt []) (dropSession sid s)) s

/-- HEARTBEAT keeps its session alive. -/
def execHeartbeat (sid : Nat) (s : State) : Host.Outcome State Fault Refusal :=
  shutter (inSession (some sid) "HEARTBEAT" (emit (.spdm "HEARTBEAT" 0 []))) s

/-- KEY_UPDATE. -/
def execKeyUpdate (sid : Nat) (s : State) : Host.Outcome State Fault Refusal :=
  shutter (inSession (some sid) "KEY_UPDATE" (fun s =>
    emit (.spdm "KEY_UPDATE" 0 []) (setSession sid (fun x => { x with updates := x.updates + 1 }) s))) s

/-- END_SESSION. -/
def execEndSession (sid : Nat) (s : State) : Host.Outcome State Fault Refusal :=
  shutter (inSession (some sid) "END_SESSION" (fun s => sessionEnds sid (emit (.spdm "END_SESSION" 0 []) s))) s

/-- SPDM_SESSION_IDLE (R356): a session that has carried no message for 20 s is ended. -/
def execSpdmSessionIdle (sid : Nat) (s : State) : Host.Outcome State Fault Refusal :=
  match s.sec.sessions.find? (fun x => x.id == sid) with
  | none => finish s
  | some x => if s.powered && decide (x.last + 20000000000 ≤ s.cyc) then finish (sessionEnds sid s) else finish s

/-- SPDM_UNSUPPORTED_REQUEST (R356). -/
def execSpdmUnsupportedRequest (sess : Option Nat) (s : State) : Host.Outcome State Fault Refusal :=
  shutter (inSession sess "UNSUPPORTED" (emit (.spdm "UNSUPPORTED" spdmUnsupported []))) s

/-! Vendor messages (R357) and TDISP messages (R364), once no scrub runs. -/

/-- Vendor statuses (R357). -/
def vOk := 0
def vInvalid := 1
def vState := 2
def vBusy := 3
def vStale := 4
def vNotAttested := 5

/-- TDISP errors, as TDISP codes them (log entry 100). -/
def tdispInvalidRequest := 1
def tdispInvalidState := 4

/-- ENTER_TENANT's fields are those of Table 15-8. -/
def ringsOk (b : Bounce) : Bool :=
  let ring := fun (base log : Nat) => decide (20 ≤ log) && decide (log ≤ 30) && decide (base % 4096 = 0) &&
    decide (base + 2 ^ log ≤ 2 ^ 51)
  let word := fun (a : Nat) => decide (a % 8 = 0) && decide (a + 8 ≤ 2 ^ 51)
  ring b.inBase b.inLog && ring b.outBase b.outLog && word b.inHeadWord && word b.outTailWord

/-- The checks of INSTALL_MEMBERSHIP (R362): magic, length, serial and state; and a reserved field that is not 0 (00, R16;
Table 15-11) fails them. -/
def State.certOk (s : State) (c : List Byte) : Bool :=
  ofLE (c.take 4) == 0x4D575A5A && ofLE ((c.drop 4).take 4) == 256 &&
  ofLE ((c.drop 24).take 8) == Config.serial.toNat && (c.drop 32).take 48 == s.digest && ofLE ((c.drop 136).take 24) == 0

/-- The TDI report (R364): each range with its BAR, first page offset, pages of 4 KiB, and 1 where it is TEE. -/
def State.tdiReport (s : State) : List Byte :=
  wordBytes [0, 0, 48, 1, 2, 0, 2 ^ (s.host.bar2Log - 12), 1, 0, 48, 32, 0]

/-- Answer a request while no scrub runs. -/
def secReply (r : SecReq) (s : State) : State :=
  let say := fun (op st : Nat) (s : State) => emit (.vendor op st []) s
  match r with
  | .setScope sess rsv n =>
    if rsv ≠ 0 ∨ n < 1 ∨ 1024 < n then say 1 vInvalid s
    else match sess with
      | none => say 1 vOk { s with sec := { s.sec with openScope := n } }
      | some i => say 1 vOk (setSession i (fun x => { x with scope := n }) s)
  | .enterTenant sess rsv rings =>
    if rsv ≠ 0 || !ringsOk rings then say 2 vInvalid s
    else if sess.isNone || s.sec.mode != .openMode || !s.boot.ready || s.sec.jtagNow || s.pow.mpNow then say 2 vState s
    else scrubStart .enter .tenantBounce .configUnlocked (some rings) { s with sec := { s.sec with owner := sess } }
  | .exitTenant sess rsv =>
    if rsv ≠ 0 then say 3 vInvalid s
    else if !s.isOwner sess then say 3 vState s
    else scrubStart .exit .openMode .configUnlocked none s
  | .installKey sess rsv slot kind keyId key =>
    if rsv ≠ 0 ∨ slot > 15 ∨ kind > 1 ∨ keyId ≥ 2 ^ 32 ∨ key.length ≠ 32 then say 4 vInvalid s
    else if !s.isOwner sess then say 4 vState s
    else match sess.bind s.session with
      | none => say 4 vState s
      | some x =>
        if !x.attested then say 4 vNotAttested s
        else say 4 vOk { s with sec := { s.sec with keys := kvSet slot ⟨kind == 1, keyId, key⟩ s.sec.keys } }
  | .destroyKey sess rsv slot =>
    if rsv ≠ 0 ∨ slot > 15 then say 5 vInvalid s
    else if !s.isOwner sess then say 5 vState s
    else say 5 vOk { s with sec := { s.sec with keys := kvDel slot s.sec.keys } }
  | .setPeerMap sess rsv map =>
    if rsv ≠ 0 ∨ map.length ≠ 128 then say 6 vInvalid s
    else if !s.isOwner sess then say 6 vState s
    else say 6 vOk { s with sec := { s.sec with
      peers := (List.range 1024).filter fun m => (map.getD (m / 8) 0).getLsbD (m % 8) } }
  | .installMembership sess rsv cert =>
    if rsv ≠ 0 ∨ cert.length ≠ 256 then say 7 vInvalid s
    else if sess.isNone then say 7 vState s
    else if !s.certOk cert then say 7 vStale s
    else say 7 vOk { s with sec := { s.sec with membership := some cert } }
  | .tdispVersion _ => emit (.tdisp "GET_TDISP_VERSION" 0 [1, 0x10]) s
  | .tdispCapabilities _ =>
    let (body, s) := freeBytes 28 s
    emit (.tdisp "GET_TDISP_CAPABILITIES" 0 body) s
  | .lock sess =>
    if s.sec.tdisp = .configUnlocked ∧ s.sec.mode = .openMode ∧ s.boot.ready ∧ s.sec.ide.any (fun p => p.2.secure) ∧
        s.mer.streams.all (fun p => p.2.halted) ∧ s.sec.jtagNow = false ∧ s.pow.mpNow = false then
      scrubStart .lock .tenantIde .configLocked none { s with sec := { s.sec with owner := sess } }
    else emit (.tdisp "LOCK_INTERFACE_REQUEST" tdispInvalidState []) s
  | .report _ =>
    if s.sec.tdisp = .configLocked ∨ s.sec.tdisp = .run then
      emit (.tdisp "GET_DEVICE_INTERFACE_REPORT" 0 s.tdiReport) s
    else emit (.tdisp "GET_DEVICE_INTERFACE_REPORT" tdispInvalidState []) s
  | .state _ => emit (.tdisp "GET_DEVICE_INTERFACE_STATE" 0 (leBytes 1 s.sec.tdisp.code)) s
  | .start _ =>
    if s.sec.tdisp = .configLocked then
      emit (.tdisp "START_INTERFACE_REQUEST" 0 []) { s with sec := { s.sec with tdisp := .run } }
    else emit (.tdisp "START_INTERFACE_REQUEST" tdispInvalidState []) s
  | .stop _ =>
    match s.sec.tdisp with
    | .configUnlocked => emit (.tdisp "STOP_INTERFACE_REQUEST" 0 []) s
    | .error => emit (.tdisp "STOP_INTERFACE_REQUEST" 0 []) { s with sec := { s.sec with tdisp := .configUnlocked } }
    | _ => scrubStart .stop .openMode .configUnlocked none s

/-- A TDISP request, or a vendor request that names a state change: during a scrub it waits for its end (R374). -/
def secRequest (r : SecReq) (s : State) : State :=
  match s.sec.scrub with
  | none => secReply r s
  | some x => { s with sec := { s.sec with scrub := some { x with waiting := x.waiting ++ [r] } } }

/-- A vendor message of a session. -/
def vendorMsg (sess : Option Nat) (r : SecReq) (s : State) : Host.Outcome State Fault Refusal :=
  shutter (inSession sess "VENDOR_DEFINED_REQUEST" (secRequest r)) s

/-- A TDISP message: it travels in a secured session but for the version and the capabilities. -/
def tdispMsg (name : String) (open_ : Bool) (sess : Option Nat) (r : SecReq) (s : State) :
    Host.Outcome State Fault Refusal :=
  shutter (inSession sess name (fun s =>
    if sess.isNone && !open_ then emit (.tdisp name tdispInvalidRequest []) s else secRequest r s)) s

/-- SET_SESSION_SCOPE (R360). -/
def execSetSessionScope (sess : Option Nat) (rsv n : Nat) (s : State) : Host.Outcome State Fault Refusal :=
  vendorMsg sess (.setScope sess rsv n) s

/-- ENTER_TENANT (R365). -/
def execEnterTenant (sess : Option Nat) (rsv inBase inLog outBase outLog inHeadWord outTailWord : Nat) (s : State) :
    Host.Outcome State Fault Refusal :=
  vendorMsg sess (.enterTenant sess rsv { inBase := inBase, inLog := inLog, outBase := outBase, outLog := outLog
                                          inHeadWord := inHeadWord, outTailWord := outTailWord }) s

/-- EXIT_TENANT (R374). -/
def execExitTenant (sess : Option Nat) (rsv : Nat) (s : State) : Host.Outcome State Fault Refusal :=
  vendorMsg sess (.exitTenant sess rsv) s

/-- INSTALL_KEY (R367). -/
def execInstallKey (sess : Option Nat) (rsv slot kind keyId : Nat) (key : List Byte) (s : State) :
    Host.Outcome State Fault Refusal :=
  vendorMsg sess (.installKey sess rsv slot kind keyId key) s

/-- DESTROY_KEY (R367). -/
def execDestroyKey (sess : Option Nat) (rsv slot : Nat) (s : State) : Host.Outcome State Fault Refusal :=
  vendorMsg sess (.destroyKey sess rsv slot) s

/-- SET_PEER_MAP (R355). -/
def execSetPeerMap (sess : Option Nat) (rsv : Nat) (map : List Byte) (s : State) : Host.Outcome State Fault Refusal :=
  vendorMsg sess (.setPeerMap sess rsv map) s

/-- INSTALL_MEMBERSHIP (R362). -/
def execInstallMembership (sess : Option Nat) (rsv : Nat) (cert : List Byte) (s : State) :
    Host.Outcome State Fault Refusal :=
  vendorMsg sess (.installMembership sess rsv cert) s

/-- The membership proof of R363: items 1 to 5, then their signature. -/
def State.proof (s : State) (cert nonce : List Byte) : List Byte :=
  let five := cert ++ nonce ++ s.digest ++ s.measure 7 ++ s.measure 8
  five ++ signed (digestBytes (Config.sha384 five))

/-- The answer to GET_MEMBERSHIP_PROOF: it names no state change, so that a scrub answers it BUSY. -/
def membershipProof (sess : Option Nat) (rsv : Nat) (nonce : List Byte) (s : State) : State :=
  if s.sec.scrub.isSome then emit (.vendor 8 vBusy []) s
  else if rsv ≠ 0 ∨ nonce.length ≠ 32 then emit (.vendor 8 vInvalid []) s
  else match s.sec.membership with
    | none => emit (.vendor 8 vStale []) s
    | some c => emit (.vendor 8 vOk (s.proof c nonce)) (attest sess s)

/-- GET_MEMBERSHIP_PROOF (R363). -/
def execGetMembershipProof (sess : Option Nat) (rsv : Nat) (nonce : List Byte) (s : State) :
    Host.Outcome State Fault Refusal :=
  shutter (inSession sess "VENDOR_DEFINED_REQUEST" (membershipProof sess rsv nonce)) s

/-- VENDOR_OPCODE_INVALID (R357). -/
def execVendorOpcodeInvalid (sess : Option Nat) (opcode : Nat) (s : State) : Host.Outcome State Fault Refusal :=
  shutter (inSession sess "VENDOR_DEFINED_REQUEST" (emit (.vendor (opcode % 65536) vInvalid []))) s

/-- GET_TDISP_VERSION (R364). -/
def execGetTdispVersion (sess : Option Nat) (s : State) : Host.Outcome State Fault Refusal :=
  tdispMsg "GET_TDISP_VERSION" true sess (.tdispVersion sess) s

/-- GET_TDISP_CAPABILITIES (R364). -/
def execGetTdispCapabilities (sess : Option Nat) (s : State) : Host.Outcome State Fault Refusal :=
  tdispMsg "GET_TDISP_CAPABILITIES" true sess (.tdispCapabilities sess) s

/-- LOCK_INTERFACE_REQUEST (R364). -/
def execLockInterfaceRequest (sess : Option Nat) (s : State) : Host.Outcome State Fault Refusal :=
  tdispMsg "LOCK_INTERFACE_REQUEST" false sess (.lock sess) s

/-- GET_DEVICE_INTERFACE_REPORT (R364). -/
def execGetDeviceInterfaceReport (sess : Option Nat) (s : State) : Host.Outcome State Fault Refusal :=
  tdispMsg "GET_DEVICE_INTERFACE_REPORT" false sess (.report sess) s

/-- GET_DEVICE_INTERFACE_STATE (R364). -/
def execGetDeviceInterfaceState (sess : Option Nat) (s : State) : Host.Outcome State Fault Refusal :=
  tdispMsg "GET_DEVICE_INTERFACE_STATE" false sess (.state sess) s

/-- START_INTERFACE_REQUEST (R364). -/
def execStartInterfaceRequest (sess : Option Nat) (s : State) : Host.Outcome State Fault Refusal :=
  tdispMsg "START_INTERFACE_REQUEST" false sess (.start sess) s

/-- STOP_INTERFACE_REQUEST (R364). -/
def execStopInterfaceRequest (sess : Option Nat) (s : State) : Host.Outcome State Fault Refusal :=
  tdispMsg "STOP_INTERFACE_REQUEST" false sess (.stop sess) s

/-- TENANT_SCRUB_DONE (R373): steps 3 and 4 have ended. Before the commit into a tenant mode every outstanding request to
the host window has been completed or has timed out (R354). The requests that waited are answered in order. -/
def execTenantScrubDone (s : State) : Host.Outcome State Fault Refusal :=
  match s.sec.scrub with
  | none => finish s
  | some x =>
    if s.boot.reset.isNone && !(s.tiers.fills.any fun p => p.2 == .tenant) &&
        (x.target == .openMode || s.host.reads.isEmpty) then
      finish (x.waiting.foldl (fun s r => secRequest r s) (scrubEnd x s))
    else finish s

/-! IDE (R364, Table 15-12). -/

/-- All six keys of a key set are active. -/
def IdeStream.setUp (x : IdeStream) (k : Nat) : Bool := (List.range 6).all fun j => x.go.contains (8 * k + j)

/-- The stream as it stands once its active keys have changed. -/
def IdeStream.judge (x : IdeStream) : IdeStream := { x with secure := x.setUp 0 || x.setUp 1 }

/-- An IDE stream. -/
def State.ideStream (s : State) (i : Nat) : IdeStream := kvGet {} i s.sec.ide

/-- Change a stream; one that leaves Secure in CONFIG_LOCKED or RUN enters ERROR. -/
def setIde (i : Nat) (f : IdeStream → IdeStream) (s : State) : State :=
  let x := f (s.ideStream i)
  let s' := { s with sec := { s.sec with ide := kvPut {} i x s.sec.ide } }
  if (s.ideStream i).secure && !x.secure then tdispError .error s' else s'

/-- The key of a set (0 K0, 1 K1), a sub-stream and a direction; none where a number is out of range. -/
def ideKey (set sub dir : Nat) : Option Nat := if set < 2 ∧ sub < 3 ∧ dir < 2 then some (8 * set + 2 * sub + dir) else none

/-- IDE_KM QUERY: the body is the standard's. -/
def execIdeKmQuery (sess : Nat) (s : State) : Host.Outcome State Fault Refusal :=
  shutter (inSession (some sess) "IDE_KM" (fun s =>
    let (body, s) := freeBytes 32 s
    emit (.tdisp "QUERY" 0 body) s)) s

/-- KEY_PROG: a key of a stream is programmed. Status 3 names an unsupported value (log entry 100). -/
def execIdeKmKeyProg (sess stream set sub dir : Nat) (s : State) : Host.Outcome State Fault Refusal :=
  shutter (inSession (some sess) "IDE_KM" (fun s =>
    match ideKey set sub dir with
    | none => emit (.tdisp "KEY_PROG" 3 []) s
    | some k =>
      if stream ≥ 2 then emit (.tdisp "KEY_PROG" 3 []) s
      else emit (.tdisp "KEY_PROG" 0 []) (setIde stream (fun x => { x with prog := setIns k x.prog }) s))) s

/-- K_SET_GO: a programmed key is activated; the stream is Secure once a key set is complete. -/
def execIdeKmKSetGo (sess stream set sub dir : Nat) (s : State) : Host.Outcome State Fault Refusal :=
  shutter (inSession (some sess) "IDE_KM" (fun s =>
    match ideKey set sub dir with
    | none => emit (.tdisp "K_SET_GO" 3 []) s
    | some k =>
      if stream ≥ 2 ∨ !(s.ideStream stream).prog.contains k then emit (.tdisp "K_SET_GO" 3 []) s
      else emit (.tdisp "K_SET_GO" 0 []) (setIde stream (fun x => { x with go := setIns k x.go }.judge) s))) s

/-- K_SET_STOP. -/
def execIdeKmKSetStop (sess stream set sub dir : Nat) (s : State) : Host.Outcome State Fault Refusal :=
  shutter (inSession (some sess) "IDE_KM" (fun s =>
    match ideKey set sub dir with
    | none => emit (.tdisp "K_SET_STOP" 3 []) s
    | some k =>
      if stream ≥ 2 then emit (.tdisp "K_SET_STOP" 3 []) s
      else emit (.tdisp "K_SET_STOP" 0 [])
        (setIde stream (fun x => { x with go := setDel k x.go, prog := setDel k x.prog }.judge) s))) s

/-- IDE_INTEGRITY_FAILURE (R364): an integrity failure on a Secure stream, or the stream leaving Secure. -/
def execIdeIntegrityFailure (stream : Fin 2) (integrity : Bool) (s : State) : Host.Outcome State Fault Refusal :=
  if s.powered && (s.ideStream stream.val).secure then
    finish (setIde stream.val (fun _ => {}) (if integrity then post Ev.ideIntegrityFail [stream.val] s else s))
  else finish s

/-! DOE, configuration requests and PCIe events. -/

/-- DOE_DISCOVERY (R347): the object type of an index — Discovery, CMA/SPDM, Secured CMA/SPDM — and the next index; the
PCI-SIG vendor id, 0xFFFF past the last (log entry 100). -/
def execDoeDiscovery (index : Nat) (s : State) : Host.Outcome State Fault Refusal :=
  shutter (emit (.doe 0 (if index < 3 then leBytes 2 1 ++ leBytes 1 index ++ leBytes 1 ((index + 1) % 3)
    else leBytes 2 0xFFFF ++ [0, 0]))) s

/-- A configuration write of a register that TDISP has locked is not applied: it enters ERROR (R364). -/
def configWrite (r : CfgReg) (v : W32) (s : State) : State :=
  if CfgReg.locked r && (s.sec.tdisp == .configLocked || s.sec.tdisp == .run) then tdispError .error s else cfgWrite r v s

/-- PCIE_CONFIG_REQUEST (R352): a read, or a write with its value. -/
def execPcieConfigRequest (reg : CfgReg) (w : Option W32) (s : State) : Host.Outcome State Fault Refusal :=
  if !s.powered then finish s
  else if s.cfgRetry then finish (emit .hostRRS s)
  else
    match w with
    | some v => finish (configWrite reg v s)
    | none =>
      let (v, s) := cfgRead reg s
      finish (emit (.cfgData (BitVec.ofNat 32 v)) s)

/-- PCIE_FUNCTION_RESET (R351, R352, Table 15-5; R374): a COMPUTE reset in OPEN, a tenant scrub in a tenant mode. Where
either runs already it starts no second one (19, R465), and configuration requests are retried until that one ends.
Shutter does not see an event before it is started. -/
def execPcieFunctionReset (_ev : PcieEvent) (s : State) : Host.Outcome State Fault Refusal :=
  if !s.shutterUp then finish s
  else
    let s := { s with host := { s.host with retry := true } }
    if s.sec.scrub.isSome then finish s
    else if s.sec.mode = .openMode then finish (computeStart none 0 s)
    else finish (scrubStart .pcie .openMode .configUnlocked none s)

end Sys2Proof.Machine
end

