-- ==== Sys2Proof/Machine/Bounce.lean ====
section
/-!
DEFINITION. Inbound bounce records (15, R365, R366). A row carries what the engine reads of a record: its sequence
number and its payload length, which travel in clear, and the sealed fields as they decrypt.
-/

namespace Sys2Proof.Machine

/-- Where the next inbound record of `len` bytes starts: the bytes of the ring that are skipped before it, because it
would cross the ring's end. -/
def Bounce.inSkip (b : Bounce) (len : Nat) : Nat :=
  let off := b.inHead.toNat % 2 ^ 30
  if off + len > 2 ^ b.inLog then 2 ^ b.inLog - off else 0

/-- A record of `len` bytes, header and payload, stands in the inbound ring below the tail that the host has written. -/
def State.bounceHas (s : State) (len : Nat) : Bool :=
  s.powered && s.sec.mode == .tenantBounce && s.sec.scrub.isNone &&
  decide (s.sec.bounce.inSkip len + len ≤ ringUsed s.sec.bounce.inHead s.sec.bounce.inTail s.sec.bounce.inLog)

/-- A record has been read: the inbound head moves past it and is written to its head word. -/
def bounceTake (len : Nat) (s : State) : State :=
  let b := s.sec.bounce
  let n := b.inSkip len + len
  let head := ringMove b.inHead b.inLog n
  let s := { s with
    mem := s.mem.write (hostAddr b.inHeadWord) (leBytes 8 head.toNat)
    sec := { s.sec with bounce := { b with inHead := head, seqIn := b.seqIn + 1 } } }
  count .bounceIn 0 1 (count .dmaRdBytes 0 n (count .dmaWrBytes 0 8 s))

/-- Entry to ERROR by an inbound record (R366): nothing of it is applied. -/
def bounceError (s : State) : State :=
  scrubStart .error .openMode .error none { s with sec := { s.sec with tdisp := .error } }

/-- An authentic record that is skipped: an ERROR record with the cause, and the event. No section gives the cause
codes: the code is a free value (log entry 102). -/
def bounceInvalid (seq : Nat) (s : State) : State :=
  let (c, s) := draw s
  post Ev.bounceRecordInvalid [seq, c % 2 ^ 64] (bounceSend ⟨0x13, 0, c % 2 ^ 64, []⟩ s)

/-- The length of a payload as Table 15-13 bounds it. -/
def payloadOk (n : Nat) : Bool := n % 64 == 0 && decide (n ≤ 65536)

/-- An authentic record with payload of `len` bytes: its sequence number is checked, the inbound head moves past it, and
it has its effect `k`, which is none where the record is invalid. After a `len` that breaks Table 15-13 the next record
starts at the next multiple of 64 (log entry 102). -/
def bounceRecord (seq len : Nat) (k : State → Option State) (s : State) : Host.Outcome State Fault Refusal :=
  let n := 64 + (len + 63) / 64 * 64
  if !s.bounceHas n then finish s
  else if seq ≠ s.sec.bounce.seqIn then finish (bounceError s)
  else
    let s := bounceTake n s
    match (if payloadOk len then k s else none) with
    | some s => finish s
    | none => finish (bounceInvalid seq s)

/-- A range within the host's reach of Table 1-8 in OPEN, in a tier that no fill or test closes. -/
def State.bounceReach (s : State) (a n : Nat) : Bool := (checkAccess .host a n).isNone && !s.memBusy a n

/-- BOUNCE_NOP. -/
def execBounceNop (seq len : Nat) (s : State) : Host.Outcome State Fault Refusal :=
  bounceRecord seq len some s

/-- BOUNCE_WRITE. -/
def execBounceWrite (seq addr : Nat) (bs : List Byte) (s : State) : Host.Outcome State Fault Refusal :=
  bounceRecord seq bs.length (fun s => if s.bounceReach addr bs.length then some (devPut addr bs s) else none) s

/-- BOUNCE_REG: a host write of 64 bits to pages 0 to 2. -/
def execBounceReg (seq len off : Nat) (v : W64) (s : State) : Host.Outcome State Fault Refusal :=
  bounceRecord seq len (fun s =>
    if off < 0x30000 ∧ off % 8 = 0 then some (pageWrite off 8 v.toNat 0 s) else none) s

/-- The DATA records of an exported range, in address order. -/
def dataRecords (a : Nat) (bs : List Byte) : List BounceRec :=
  (List.range ((bs.length + 65535) / 65536)).map fun i =>
    ⟨0x10, a + 65536 * i, 0, (bs.drop (65536 * i)).take 65536⟩

/-- BOUNCE_EXPORT. Bytes that are poisoned have no stated content in a DATA record: each is a free value
(log entry 102). -/
def execBounceExport (seq len addr n : Nat) (s : State) : Host.Outcome State Fault Refusal :=
  bounceRecord seq len (fun s =>
    if n % 64 = 0 ∧ 64 ≤ n ∧ n ≤ 2 ^ 30 ∧ s.bounceReach addr n then
      let (p, bs, s) := devRead addr n s
      let (bs, s) := if p.isNone then (bs, s) else
        let (k, s) := draw s
        (((List.range n).zip bs).map (fun x => if (s.firstPoison (addr + x.1) 1).isSome then Config.scratchByte k x.1 else x.2), s)
      some ((dataRecords addr bs).foldl (fun s r => bounceSend r s) s)
    else none) s

/-- BOUNCE_RECORD_INVALID (R366): an authentic record with a reserved type or bit, or a `len` that breaks Table 15-13. -/
def execBounceRecordInvalid (seq len : Nat) (s : State) : Host.Outcome State Fault Refusal :=
  bounceRecord seq len (fun _ => none) s

/-- BOUNCE_RECORD_FAIL (R366): a record in the inbound ring fails its tag, or its sequence number is not the expected
one. -/
def execBounceRecordFail (s : State) : Host.Outcome State Fault Refusal :=
  if s.bounceHas 64 then finish (bounceError s) else finish s

end Sys2Proof.Machine
end

