-- ==== Sys2Proof/Machine/Boundary.lean ====
section
/-!
DEFINITION. The step boundary (04, R105; 12, R292) and what every chapter does at it.
-/

namespace Sys2Proof.Machine

/-- The swap of the dirty maps that a SNAPSHOT_DIRTY asked for (07, R180). -/
def swapBoundary (s : State) : State :=
  if s.tiers.swapReq = 0 then s
  else swapDirty s.tiers.swapReq 0 { s with tiers := { s.tiers with swapReq := 0 } }

/-- Everything that happens at a step boundary of the given step value, in the order of the chapters (log entry 93): the
commits of the tables come before any hold that a later row takes (11, R269). -/
def boundary (step : W64) (s : State) : State :=
  let s := stashBoundary (swapBoundary (capture s))
  let s := askSwap step.toNat (retryGuards (boundaryUpdate step s))
  colBoundary (deliverRatios step.toNat (tableBoundary s))

/-- STEP_BOUNDARY (12, R292): the boundary STEP_MARK `t` completes, once every OPTIM task admitted before it has, and
every open record that one of them opened is closed. -/
def execStepBoundary (t : Nat) (s : State) : Host.Outcome State Fault Refusal :=
  match s.task t with
  | none => finish s
  | some k =>
    let before := fun (a : Nat) => decide (a ≠ 0) && decide (a < k.age)
    let open_ := s.mer.tasks.any (fun p => p.2.desc.type == 6 && before p.2.age) ||
      s.ephem.openRecs.any fun e => before e.age
    if k.desc.type ≠ 0xC ∨ !k.desc.b 3 0 ∨ k.phase ≠ .running ∨ open_ then finish s
    else
      let s := count .commitWait 0 (s.cyc - k.startCyc) s
      let s := { s with mer := { s.mer with boundary := some k.stream } }
      let s := boundary (s.stream k.stream).step s
      finish (noteWaits (endTask t false 0 0 s))

end Sys2Proof.Machine
end

