-- ==== Sys2Proof/Machine/Coll.lean ====
section
/-!
DEFINITION. The collective engines (14, R323–R339).
-/

namespace Sys2Proof.Machine

/-! Commands on identity and communicators. -/

/-- SET_MODULE_ID (R323): before SET_TOPOLOGY only; the capability record is sent again (13, R304). -/
def execSetModuleId (m : Fin 16) (s : State) : Host.Outcome State Fault Refusal :=
  mbxCommand 0x0507 anyArgs m (fun a s =>
    if s.fab.groups.isSome then .done St.commArgInvalid [] s
    else
      let s := digestStep (fun s => { s with fab := { s.fab with id := some (a.n 0) } }) s
      .done St.ok [] ((List.range 30).foldl (fun s i => if (s.port i).st == .active then sendCaps i s else s) s)) s

/-- A communicator record and its rank table are read: the communicator and the state after the reads, or a refusal
(R324). `idOk` says that the id may be taken. -/
def readComm (at_ : Nat) (idOk : Nat → State → Bool) (s : State) : (Nat × Comm × State) ⊕ Reply :=
  match bufCheck at_ 64 1 s with
  | some f => .inr (bufFault f s)
  | none =>
    let (p, bs, s) := devRead at_ 64 s
    if p.isSome then .inr (.done St.poisoned [] s)
    else
      let w := bytesWords bs
      let q := fun i => w.getD i 0
      let n := bits (q 0) 51 40
      let own := bits (q 0) 39 29
      let id := bits (q 0) 63 52
      let tab := bits (q 1) 51 0
      let rsv := bits (q 0) 12 0 != 0 || bits (q 1) 63 52 != 0 || (List.range 5).any fun i => q (3 + i) != 0
      let slot := bits (q 2) 63 32
      let bad := rsv || id == 0 || !idOk id s || n == 0 || decide (n > 2048) || decide (own ≥ n) || !aligned tab 64 ||
        !inDram tab || !inDram (tab + 8 * n - 1) || tierOf tab != tierOf (tab + 8 * n - 1) || slot == 0
      if bad then .inr (.done St.commArgInvalid [] s)
      else
        let (p, bs, s) := devRead tab (8 * n) s
        if p.isSome then .inr (.done St.poisoned [] s)
        else
          let ranks := bytesWords bs
          let entryBad := fun (e : Nat) =>
            let a := bits e 51 0
            bit e 52 || !aligned a 65536 || regionOf a != some .gddr7 ||
            regionOf (a + 2 * slot * 65536 - 1) != some .gddr7
          let place := ranks.map fun e => bits e 63 53
          let twice := (List.range n).any fun i => (place.drop (i + 1)).contains (place.getD i 0)
          if ranks.any entryBad || twice || s.fab.id != some (bits (ranks.getD own 0) 63 54) then
            .inr (.done St.commArgInvalid [] s)
          else .inl (id, { ranks := ranks, own := own, epoch := bits (q 0) 28 13, timeoutUs := bits (q 2) 31 0
                           slot64k := slot }, s)

/-- CREATE_COMMUNICATOR (R324). -/
def execCreateCommunicator (m : Fin 16) (s : State) : Host.Outcome State Fault Refusal :=
  mbxCommand 0x0508 anyArgs m (fun a s =>
    match readComm (a.n 0) (fun id s => !kvHas id s.fab.comms && decide (s.fab.comms.length < 256)) s with
    | .inr r => r
    | .inl (id, c, s) => .done St.ok [] { s with fab := { s.fab with comms := kvSet id c s.fab.comms } }) s

/-- A COLLECTIVE of a communicator is admitted to an engine and incomplete. -/
def State.collOpen (s : State) (id : Nat) : Bool := s.fab.colls.any fun c => c.comm == id

/-- DESTROY_COMMUNICATOR (R324). -/
def execDestroyCommunicator (m : Fin 16) (s : State) : Host.Outcome State Fault Refusal :=
  mbxCommand 0x0509 anyArgs m (fun a s =>
    if !kvHas (a.n 0) s.fab.comms then .done St.commArgInvalid [] s
    else if s.collOpen (a.n 0) then .done St.commBusy [] s
    else .done St.ok [] { s with fab := { s.fab with comms := kvDel (a.n 0) s.fab.comms } }) s

/-! Sending (R328–R330). -/

/-- The base of the slot of sequence `seq` at rank `q`. -/
def Comm.slotAt (c : Comm) (q seq : Nat) : Nat := bits (c.ranks.getD q 0) 51 0 + seq % 2 * c.slot64k * 65536

/-- The bytes that a rank's segment takes on the wire: whole lines of its valid elements. -/
def Desc.wireBytes (d : Desc) (g : Seg) : Nat := 64 * ceilDiv (g.ext * esizeOf d.cfmt) 64

/-- Where rank `q`'s contribution lies in rank `r`'s slot, and where its gather segment does (R328). -/
def Desc.reduceOff (d : Desc) (l : List Seg) (r q : Nat) : Nat := (if q < r then q else q - 1) * d.pb l r
def Desc.gatherOff (d : Desc) (l : List Seg) (r q : Nat) : Nat :=
  d.gatherAt l r + (((List.range q).filter (· != r)).map (d.pb l)).sum

/-- Chunk offsets of `n` bytes. -/
def chunksOf (n : Nat) : List Nat := (List.range (ceilDiv n 2048)).map (· * 2048)

/-- The chunks of a run for rank `q`, as packets in order (R330). -/
def collPackets (x : Coll) (c : Comm) (phase q off : Nat) (bs : List Byte) (own : Nat) : List Inject :=
  (chunksOf bs.length).map fun o =>
    { pkt := { typ := .collData, flow := o / 2048 % 256, dst := c.moduleOf q, src := own
               addr := c.slotAt q x.num + off + o
               coll := x.comm * 2 ^ 52 + c.epoch * 2 ^ 36 + x.num % 65536 * 2 ^ 20 + phase * 2 ^ 19 + c.own * 2 ^ 8
               data := (bs.drop o).take 2048 }
      die := x.die, task := some x.task, viaDie := some (o / 2048 % 2) }

/-- The packets of several receivers in round robin, chunk by chunk. -/
def roundRobin (ls : List (List Inject)) : List Inject :=
  let n := ls.foldl (fun m l => Nat.max m l.length) 0
  (List.range n).flatMap fun i => ls.filterMap fun l => l[i]?

/-- The other ranks from own + 1 upward modulo n (R330). -/
def Comm.ring (c : Comm) : List Nat :=
  let n := c.ranks.length
  (List.range (n - 1)).map fun i => (c.own + 1 + i) % n

/-- May sequence `num` send to rank `q` (R329)? -/
def Comm.maySend (c : Comm) (num q : Nat) : Bool := decide (num < 2) || c.frees.contains (q, (num - 2) % 65536)

/-- Change the open collective of a task. -/
def setColl (t : Nat) (f : Coll → Coll) (s : State) : State :=
  { s with fab := { s.fab with colls := s.fab.colls.map fun c => if c.task = t then f c else c } }

/-- A collective's own read: bytes padded with zeros to whole lines, a held page, or poison. -/
def collRead (die a n : Nat) (s : State) : Got × State :=
  match taskRead die a n s with
  | (.ok bs, s) => (.ok (bs ++ List.replicate (64 * ceilDiv n 64 - n) 0), s)
  | r => r

/-- Outputs that a collective has not yet written are poisoned (17, R414). -/
def collPoisonOut (x : Coll) (c : Comm) (d : Desc) (s : State) : State :=
  let es := esizeOf d.cfmt
  let seg := fun (q : Nat) (s : State) =>
    match x.segs[q]? with
    | some g => poisonOut (if d.cop = 1 then d.cdst else d.cdst + g.off * es) (g.pad * es) s
    | none => s
  let s := if x.reduced then s else seg c.own s
  if d.cop = 1 then s else (c.others.filter fun q => !x.copied.contains q).foldl (fun s q => seg q s) s

/-- The result word (Table 14-5). -/
def Coll.word (x : Coll) : Nat := x.lines % 2 ^ 32 * 2 ^ 32 + x.num % 65536 * 2 ^ 16

/-- A collective ends with a status other than OK (R334). -/
def collFail (t st det : Nat) (s : State) : State :=
  let w := ((s.fab.colls.find? fun c => c.task == t).map Coll.word).getD 0
  collAbort t st (dropToken t (setTask t (fun k => { k with
    phase := .finished, status := st, detail := det, result := w, token := none }) s))

/-- It meets poison. -/
def collPoisoned (t a : Nat) (s : State) : State :=
  match s.fab.colls.find? (fun c => c.task == t), s.task t with
  | some x, some k =>
    match kvFind x.comm s.fab.comms with
    | some c => collFail t Ts.poisoned a (collPoisonOut x c k.desc s)
    | none => collFail t Ts.poisoned a s
  | _, _ => s

/-- One collective, its communicator and its descriptor. -/
def State.coll (s : State) (t : Nat) : Option (Coll × Comm × Desc) :=
  match s.fab.colls.find? (fun c => c.task == t), s.task t with
  | some x, some k => (kvFind x.comm s.fab.comms).map fun c => (x, c, k.desc)
  | _, _ => none

/-- This module has sent data in sequence `seq`: it owes itself the FREE of every other rank for it (R336). -/
def Comm.owe (seq : Nat) (c : Comm) : Comm :=
  let new := c.others.filter fun q => !c.frees.contains (q, seq) && !c.owed.contains (q, seq)
  { c with owed := c.owed ++ new.map fun q => (q, seq) }

/-- Send one phase to the ranks `qs`: `run q` gives the address read, its bytes and the offset at the receiver. Answers
whether all was sent. -/
def collSend (t phase : Nat) (qs : List Nat) (run : Nat → Nat × Nat × Nat) (s : State) : State :=
  match s.coll t with
  | none => s
  | some (x, c, _) =>
    let r := qs.foldl (fun (r : Option (Got × List (List Inject)) × State) q =>
      match r.1 with
      | some (.ok _, ls) =>
        let (a, n, off) := run q
        match collRead x.die a n r.2 with
        | (.ok bs, s) => (some (.ok [], ls ++ [collPackets x c phase q off bs s.ownId]), s)
        | (g, s) => (some (g, ls), s)
      | _ => r) (some (.ok [], []), s)
    match r with
    | (some (.ok _, ls), s) =>
      let n := (ls.map fun l => (l.map fun p => p.pkt.nflits).sum).sum
      let s := setColl t (fun x => { x with
        lines := x.lines + n
        sentReduce := if phase = 0 then x.sentReduce ++ qs else x.sentReduce
        sentGather := if phase = 1 then x.sentGather ++ qs else x.sentGather }) s
      let s := if qs.isEmpty then s else setComm x.comm (Comm.owe (x.num % 65536)) s
      occupyUnit t (count .txLines x.die n (sendPkts (roundRobin ls) s))
    | (some (.poison a, _), s) => collPoisoned t a s
    | (_, s) => s

/-! The reduction (R331, R332). -/

/-- One element: acc of R331 with the flags of its promotions and its additions (R57). -/
def reduceEl (f : FFmt) (xs : List Nat) : Nat × Flags :=
  match xs.map (fun x => fconv f ffp32 .rne false x) with
  | [] => (0, {})
  | y :: ys => ys.foldl (fun acc y =>
      let r := addF acc.1 y.1
      (r.1, (acc.2.or y.2).or r.2)) y

/-- All chunks of a rank's run have landed. -/
def Comm.allLanded (c : Comm) (seq phase q off n : Nat) : Bool :=
  (chunksOf n).all fun o => c.landed.contains (seq % 65536, phase, q, off + o)

/-- The own segment is reduced, or for ALL_GATHER copied, once every contribution has landed (R331–R333). -/
def collReduce (t : Nat) (s : State) : State :=
  match s.coll t, s.task t with
  | some (x, c, d), some k =>
    match x.segs[c.own]?, ffmtOf d.cfmt with
    | some g, some f =>
      let es := esizeOf d.cfmt
      let n := c.ranks.length
      let wb := d.wireBytes g
      let landed := d.cop = 2 ∨ g.ext = 0 ∨ c.others.all fun q => c.allLanded x.num 0 q (d.reduceOff x.segs c.own q) wb
      if x.reduced ∨ !landed then s
      else
        let src := fun (q : Nat) =>
          if d.cop = 2 then d.csrc
          else if q = c.own then d.csrc + g.off * es
          else c.slotAt c.own x.num + d.reduceOff x.segs c.own q
        let from_ := if d.cop = 2 then [c.own] else List.range n
        let (got, s) := if g.ext = 0 then (Got.ok [], s) else taskReads x.die (from_.map fun q => (src q, g.ext * es)) s
        match got with
        | .held _ => s
        | .poison a => collPoisoned t a s
        | .ok bs =>
          let rows := (List.range from_.length).map fun i => patterns es g.ext (bs.drop (i * g.ext * es))
          let rng := s.rng k
          let els := (List.range g.ext).map fun i =>
            if d.cop = 2 then ((rows.getD 0 []).getD i 0, (0, ({} : Flags)))
            else
              let acc := reduceEl f (rows.map fun r => r.getD i 0)
              if d.cfmt = 0 then (acc.1, (acc.1, acc.2))
              else
                let (y, fl) := fconv ffp32 f (rng.rnd (d.f 4 57 56) ((g.off + i) % 2 ^ 30)) (d.b 4 55) acc.1
                (y, (acc.1, acc.2.or fl))
          let out := els.map (fun e => e.1) ++ List.replicate (g.pad - g.ext) 0
          let at_ := if d.cop = 1 then d.cdst else d.cdst + g.off * es
          let s := taskWrite t at_ (patBytes es out) s
          let s := setTask t (fun k => { k with
            sat := els.countP fun e => e.2.2.sat
            flush := els.countP fun e => e.2.2.flush
            nan := els.countP fun e => e.2.2.nan
            amax := if d.cop = 2 then 0 else els.foldl (fun m e => fmax m (fabs e.2.1)) 0 }) s
          let s := if d.cop = 2 then s else count .adds x.die (g.ext * (n - 1)) s
          setColl t (fun x => { x with reduced := true }) s
    | _, _ => s
  | _, _ => s

/-- Gather segments that have landed are copied to dst, their padding written +0 (R327, R331). -/
def collCopy (t q : Nat) (s : State) : State :=
  match s.coll t with
  | none => s
  | some (x, c, d) =>
    match x.segs[q]? with
    | none => s
    | some g =>
      let es := esizeOf d.cfmt
      let off := d.gatherOff x.segs c.own q
      if d.cop = 1 ∨ x.copied.contains q ∨ !c.allLanded x.num 1 q off (d.wireBytes g) then s
      else
        let (got, s) := if g.ext = 0 then (Got.ok [], s) else taskRead x.die (c.slotAt c.own x.num + off) (g.ext * es) s
        match got with
        | .held _ => s
        | .poison a => collPoisoned t a s
        | .ok bs =>
          let s := taskWrite t (d.cdst + g.off * es) (bs ++ List.replicate ((g.pad - g.ext) * es) 0) s
          setColl t (fun x => { x with copied := x.copied ++ [q] }) s

/-- A wait for a FREE begins or ends (Table 14-8, landing_wait). -/
def collWaits (t : Nat) (waits : Bool) (s : State) : State :=
  match s.fab.colls.find? fun c => c.task == t with
  | none => s
  | some x =>
    match x.blocked, waits with
    | none, true => setColl t (fun x => { x with blocked := some s.cyc }) s
    | some b, false => count .landingWait x.die (s.cyc - b) (setColl t (fun x => { x with blocked := none }) s)
    | _, _ => s

/-- Its slot is free: the collective two before it has completed here (R327, R329). -/
def State.slotFree (s : State) (x : Coll) : Bool :=
  !(s.fab.colls.any fun y => y.comm == x.comm && decide (y.num + 2 ≤ x.num))

/-- It completes once its results are written, every gather segment is copied and every chunk it sends has been handed to
the Orrery: FREE to every other rank (R329, R333). -/
def collDone (t : Nat) (s : State) : State :=
  match s.coll t with
  | none => s
  | some (x, c, d) =>
    let segs := x.segs
    let bad := match s.task t with | some k => if k.poisoned then some k.detail else none | none => none
    let ext := fun (q : Nat) => ((segs.map Seg.ext).getD q 0)
    let sentR := d.cop = 2 ∨ c.others.all fun q => ext q == 0 || x.sentReduce.contains q
    let sentG := d.cop = 1 ∨ ext c.own = 0 ∨ c.others.all fun q => x.sentGather.contains q
    let copied := d.cop = 1 ∨ c.others.all fun q => x.copied.contains q
    if bad.isSome then collFail t Ts.poisoned (bad.getD 0) s
    else if x.reduced ∧ sentR ∧ sentG ∧ copied ∧ !s.unsent t ∧ s.slotFree x then
      let s := { s with fab := { s.fab with colls := s.fab.colls.filter fun y => y.task != t } }
      let s := setComm x.comm (fun c => { c with
        landed := c.landed.filter fun e => e.1 != x.num % 65536
        frees := if x.num < 2 then c.frees else c.frees.filter fun e => e.2 != (x.num - 2) % 65536 }) s
      let s := sendPkts (c.others.map fun q => collCtrl x.comm c x.num 0x10 0 q s.ownId) s
      let s := setTask t (fun k => { k with
        phase := .finished, token := none, result := x.word }) s
      count .collDone x.die 1 (dropToken t s)
    else s

/-- Everything that an open collective can do now. -/
def collPump (t : Nat) (s : State) : State :=
  match s.coll t with
  | none => s
  | some (x, c, d) =>
    let es := esizeOf d.cfmt
    let seg := fun (q : Nat) => (x.segs[q]?).getD ⟨0, 0, 0⟩
    let needR := if d.cop = 2 then [] else c.ring.filter fun q => (seg q).ext != 0 && !x.sentReduce.contains q
    let s := collSend t 0 (needR.filter (c.maySend x.num))
      (fun q => (d.csrc + (seg q).off * es, (seg q).ext * es, d.reduceOff x.segs q c.own)) s
    let s := collReduce t s
    match s.coll t with
    | none => s
    | some (y, _, _) =>
      let mine := seg c.own
      let needG := if d.cop = 1 ∨ mine.ext = 0 ∨ !y.reduced then [] else c.ring.filter fun q => !y.sentGather.contains q
      let s := collSend t 1 (needG.filter (c.maySend x.num))
        (fun q => (d.cdst + mine.off * es, mine.ext * es, d.gatherOff x.segs q c.own)) s
      let s := c.others.foldl (fun s q => collCopy t q s) s
      let s := collWaits t (needR.any (fun q => !c.maySend x.num q) || needG.any fun q => !c.maySend x.num q) s
      collDone t s

/-- Every open collective of a communicator, in sequence order. -/
def collPumpAll (f : Coll → Bool) (s : State) : State :=
  (s.fab.colls.filter f).foldl (fun s x => collPump x.task s) s

/-- The lowest rank whose data, or whose FREE, a collective lacks (R335). -/
def collLack (x : Coll) (c : Comm) (d : Desc) : Option Nat :=
  let ext := fun (q : Nat) => (x.segs.map Seg.ext).getD q 0
  let wire := fun (q : Nat) => d.wireBytes ((x.segs[q]?).getD ⟨0, 0, 0⟩)
  let lacks := fun (q : Nat) =>
    (d.cop != 2 && !x.reduced && ext c.own != 0 && !c.allLanded x.num 0 q (d.reduceOff x.segs c.own q) (wire c.own)) ||
    (d.cop != 1 && !x.copied.contains q && !c.allLanded x.num 1 q (d.gatherOff x.segs c.own q) (wire q)) ||
    (d.cop != 2 && ext q != 0 && !x.sentReduce.contains q && !c.maySend x.num q) ||
    (d.cop != 1 && ext c.own != 0 && !x.sentGather.contains q && !c.maySend x.num q)
  (c.others.find? lacks).map c.moduleOf

/-- What the open collective of a task lacks now. -/
def State.collLacks (s : State) (t : Nat) : Option Nat := (s.coll t).bind fun x => collLack x.1 x.2.1 x.2.2

/-- A collective's timeout has passed (R335): in the cycle of its expiry an arrival still wins, and after it none does. -/
def State.collOver (s : State) (t : Nat) (strict : Bool) : Bool :=
  match s.task t, s.coll t with
  | some k, some (_, c, _) => c.timeoutUs != 0 && (if strict then decide (k.deadline < s.cyc) else decide (k.deadline ≤ s.cyc))
  | _, _ => false

/-- A collective ends by its timeout. -/
def collTimeout (t : Nat) (s : State) : State :=
  match s.coll t with
  | none => s
  | some (_, c, _) => collFail t Ts.timeout ((s.collLacks t).getD (c.moduleOf c.own)) s

/-- The collectives whose timeout has passed have ended before anything that comes now (R335). -/
def collExpire (s : State) : State :=
  (s.fab.colls.filter fun x => s.collOver x.task true).foldl (fun s x => collTimeout x.task s) s

/-! Admission (R325, R326, R329, R334). -/

/-- The segment table (Table 14-3): its entries, or the failure of R326. -/
def segTable (bs : List Byte) (n es : Nat) : Option (List Seg) :=
  let w := bytesWords bs
  let l := (List.range n).map fun i =>
    let x := w.getD (2 * i) 0
    (⟨x % 2 ^ 32, x / 2 ^ 32, w.getD (2 * i + 1) 0 % 2 ^ 32⟩ : Seg)
  let rsv := (List.range n).any fun i => w.getD (2 * i + 1) 0 / 2 ^ 32 != 0
  let bad := l.any fun g => decide (g.ext > g.pad) || g.pad * es % 64 != 0 || g.off * es % 64 != 0
  let order := (List.range (n - 1)).any fun i =>
    match l[i]?, l[i + 1]? with
    | some a, some b => decide (b.off < a.off + a.pad)
    | _, _ => false
  if rsv || bad || order then none else some l

/-- An admitted collective that waits for a peer's data or FREE parks; the answer is none where no token is free for it
(05, R136, R137). -/
def collPark (t die : Nat) (s : State) : Option State :=
  if (s.collLacks t).isNone then some s
  else (takeToken t die s).map fun r => releaseUnit t (setTask t (fun k => { k with phase := .parked }) r.2)

/-- The engine admits a task: it takes its sequence number, reads its segments and checks what they decide. A segment
table under repair leaves it in its queue (`s0`); none where it would park and no token is free. -/
def collAdmit (t die : Nat) (k : Task) (c : Comm) (s0 : State) : Option State :=
  let d := k.desc
  let id := d.cgroup
  let n := c.ranks.length
  let num := c.count
  let s := setComm id (fun c => { c with count := c.count + 1 }) (startTask t (endWait t s0))
  let s := setTask t (fun k => { k with
    phase := .running, deadline := if c.timeoutUs = 0 then 0 else s.cyc + 1000 * c.timeoutUs }) s
  let openWith := fun (l : List Seg) (s : State) =>
    { s with fab := { s.fab with colls := s.fab.colls ++ [{ task := t, comm := id, die := die, num := num, segs := l }] } }
  match c.aborts.find? fun a => a.1 == num % 65536 with
  | some (_, who) => some (collFail t Ts.aborted who (openWith [] s))
  | none =>
    let (got, s) := if d.cseg = 0 then (Got.ok [], s)
      else
        match s.taskFault .ephemeris d.cseg (16 * n) with
        | some _ => (Got.ok [], s)
        | none => taskRead die d.cseg (16 * n) s
    match got with
    | .held page => some (setTask t (fun k => { k with heldBy := some page }) (taskRead die d.cseg (16 * n) s0).2)
    | .poison a => some (collFail t Ts.poisoned a (openWith [] s))
    | .ok bs =>
      match s.taskFault .ephemeris d.cseg (if d.cseg = 0 then 0 else 16 * n) with
      | some (f, x) =>
        some (collFail t (match f with | .reserved => Ts.addrReserved | .denied => Ts.addrDenied) x (openWith [] s))
      | none =>
        match if d.cseg = 0 then some (d.uniform n) else segTable bs n (esizeOf d.cfmt) with
        | none => some (collFail t Ts.descFieldInvalid 384 (openWith [] s))
        | some l =>
          let (sn, dn) := d.cext l c.own
          match (collAddrs s d sn dn ++ [collFits d l c.own c.slot64k]).findSome? (firstOf 0 false) with
          | some (st, det) => some (collFail t st det (openWith [] s))
          | none => collPark t die (collPump t (openWith l s))

/-- A COLLECTIVE of the next epoch waits in its unit queue until SWITCH_LAYOUT makes that epoch current (R325). -/
def State.awaitsSwitch (s : State) (k : Task) : Bool :=
  (kvFind k.desc.cgroup s.fab.comms).any fun c => k.desc.cepoch == (c.epoch + 1) % 65536

/-- One task that the engine takes from its queue: rejected, admitted, or left for want of a token (none). -/
def collTry (t die : Nat) (k : Task) (s : State) : Option State :=
  match kvFind k.desc.cgroup s.fab.comms with
  | none => some (rejectTask t Ts.descFieldInvalid 368 s)
  | some c =>
    if c.stale then some (rejectTask t Ts.descFieldInvalid 368 s)
    else if k.desc.cepoch ≠ c.epoch then some (rejectTask t Ts.descFieldInvalid 352 s)
    else collAdmit t die k c s

/-- The engine of a die takes the next task of its unit queue that satisfies `f`: the oldest of each communicator, of
these the one that R127 chooses. At most 16 hold a place on the module (R329; 05, R136). -/
def collTake : Nat → Nat → (Nat × Task → Bool) → State → State
  | 0, _, _, s => s
  | n + 1, die, f, s =>
    let mine := s.mer.tasks.filter fun p =>
      p.2.desc.type == 8 && p.2.loc == die && p.2.phase == .admitted && !s.awaitsSwitch p.2
    let ready := mine.filter fun p =>
      !(mine.any fun q => q.2.desc.cgroup == p.2.desc.cgroup && decide (q.2.age < p.2.age)) && f p
    if s.inCompute ∨ s.fab.colls.countP (fun x => (s.task x.task).any Task.busy) ≥ 16 then s
    else
      match s.unitChoose (66 + die) ready with
      | none => s
      | some (t, k) =>
        match collTry t die k s with
        | some s => s
        | none => collTake n die (fun p => f p && p.1 != t) (waitToken t s)

/-- Tasks in a collective engine's queue. -/
def State.collQueued (s : State) : Nat := s.mer.tasks.countP fun p => p.2.desc.type == 8 && p.2.phase == .admitted

/-- COLLECTIVE_TASK (R329): the engine of a die goes on with its open collectives and takes its next task. -/
def execCollectiveTask (die : Fin 2) (s : State) : Host.Outcome State Fault Refusal :=
  let s := collPumpAll (fun x => x.die == die.val) (collExpire (chargeAll s))
  finish (collTake (s.collQueued + 1) die.val (fun _ => true) s)

/-- The COLLECTIVEs that waited for the epoch of a communicator are admitted (R336). -/
def admitEpoch (id : Nat) (s : State) : State :=
  (List.range (s.collQueued + 1)).foldl (fun s i =>
    collTake (s.collQueued + 1) (i % 2) (fun p => p.2.desc.cgroup == id)
      (collTake (s.collQueued + 1) ((i + 1) % 2) (fun p => p.2.desc.cgroup == id) s)) s

/-- SWITCH_LAYOUT (R336): the new record is installed, and the COLLECTIVEs that wait for its epoch are admitted. -/
def execSwitchLayout (m : Fin 16) (s : State) : Host.Outcome State Fault Refusal :=
  mbxCommand 0x050A anyArgs m (fun a s =>
    let id := bits (a.n 0) 11 0
    let e := bits (a.n 0) 31 16
    match kvFind id s.fab.comms with
    | none => .done St.commArgInvalid [] s
    | some c =>
      if e ≠ (c.epoch + 1) % 65536 then .done St.commArgInvalid [] s
      else
        match readComm (a.n 1) (fun i _ => i == id) s with
        | .inr r => r
        | .inl (_, n, s) =>
          if s.collOpen id || (!c.stale && !c.owed.isEmpty) then .done St.commBusy [] s
          else .done St.ok [] (admitEpoch id (chargeAll (count .switches 0 1 (setComm id (fun _ => { n with epoch := e }) s))))) s

/-! Injection (13, R316; 05, R136, R139, R140). -/

/-- The packet of this module that leaves next: the first of each task and those of no task stand in line; one of a lent
holder of credits goes before the oldest for which there are credits. -/
def State.nextInject (s : State) : Option Inject :=
  let line := s.fab.inject.filter fun x =>
    x.task.isNone || (s.fab.inject.find? fun y => y.task == x.task) == some x
  match line.find? fun x => (s.mer.lends.any fun l => l.credit.isSome && x.task == some l.holder) && s.injectRoom x with
  | some x => some x
  | none => line.find? s.injectRoom

/-- PACKET_INJECT (13, R316): the next packet of this module goes to its port. After the last one of a task its unit is
free, and a collective may be complete (R333). -/
def execPacketInject (s : State) : Host.Outcome State Fault Refusal :=
  let s := collExpire (chargeAll s)
  match s.nextInject with
  | none => finish s
  | some x =>
    let s := injectPkt x { s with fab := { s.fab with
      inject := s.fab.inject.erase x
      asked := if x.pkt.typ = .readReq then s.fab.asked ++ [(x.pkt.dst, x.pkt.addr, s.cyc)] else s.fab.asked } }
    match x.task with
    | none => finish s
    | some t =>
      let of := (s.fab.colls.find? fun y => y.task == t).map Coll.comm
      finish (endCreditLends (collPumpAll (fun y => some y.comm == of) (releaseUnit t s)))

/-! Arrivals (R329, R331, R334, R337). -/

/-- A packet of a collective whose communicator is unknown or whose epoch is not current is discarded; else the
communicator. -/
def collFilter (i : Nat) (p : Packet) (s : State) : Option Comm × State :=
  let id := bits p.coll 63 52
  let e := bits p.coll 51 36
  let drop := fun (now : Nat) (die : Nat) (s : State) =>
    let s := count .epochDrop die 1 s
    let due := match kvFind id s.fab.lastEpoch with | some t => decide (s.cyc ≥ t + 1000000) | none => true
    if due then
      post Ev.collEpochMismatch [id, e, now] { s with fab := { s.fab with lastEpoch := kvSet id s.cyc s.fab.lastEpoch } }
    else s
  match kvFind id s.fab.comms with
  | none => (none, drop 0 (portDie i) s)
  | some c => if c.epoch = e then (some c, s) else (none, drop c.epoch (c.dieOf c.own) s)

/-- COLL_DATA_RECEIVED (R331): the chunk lands in memory, and the reduction or the gather goes on. -/
def execCollDataReceived (s : State) : Host.Outcome State Fault Refusal :=
  match takeIn (fun k => k.typ == .collData) (collExpire (chargeAll s)) with
  | none => finish s
  | some (i, p, s) =>
    match collFilter i p s with
    | (none, s) => finish s
    | (some c, s) =>
      let id := bits p.coll 63 52
      let seq := bits p.coll 35 20
      let q := bits p.coll 18 8
      let base := c.slotAt c.own seq
      match checkAccess .remote p.addr p.data.length with
      | some _ => finish s
      | none =>
        let s := count .rxLines (c.dieOf c.own) (p.data.length / 64) (devPut p.addr p.data s)
        let s := if base ≤ p.addr ∧ p.addr < base + c.slot64k * 65536 ∧ q < c.ranks.length ∧ q ≠ c.own then
            setComm id (fun c => { c with
              landed := c.landed ++ [(seq, bits p.coll 19 19, q, p.addr - base)] }) s
          else s
        finish (collPumpAll (fun x => x.comm == id) s)

/-- The collective two after sequence `seq` has completed here: a FREE of `seq` serves nothing any more (R329). -/
def State.freeUsed (s : State) (id seq : Nat) (c : Comm) : Bool :=
  let behind := (c.count + 2 * 65536 - (seq + 2)) % 65536
  decide (0 < behind ∧ behind ≤ 32768 ∧ behind ≤ c.count) &&
    !(s.fab.colls.any fun x => x.comm == id && x.num % 65536 == (seq + 2) % 65536)

/-- COLL_FREE_RECEIVED (R329). -/
def execCollFreeReceived (s : State) : Host.Outcome State Fault Refusal :=
  match takeIn (fun k => k.typ == .collCtrl && k.kind == 0x10) (collExpire (chargeAll s)) with
  | none => finish s
  | some (i, p, s) =>
    match collFilter i p s with
    | (none, s) => finish s
    | (some c, s) =>
      let id := bits p.coll 63 52
      let e := (bits p.coll 18 8, bits p.coll 35 20)
      let used := s.freeUsed id e.2 c
      let s := setComm id (fun c => { c with
        frees := if used || c.frees.contains e then c.frees else c.frees ++ [e]
        owed := c.owed.filter (· != e) }) s
      finish (collPumpAll (fun x => x.comm == id) s)

/-- COLL_ABORT_RECEIVED (R334). -/
def execCollAbortReceived (s : State) : Host.Outcome State Fault Refusal :=
  match takeIn (fun k => k.typ == .collCtrl && k.kind == 0x11) s with
  | none => finish s
  | some (i, p, s) =>
    match collFilter i p s with
    | (none, s) => finish s
    | (some c, s) =>
      let id := bits p.coll 63 52
      let seq := bits p.coll 35 20
      let s := count .abortsRx (c.dieOf c.own) 1 s
      match s.fab.colls.find? fun x => x.comm == id && x.num % 65536 == seq with
      | some x => finish (collFail x.task Ts.aborted p.src s)
      | none =>
        if (seq + 65536 - c.count % 65536) % 65536 < 32768 then
          finish (setComm id (fun c => { c with aborts := c.aborts ++ [(seq, p.src)] }) s)
        else finish s

/-- What stands at the engine's input completes what a collective lacks (R335). -/
def State.collArrives (s : State) (t : Nat) : Bool :=
  match s.coll t with
  | none => false
  | some (x, c, d) =>
    let mine := (s.fab.inbox.map Prod.snd).filter fun p =>
      bits p.coll 63 52 == x.comm && bits p.coll 51 36 == c.epoch && (p.typ == .collData || p.typ == .collCtrl)
    let c := mine.foldl (fun c p =>
      if p.typ == .collData then { c with landed := c.landed ++
          [(bits p.coll 35 20, bits p.coll 19 19, bits p.coll 18 8, p.addr - c.slotAt c.own (bits p.coll 35 20))] }
      else if p.kind == 0x10 then { c with frees := c.frees ++ [(bits p.coll 18 8, bits p.coll 35 20)] }
      else c) c
    (collLack x c d).isNone

/-- COLLECTIVE_TIMEOUT (R335): in the cycle of the expiry itself the arrival of what it lacks, at the engine's input, wins. -/
def execCollectiveTimeout (t : Nat) (s : State) : Host.Outcome State Fault Refusal :=
  if !s.collOver t false then finish s
  else if !s.collOver t true ∧ (s.collLacks t).isSome ∧ s.collArrives t then finish s
  else finish (collTimeout t (chargeAll s))

end Sys2Proof.Machine
end

