-- ==== Sys2Proof/Machine/Import.lean ====
section
/-!
DEFINITION. IMPORT_WEIGHTS (15, R367, R368) and the timeout of a mailbox command (16, R386).
-/

namespace Sys2Proof.Machine

/-- The header of a sealed container (Table 15-14): its eight words. -/
def containerOk (w : List Nat) : Bool :=
  let q := fun i => w.getD i 0
  q 0 % 2 ^ 32 == 0x5357575A && bits (q 0) 47 32 == 0x0402 && bits (q 0) 63 48 == 0 &&
  q 4 == 0 && q 5 == 0 && q 6 == 0 && q 7 == 0

/-- The chunks of a plaintext, and the bytes of its container. -/
def sealedChunks (length : Nat) : Nat := (length + 65535) / 65536
def containerBytes (length : Nat) : Nat := 64 + length + 16 * sealedChunks length

/-- The bytes of chunk `i`. -/
def chunkBytes (length i : Nat) : Nat := Nat.min 65536 (length - 65536 * i)

/-- The buffer check of the container, which may lie in the host window in TENANT_BOUNCE too (16, R385, step 7). -/
def containerCheck (a n : Nat) (s : State) : Option (Nat × Nat) :=
  if regionOf a = some .hostWin ∧ a + n ≤ Region.hostWin.hi then none else bufCheck a n 1 s

/-- The buffer check of the destination: aligned to 64 KiB, in a DRAM tier. -/
def destCheck (a : Nat) (s : State) : Option (Nat × Nat) :=
  match bufCheck a 64 65536 s with
  | some f => some f
  | none => if inDram a then none else some (St.addrDenied, a)

/-- The header checks of R368 against slot `k`, in its order: the status of the first that fails. -/
def importHeader (k src dest : Nat) (w : List Nat) (s : State) : Option Nat :=
  let q := fun i => w.getD i 0
  let keyId := q 1 % 2 ^ 32
  let length := q 3
  let n := containerBytes length
  let held := match kvFind k s.sec.keys with
    | some x => !x.storage && x.keyId == keyId
    | none => false
  if !containerOk w then some St.importHeaderInvalid
  else if !held then some St.importKeyMismatch
  else if length % 64 ≠ 0 ∨ bits (q 1) 63 32 ≠ sealedChunks length then some St.importHeaderInvalid
  else if (match regionOf dest with | some r => decide (dest + length > r.hi) | none => true) then some St.importHeaderInvalid
  else if src < dest + length ∧ dest < src + n then some St.importHeaderInvalid
  else none

/-- IMPORT_WEIGHTS. -/
def execImportWeights (m : Fin 16) (s : State) : Host.Outcome State Fault Refusal :=
  mbxCommand 0x0601 anyArgs m (fun a s =>
    let src := a.n 1
    let dest := a.n 2
    match containerCheck src 64 s with
    | some f => bufFault f s
    | none =>
      match destCheck dest s with
      | some f => bufFault f s
      | none =>
        let (p, bs, s) := devRead src 64 s
        let w := bytesWords bs
        let length := w.getD 3 0
        match p with
        | some _ => .done St.poisoned [] s
        | none =>
          match importHeader (a.n 0) src dest w s with
          | some st => .done st [] s
          | none =>
            match containerCheck src (containerBytes length) s with
            | some f => bufFault f s
            | none =>
              if length = 0 then .done St.ok [0] s
              else .run { s with sec := { s.sec with
                importing := some ⟨m.val, src, dest, w.getD 2 0, length, sealedChunks length, 0⟩ } }) s

/-- An import ends. -/
def importEnd (x : Import) (st : Nat) (res : List Nat) (s : State) : State :=
  let s := { s with sec := { s.sec with importing := none } }
  if h : x.mbx < 16 then (if mbxRuns 0x0601 ⟨x.mbx, h⟩ s then mbxComplete ⟨x.mbx, h⟩ st res s else s) else s

/-- The next chunk has verified: it is written, and the last one completes the command. -/
def importChunk (x : Import) (bs : List Byte) (s : State) : State :=
  let s := devPut (x.dest + 65536 * x.next) bs s
  let s := count .importBytes 0 bs.length s
  let x := { x with next := x.next + 1 }
  let s := setProgress x.mbx x.next { s with sec := { s.sec with importing := some x } }
  if x.next = x.chunks then importEnd x St.ok [x.next] s else s

/-- IMPORT_CHUNK_DONE (R368): the next chunk's tag verifies, with its plaintext, or fails. A plaintext of another length
is not the next chunk's, and its row changes nothing (log entries 2 and 96). -/
def execImportChunkDone (ok : Bool) (bs : List Byte) (s : State) : Host.Outcome State Fault Refusal :=
  match s.sec.importing with
  | none => finish s
  | some x =>
    let n := chunkBytes x.length x.next
    if !s.almanacUp || (ok && bs.length != n) || s.memBusy (x.dest + 65536 * x.next) n then finish s
    else
      let (p, _, s) := devRead (x.src + 64 + 65552 * x.next) (n + 16) s
      match p with
      | some _ => finish (importEnd x St.poisoned [x.next, x.next] s)
      | none =>
        if ok then finish (importChunk x bs s)
        else finish (count .importTagFail 0 1 (importEnd x St.importTagFail [x.next, x.next] s))

/-- What a long command that times out leaves running is stopped, where the block runs it: an import, a checkpoint
write or restore. Fills, tests and resets go on to their ends (log entry 103). -/
def cancelLong (op : Nat) (s : State) : State :=
  match op with
  | 0x0601 => { s with sec := { s.sec with importing := none } }
  | 0x0801 => ckptDrop s
  | 0x0802 => setStore (fun x => { x with restore := none }) s
  | _ => s

/-- MAILBOX_COMMAND_TIMEOUT (16, R386): mailbox `m` has been busy for its command's T. -/
def execMailboxCommandTimeout (m : Fin 16) (s : State) : Host.Outcome State Fault Refusal :=
  let x := s.mailbox m
  match cmdSpec x.accOp with
  | none => finish s
  | some c =>
    if s.almanacUp && x.st == .busy && decide (x.accAt + 1000 * c.t ≤ s.cyc) then
      let s := if x.started then cancelLong x.accOp s else s
      finish (mbxComplete m St.timeout [if x.started then x.progress else 0] s)
    else finish s

end Sys2Proof.Machine
end

