-- ==== Sys2Proof/Machine/Power.lean ====
section
/-!
DEFINITION. Chapter 21: power-up and power-down, the power controller, the cages, the management port.
-/

namespace Sys2Proof.Machine

/-! Power-up and power-down (21, R512–R515, R520). -/

/-- A power-down trigger (21, R508, R515, R520): the cause is latched, PWR_GOOD goes low and CLKREQ# is released. -/
def powerTrigger (c : ShutCause) (s : State) : State :=
  if s.pow.rails = .up ∨ s.pow.rails = .on then
    alertPin s.alert <| emit (.pin "CLKREQ#" 1) <| emit (.pin "PWR_GOOD" 0) { s with pow := { s.pow with latched := c, rails := .down, pwrGood := false, shutAt := none } }
  else s

/-- The main rails have fallen: every content of the powered domain is lost. They return at once where nothing keeps them
off (21, R515). -/
def railsFallen (s : State) : State :=
  let s := fullReset s
  let s := { s with pow := { s.pow with rails := .standby, pwrGood := false } }
  tryRails { s with pow := { s.pow with cycle := false, commanded := s.pow.commanded && !s.pow.cycle } }

/-- POWER_DOWN (21, R515, R520): the rails of a triggered power-down fall; a shutdown for POWER or TEMPERATURE powers
down 100 µs after it was found. -/
def execPowerDown (s : State) : Host.Outcome State Fault Refusal :=
  match s.pow.shutAt with
  | some t =>
    if s.cyc ≥ t + 100000 then finish (railsFallen (powerTrigger s.pow.latched s)) else finish s
  | none => if s.pow.rails = .down then finish (railsFallen s) else finish s

/-- PROTECTIVE_SHUTDOWN (21, R520) with its cause, and the kind, index and value of the sensor behind it. -/
def execProtectiveShutdown (cause kind index value : Nat) (s : State) : Host.Outcome State Fault Refusal :=
  let c : ShutCause := ⟨cause, kind, index, value⟩
  if s.pow.rails ≠ .on ∧ s.pow.rails ≠ .up then finish s
  else if s.pow.shutAt.isSome then finish s
  else if cause = 5 ∨ cause = 6 then
    finish (alertPin s.alert <| post Ev.protectiveShutdown [cause, kind, index, value]
      { s with pow := { s.pow with shutAt := some s.cyc, latched := c, active := cause == 6 } })
  else if 1 ≤ cause ∧ cause ≤ 8 then finish (powerTrigger c s)
  else finish s

/-- PWR_EN_CHANGE (21, R515). -/
def execPwrEnChange (high : Bool) (s : State) : Host.Outcome State Fault Refusal :=
  let s := { s with pow := { s.pow with pwrEn := high } }
  if high then finish (tryRails s) else finish (powerTrigger ⟨7, 0, 0, 0⟩ s)

/-- MAIN_POWER_CHANGE (21, R512, Table 21-8): MAIN_54V in mV and how long it has held, in ns. -/
def execMainPowerChange (mv held : Nat) (s : State) : Host.Outcome State Fault Refusal :=
  let s := { s with pow := { s.pow with mainMv := mv } }
  if mv < 38000 ∨ (mv < 42000 ∧ held ≥ 1000000) then finish (powerTrigger ⟨1, 0, 0, mv⟩ s)
  else if mv > 62000 ∧ held ≥ 100000 then finish (powerTrigger ⟨2, 0, 0, mv⟩ s)
  else finish (tryRails s)

/-- AUX_POWER_UP (21, R514, Table 21-10 step 1): AUX_54V in mV. -/
def execAuxPowerUp (mv : Nat) (s : State) : Host.Outcome State Fault Refusal :=
  if !s.pow.auxUp && inRange mv then finish (tryRails { s with pow := { s.pow with auxUp := true, auxMv := mv } })
  else finish s

/-- AUX_POWER_LOSS (21, R515, R530): the whole module is powered down, the hardware status record with it. What lies
in flash, the firmware images and what is plugged in stay. -/
def execAuxPowerLoss (s : State) : Host.Outcome State Fault Refusal :=
  let p := s.pow
  let s := fullReset s
  finish { s with pow := { ({} : Power) with
    mainMv := p.mainMv, pwrEn := p.pwrEn, perst := p.perst, flashB := p.flashB, imageA := p.imageA, imageB := p.imageB
    cages := p.cages } }

/-- MAIN_RAILS_UP (21, R514, Table 21-10 step 3): PWR_GOOD is released, and the latched cause clears (R520). -/
def execMainRailsUp (s : State) : Host.Outcome State Fault Refusal :=
  if s.pow.rails = .up then
    finish (alertPin s.alert <| emit (.pin "PWR_GOOD" 1) <| emit (.pin "CLKREQ#" 0)
      { s with pow := { s.pow with rails := .on, pwrGood := true, latched := {} } })
  else finish s

/-- CAGE_MODULE_INSERT (21, R510): a pluggable module of the given declared power, in mW. -/
def execCageModuleInsert (port : Fin 30) (mw : Nat) (s : State) : Host.Outcome State Fault Refusal :=
  if !s.pow.auxUp then finish s
  else
    let s := { s with pow := { s.pow with cages := kvSet port.val mw s.pow.cages } }
    if mw > 12000 then finish (post Ev.cagePowerRefused [port.val, mw] s) else finish s

/-! The power controller (21, R516–R518). -/

/-- SET_POWER_LIMIT (21, R516). -/
def execSetPowerLimit (m : Fin 16) (s : State) : Host.Outcome State Fault Refusal :=
  mbxCommand 0x0A06 anyArgs m (fun a s =>
    let lim := a.n 0
    let ceil := a.n 1
    if lim < 1200 ∨ lim > 2600 ∨ ceil < 900 ∨ ceil > 2050 ∨ ceil % 25 ≠ 0 then .done St.argInvalid [] s
    else .done St.ok [] { s with pow := { s.pow with limit := lim, ceil := ceil } }) s

/-- The lowest temperature sensor 0–35 at its warning limit (R517). -/
def State.warmSensor (s : State) : Option Nat :=
  (List.range 36).find? fun i => (kvGet ({} : Sensor) (768 + i) s.sens.sensors).overWarning

/-- T and `good` after a sample `p` in mW (R517). -/
def controlTarget (x : Power) (p : Int) (warm : Bool) : Nat × Nat :=
  let lim : Int := 1000 * x.limit
  let (t, g) :=
    if decide (p > lim) || warm then ((if x.target > 900 then x.target - 25 else x.target), 0)
    else if p ≤ lim - 40000 then
      if x.good + 1 ≥ 10 ∧ x.target < x.ceil then (x.target + 25, 0) else (x.target, x.good + 1)
    else (x.target, 0)
  (min t x.ceil, g)

/-- POWER_CONTROL_SAMPLE (21, R517, R518): a sample of power sensor 0, from readiness on. -/
def execPowerControlSample (s : State) : Host.Outcome State Fault Refusal :=
  let x := kvGet ({} : Sensor) 512 s.sens.sensors
  if !s.powered || !s.boot.ready || !x.valid then finish s
  else
    let p := x.value
    let warm := s.warmSensor
    let lim := 1000 * s.pow.limit
    let (t, g) := controlTarget s.pow p warm.isSome
    let was := s.pow.belowAt
    let fell := t < s.pow.ceil ∧ was.isNone ∧ t < s.pow.target
    let excess := decide (p > (lim : Int)) && t == 900
    let unmet := if excess then s.pow.unmet + 1 else 0
    let usum := if excess then s.pow.unmetSum + p.toNat else 0
    let s := { s with pow := { s.pow with target := t, good := g, cclk := t, unmet := unmet, unmetSum := usum } }
    let s :=
      if fell then
        let s := { s with pow := { s.pow with belowAt := some s.cyc } }
        match warm with
        | some i => post Ev.thermalThrottle [t, i, sword (kvGet ({} : Sensor) (768 + i) s.sens.sensors).value] s
        | none => post Ev.powerLimited [t, sword p, lim] s
      else match was with
        | some t0 =>
          if t ≥ s.pow.ceil then
            post Ev.throttleCleared [s.cyc - t0] { s with pow := { s.pow with belowAt := none, unmetPosted := false } }
          else s
        | none => s
    let s :=
      if unmet ≥ 100 then
        let s1 := if s.pow.unmetPosted then s else
          post Ev.powerLimitUnmet [usum / 100, lim] { s with pow := { s.pow with unmetPosted := true } }
        { s1 with pow := { s1.pow with unmet := 0, unmetSum := 0 } }
      else s
    finish s

/-! The management port: MCTP control messages (21, R524). -/

/-- A response of the management port: it answers whenever AUX_54V is in range. -/
def mctpReply (req : String) (code : Nat) (body : List Byte) (s : State) : State :=
  if s.pow.auxUp then emit (.mctp req code body) s else s

/-- SET_ENDPOINT_ID (21, R524): the endpoint id assigned. An id of 0 or 0xFF is invalid data (DSP0236). -/
def execSetEndpointId (eid : Nat) (s : State) : Host.Outcome State Fault Refusal :=
  if !s.pow.auxUp then finish s
  else if eid = 0 ∨ eid ≥ 0xFF then finish (mctpReply "Set Endpoint ID" 2 [] s)
  else finish (mctpReply "Set Endpoint ID" 0 (leBytes 1 eid) { s with pow := { s.pow with eid := eid } })

/-- GET_ENDPOINT_ID (21, R524). -/
def execGetEndpointId (s : State) : Host.Outcome State Fault Refusal :=
  finish (mctpReply "Get Endpoint ID" 0 (leBytes 1 s.pow.eid) s)

/-- GET_MCTP_VERSION_SUPPORT (21, R524): the bytes are DSP0236's (log entry 33). -/
def execGetMctpVersionSupport (msgType : Nat) (s : State) : Host.Outcome State Fault Refusal :=
  finish (mctpReply "Get MCTP Version Support" 0 ((List.range 5).map fun i => Config.spdmByte (1000 + msgType) i) s)

/-- GET_MESSAGE_TYPE_SUPPORT (21, R524): vendor defined, PCI, alone beside control. -/
def execGetMessageTypeSupport (s : State) : Host.Outcome State Fault Refusal :=
  finish (mctpReply "Get Message Type Support" 0 [1, 0x7E] s)

/-- GET_VENDOR_MESSAGE_SUPPORT (21, R524, R525): vendor id 0x1F8E in DSP0236 byte order. -/
def execGetVendorMessageSupport (s : State) : Host.Outcome State Fault Refusal :=
  finish (mctpReply "Get Vendor Defined Message Support" 0 [0x1F, 0x8E] s)

/-! The Zorwitra messages (21, R525–R528). -/

/-- Statuses of R525. -/
def mpOk := 0
def mpInvalid := 1
def mpState := 2
def mpBusy := 3
def mpRefused := 4
def mpVerifyFailed := 5
def mpNotPowered := 6

/-- A Zorwitra message: none is answered without auxiliary power; a non-zero reserved byte gives INVALID; otherwise
the message's own part answers a status and results. The response echoes the tag. -/
def mpMessage (req : String) (tag : W16) (rsv : Nat) (body : State → Nat × List Byte × State) (s : State) :
    Host.Outcome State Fault Refusal :=
  if !s.pow.auxUp then finish s
  else
    let (st, res, s) := if rsv ≠ 0 then (mpInvalid, [], s) else body s
    finish (mctpReply req st (leBytes 2 tag.toNat ++ res) s)

/-- Change the management port's fields, and say so where they change (21, Table 21-17). -/
def setPort (owner now : Bool) (s : State) : State :=
  let p := s.pow
  let s' := { s with pow := { p with mpOwner := owner, mpNow := now, mpEver := p.mpEver || now } }
  if p.mpOwner == owner && p.mpNow == now then s' else post Ev.mgmtPortChanged [b2n owner, b2n now] s'

/-- ENABLE_PORT (21, R527). -/
def execEnablePort (tag : W16) (rsv : Nat) (s : State) : Host.Outcome State Fault Refusal :=
  mpMessage "ENABLE_PORT" tag rsv (fun s =>
    if (s.mailbox 15).st = .busy then (mpBusy, [], s)
    else if !s.powered then (mpNotPowered, [], s)
    else (mpOk, [], setPort true s.pow.mpNow s)) s

/-- DISABLE_PORT (21, R527). -/
def execDisablePort (tag : W16) (rsv : Nat) (s : State) : Host.Outcome State Fault Refusal :=
  mpMessage "DISABLE_PORT" tag rsv (fun s =>
    if (s.mailbox 15).st = .busy then (mpBusy, [], s) else (mpOk, [], digestStep (setPort false false) s)) s

/-- REG_READ (21, R526, R527). -/
def execRegRead (tag : W16) (rsv off : Nat) (s : State) : Host.Outcome State Fault Refusal :=
  mpMessage "REG_READ" tag rsv (fun s =>
    if !((0x0F00 ≤ off && off ≤ 0x0FFF) || (0x1000 ≤ off && off ≤ 0x1068)) then (mpInvalid, [], s)
    else if !s.powered then (mpNotPowered, [], s)
    else (mpOk, leBytes 8 (s.page0Bytes off), s)) s

/-- REG_WRITE (21, R527): a write of mailbox 15. A write that is not aligned to its 64-bit register is INVALID (log
entry 34). -/
def execRegWrite (tag : W16) (rsv off : Nat) (value : W64) (s : State) : Host.Outcome State Fault Refusal :=
  mpMessage "REG_WRITE" tag rsv (fun s =>
    if !(0x0F00 ≤ off && off ≤ 0x0FFF) || !aligned off 8 then (mpInvalid, [], s)
    else if !s.pow.mpOwner then (mpState, [], s)
    else if off = 0x0F48 then (mpOk, [], mbxDoorbell 15 value.toNat true s)
    else (mpOk, [], mbxRegWrite 15 (off % 0x100) 8 value.toNat s)) s

/-- READ_HW_STATUS (21, R526, Table 21-15). -/
def execReadHwStatus (tag : W16) (rsv : Nat) (s : State) : Host.Outcome State Fault Refusal :=
  mpMessage "READ_HW_STATUS" tag rsv (fun s => (mpOk, wordBytes s.hwStatus, s)) s

/-- POWER_CONTROL with 0 (21, R527): off acts as PWR_EN low. -/
def execPowerControlOff (tag : W16) (rsv : Nat) (s : State) : Host.Outcome State Fault Refusal :=
  mpMessage "POWER_CONTROL" tag rsv (fun s =>
    (mpOk, [], powerTrigger ⟨8, 0, 0, 0⟩ { s with pow := { s.pow with commanded := true } })) s

/-- POWER_CONTROL with 1 (21, R527): clears the COMMANDED latch and permits the main rails. -/
def execPowerControlOn (tag : W16) (rsv : Nat) (s : State) : Host.Outcome State Fault Refusal :=
  mpMessage "POWER_CONTROL" tag rsv (fun s =>
    (mpOk, [], tryRails { s with pow := { s.pow with commanded := false, cycle := false } })) s

/-- POWER_CONTROL with 2 (21, R526): off, then on. -/
def execPowerControlCycle (tag : W16) (rsv : Nat) (s : State) : Host.Outcome State Fault Refusal :=
  mpMessage "POWER_CONTROL" tag rsv (fun s =>
    if s.pow.rails = .up ∨ s.pow.rails = .on then
      (mpOk, [], powerTrigger ⟨8, 0, 0, 0⟩ { s with pow := { s.pow with commanded := true, cycle := true } })
    else (mpOk, [], tryRails { s with pow := { s.pow with commanded := false, cycle := s.pow.rails == .down } })) s

/-- FW_WRITE (21, R528): 1,024 bytes of image B. What verification would read of it is known at FW_COMMIT (log entry
35). -/
def execFwWrite (tag : W16) (rsv off : Nat) (bytes : List Byte) (s : State) : Host.Outcome State Fault Refusal :=
  mpMessage "FW_WRITE" tag rsv (fun s =>
    if !aligned off 1024 || decide (off ≥ 2 ^ 24) || bytes.length != 1024 then (mpInvalid, [], s)
    else if s.debugShut then (mpRefused, [], s)
    else (mpOk, [], { s with pow := { s.pow with flashB := Memory.write s.pow.flashB off bytes, imageB := none } })) s

/-- FW_COMMIT (21, R528): `image` is what verification reads of image B, none where its signature fails. -/
def execFwCommit (tag : W16) (rsv size : Nat) (image : Option (Nat × Nat)) (s : State) :
    Host.Outcome State Fault Refusal :=
  mpMessage "FW_COMMIT" tag rsv (fun s =>
    if s.debugShut then (mpRefused, [], s)
    else if size > 2 ^ 24 then (mpInvalid, [], s)
    else match image with
      | none => (mpVerifyFailed, [], { s with pow := { s.pow with imageB := none } })
      | some (v, svn) =>
        if svn < Config.svn.toNat then (mpVerifyFailed, [], { s with pow := { s.pow with imageB := none } })
        else
          let s := { s with pow := { s.pow with imageA := some ⟨v, svn⟩, imageB := some ⟨v, svn⟩ } }
          (mpOk, leBytes 8 (svn % 2 ^ 32 + v % 2 ^ 32 * 2 ^ 32), post Ev.firmwareStaged [v, svn] s)) s

/-- MEM_ACCESS with 1 (21, R526, R527). -/
def execMemAccessEnable (tag : W16) (rsv : Nat) (s : State) : Host.Outcome State Fault Refusal :=
  mpMessage "MEM_ACCESS" tag rsv (fun s =>
    if s.debugShut || Config.fuseLocked then (mpRefused, [], s)
    else (mpOk, [], digestStep (setPort s.pow.mpOwner true) s)) s

/-- MEM_ACCESS with 0 (21, R527). -/
def execMemAccessDisable (tag : W16) (rsv : Nat) (s : State) : Host.Outcome State Fault Refusal :=
  mpMessage "MEM_ACCESS" tag rsv (fun s => (mpOk, [], digestStep (setPort s.pow.mpOwner false) s)) s

/-- May the management port reach 64 bytes at an address (21, Table 21-16)? Semaphore words for a write (R527). -/
def mpReach (write : Bool) (a : Nat) : Bool :=
  aligned a 64 && ((checkAccess .host a 64).isNone || (write && regionOf a == some .sems))

/-- MEM_READ (21, R526): 64 bytes of device memory. A poisoned address reads its stored bytes (log entry 36). -/
def execMemRead (tag : W16) (rsv adr : Nat) (s : State) : Host.Outcome State Fault Refusal :=
  mpMessage "MEM_READ" tag rsv (fun s =>
    if !s.pow.mpNow then (mpState, [], s)
    else if !mpReach false adr then (mpInvalid, [], s)
    else if !s.powered then (mpNotPowered, [], s)
    else
      let (_, bs, s) := devRead adr 64 s
      (mpOk, bs, s)) s

/-- MEM_WRITE (21, R527): 64 bytes of device memory, as an Almanac write. -/
def execMemWrite (tag : W16) (rsv adr : Nat) (bytes : List Byte) (s : State) : Host.Outcome State Fault Refusal :=
  mpMessage "MEM_WRITE" tag rsv (fun s =>
    if !s.pow.mpNow then (mpState, [], s)
    else if !mpReach true adr || bytes.length != 64 then (mpInvalid, [], s)
    else if !s.powered then (mpNotPowered, [], s)
    else (mpOk, [], devPut adr bytes s)) s

/-- JTAG_UNLOCK (21, R509; 15, Table 15-10): JTAG is unlocked or relocked, as the fuses and the mode allow. -/
def execJtagUnlock (unlock : Bool) (s : State) : Host.Outcome State Fault Refusal :=
  if unlock && (Config.fuseLocked || s.debugShut || !s.pow.auxUp) then finish s
  else finish (digestStep (fun s =>
    { s with sec := { s.sec with jtagNow := unlock, jtagEver := s.sec.jtagEver || unlock } }) s)

end Sys2Proof.Machine
end

