-- ==== Sys2Proof/Machine/Reliab.lean ====
section
/-!
DEFINITION. Error protection, Survey and replica repair (17).
-/

namespace Sys2Proof.Machine

/-! Commands. -/

/-- SET_SCRUB_RATE (R409). -/
def execSetScrubRate (m : Fin 16) (s : State) : Host.Outcome State Fault Refusal :=
  mbxCommand 0x0701 anyArgs m (fun a s =>
    let n := bits (a.n 0) 31 0
    if n ≠ 0 ∧ (n < 3600 ∨ n > 2592000) then .done St.argInvalid [] s
    else .done St.ok [] { s with rel := { s.rel with
      scrubG := if bit (a.n 0) 32 then n else s.rel.scrubG
      scrubL := if bit (a.n 0) 33 then n else s.rel.scrubL } }) s

/-- SET_FLIP_MASK (R422). -/
def execSetFlipMask (m : Fin 16) (s : State) : Host.Outcome State Fault Refusal :=
  mbxCommand 0x0702 anyArgs m (fun a s =>
    let target := bits (a.n 0) 11 9
    let tier := bits (a.n 0) 8 8
    let ch := bits (a.n 0) 7 0
    if target ≥ 4 ∨ (tier = 1 ∧ ch ≥ 64) then .done St.argInvalid [] s
    else
      let k := 256 * tier + ch
      .done St.ok [] { s with rel := { s.rel with
        flips := if a.n 1 = 0 then kvDel k s.rel.flips else kvSet k (target, a.n 1) s.rel.flips } }) s

/-- An error record (Table 17-6). -/
def ErrRec.bytes (e : ErrRec) : List Byte :=
  wordBytes [e.unit % 65536 + e.frame % 2 ^ 32 * 2 ^ 16 + e.action * 2 ^ 48 + e.wher * 2 ^ 56,
    e.detail % 2 ^ 32 + e.code * 2 ^ 48, e.addr, e.time]

/-- READ_ERROR_LOG (R423). -/
def execReadErrorLog (m : Fin 16) (s : State) : Host.Outcome State Fault Refusal :=
  mbxCommand 0x0703 anyArgs m (fun a s =>
    let oldest := s.rel.logNext - s.rel.log.length
    let bs := (s.rel.log.drop (a.n 0 - oldest)).flatMap ErrRec.bytes
    replyBytes (a.n 1) (a.n 2) 1 bs [oldest] s) s

/-- A repair-map entry of eight words; none where a bit or value breaks Table 17-4. -/
def repairEntry (w : List Nat) : Option RepairEntry :=
  let q := fun i => w.getD i 0
  let base := bits (q 0) 51 0
  let pages := bits (q 1) 63 32
  let kind := bits (q 0) 63 62
  let r : Region := if base < 0x10000000000 then .gddr7 else .lpddr
  let bad := q 5 != 0 || q 6 != 0 || q 7 != 0 || bits (q 4) 63 32 != 0 || bits (q 1) 31 14 != 0 ||
    bits (q 0) 60 52 != 0 || kind == 3 || pages == 0 || !aligned base 2048 || !inDram base ||
    decide (base + 2048 * pages > r.hi) || bits (q 2) 63 62 != 0
  if bad then none
  else some { base := base, abort := bit (q 0) 61, kind := kind, vsem := bits (q 1) 13 0, pages := pages
              peer := q 2, gen := q 3, sver := bits (q 4) 31 0 }

/-- Entries rise and do not overlap (R416). -/
def repairOrdered : List RepairEntry → Bool
  | a :: b :: t => decide (a.base + 2048 * a.pages ≤ b.base) && repairOrdered (b :: t)
  | _ => true

/-- SET_REPAIR_MAP (R416). -/
def execSetRepairMap (m : Fin 16) (s : State) : Host.Outcome State Fault Refusal :=
  mbxCommand 0x0704 anyArgs m (fun a s =>
    let n := a.n 1
    if n > 4096 ∨ !aligned (a.n 0) 64 then .done St.argInvalid [] s
    else
      match bufCheck (a.n 0) (64 * n) 1 s with
      | some f => bufFault f s
      | none =>
        if regionOf (a.n 0) ≠ some .gddr7 then .done St.argInvalid [] s
        else
          let (p, bs, s) := devRead (a.n 0) (64 * n) s
          let w := bytesWords bs
          let es := (List.range n).map fun i => repairEntry ((w.drop (8 * i)).take 8)
          let ok := es.filterMap id
          if p.isSome then .done St.poisoned [] s
          else if ok.length < n ∨ !repairOrdered ok then .done St.argInvalid [] s
          else .done St.ok [] { s with rel := { s.rel with repairMap := ok } }) s

/-! Detection events. -/

/-- STRONG_CODE_DECISION (R403, R404): the page of an address has a sector that the light code and its tag do not serve,
or has lost a code-and-tag line. -/
def execStrongCodeDecision (a : Nat) (s : State) : Host.Outcome State Fault Refusal :=
  if !inDram a then finish s
  else
    let l := s.loc (a / 2048 * 2048)
    let bad := (List.range 8).any fun i =>
      !bit (s.frame l.frameKey).poison (8 * l.page + i) && !lightServes (kvGet [] (l.sectorKey + i) s.rel.errs)
    if s.rel.failed.contains l.chan || (!bad && s.lostTags l == []) then finish s else finish (strongDecision a s)

/-- CHANNEL_TRAINING_LOST (R410). -/
def execChannelTrainingLost (chan : Nat) (s : State) : Host.Outcome State Fault Refusal :=
  if chan < 320 then finish (failChannel chan 1 s) else finish s

/-- Every stream halts with cause POISONED. -/
def haltAll (s : State) : State :=
  s.mer.streams.foldl (fun s p => if p.2.halted then s else haltStream p.1 0 Ts.poisoned s) s

/-- BRIDGE_LANE_ERROR (R411; 01, R26): the first failed lane of a group is spared, lane 20 being the spare itself, which
carries nothing yet; with a second one the bridge has failed. -/
def execBridgeLaneError (die : Fin 2) (group : Fin 150) (lane : Fin 21) (s : State) : Host.Outcome State Fault Refusal :=
  let k := 256 * die.val + group.val
  match kvFind k s.rel.spared with
  | none =>
    let s := { s with rel := { s.rel with spared := kvSet k lane.val s.rel.spared } }
    if lane.val = 20 then finish s else
    let s := logErr ⟨s.now, 0, Ev.bridgeLaneSpared, die.val, 5, 6, 0, group.val⟩ s
    finish (post Ev.bridgeLaneSpared [die.val, group.val, lane.val] (count .lanesSpared die.val 1 s))
  | some l =>
    if l = lane.val ∨ s.rel.bridgeFailed then finish s
    else
      let s := { s with rel := { s.rel with bridgeFailed := true } }
      let s := logErr ⟨s.now, 0, Ev.bridgeFailed, die.val, 5, 7, 0, group.val⟩ s
      finish (haltAll (postFatal Ev.bridgeFailed [die.val, group.val] s))

/-! Survey (R408, R409). -/

/-- Frames of a channel, and channels of a tier. -/
def framesOf (tier : Nat) : Nat := if tier = 0 then 16384 else 131072
def chansOf (tier : Nat) : Nat := if tier = 0 then 256 else 64

/-- The lost parity line of the page at `a` is recomputed where every sector is served; otherwise the sectors that are not
clean are poisoned, and the frame retired (R404, R406). -/
def loseParity (l : Loc) (a : Nat) (s : State) : State :=
  let errsOf := fun (i : Nat) => kvGet [] (l.sectorKey + i) s.rel.errs
  let s := { s with rel := { s.rel with
    metaBad := kvMod [] l.frameKey (fun b => b.filter (· != 58 + l.page)) s.rel.metaBad } }
  if (List.range 8).all fun i => lightServes (errsOf i) then
    { s with rel := { s.rel with parErrs := kvDel l.pageKey s.rel.parErrs } }
  else
    let bad := (List.range 8).foldl (fun m i => if errsOf i = [] then m else m + 2 ^ i) 0
    let fresh := (List.range 8).any fun i => bit bad i && !bit (s.frame l.frameKey).poison (8 * l.page + i)
    let s := retireFrame l 1 (poisonPage l bad s)
    if fresh then noteRepair (a / 2048 * 2048) s else s

/-- The metadata lines of a page are checked: what cannot be rebuilt is recovered under R404. -/
def surveyMeta (l : Loc) (a : Nat) (s : State) : State :=
  let tagLine := fun (i : Nat) (s : State) =>
    let (ok, s) := metaLine l i s
    if ok then s else strongDecision a s
  let s := tagLine (2 * l.page) s
  let s := tagLine (2 * l.page + 1) s
  let (ok, s) := metaLine l (58 + l.page) s
  let s := if ok then s else loseParity l a s
  let (ok, s) := metaLine l 87 s
  if ok then s else loseFrame l s

/-- Survey's visit to a page (R408): its sectors and lines are checked; where anything was corrected the page is rewritten
whole but for its poisoned sectors. -/
def surveyPage (a : Nat) (s : State) : State :=
  let l := s.loc a
  let keys := (List.range 8).map fun i => l.sectorKey + i
  let old := (s.frame l.frameKey).poison
  let s := surveyMeta l a s
  let s := (List.range 8).foldl (fun s i => sectorRead (a + 256 * i) s) s
  let now := (s.frame l.frameKey).poison
  let mend := keys.filter fun k => kvHas k s.rel.errs && !bit now (k % 256)
  let dirty := !mend.isEmpty || kvHas l.pageKey s.rel.parErrs
  let s := count .scrubPages l.cidx 1 s
  let p := kvGet ({} : ScrubPass) l.tier s.rel.pass
  let s := { s with rel := { s.rel with pass := kvSet l.tier { p with
    corrections := p.corrections + mend.length, uncorrectable := p.uncorrectable + b2n (now != old) } s.rel.pass } }
  if dirty then
    count .scrubRewrites l.cidx 1 { s with rel := { s.rel with
      errs := mend.foldl (fun e k => kvDel k e) s.rel.errs
      parErrs := kvDel l.pageKey s.rel.parErrs } }
  else s

/-- The end of a frame: its visit is recorded, and a WATCH frame below 16 corrections is GOOD again (R406, R408). -/
def surveyFrameEnd (l : Loc) (s : State) : State :=
  let f := s.frame l.frameKey
  setFrame l.frameKey { f with
    scrubTime := s.now, ce := 0, logged := false, st := if f.st = 1 ∧ f.ce < 16 then 0 else f.st } s

/-- SURVEY_PAGE_VISIT (R408): the next page of a channel. -/
def execSurveyPageVisit (chan : Nat) (s : State) : Host.Outcome State Fault Refusal :=
  let tier := chan / 256
  let rate := if tier = 0 then s.rel.scrubG else s.rel.scrubL
  if chan ≥ 320 ∨ rate = 0 ∨ s.rel.failed.contains chan ∨ !s.boot.ready ∨ kvHas tier s.tiers.fills then finish s
  else
    let p := kvGet ({} : SurveyPos) chan s.rel.survey
    let a := dramEncode s.tiers.bg s.tiers.bl ⟨tier, chan % 256, p.frame * 59392 + p.page * 2048⟩
    let s := surveyPage a s
    if p.page < 28 then finish { s with rel := { s.rel with survey := kvSet chan { p with page := p.page + 1 } s.rel.survey } }
    else
      let s := surveyFrameEnd (s.loc a) s
      if p.frame + 1 < framesOf tier then
        finish { s with rel := { s.rel with survey := kvSet chan { p with page := 0, frame := p.frame + 1 } s.rel.survey } }
      else
        let n := p.passes + 1
        let s := { s with rel := { s.rel with survey := kvSet chan ⟨0, 0, n⟩ s.rel.survey } }
        let live := (List.range (chansOf tier)).filter fun c => !s.rel.failed.contains (256 * tier + c)
        if live.all fun c => decide ((kvGet ({} : SurveyPos) (256 * tier + c) s.rel.survey).passes ≥ n) then
          let g := kvGet ({} : ScrubPass) tier s.rel.pass
          let s := { s with rel := { s.rel with pass := kvSet tier { start := s.cyc, passes := n } s.rel.pass } }
          let s := logErr ⟨s.now, 0, Ev.scrubPassDone, tier, tier, 0, 0, 0⟩ s
          finish (post Ev.scrubPassDone [tier, (s.cyc - g.start) / 1000000000, g.corrections, g.uncorrectable] s)
        else finish s

/-! Replica repair (R417–R419). -/

/-- Change the repair of a page. -/
def setRepair (page : Nat) (f : Repair → Repair) (s : State) : State :=
  { s with rel := { s.rel with repairs := s.rel.repairs.map fun r => if r.page = page then f r else r } }

/-- The peer's global addresses: its version semaphore, and its copy of a page. -/
def Repair.semGa (r : Repair) : Nat := gaModule r.ent.peer * 2 ^ 52 + 0x30000000000 + 8 * r.ent.vsem
def Repair.pageGa (r : Repair) : Nat := gaModule r.ent.peer * 2 ^ 52 + gaAddr r.ent.peer + (r.page - r.ent.base)

/-- The peer loop ends: the store where the generation has the version v of the repair's start, or failure. -/
def repairNext (r : Repair) (cause : Nat) (s : State) : State :=
  setRepair r.page (fun r => if r.ent.kind ≠ 0 ∧ r.ent.sver = r.ver then { r with stage := 5 }
    else { r with stage := 6, cause := cause }) s

/-- A repair reads from its peer: the version, or the page. The peer's address is a fabric global address (01, R33): one
that the fabric refuses ends the peer loop; one in this module is read here, its version the local one. -/
def repairAsk (r : Repair) (ga n : Nat) (s : State) : State :=
  if s.remote ga then
    if s.fab.id.isNone || (checkAccess .remote (gaAddr ga) n).isSome then repairNext r 1 s
    else setRepair r.page (fun r => { r with sentAt := s.cyc }) (sendPkts
      [{ pkt := { typ := .readReq, dst := gaModule ga, src := s.ownId, addr := gaAddr ga, lenM1 := n - 1 }
         die := (s.loc r.page).die }] s)
  else if (checkAccess .almanac (gaAddr r.pageGa) 2048).isSome then repairNext r 1 s
  else
    match taskRead (s.loc r.page).die (gaAddr r.pageGa) 2048 s with
    | (.ok bs, s) => setRepair r.page (fun r => { r with stage := 4, copy := bs }) s
    | (_, s) => repairNext r 0 s

/-- REPAIR_START (R417): the oldest waiting repair starts unless 16 run. -/
def execRepairStart (s : State) : Host.Outcome State Fault Refusal :=
  match s.rel.repairs.find? fun r => !r.running with
  | none => finish s
  | some r =>
    if s.rel.repairs.countP (fun r => r.running) ≥ 16 ∨ s.inCompute then finish s
    else
      let v := (s.sem r.ent.vsem).count.toNat
      let s := setRepair r.page (fun r => { r with running := true, ver := v, since := s.cyc }) s
      if s.rel.failed.contains (s.loc r.page).chan then
        finish (setRepair r.page (fun r => { r with stage := 6, cause := 3 }) s)
      else if r.ent.kind = 1 then finish (repairNext r 0 s)
      else if s.fab.fenced.isSome && s.otherSite (gaModule r.ent.peer) then finish (repairNext r 1 s)
      else finish (repairAsk r r.semGa 8 s)

/-- REPAIR_PEER_RETRY (R417): 100 µs after a peer behind in version. -/
def execRepairPeerRetry (page : Nat) (s : State) : Host.Outcome State Fault Refusal :=
  match s.rel.repairs.find? fun r => r.page == page with
  | none => finish s
  | some r =>
    if r.stage = 3 ∧ s.cyc ≥ r.sentAt + 100000 then
      finish (repairAsk r r.semGa 8 (setRepair page (fun r => { r with stage := 0, tries := r.tries + 1 }) s))
    else finish s

/-- An answer of the peer to a repair; none where no repair waits for it. -/
def repairRsp (k : Packet) (s : State) : Option State :=
  let mine := fun (r : Repair) =>
    r.running && gaModule r.ent.peer == k.src &&
    (((r.stage == 0 || r.stage == 2) && k.addr == gaAddr r.semGa) || (r.stage == 1 && k.addr == gaAddr r.pageGa))
  match s.rel.repairs.find? mine with
  | none => none
  | some r =>
    if k.status ≠ 0 then some (repairNext r 1 s)
    else
      let n := ofLE (k.data.take 4)
      match r.stage with
      | 0 => some (repairAsk r r.pageGa 2048 (setRepair r.page (fun r => { r with stage := 1, first := n }) s))
      | 1 => some (repairAsk r r.semGa 8 (setRepair r.page (fun r => { r with stage := 2, copy := k.data.take 2048 }) s))
      | _ =>
        if r.first = n ∧ r.first = r.ver then some (setRepair r.page (fun r => { r with stage := 4 }) s)
        else if r.first ≥ r.ver ∨ r.tries = 8 then some (repairNext r 0 s)
        else some (setRepair r.page (fun r => { r with stage := 3, sentAt := s.cyc }) s)

/-- The first answer to a READ_REQ: a sample of its round trip (20, Table 20-6, source 0x09). -/
def tripDone (i : Nat) (p : Packet) (s : State) : State :=
  match s.fab.asked.find? fun a => a.1 == p.src && a.2.1 == p.addr with
  | none => s
  | some a => monSample 0x09 (portDie i) (s.cyc - a.2.2) { s with fab := { s.fab with asked := s.fab.asked.erase a } }

/-- READ_RSP_RECEIVED (05, R136; 13, R318): the data lands at the task's destination, or answers a repair. -/
def execReadRspReceived (s : State) : Host.Outcome State Fault Refusal :=
  match takeIn (fun k => k.typ == .readRsp) s with
  | none => finish s
  | some (i, p, s) =>
    let s := tripDone i p s
    match readRsp p s with
    | some s => finish s
    | none =>
      match repairRsp p s with
      | some s => finish s
      | none => finish (lateRsp i s)

/-- A repair ends: reads of its page are served again, and their wait is counted (R418). -/
def repairEnd (r : Repair) (s : State) : State :=
  let waits := s.mer.tasks.any fun p => p.2.heldBy == some r.page
  let s := { s with
    rel := { s.rel with
      repairs := s.rel.repairs.filter fun x => x.page != r.page
      tried := if (List.range 8).any fun i => s.sectorPoisoned (r.page + 256 * i) then setIns r.page s.rel.tried
        else s.rel.tried }
    mer := { s.mer with tasks := s.mer.tasks.map fun p =>
      if p.2.heldBy == some r.page && p.2.phase == .admitted then (p.1, { p.2 with heldBy := none }) else p } }
  if waits then count .repairWait 0 (s.cyc - r.since) s else s

/-- A repair whose peer has not answered within the fabric timeout goes on without it (13, R320). -/
def repairExpire (r : Repair) (s : State) : State :=
  if r.running ∧ r.stage ≤ 2 ∧ r.ent.kind ≠ 1 ∧ s.cyc ≥ r.sentAt + s.fab.timeoutUs * 1000 then repairNext r 1 s else s

/-- STORE_REPAIR_READ (18, R438): the store's read of a page for a repair completes or fails. -/
def execStoreRepairRead (page : Nat) (s : State) : Host.Outcome State Fault Refusal :=
  match s.rel.repairs.find? fun r => r.page == page with
  | none => finish s
  | some r =>
    if !r.running ∨ r.stage ≠ 5 then finish s
    else
      match s.storePage r.ent.gen page with
      | some bs => finish (setRepair page (fun r => { r with stage := 7, copy := bs }) s)
      | none => finish (setRepair page (fun r => { r with stage := 6, cause := 2 }) s)

/-- REPAIR_DONE (R417): the copy that the peer sent, or that the checkpoint store's restore path read, is written whole; a
page written meanwhile is left as it is, and one whose channel has failed since cannot be repaired (R410). -/
def execRepairDone (page : Nat) (s : State) : Host.Outcome State Fault Refusal :=
  match s.rel.repairs.find? fun r => r.page == page with
  | none => finish s
  | some r =>
    let done := fun (src : Nat) (s : State) =>
      let s := repairEnd r (count .repairs 0 1 s)
      let s := logErr ⟨s.now, (s.loc page).raw, Ev.repairDone, r.entry, tierOf page, 3, (s.loc page).frame, (s.loc page).ch⟩ s
      post Ev.repairDone [r.entry, page, src, s.cyc - r.since] s
    let write := fun (src : Nat) (s : State) =>
      if s.rel.failed.contains (s.loc page).chan then setRepair page (fun r => { r with stage := 6, cause := 3 }) s
      else done src (devPut page r.copy s)
    if !r.running then finish s
    else if r.superseded then finish (done 2 s)
    else
      let s := repairExpire r s
      match (s.rel.repairs.find? fun r => r.page == page).map Repair.stage with
      | some 4 => finish (write 0 s)
      | some 7 => finish (write 1 s)
      | _ => finish s

/-- The step is aborted (R419). -/
def stepAbort (entry page : Nat) (s : State) : State :=
  let s := haltAll s
  let ts := s.tasksWhere fun k => decide (k.desc.type ≤ 0x8) &&
    (k.phase == .admitted || k.phase == .selected || k.phase == .moving)
  let s := ts.foldl (fun s p => abortTask p.1 s) s
  let step := match s.mer.boundary with | some st => (s.stream st).step.toNat | none => 0
  let s := logErr ⟨s.now, (s.loc page).raw, Ev.stepAborted, entry, tierOf page, 7, (s.loc page).frame, (s.loc page).ch⟩ s
  post Ev.stepAborted [entry, page, step] (count .stepAborts 0 1 s)

/-- REPAIR_FAILED (R419): a repair that has no valid source, or whose store read has failed. -/
def execRepairFailed (page : Nat) (s : State) : Host.Outcome State Fault Refusal :=
  match s.rel.repairs.find? fun r => r.page == page with
  | none => finish s
  | some r =>
    if !r.running ∨ r.superseded then finish s
    else
      let s := repairExpire r s
      match s.rel.repairs.find? fun r => r.page == page with
      | none => finish s
      | some r =>
        if r.stage ≠ 6 then finish s
        else
          let cause := r.cause
          let s := repairEnd r (count .repairFailed 0 1 s)
          let s := logErr ⟨s.now, (s.loc page).raw, Ev.repairFailed, r.entry, tierOf page, 4, (s.loc page).frame, (s.loc page).ch⟩ s
          let s := post Ev.repairFailed [r.entry, page, cause] s
          finish (if r.ent.abort then stepAbort r.entry page s else s)

end Sys2Proof.Machine
end

