-- ==== Sys2Proof/Machine/Sites.lean ====
section
/-!
DEFINITION. Sites, the fence and the buddy relation (14, R340–R344).
-/

namespace Sys2Proof.Machine

/-! Counting cross-site links (R340, R341). -/

/-- The in-service cross-site global links of this module's group. -/
def State.crossCount (s : State) : Nat :=
  s.fab.links.countP fun e => s.siteOf e.2.1 != s.siteOf (s.ownId / 8) && s.glUp e.1

/-- The other groups at this module's site. -/
def State.siteGroups (s : State) : List Nat :=
  (List.range (s.fab.groups.getD 0)).filter fun g => g != s.ownId / 8 && s.siteOf g == s.siteOf (s.ownId / 8)

/-- The count a group has in the view: 0 where its last report is older than 60 µs. -/
def State.viewCount (s : State) (g : Nat) : Nat :=
  match kvFind g s.fab.siteView with
  | some (n, t) => if s.cyc > t + 60000 then 0 else n
  | none => 0

/-- A communicator has a rank at the other site. -/
def State.spans (s : State) (c : Comm) : Bool := c.ranks.any fun e => s.otherSite (bits e 63 54)

/-- The fence (R342). -/
def fence (s : State) : State :=
  let s := post Ev.partitionFenced [s.now] { s with fab := { s.fab with fenced := some s.now } }
  let drop := fun (p : Packet) => s.otherSite p.src || s.otherSite p.dst
  let gone := s.fab.inject.countP fun x => drop x.pkt
  let s := count .fenceDrop 0 gone { s with fab := { s.fab with inject := s.fab.inject.filter fun x => !drop x.pkt } }
  let parked := s.tasksWhere fun k => k.phase == .parked && k.token.isSome && (k.desc.type == 7 || k.desc.type == 9)
  let s := parked.foldl (fun s p =>
    let d := p.2.desc
    let ga := if d.type = 9 ∨ s.remote (d.f 2 63 0) then d.f 2 63 0 else d.f 3 63 0
    if s.otherSite (gaModule ga) then
      dropToken p.1 (setTask p.1 (fun k => { k with
        phase := .finished, status := Ts.timeout, detail := ga, token := none, remaining := 0, ackWait := false }) s)
    else s) s
  let bad := s.fab.comms.filter fun p => s.spans p.2
  let s := (s.fab.colls.filter fun x => bad.any fun p => p.1 == x.comm).foldl
    (fun s x => collFail x.task Ts.aborted s.ownId s) s
  mirrorAbandon 1 (bad.foldl (fun s p => setComm p.1 (fun c => { c with stale := true }) s) s)

/-- Arm the fence where a cross-site link is counted in service, and fence where all are gone (R340, R341). -/
def siteCheck (s : State) : State :=
  if !s.fab.siteEn || s.fab.id.isNone || s.fab.groups.isNone || s.fab.fenced.isSome then s
  else
    let seen := s.crossCount != 0 || s.siteGroups.any fun g => s.viewCount g != 0
    if seen then { s with fab := { s.fab with armed := true } }
    else if s.fab.armed then fence s else s

/-- SET_SITE_MAP (R340). -/
def execSetSiteMap (m : Fin 16) (s : State) : Host.Outcome State Fault Refusal :=
  mbxCommand 0x050B anyArgs m (fun a s =>
    .done St.ok [] (siteCheck (digestStep (fun s => { s with fab := { s.fab with
      siteMap := #v[BitVec.ofNat 64 (a.n 0), BitVec.ofNat 64 (a.n 1)], siteEn := bit (a.n 2) 0 } }) s))) s

/-- CLEAR_FENCE (R343). -/
def execClearFence (m : Fin 16) (s : State) : Host.Outcome State Fault Refusal :=
  mbxCommand 0x050C anyArgs m (fun _ s =>
    if s.fab.fenced.isNone then .done St.ok [] s
    else if s.fab.comms.any fun p => s.spans p.2 then .done St.fenceSpanning [] s
    else .done St.ok [] (mirrorAgain (siteCheck (post Ev.fenceCleared []
      { s with fab := { s.fab with fenced := none, armed := false } })))) s

/-- SITE_STATE_SEND (R341): on a change of the group's count, and every 20 µs. -/
def execSiteStateSend (s : State) : Host.Outcome State Fault Refusal :=
  if !s.fab.siteEn || s.fab.id.isNone || s.fab.groups.isNone then finish s
  else
    let s := siteCheck s
    let w := 2 * 2 ^ 56 + b2n s.fab.fenced.isSome * 2 ^ 16 + s.crossCount
    finish (sendPkts (s.siteGroups.map fun g => mgmtPkt (8 * g + s.ownId % 8) [w, s.now, 0] s) s)

/-- SITE_STATE_RECEIVED (R341). -/
def execSiteStateReceived (s : State) : Host.Outcome State Fault Refusal :=
  match takeIn (fun k => k.typ == .mgmt && k.kind == 2) s with
  | none => finish s
  | some (_, k, s) =>
    if !s.fab.siteEn then finish s
    else finish (siteCheck { s with fab := { s.fab with
      siteView := kvSet (k.src / 8) (k.mgmt.getD 0 0 % 65536, s.cyc) s.fab.siteView } })

/-- SITE_VIEW_STALE (R341): a group's report has grown older than 60 µs. -/
def execSiteViewStale (s : State) : Host.Outcome State Fault Refusal := finish (siteCheck s)

/-! The buddy (R344). -/

/-- SET_BUDDY (R344). -/
def execSetBuddy (m : Fin 16) (s : State) : Host.Outcome State Fault Refusal :=
  mbxCommand 0x050D anyArgs m (fun a s =>
    let base := a.n 1
    let n := a.n 2
    let on := bit (a.n 0) 10
    let ringBad := !aligned base 65536 || regionOf base != some .gddr7 || regionOf (base + n - 1) != some .gddr7 ||
      !aligned n 65536 || decide (n < 2 ^ 26) || decide (n > 2 ^ 32)
    if on && ringBad then .done St.commArgInvalid [] s
    else .done St.ok [] (mirrorPump (digestStep (fun s => { s with
      store := { s.store with mirroring := none, outQ := [], incoming := none, mirrorHalt := false, seqOut := 0, seqIn := 0, unacked := [], freed := 0 }
      fab := { s.fab with
      buddy := if on then some (bits (a.n 0) 9 0) else none
      ringBase := base, ringBytes := n, rate := bits (a.n 0) 31 16, beatAt := s.cyc, buddyLost := false
      credit := n, mirrorAt := 0, drainAt := 0 } }) s))) s

/-- BUDDY_BEAT_SEND (R344): every 1 ms. -/
def execBuddyBeatSend (s : State) : Host.Outcome State Fault Refusal :=
  match s.fab.buddy with
  | none => finish s
  | some b => finish (sendPkts [mgmtPkt b [3 * 2 ^ 56 + b2n (!s.mirrorDown), s.now, 0] s] s)

/-- BUDDY_BEAT_RECEIVED (R344). -/
def execBuddyBeatReceived (s : State) : Host.Outcome State Fault Refusal :=
  match takeIn (fun k => k.typ == .mgmt && k.kind == 3) s with
  | none => finish s
  | some (_, k, s) =>
    if s.fab.buddy ≠ some k.src then finish s
    else
      let was := s.fab.buddyLost
      let s := { s with fab := { s.fab with beatAt := s.cyc, buddyLost := false } }
      finish (if was then mirrorAgain (post Ev.buddyRestored [k.src] s) else s)

/-- BUDDY_LOST (R344): 5 ms without a beat. -/
def execBuddyLost (s : State) : Host.Outcome State Fault Refusal :=
  match s.fab.buddy with
  | none => finish s
  | some b =>
    if s.fab.buddyLost ∨ s.cyc < s.fab.beatAt + 5000000 then finish s
    else finish (mirrorLost (post Ev.buddyLost [b] { s with fab := { s.fab with buddyLost := true } }))

/-- MIRROR_CREDIT_RECEIVED (R344): the buddy has freed mirror-ring space. -/
def execMirrorCreditReceived (s : State) : Host.Outcome State Fault Refusal :=
  match takeIn (fun k => k.typ == .mgmt && k.kind == 4) s with
  | none => finish s
  | some (_, k, s) =>
    if s.fab.buddy ≠ some k.src then finish s
    else finish (mirrorPump { s with fab := { s.fab with
      credit := Nat.min s.fab.ringBytes (s.fab.credit + k.mgmt.getD 0 0 % 2 ^ 32 * 65536) } })

end Sys2Proof.Machine
end

