-- ==== Sys2Proof/Machine/Dispatch.lean ====
section
/-!
DEFINITION. What each command does to everything but the queue of waiting commands: one arm a constructor, each a
direct call of that command's own meaning.
-/

namespace Sys2Proof.Machine

/-- The effect of a command. -/
def exec (i : Instr) (s : State) : Host.Outcome State Fault Refusal :=
  match i with
  | .registerWrite off width v tlp => Sys2Proof.Machine.execRegisterWrite off width v tlp s
  | .tqDoorbell v tlp => Sys2Proof.Machine.execTqDoorbell v tlp s
  | .tqCplHead v tlp => Sys2Proof.Machine.execTqCplHead v tlp s
  | .stashDoorbell v tlp => Sys2Proof.Machine.execStashDoorbell v tlp s
  | .guardDoorbell v tlp => Sys2Proof.Machine.execGuardDoorbell v tlp s
  | .apertureBaseWrite v tlp => Sys2Proof.Machine.execApertureBaseWrite v tlp s
  | .bncInTailWrite v tlp => Sys2Proof.Machine.execBncInTailWrite v tlp s
  | .bncOutHeadWrite v tlp => Sys2Proof.Machine.execBncOutHeadWrite v tlp s
  | .mbxDoorbell m v tlp => Sys2Proof.Machine.execMbxDoorbell m v tlp s
  | .mbxDoneClear v meets tlp => Sys2Proof.Machine.execMbxDoneClear v meets tlp s
  | .errSummaryClear v meets tlp => Sys2Proof.Machine.execErrSummaryClear v meets tlp s
  | .evtHeadWrite v tlp => Sys2Proof.Machine.execEvtHeadWrite v tlp s
  | .apertureRead off n tlp => Sys2Proof.Machine.execApertureRead off n tlp s
  | .apertureWrite off bs tlp => Sys2Proof.Machine.execApertureWrite off bs tlp s
  | .pcieConfigRequest reg w => Sys2Proof.Machine.execPcieConfigRequest reg w s
  | .perst pin => Sys2Proof.Machine.execPerst pin s
  | .pcieFunctionReset ev => Sys2Proof.Machine.execPcieFunctionReset ev s
  | .hostCompletion id st bytes => Sys2Proof.Machine.execHostCompletion id st bytes s
  | .hostCompletionTimeout id => Sys2Proof.Machine.execHostCompletionTimeout id s
  | .getDeviceInfo m => Sys2Proof.Machine.execGetDeviceInfo m s
  | .nop m => Sys2Proof.Machine.execNop m s
  | .setEventRing m => Sys2Proof.Machine.execSetEventRing m s
  | .createQueue m => Sys2Proof.Machine.execCreateQueue m s
  | .destroyQueue m => Sys2Proof.Machine.execDestroyQueue m s
  | .haltStream m => Sys2Proof.Machine.execHaltStream m s
  | .resumeStream m => Sys2Proof.Machine.execResumeStream m s
  | .resetStream m => Sys2Proof.Machine.execResetStream m s
  | .setClassShares m => Sys2Proof.Machine.execSetClassShares m s
  | .loadLayerProgram m => Sys2Proof.Machine.execLoadLayerProgram m s
  | .unloadLayerProgram m => Sys2Proof.Machine.execUnloadLayerProgram m s
  | .setCoelostatConfig m => Sys2Proof.Machine.execSetCoelostatConfig m s
  | .setMemoryInterleave m => Sys2Proof.Machine.execSetMemoryInterleave m s
  | .snapshotDirtyAtBoundary m => Sys2Proof.Machine.execSnapshotDirtyAtBoundary m s
  | .snapshotDirtyNow m => Sys2Proof.Machine.execSnapshotDirtyNow m s
  | .snapshotDirtyRelease m => Sys2Proof.Machine.execSnapshotDirtyRelease m s
  | .readDirtyMap m => Sys2Proof.Machine.execReadDirtyMap m s
  | .configureStash m => Sys2Proof.Machine.execConfigureStash m s
  | .configureNumerics m => Sys2Proof.Machine.execConfigureNumerics m s
  | .setRngSeed m => Sys2Proof.Machine.execSetRngSeed m s
  | .readWatch m => Sys2Proof.Machine.execReadWatch m s
  | .setWatch m => Sys2Proof.Machine.execSetWatch m s
  | .configurePhotometer m => Sys2Proof.Machine.execConfigurePhotometer m s
  | .configureSpectrograph m => Sys2Proof.Machine.execConfigureSpectrograph m s
  | .configureEphemeris m => Sys2Proof.Machine.execConfigureEphemeris m s
  | .readPortStatus m => Sys2Proof.Machine.execReadPortStatus m s
  | .retrainPort m => Sys2Proof.Machine.execRetrainPort m s
  | .setPortConfig m => Sys2Proof.Machine.execSetPortConfig m s
  | .setTopology m => Sys2Proof.Machine.execSetTopology m s
  | .setGlobalLink m => Sys2Proof.Machine.execSetGlobalLink m s
  | .setRouting m => Sys2Proof.Machine.execSetRouting m s
  | .setModuleId m => Sys2Proof.Machine.execSetModuleId m s
  | .createCommunicator m => Sys2Proof.Machine.execCreateCommunicator m s
  | .destroyCommunicator m => Sys2Proof.Machine.execDestroyCommunicator m s
  | .switchLayout m => Sys2Proof.Machine.execSwitchLayout m s
  | .setSiteMap m => Sys2Proof.Machine.execSetSiteMap m s
  | .clearFence m => Sys2Proof.Machine.execClearFence m s
  | .setBuddy m => Sys2Proof.Machine.execSetBuddy m s
  | .importWeights m => Sys2Proof.Machine.execImportWeights m s
  | .importChunkDone ok bs => Sys2Proof.Machine.execImportChunkDone ok bs s
  | .setScrubRate m => Sys2Proof.Machine.execSetScrubRate m s
  | .setFlipMask m => Sys2Proof.Machine.execSetFlipMask m s
  | .readErrorLog m => Sys2Proof.Machine.execReadErrorLog m s
  | .setRepairMap m => Sys2Proof.Machine.execSetRepairMap m s
  | .writeCheckpointFull m => Sys2Proof.Machine.execWriteCheckpointFull m s
  | .writeCheckpointIncremental m => Sys2Proof.Machine.execWriteCheckpointIncremental m s
  | .restoreCheckpointLocal m => Sys2Proof.Machine.execRestoreCheckpointLocal m s
  | .restoreCheckpointBuddy m => Sys2Proof.Machine.execRestoreCheckpointBuddy m s
  | .listCheckpoints m => Sys2Proof.Machine.execListCheckpoints m s
  | .deleteCheckpoint m => Sys2Proof.Machine.execDeleteCheckpoint m s
  | .readStoreHealth m => Sys2Proof.Machine.execReadStoreHealth m s
  | .resetModuleFull m => Sys2Proof.Machine.execResetModuleFull m s
  | .resetModuleCompute m => Sys2Proof.Machine.execResetModuleCompute m s
  | .resetModuleCluster m => Sys2Proof.Machine.execResetModuleCluster m s
  | .saveTraining m ok => Sys2Proof.Machine.execSaveTraining m ok s
  | .runTrafficTest m => Sys2Proof.Machine.execRunTrafficTest m s
  | .trafficTestEnd errors first => Sys2Proof.Machine.execTrafficTestEnd errors first s
  | .runMargining m => Sys2Proof.Machine.execRunMargining m s
  | .marginingDone temp pass lanes => Sys2Proof.Machine.execMarginingDone temp pass lanes s
  | .setCollimation m => Sys2Proof.Machine.execSetCollimation m s
  | .readBringupReport m => Sys2Proof.Machine.execReadBringupReport m s
  | .setTimeSourceLoad m => Sys2Proof.Machine.execSetTimeSourceLoad m s
  | .setTimeSourcePps m => Sys2Proof.Machine.execSetTimeSourcePps m s
  | .readTimeStatus m => Sys2Proof.Machine.execReadTimeStatus m s
  | .configureMonitor m => Sys2Proof.Machine.execConfigureMonitor m s
  | .readHistogram m => Sys2Proof.Machine.execReadHistogram m s
  | .readSensors m => Sys2Proof.Machine.execReadSensors m s
  | .setPowerLimit m => Sys2Proof.Machine.execSetPowerLimit m s
  | .readSchedCounters m => Sys2Proof.Machine.execReadSchedCounters m s
  | .readStreamCounters m => Sys2Proof.Machine.execReadStreamCounters m s
  | .readMemoryCounters m => Sys2Proof.Machine.execReadMemoryCounters m s
  | .readStashCounters m => Sys2Proof.Machine.execReadStashCounters m s
  | .readNumericCounters m => Sys2Proof.Machine.execReadNumericCounters m s
  | .readPhotometerCounters m => Sys2Proof.Machine.execReadPhotometerCounters m s
  | .readSpectroCounters m => Sys2Proof.Machine.execReadSpectroCounters m s
  | .readEphemerisCounters m => Sys2Proof.Machine.execReadEphemerisCounters m s
  | .readFabricCounters m => Sys2Proof.Machine.execReadFabricCounters m s
  | .readCollectiveCounters m => Sys2Proof.Machine.execReadCollectiveCounters m s
  | .readHostCounters m => Sys2Proof.Machine.execReadHostCounters m s
  | .readReliabilityCounters m => Sys2Proof.Machine.execReadReliabilityCounters m s
  | .mailboxCommandTimeout m => Sys2Proof.Machine.execMailboxCommandTimeout m s
  | .almanacHeartbeatTick => Sys2Proof.Machine.execAlmanacHeartbeatTick s
  | .almanacFailed => Sys2Proof.Machine.execAlmanacFailed s
  | .msixModerationExpiry vec => Sys2Proof.Machine.execMsixModerationExpiry vec s
  | .descriptorFetch q => Sys2Proof.Machine.execDescriptorFetch q s
  | .taskAdmit die => Sys2Proof.Machine.execTaskAdmit die s
  | .coreSelect core vec => Sys2Proof.Machine.execCoreSelect core vec s
  | .stealAttempt core idle => Sys2Proof.Machine.execStealAttempt core idle s
  | .stealDescriptorMoved core => Sys2Proof.Machine.execStealDescriptorMoved core s
  | .lendStart t => Sys2Proof.Machine.execLendStart t s
  | .accountingPeriodEnd => Sys2Proof.Machine.execAccountingPeriodEnd s
  | .deficitBroadcast => Sys2Proof.Machine.execDeficitBroadcast s
  | .matrixTaskStart t => Sys2Proof.Machine.execMatrixTaskStart t s
  | .statsTaskStart t => Sys2Proof.Machine.execStatsTaskStart t s
  | .vectorTaskStart t => Sys2Proof.Machine.execVectorTaskStart t s
  | .sliceLanded t op slice => Sys2Proof.Machine.execSliceLanded t op slice s
  | .resultDrain t b => Sys2Proof.Machine.execResultDrain t b s
  | .writebackAccepted t => Sys2Proof.Machine.execWritebackAccepted t s
  | .gatherTask c => Sys2Proof.Machine.execGatherTask c s
  | .scatterTask c => Sys2Proof.Machine.execScatterTask c s
  | .transferTask c => Sys2Proof.Machine.execTransferTask c s
  | .spectroTask c => Sys2Proof.Machine.execSpectroTask c s
  | .optimTask die => Sys2Proof.Machine.execOptimTask die s
  | .collectiveTask die => Sys2Proof.Machine.execCollectiveTask die s
  | .semWait t => Sys2Proof.Machine.execSemWait t s
  | .semSignal t => Sys2Proof.Machine.execSemSignal t s
  | .timerTask t => Sys2Proof.Machine.execTimerTask t s
  | .timerExpired t => Sys2Proof.Machine.execTimerExpired t s
  | .stepMark t => Sys2Proof.Machine.execStepMark t s
  | .stepBoundary t => Sys2Proof.Machine.execStepBoundary t s
  | .taskComplete t cycles stall => Sys2Proof.Machine.execTaskComplete t cycles stall s
  | .semWaitTimeout t => Sys2Proof.Machine.execSemWaitTimeout t s
  | .parkTokenFree t => Sys2Proof.Machine.execParkTokenFree t s
  | .watchResend t => Sys2Proof.Machine.execWatchResend t s
  | .stashSBind slot => Sys2Proof.Machine.execStashSBind slot s
  | .stashSFwdDone slot => Sys2Proof.Machine.execStashSFwdDone slot s
  | .stashSBwdNeed slot => Sys2Proof.Machine.execStashSBwdNeed slot s
  | .stashSRcDone slot => Sys2Proof.Machine.execStashSRcDone slot s
  | .stashSFree slot => Sys2Proof.Machine.execStashSFree slot s
  | .stashCopyDone slot => Sys2Proof.Machine.execStashCopyDone slot s
  | .guardTrigger slot => Sys2Proof.Machine.execGuardTrigger slot s
  | .guardRangeComplete slot => Sys2Proof.Machine.execGuardRangeComplete slot s
  | .foldSwap => Sys2Proof.Machine.execFoldSwap s
  | .foldStart slot => Sys2Proof.Machine.execFoldStart slot s
  | .foldPublish slot => Sys2Proof.Machine.execFoldPublish slot s
  | .photometerHold c => Sys2Proof.Machine.execPhotometerHold c s
  | .photometerHoldRelease c => Sys2Proof.Machine.execPhotometerHoldRelease c s
  | .assemblerPassDone c => Sys2Proof.Machine.execAssemblerPassDone c s
  | .spectroDecision c => Sys2Proof.Machine.execSpectroDecision c s
  | .spectroDeadline c => Sys2Proof.Machine.execSpectroDeadline c s
  | .operatorApplyDone c => Sys2Proof.Machine.execOperatorApplyDone c s
  | .spectroWriteOut c => Sys2Proof.Machine.execSpectroWriteOut c s
  | .tableHold die => Sys2Proof.Machine.execTableHold die s
  | .tableHoldRelease => Sys2Proof.Machine.execTableHoldRelease s
  | .codewordReceived port ok seqLo lpos fec flits => Sys2Proof.Machine.execCodewordReceived port ok seqLo lpos fec flits s
  | .linkFlitReceived port words => Sys2Proof.Machine.execLinkFlitReceived port words s
  | .linkFlitDue port => Sys2Proof.Machine.execLinkFlitDue port s
  | .portSignalDetect port => Sys2Proof.Machine.execPortSignalDetect port s
  | .portTrainDone port good => Sys2Proof.Machine.execPortTrainDone port good s
  | .portLengthDone port samples medium turn => Sys2Proof.Machine.execPortLengthDone port samples medium turn s
  | .capsRecordReceived port words => Sys2Proof.Machine.execCapsRecordReceived port words s
  | .portDegrade port lane otherGood => Sys2Proof.Machine.execPortDegrade port lane otherGood s
  | .portDown port => Sys2Proof.Machine.execPortDown port s
  | .packetForward port hop => Sys2Proof.Machine.execPacketForward port hop s
  | .packetInject => Sys2Proof.Machine.execPacketInject s
  | .inboundWrite => Sys2Proof.Machine.execInboundWrite s
  | .inboundReadReq => Sys2Proof.Machine.execInboundReadReq s
  | .readRspReceived => Sys2Proof.Machine.execReadRspReceived s
  | .writeAckReceived => Sys2Proof.Machine.execWriteAckReceived s
  | .inboundSemOp => Sys2Proof.Machine.execInboundSemOp s
  | .inboundSemWatch => Sys2Proof.Machine.execInboundSemWatch s
  | .watchRspReceived => Sys2Proof.Machine.execWatchRspReceived s
  | .inboundWatchCancel => Sys2Proof.Machine.execInboundWatchCancel s
  | .collDataReceived => Sys2Proof.Machine.execCollDataReceived s
  | .collFreeReceived => Sys2Proof.Machine.execCollFreeReceived s
  | .collAbortReceived => Sys2Proof.Machine.execCollAbortReceived s
  | .collectiveTimeout t => Sys2Proof.Machine.execCollectiveTimeout t s
  | .fabricTimeout t => Sys2Proof.Machine.execFabricTimeout t s
  | .portStatesReceived => Sys2Proof.Machine.execPortStatesReceived s
  | .portStatesSend => Sys2Proof.Machine.execPortStatesSend s
  | .peerReportStale member => Sys2Proof.Machine.execPeerReportStale member s
  | .siteStateReceived => Sys2Proof.Machine.execSiteStateReceived s
  | .siteStateSend => Sys2Proof.Machine.execSiteStateSend s
  | .siteViewStale => Sys2Proof.Machine.execSiteViewStale s
  | .buddyBeatSend => Sys2Proof.Machine.execBuddyBeatSend s
  | .buddyBeatReceived => Sys2Proof.Machine.execBuddyBeatReceived s
  | .buddyLost => Sys2Proof.Machine.execBuddyLost s
  | .mirrorCreditReceived => Sys2Proof.Machine.execMirrorCreditReceived s
  | .mirrorBeginReceived => Sys2Proof.Machine.execMirrorBeginReceived s
  | .mirrorGranuleReceived => Sys2Proof.Machine.execMirrorGranuleReceived s
  | .mirrorCommitReceived => Sys2Proof.Machine.execMirrorCommitReceived s
  | .mirrorAbortReceived => Sys2Proof.Machine.execMirrorAbortReceived s
  | .mirrorDoneReceived => Sys2Proof.Machine.execMirrorDoneReceived s
  | .restoreReqReceived => Sys2Proof.Machine.execRestoreReqReceived s
  | .channelRead chan rs => Sys2Proof.Machine.execChannelRead chan rs s
  | .channelWrite a bs => Sys2Proof.Machine.execChannelWrite a bs s
  | .channelWriteDrain chan => Sys2Proof.Machine.execChannelWriteDrain chan s
  | .metadataWriteback chan => Sys2Proof.Machine.execMetadataWriteback chan s
  | .strongCodeDecision a => Sys2Proof.Machine.execStrongCodeDecision a s
  | .surveyPageVisit chan => Sys2Proof.Machine.execSurveyPageVisit chan s
  | .channelTrainingLost chan => Sys2Proof.Machine.execChannelTrainingLost chan s
  | .bridgeLaneError die group lane => Sys2Proof.Machine.execBridgeLaneError die group lane s
  | .repairStart => Sys2Proof.Machine.execRepairStart s
  | .repairPeerRetry page => Sys2Proof.Machine.execRepairPeerRetry page s
  | .repairDone page => Sys2Proof.Machine.execRepairDone page s
  | .repairFailed page => Sys2Proof.Machine.execRepairFailed page s
  | .captureOnDemand a ns => Sys2Proof.Machine.execCaptureOnDemand a ns s
  | .stagingDrain n blocks => Sys2Proof.Machine.execStagingDrain n blocks s
  | .checkpointCommit => Sys2Proof.Machine.execCheckpointCommit s
  | .restoreDone n => Sys2Proof.Machine.execRestoreDone n s
  | .storeRepairRead page => Sys2Proof.Machine.execStoreRepairRead page s
  | .nandFrameRead gen block frame => Sys2Proof.Machine.execNandFrameRead gen block frame s
  | .storeBlockRefresh block into live => Sys2Proof.Machine.execStoreBlockRefresh block into live s
  | .nandProgramFail block cause => Sys2Proof.Machine.execNandProgramFail block cause s
  | .storeDayTick => Sys2Proof.Machine.execStoreDayTick s
  | .storeReclaimDone blocks => Sys2Proof.Machine.execStoreReclaimDone blocks s
  | .bringupStart => Sys2Proof.Machine.execBringupStart s
  | .firmwareBoot => Sys2Proof.Machine.execFirmwareBoot s
  | .measureDone found => Sys2Proof.Machine.execMeasureDone found s
  | .bridgeTrainDone lanes failed delay warmOk => Sys2Proof.Machine.execBridgeTrainDone lanes failed delay warmOk s
  | .dramTrainDone tier ch res => Sys2Proof.Machine.execDramTrainDone tier ch res s
  | .nandTrainDone n res => Sys2Proof.Machine.execNandTrainDone n res s
  | .storeIndexLoaded repaired noSpares => Sys2Proof.Machine.execStoreIndexLoaded repaired noSpares s
  | .portWindowClose => Sys2Proof.Machine.execPortWindowClose s
  | .tierFillDone t => Sys2Proof.Machine.execTierFillDone t s
  | .bringupReady => Sys2Proof.Machine.execBringupReady s
  | .settingsSave ok => Sys2Proof.Machine.execSettingsSave ok s
  | .computeResetDone => Sys2Proof.Machine.execComputeResetDone s
  | .clusterResetDone => Sys2Proof.Machine.execClusterResetDone s
  | .collimationDrainEnd => Sys2Proof.Machine.execCollimationDrainEnd s
  | .collimationClearDone => Sys2Proof.Machine.execCollimationClearDone s
  | .collimationMemoryTestDone banks multi => Sys2Proof.Machine.execCollimationMemoryTestDone banks multi s
  | .collimationBlockDone same retest => Sys2Proof.Machine.execCollimationBlockDone same retest s
  | .collimationRestoreDone => Sys2Proof.Machine.execCollimationRestoreDone s
  | .getVersion => Sys2Proof.Machine.execGetVersion s
  | .getCapabilities => Sys2Proof.Machine.execGetCapabilities s
  | .negotiateAlgorithms ok => Sys2Proof.Machine.execNegotiateAlgorithms ok s
  | .getDigests => Sys2Proof.Machine.execGetDigests s
  | .getCertificate slot off n => Sys2Proof.Machine.execGetCertificate slot off n s
  | .challenge slot nonce => Sys2Proof.Machine.execChallenge slot nonce s
  | .getMeasurements sess op sign nonce => Sys2Proof.Machine.execGetMeasurements sess op sign nonce s
  | .keyExchange slot => Sys2Proof.Machine.execKeyExchange slot s
  | .finish sid ok => Sys2Proof.Machine.execFinish sid ok s
  | .heartbeat sid => Sys2Proof.Machine.execHeartbeat sid s
  | .keyUpdate sid => Sys2Proof.Machine.execKeyUpdate sid s
  | .endSession sid => Sys2Proof.Machine.execEndSession sid s
  | .spdmSessionIdle sid => Sys2Proof.Machine.execSpdmSessionIdle sid s
  | .spdmUnsupportedRequest sess => Sys2Proof.Machine.execSpdmUnsupportedRequest sess s
  | .setSessionScope sess rsv n => Sys2Proof.Machine.execSetSessionScope sess rsv n s
  | .enterTenant sess rsv inBase inLog outBase outLog inHeadWord outTailWord => Sys2Proof.Machine.execEnterTenant sess rsv inBase inLog outBase outLog inHeadWord outTailWord s
  | .exitTenant sess rsv => Sys2Proof.Machine.execExitTenant sess rsv s
  | .installKey sess rsv slot kind keyId key => Sys2Proof.Machine.execInstallKey sess rsv slot kind keyId key s
  | .destroyKey sess rsv slot => Sys2Proof.Machine.execDestroyKey sess rsv slot s
  | .setPeerMap sess rsv map => Sys2Proof.Machine.execSetPeerMap sess rsv map s
  | .installMembership sess rsv cert => Sys2Proof.Machine.execInstallMembership sess rsv cert s
  | .getMembershipProof sess rsv nonce => Sys2Proof.Machine.execGetMembershipProof sess rsv nonce s
  | .vendorOpcodeInvalid sess opcode => Sys2Proof.Machine.execVendorOpcodeInvalid sess opcode s
  | .getTdispVersion sess => Sys2Proof.Machine.execGetTdispVersion sess s
  | .getTdispCapabilities sess => Sys2Proof.Machine.execGetTdispCapabilities sess s
  | .lockInterfaceRequest sess => Sys2Proof.Machine.execLockInterfaceRequest sess s
  | .getDeviceInterfaceReport sess => Sys2Proof.Machine.execGetDeviceInterfaceReport sess s
  | .getDeviceInterfaceState sess => Sys2Proof.Machine.execGetDeviceInterfaceState sess s
  | .startInterfaceRequest sess => Sys2Proof.Machine.execStartInterfaceRequest sess s
  | .stopInterfaceRequest sess => Sys2Proof.Machine.execStopInterfaceRequest sess s
  | .ideKmQuery sess => Sys2Proof.Machine.execIdeKmQuery sess s
  | .ideKmKeyProg sess stream set sub dir => Sys2Proof.Machine.execIdeKmKeyProg sess stream set sub dir s
  | .ideKmKSetGo sess stream set sub dir => Sys2Proof.Machine.execIdeKmKSetGo sess stream set sub dir s
  | .ideKmKSetStop sess stream set sub dir => Sys2Proof.Machine.execIdeKmKSetStop sess stream set sub dir s
  | .ideIntegrityFailure stream integrity => Sys2Proof.Machine.execIdeIntegrityFailure stream integrity s
  | .tenantScrubDone => Sys2Proof.Machine.execTenantScrubDone s
  | .bounceRecordFail => Sys2Proof.Machine.execBounceRecordFail s
  | .bounceNop seq len => Sys2Proof.Machine.execBounceNop seq len s
  | .bounceWrite seq addr bs => Sys2Proof.Machine.execBounceWrite seq addr bs s
  | .bounceReg seq len off v => Sys2Proof.Machine.execBounceReg seq len off v s
  | .bounceExport seq len addr n => Sys2Proof.Machine.execBounceExport seq len addr n s
  | .bounceRecordInvalid seq len => Sys2Proof.Machine.execBounceRecordInvalid seq len s
  | .ppsEdge sub => Sys2Proof.Machine.execPpsEdge sub s
  | .timeHoldover => Sys2Proof.Machine.execTimeHoldover s
  | .sensorSample kind index value set => Sys2Proof.Machine.execSensorSample kind index value set s
  | .powerControlSample => Sys2Proof.Machine.execPowerControlSample s
  | .protectiveShutdown cause kind index value => Sys2Proof.Machine.execProtectiveShutdown cause kind index value s
  | .powerDown => Sys2Proof.Machine.execPowerDown s
  | .pwrEnChange high => Sys2Proof.Machine.execPwrEnChange high s
  | .mainPowerChange mv held => Sys2Proof.Machine.execMainPowerChange mv held s
  | .auxPowerUp mv => Sys2Proof.Machine.execAuxPowerUp mv s
  | .auxPowerLoss => Sys2Proof.Machine.execAuxPowerLoss s
  | .mainRailsUp => Sys2Proof.Machine.execMainRailsUp s
  | .cageModuleInsert port mw => Sys2Proof.Machine.execCageModuleInsert port mw s
  | .setEndpointId eid => Sys2Proof.Machine.execSetEndpointId eid s
  | .getEndpointId => Sys2Proof.Machine.execGetEndpointId s
  | .getMctpVersionSupport msgType => Sys2Proof.Machine.execGetMctpVersionSupport msgType s
  | .getMessageTypeSupport => Sys2Proof.Machine.execGetMessageTypeSupport s
  | .getVendorMessageSupport => Sys2Proof.Machine.execGetVendorMessageSupport s
  | .enablePort tag rsv => Sys2Proof.Machine.execEnablePort tag rsv s
  | .disablePort tag rsv => Sys2Proof.Machine.execDisablePort tag rsv s
  | .regRead tag rsv off => Sys2Proof.Machine.execRegRead tag rsv off s
  | .regWrite tag rsv off value => Sys2Proof.Machine.execRegWrite tag rsv off value s
  | .readHwStatus tag rsv => Sys2Proof.Machine.execReadHwStatus tag rsv s
  | .powerControlOff tag rsv => Sys2Proof.Machine.execPowerControlOff tag rsv s
  | .powerControlOn tag rsv => Sys2Proof.Machine.execPowerControlOn tag rsv s
  | .powerControlCycle tag rsv => Sys2Proof.Machine.execPowerControlCycle tag rsv s
  | .fwWrite tag rsv off bytes => Sys2Proof.Machine.execFwWrite tag rsv off bytes s
  | .fwCommit tag rsv size image => Sys2Proof.Machine.execFwCommit tag rsv size image s
  | .memAccessEnable tag rsv => Sys2Proof.Machine.execMemAccessEnable tag rsv s
  | .memAccessDisable tag rsv => Sys2Proof.Machine.execMemAccessDisable tag rsv s
  | .memRead tag rsv adr => Sys2Proof.Machine.execMemRead tag rsv adr s
  | .memWrite tag rsv adr bytes => Sys2Proof.Machine.execMemWrite tag rsv adr bytes s
  | .doeDiscovery index => Sys2Proof.Machine.execDoeDiscovery index s
  | .jtagUnlock unlock => Sys2Proof.Machine.execJtagUnlock unlock s
  | .mirrorRingDrained => Sys2Proof.Machine.execMirrorRingDrained s

end Sys2Proof.Machine
end

