-- ==== Sys2Proof/Machine/Sram.lean ====
section
/-!
DEFINITION. What happens of itself while no command waits: the passing of a TCLK cycle, and the errors that the SRAMs
outside the cores and clusters meet in it (17, R412, Table 17-3).
-/

namespace Sys2Proof.Machine

/-- Meridian's entry of a task is lost: the task is discarded as a COMPUTE reset would discard it (05, R145), without a
completion record, and its reserved slot is given back. -/
def discardTask (t : Nat) (s : State) : State :=
  match s.task t with
  | none => s
  | some k =>
    let s := leaveHead t (cancelWatch k (collAbort t Ts.aborted (chargeTask t s)))
    let s := setQueue k.queue (fun x => { x with reserved := x.reserved - 1 }) (dropToken t (dropIssued t s))
    { s with
      fab := { s.fab with inject := s.fab.inject.filter fun y => y.task != some t }
      mer := { s.mer with
        tasks := kvDel t s.mer.tasks
        lends := s.mer.lends.filter fun l => l.holder != t } }

/-- The fold of a slot is abandoned: its generation stays, the closed half is cleared, and s_fold is signalled where no
other fold is due (10, R237, R239; log entry 126). -/
def abandonFold (i : Nat) (s : State) : State :=
  match kvFind i s.phot.slots with
  | none => s
  | some x =>
    if !s.phot.todo.contains i then s
    else
      let h := !s.phot.epoch
      let s := setSlot i (fun x => x.setHalf h {}) (clearHalf (x.fcore / 256) x h s)
      let s := { s with phot := { s.phot with
        todo := s.phot.todo.filter (· != i), started := kvDel i s.phot.started, waits := kvDel i s.phot.waits } }
      if s.phot.todo.isEmpty then (semAdd Config.foldSem.toNat 1 s).2 else s

/-- The rebuild of a table is abandoned, as a COMPUTE reset abandons it (11, R274). -/
def abandonRebuild (i : Nat) (s : State) : State :=
  { s with spec := { s.spec with tables := kvUpd i (fun t => { t with done := [], opened := false }) s.spec.tables } }

/-- Shutter's SRAM is lost: in a tenant mode the tenant scrub runs (15, R373); in OPEN the DRAM keys are drawn again and
both tiers filled (15, R369, R371). -/
def shutterLost (s : State) : State :=
  if s.inTenant then scrubStart .error .openMode .configUnlocked none s
  else if s.sec.scrub.isSome then s
  else
    startFill 1 .tenant (startFill 0 .tenant { s with sec := { s.sec with dramKeys := s.sec.dramKeys + 1 } })

/-- An uncorrectable error in an SRAM outside the cores and clusters (Table 17-3; log entry 126). -/
def unitLost (e : UnitErr) (s : State) : State :=
  match e.unit with
  | .ephem => sramLost 4 e.idx 0 0 false (taskPoison e.idx 0 s)
  | .slots => sramLost 4 e.idx 0 0 true (abandonFold e.idx s)
  | .tables => sramLost 4 e.idx 0 0 true (abandonRebuild e.idx s)
  | .meridian => sramLost 4 e.idx 0 0 false (discardTask e.idx s)
  | .orrery =>
    match (s.port e.idx).rx with
    | [] => sramLost 4 e.idx 0 0 false s
    | p :: _ => sramLost 4 e.idx 0 0 false (malformed e.idx true (freeRx e.idx p s))
  | .shutter => sramLost 4 e.idx 0 0 false (shutterLost s)
  | .almanac => { s with alm := { s.alm with stopped := true } }

/-- The next error of those SRAMs is met: one bit is corrected in the data returned and written back (R412). -/
def unitMeet (s : State) : State :=
  match s.rel.unitErrs with
  | [] => s
  | e :: rest =>
    let s := { s with rel := { s.rel with unitErrs := rest } }
    if e.twice then unitLost e s else s

/-- What happens of itself while no command waits (log entry 1): a powered module counts one TCLK cycle, phase 0 of
bring-up ends at t = 40 ms (19, Table 19-1), and one SRAM error is met. -/
def idle (s : State) : State :=
  if s.powered then
    let s := unitMeet (tclkCycle s)
    if s.boot.phase = 0 ∧ s.boot.run.any (fun r => decide (r.t0 + 40000000 ≤ s.cyc)) then
      { s with boot := { s.boot with phase := 1 } }
    else s
  else s

end Sys2Proof.Machine
end

