-- ==== Sys2Proof/Safety.lean ====
section
/-!
DEFINITION. The terms in which claims speak: the invariant of every state that a run reaches, and when a mailbox command
is taken.
-/

namespace Sys2Proof.Machine

/-! The invariant. -/

/-- win_base and the size of BAR2 (15, R349, Table 15-2): the size is a power of two from 256 MiB to 2 TiB, win_base is a
multiple of it, below 2^52, and 0 when the size is 2 TiB. -/
def State.windowOk (s : State) : Prop :=
  28 ≤ s.host.bar2Log ∧ s.host.bar2Log ≤ 41 ∧ s.host.winBase.toNat % 2 ^ s.host.bar2Log = 0 ∧
  s.host.winBase.toNat < 2 ^ 52 ∧ (s.host.bar2Log = 41 → s.host.winBase = 0)

/-- The event ring lies whole in a DRAM tier or in the host window, aligned to 4 KiB, and holds 2^6 to 2^16 records of 64
bytes (16, R394 and step 7 of R385). -/
def State.ringOk (s : State) : Prop :=
  match s.alm.ring with
  | none => True
  | some (base, n) =>
    6 ≤ n ∧ n ≤ 16 ∧ base % 4096 = 0 ∧
    ∃ r, (r = Region.gddr7 ∨ r = Region.lpddr ∨ r = Region.hostWin) ∧ r.lo ≤ base ∧ base + 64 * 2 ^ n ≤ r.hi

/-- What every step keeps: memory in its canonical form, the aperture window, the event ring. -/
structure Inv (s : State) : Prop where
  mem : s.mem.wf = true
  window : s.windowOk
  ring : s.ringOk

/-! Mailbox commands. -/

/-- The opcode of a mailbox row (16, Tables 16-7 and 16-8), the argument words that select the row among those of its
opcode, and the mailbox. -/
def mbxRow : Instr → Option (Nat × (Args → Bool) × Fin 16)
  | .registerWrite _ _ _ _ => none
  | .tqDoorbell _ _ => none
  | .tqCplHead _ _ => none
  | .stashDoorbell _ _ => none
  | .guardDoorbell _ _ => none
  | .apertureBaseWrite _ _ => none
  | .bncInTailWrite _ _ => none
  | .bncOutHeadWrite _ _ => none
  | .mbxDoorbell _ _ _ => none
  | .mbxDoneClear _ _ _ => none
  | .errSummaryClear _ _ _ => none
  | .evtHeadWrite _ _ => none
  | .apertureRead _ _ _ => none
  | .apertureWrite _ _ _ => none
  | .pcieConfigRequest _ _ => none
  | .perst _ => none
  | .pcieFunctionReset _ => none
  | .hostCompletion _ _ _ => none
  | .hostCompletionTimeout _ => none
  | .getDeviceInfo m => some (0x0001, anyArgs, m)
  | .nop m => some (0x0002, anyArgs, m)
  | .setEventRing m => some (0x0003, anyArgs, m)
  | .createQueue m => some (0x0101, anyArgs, m)
  | .destroyQueue m => some (0x0102, anyArgs, m)
  | .haltStream m => some (0x0103, anyArgs, m)
  | .resumeStream m => some (0x0104, anyArgs, m)
  | .resetStream m => some (0x0105, anyArgs, m)
  | .setClassShares m => some (0x0106, anyArgs, m)
  | .loadLayerProgram m => some (0x0107, anyArgs, m)
  | .unloadLayerProgram m => some (0x0108, anyArgs, m)
  | .setCoelostatConfig m => some (0x0109, anyArgs, m)
  | .setMemoryInterleave m => some (0x0201, anyArgs, m)
  | .snapshotDirtyAtBoundary m => some (0x0202, (fun a => a.n 0 % 4 == 0 || a.n 0 % 4 == 3), m)
  | .snapshotDirtyNow m => some (0x0202, (fun a => a.n 0 % 4 == 1), m)
  | .snapshotDirtyRelease m => some (0x0202, (fun a => a.n 0 % 4 == 2), m)
  | .readDirtyMap m => some (0x0203, anyArgs, m)
  | .configureStash m => some (0x0204, anyArgs, m)
  | .configureNumerics m => some (0x0301, anyArgs, m)
  | .setRngSeed m => some (0x0302, anyArgs, m)
  | .readWatch m => some (0x0303, anyArgs, m)
  | .setWatch m => some (0x0304, anyArgs, m)
  | .configurePhotometer m => some (0x0401, anyArgs, m)
  | .configureSpectrograph m => some (0x0402, anyArgs, m)
  | .configureEphemeris m => some (0x0403, anyArgs, m)
  | .readPortStatus m => some (0x0501, anyArgs, m)
  | .retrainPort m => some (0x0502, anyArgs, m)
  | .setPortConfig m => some (0x0503, anyArgs, m)
  | .setTopology m => some (0x0504, anyArgs, m)
  | .setGlobalLink m => some (0x0505, anyArgs, m)
  | .setRouting m => some (0x0506, anyArgs, m)
  | .setModuleId m => some (0x0507, anyArgs, m)
  | .createCommunicator m => some (0x0508, anyArgs, m)
  | .destroyCommunicator m => some (0x0509, anyArgs, m)
  | .switchLayout m => some (0x050A, anyArgs, m)
  | .setSiteMap m => some (0x050B, anyArgs, m)
  | .clearFence m => some (0x050C, anyArgs, m)
  | .setBuddy m => some (0x050D, anyArgs, m)
  | .importWeights m => some (0x0601, anyArgs, m)
  | .importChunkDone _ _ => none
  | .setScrubRate m => some (0x0701, anyArgs, m)
  | .setFlipMask m => some (0x0702, anyArgs, m)
  | .readErrorLog m => some (0x0703, anyArgs, m)
  | .setRepairMap m => some (0x0704, anyArgs, m)
  | .writeCheckpointFull m => some (0x0801, (fun a => bit (a.n 0) 0 == true), m)
  | .writeCheckpointIncremental m => some (0x0801, (fun a => bit (a.n 0) 0 == false), m)
  | .restoreCheckpointLocal m => some (0x0802, (fun a => !bit (a.n 0) 0), m)
  | .restoreCheckpointBuddy m => some (0x0802, (fun a => bit (a.n 0) 0), m)
  | .listCheckpoints m => some (0x0803, anyArgs, m)
  | .deleteCheckpoint m => some (0x0804, anyArgs, m)
  | .readStoreHealth m => some (0x0805, anyArgs, m)
  | .resetModuleFull m => some (0x0901, (fun a => a.n 0 % 4 == 0), m)
  | .resetModuleCompute m => some (0x0901, (fun a => a.n 0 % 2 == 1), m)
  | .resetModuleCluster m => some (0x0901, (fun a => a.n 0 % 4 == 2), m)
  | .saveTraining m _ => some (0x0902, anyArgs, m)
  | .runTrafficTest m => some (0x0903, anyArgs, m)
  | .trafficTestEnd _ _ => none
  | .runMargining m => some (0x0904, anyArgs, m)
  | .marginingDone _ _ _ => none
  | .setCollimation m => some (0x0905, anyArgs, m)
  | .readBringupReport m => some (0x0906, anyArgs, m)
  | .setTimeSourceLoad m => some (0x0A01, (fun a => a.n 0 % 2 == 0), m)
  | .setTimeSourcePps m => some (0x0A01, (fun a => a.n 0 % 2 == 1), m)
  | .readTimeStatus m => some (0x0A02, anyArgs, m)
  | .configureMonitor m => some (0x0A03, anyArgs, m)
  | .readHistogram m => some (0x0A04, anyArgs, m)
  | .readSensors m => some (0x0A05, anyArgs, m)
  | .setPowerLimit m => some (0x0A06, anyArgs, m)
  | .readSchedCounters m => some (0x0F01, anyArgs, m)
  | .readStreamCounters m => some (0x0F02, anyArgs, m)
  | .readMemoryCounters m => some (0x0F03, anyArgs, m)
  | .readStashCounters m => some (0x0F04, anyArgs, m)
  | .readNumericCounters m => some (0x0F05, anyArgs, m)
  | .readPhotometerCounters m => some (0x0F06, anyArgs, m)
  | .readSpectroCounters m => some (0x0F07, anyArgs, m)
  | .readEphemerisCounters m => some (0x0F08, anyArgs, m)
  | .readFabricCounters m => some (0x0F09, anyArgs, m)
  | .readCollectiveCounters m => some (0x0F0A, anyArgs, m)
  | .readHostCounters m => some (0x0F0B, anyArgs, m)
  | .readReliabilityCounters m => some (0x0F0C, anyArgs, m)
  | .mailboxCommandTimeout _ => none
  | .almanacHeartbeatTick => none
  | .almanacFailed => none
  | .msixModerationExpiry _ => none
  | .descriptorFetch _ => none
  | .taskAdmit _ => none
  | .coreSelect _ _ => none
  | .stealAttempt _ _ => none
  | .stealDescriptorMoved _ => none
  | .lendStart _ => none
  | .accountingPeriodEnd => none
  | .deficitBroadcast => none
  | .matrixTaskStart _ => none
  | .statsTaskStart _ => none
  | .vectorTaskStart _ => none
  | .sliceLanded _ _ _ => none
  | .resultDrain _ _ => none
  | .writebackAccepted _ => none
  | .gatherTask _ => none
  | .scatterTask _ => none
  | .transferTask _ => none
  | .spectroTask _ => none
  | .optimTask _ => none
  | .collectiveTask _ => none
  | .semWait _ => none
  | .semSignal _ => none
  | .timerTask _ => none
  | .timerExpired _ => none
  | .stepMark _ => none
  | .stepBoundary _ => none
  | .taskComplete _ _ _ => none
  | .semWaitTimeout _ => none
  | .parkTokenFree _ => none
  | .watchResend _ => none
  | .stashSBind _ => none
  | .stashSFwdDone _ => none
  | .stashSBwdNeed _ => none
  | .stashSRcDone _ => none
  | .stashSFree _ => none
  | .stashCopyDone _ => none
  | .guardTrigger _ => none
  | .guardRangeComplete _ => none
  | .foldSwap => none
  | .foldStart _ => none
  | .foldPublish _ => none
  | .photometerHold _ => none
  | .photometerHoldRelease _ => none
  | .assemblerPassDone _ => none
  | .spectroDecision _ => none
  | .spectroDeadline _ => none
  | .operatorApplyDone _ => none
  | .spectroWriteOut _ => none
  | .tableHold _ => none
  | .tableHoldRelease => none
  | .codewordReceived _ _ _ _ _ _ => none
  | .linkFlitReceived _ _ => none
  | .linkFlitDue _ => none
  | .portSignalDetect _ => none
  | .portTrainDone _ _ => none
  | .portLengthDone _ _ _ _ => none
  | .capsRecordReceived _ _ => none
  | .portDegrade _ _ _ => none
  | .portDown _ => none
  | .packetForward _ _ => none
  | .packetInject => none
  | .inboundWrite => none
  | .inboundReadReq => none
  | .readRspReceived => none
  | .writeAckReceived => none
  | .inboundSemOp => none
  | .inboundSemWatch => none
  | .watchRspReceived => none
  | .inboundWatchCancel => none
  | .collDataReceived => none
  | .collFreeReceived => none
  | .collAbortReceived => none
  | .collectiveTimeout _ => none
  | .fabricTimeout _ => none
  | .portStatesReceived => none
  | .portStatesSend => none
  | .peerReportStale _ => none
  | .siteStateReceived => none
  | .siteStateSend => none
  | .siteViewStale => none
  | .buddyBeatSend => none
  | .buddyBeatReceived => none
  | .buddyLost => none
  | .mirrorCreditReceived => none
  | .mirrorBeginReceived => none
  | .mirrorGranuleReceived => none
  | .mirrorCommitReceived => none
  | .mirrorAbortReceived => none
  | .mirrorDoneReceived => none
  | .restoreReqReceived => none
  | .channelRead _ _ => none
  | .channelWrite _ _ => none
  | .channelWriteDrain _ => none
  | .metadataWriteback _ => none
  | .strongCodeDecision _ => none
  | .surveyPageVisit _ => none
  | .channelTrainingLost _ => none
  | .bridgeLaneError _ _ _ => none
  | .repairStart => none
  | .repairPeerRetry _ => none
  | .repairDone _ => none
  | .repairFailed _ => none
  | .captureOnDemand _ _ => none
  | .stagingDrain _ _ => none
  | .checkpointCommit => none
  | .restoreDone _ => none
  | .storeRepairRead _ => none
  | .nandFrameRead _ _ _ => none
  | .storeBlockRefresh _ _ _ => none
  | .nandProgramFail _ _ => none
  | .storeDayTick => none
  | .storeReclaimDone _ => none
  | .bringupStart => none
  | .firmwareBoot => none
  | .measureDone _ => none
  | .bridgeTrainDone _ _ _ _ => none
  | .dramTrainDone _ _ _ => none
  | .nandTrainDone _ _ => none
  | .storeIndexLoaded _ _ => none
  | .portWindowClose => none
  | .tierFillDone _ => none
  | .bringupReady => none
  | .settingsSave _ => none
  | .computeResetDone => none
  | .clusterResetDone => none
  | .collimationDrainEnd => none
  | .collimationClearDone => none
  | .collimationMemoryTestDone _ _ => none
  | .collimationBlockDone _ _ => none
  | .collimationRestoreDone => none
  | .getVersion => none
  | .getCapabilities => none
  | .negotiateAlgorithms _ => none
  | .getDigests => none
  | .getCertificate _ _ _ => none
  | .challenge _ _ => none
  | .getMeasurements _ _ _ _ => none
  | .keyExchange _ => none
  | .finish _ _ => none
  | .heartbeat _ => none
  | .keyUpdate _ => none
  | .endSession _ => none
  | .spdmSessionIdle _ => none
  | .spdmUnsupportedRequest _ => none
  | .setSessionScope _ _ _ => none
  | .enterTenant _ _ _ _ _ _ _ _ => none
  | .exitTenant _ _ => none
  | .installKey _ _ _ _ _ _ => none
  | .destroyKey _ _ _ => none
  | .setPeerMap _ _ _ => none
  | .installMembership _ _ _ => none
  | .getMembershipProof _ _ _ => none
  | .vendorOpcodeInvalid _ _ => none
  | .getTdispVersion _ => none
  | .getTdispCapabilities _ => none
  | .lockInterfaceRequest _ => none
  | .getDeviceInterfaceReport _ => none
  | .getDeviceInterfaceState _ => none
  | .startInterfaceRequest _ => none
  | .stopInterfaceRequest _ => none
  | .ideKmQuery _ => none
  | .ideKmKeyProg _ _ _ _ _ => none
  | .ideKmKSetGo _ _ _ _ _ => none
  | .ideKmKSetStop _ _ _ _ _ => none
  | .ideIntegrityFailure _ _ => none
  | .tenantScrubDone => none
  | .bounceRecordFail => none
  | .bounceNop _ _ => none
  | .bounceWrite _ _ _ => none
  | .bounceReg _ _ _ _ => none
  | .bounceExport _ _ _ _ => none
  | .bounceRecordInvalid _ _ => none
  | .ppsEdge _ => none
  | .timeHoldover => none
  | .sensorSample _ _ _ _ => none
  | .powerControlSample => none
  | .protectiveShutdown _ _ _ _ => none
  | .powerDown => none
  | .pwrEnChange _ => none
  | .mainPowerChange _ _ => none
  | .auxPowerUp _ => none
  | .auxPowerLoss => none
  | .mainRailsUp => none
  | .cageModuleInsert _ _ => none
  | .setEndpointId _ => none
  | .getEndpointId => none
  | .getMctpVersionSupport _ => none
  | .getMessageTypeSupport => none
  | .getVendorMessageSupport => none
  | .enablePort _ _ => none
  | .disablePort _ _ => none
  | .regRead _ _ _ => none
  | .regWrite _ _ _ _ => none
  | .readHwStatus _ _ => none
  | .powerControlOff _ _ => none
  | .powerControlOn _ _ => none
  | .powerControlCycle _ _ => none
  | .fwWrite _ _ _ _ => none
  | .fwCommit _ _ _ _ => none
  | .memAccessEnable _ _ => none
  | .memAccessDisable _ _ => none
  | .memRead _ _ _ => none
  | .memWrite _ _ _ _ => none
  | .doeDiscovery _ => none
  | .jtagUnlock _ => none
  | .mirrorRingDrained => none

/-- The command of mailbox `m` is this row's, and its turn has come, and it passes steps 2 to 5 of R385. -/
def mbxTakes (op : Nat) (sel : Args → Bool) (m : Fin 16) (s : State) : Bool :=
  mbxDue op sel m s && (cmdSpec op).any fun c => (mbxChecks op c m s).isNone

/-- Argument word `i` of the command in mailbox `m`. -/
def State.arg (s : State) (m : Fin 16) (i : Nat) : Nat := Args.n (s.mailbox m).accArgs i

/-- An input buffer passes step 7 of R385 and holds no poison. -/
def bufReadable (a n align : Nat) (s : State) : Bool := (bufCheck a n align s).isNone && (devRead a n s).1.isNone

/-- The bytes of a buffer, and the state after reading them. -/
def bufBytes (a n : Nat) (s : State) : List Byte := (devRead a n s).2.1
def bufAfter (a n : Nat) (s : State) : State := (devRead a n s).2.2

/-- The session that a message names is open; a message may name none. -/
def State.sessionOpen (s : State) (sess : Option Nat) : Bool := sess.all fun i => (s.session i).isSome

/-- The session that a message names has carried it. -/
def touched (sess : Option Nat) (s : State) : State :=
  match sess with
  | none => s
  | some i => touch i s

end Sys2Proof.Machine
end

