-- ==== Sys2Proof/Certificates/Slice0/Obligations.lean ====
section
/-!
DEFINITION. The statements for the provers. Each clause about a command gives, under conditions on the state and the
operands, the next state that exec answers: `settle` of the state named, `settle` being what Almanac and Shutter do once a
command's effect stands (16, R394–R396; 15, R366).
-/

open Sys2Proof
open Sys2Proof.Machine

/-- For every command c, queue rest r and state s, a step of s with c at the front of its queue is exec of c on s with
the queue's rest. The queue is the model's own (log entry 1). On an empty queue a step of a powered module with no
error in an SRAM outside the cores and clusters (R412; SramErrors says what such an error does) adds 1 to the TCLK
cycle count and 1 ns plus the rate correction to the Chronograph and leaves memory, power and security as they were,
and a step of a module that is not powered changes nothing. That a tick is what an empty queue does is the model's
choice (log entry 1). -/
def Obligations.StepRunsQueue : Prop :=
  (∀ (c : Instr) (r : List Instr) (s : State),
    step { s with pending := c :: r } = exec c { s with pending := r }) ∧
  (∀ s : State, s.pending = [] →
    (s.powered = true → s.rel.unitErrs = [] → ∃ t, step s = .next t ∧ t.time.tclk = s.time.tclk + 1 ∧
      t.time.c = ((s.time.c : Int) + 2 ^ 32 + s.time.r).toNat % 2 ^ 96 ∧ t.mem = s.mem ∧ t.pow = s.pow ∧ t.sec = s.sec) ∧
    (s.powered = false → step s = .next s))

/-- No command is refused in any state: every command of the table has its meaning. -/
def Obligations.NothingIsRefused : Prop :=
  ∀ (c : Instr) (s : State) (r : Refusal), exec c s ≠ .refused r

/-- For every command that is not well-formed (a register access of another width, misaligned or outside BAR0; an
aperture request that no single request can make; a chunk whose plaintext cannot be a chunk) exec answers a next
state, whatever the state. Such a register write to a powered module changes nothing but that AER sees an
Unsupported Request, and one to a module that is not powered nothing. That such a command is so answered is the
model's choice (log entry 96). -/
def Obligations.IllFormedCompletes : Prop :=
  (∀ (c : Instr) (s : State), c.wf = false → ∃ t, exec c s = .next t) ∧
  (∀ (off width : Nat) (v : W64) (tlp : Tlp) (s : State), regOk off width = false →
    exec (.registerWrite off width v tlp) s =
      .next (settle (if s.powered then { s with host := { s.host with aerUR := true } } else s)))

/-- A well-formed command answers a next state in every state; none ends in a fault or a refusal. -/
def Obligations.WellFormedCompletes : Prop :=
  ∀ (c : Instr) (s : State), c.wf = true → ∃ t, exec c s = .next t

/-- If memory is in its canonical form, win_base is a multiple of the BAR2 size (0 when that is 2 TiB) and the event
ring lies whole in a DRAM tier or the host window, then the same holds after every step that answers a next state. -/
def Obligations.InvariantKept : Prop :=
  ∀ s t : State, Inv s → step s = .next t → Inv t

/-- The reset state has canonical memory, a BAR2 of 2 TiB with win_base 0 and no event ring. -/
def Obligations.InvariantAtReset : Prop :=
  Inv State.reset

/-- Where the event ring lies in a DRAM tier or the host window, settle leaves everything as it is but memory, counters,
outputs, flags and the event state of Almanac, pending MSI-X bits, the outbound bounce ring, and what a write of
DRAM marks: mailboxes, tasks, queues, semaphores, time, power, bring-up, fabric, numerics, stash, Photometer,
Spectrograph, Ephemeris and store are unchanged, and so are mode, keys and sessions. -/
def Obligations.SettleFrame : Prop :=
  ∀ s : State, s.ringOk →
    let t := settle s
    t.pending = s.pending ∧ t.sems = s.sems ∧ t.mer = s.mer ∧ t.prog = s.prog ∧ t.strm = s.strm ∧ t.time = s.time ∧
    t.sens = s.sens ∧ t.boot = s.boot ∧ t.pow = s.pow ∧ t.fab = s.fab ∧ t.num = s.num ∧ t.stash = s.stash ∧
    t.phot = s.phot ∧ t.spec = s.spec ∧ t.ephem = s.ephem ∧ t.store = s.store ∧ t.free = s.free ∧
    t.alm.mbx = s.alm.mbx ∧ t.alm.ring = s.alm.ring ∧ t.sec.mode = s.sec.mode ∧ t.sec.keys = s.sec.keys ∧
    t.sec.sessions = s.sec.sessions ∧ t.host.winBase = s.host.winBase

/-- Where no event ring is configured and no outbound bounce record waits, settle leaves the state as it is. -/
def Obligations.SettleQuiet : Prop :=
  ∀ s : State, s.alm.ring = none → s.sec.bounce.waiting = [] → settle s = s

/-- For every mailbox row: where the command of the mailbox is this row's, its turn has come and the store is not
mounting, a failure of steps 2 to 5 of R385 completes the command with that status and result words 0, and nothing
else changes. -/
def Obligations.MailboxRefusal : Prop :=
  ∀ (c : Instr) (op : Nat) (sel : Args → Bool) (m : Fin 16) (s : State) (k : CmdSpec) (st : Nat),
    mbxRow c = some (op, sel, m) → s.store.mounting = false → mbxDue op sel m s = true → cmdSpec op = some k →
    mbxChecks op k m s = some st → exec c s = .next (settle (mbxComplete m st [] s))

/-- Completing the command of mailbox m writes MBX_RES0-3 (0 where none is given), sets state DONE, the status and
done_seq = run_seq, sets MBX_DONE bit m, adds 1 to its 16-bit counter, and leaves the other mailboxes, MBX_CMD, the
argument words, memory and every other unit as they are. -/
def Obligations.MailboxCompletion : Prop :=
  ∀ (m : Fin 16) (st : Nat) (res : List Nat) (s : State),
    let t := mbxComplete m st res s
    (∀ i : Fin 4, (t.mailbox m).res[i] = BitVec.ofNat 64 (res.getD i 0)) ∧
    (t.mailbox m).st = .done ∧ (t.mailbox m).status = BitVec.ofNat 16 st ∧
    (t.mailbox m).doneSeq = (s.mailbox m).runSeq ∧ (t.mailbox m).runSeq = (s.mailbox m).runSeq ∧
    (t.mailbox m).cmd = (s.mailbox m).cmd ∧ (t.mailbox m).args = (s.mailbox m).args ∧
    t.alm.mbxDone = s.alm.mbxDone ||| ((1 : W16) <<< m.val) ∧
    t.alm.doneCount[m] = s.alm.doneCount[m] + 1 ∧
    (∀ k : Fin 16, k ≠ m → t.mailbox k = s.mailbox k ∧ t.alm.doneCount[k] = s.alm.doneCount[k]) ∧
    t.mem = s.mem ∧ t.mer = s.mer ∧ t.time = s.time ∧ t.boot = s.boot ∧ t.pow = s.pow ∧ t.fab = s.fab ∧
    t.sec.mode = s.sec.mode ∧ t.sec.keys = s.sec.keys ∧ t.ctr = s.ctr

/-- While Almanac runs, a doorbell write of mailbox m that the host reaches is accepted when the mailbox is not BUSY,
its low 16 bits equal MBX_CMD.seq and differ from done_seq: the command and the argument words are copied, run_seq
is set and state becomes BUSY; a short command takes its place behind those observed before, and one whose opcode is
in no table completes OPCODE_UNKNOWN. Where one of the conditions fails the mailbox is unchanged, ERR_SUMMARY bit 1
is set and MAILBOX_DOORBELL_INVALID is posted. -/
def Obligations.DoorbellAccepts : Prop :=
  ∀ (m : Fin 16) (v : W64) (tee : Bool) (s : State), s.almanacUp = true → s.hostServes tee = true →
    ¬ (m = 15 ∧ s.pow.mpOwner = true) →
    let x := s.mailbox m
    let seq := BitVec.ofNat 16 v.toNat
    let ok := x.st ≠ .busy ∧ seq.toNat = x.cmd.toNat / 65536 % 65536 ∧ seq ≠ x.doneSeq
    let acc := setMbx m (fun x => { x with
      runSeq := seq, st := .busy, accOp := x.cmd.toNat % 65536, accArgs := x.args, started := false
      progress := 0, fromPort := false, accAt := s.cyc }) s
    (ok → ∀ c, cmdSpec (x.cmd.toNat % 65536) = some c →
      exec (.mbxDoorbell m v ⟨tee, false, false⟩) s = .next (settle
        (if c.group.isSome then acc else { acc with alm := { acc.alm with shortQ := acc.alm.shortQ ++ [m.val] } }))) ∧
    (ok → cmdSpec (x.cmd.toNat % 65536) = none →
      exec (.mbxDoorbell m v ⟨tee, false, false⟩) s = .next (settle (mbxComplete m St.opcodeUnknown [] acc))) ∧
    (¬ ok → exec (.mbxDoorbell m v ⟨tee, false, false⟩) s =
      .next (settle (post Ev.mailboxDoorbellInvalid [m.val, v.toNat] (setErr 1 s))))

/-- NOP completes OK with MBX_ARG0 in RES0. GET_DEVICE_INFO completes OK with firmware, command-set revision and
stepping in RES0, the serial in RES1, the retired map, the spares and the member code in RES2, the module id in
RES3. SET_EVENT_RING completes OK where n is 6 to 16 and the buffer passes step 7 of R385: the ring is configured
and head and tail are 0. A READ_*_COUNTERS command whose buffer passes step 7 of R385 and is long enough completes
OK with the table's size in RES0, having written the table's values, coarsened in a tenant mode, to the buffer. -/
def Obligations.GeneralCommands : Prop :=
  (∀ (m : Fin 16) (s : State),
    (mbxTakes 0x0002 anyArgs m s = true →
      exec (.nop m) s = .next (settle (mbxComplete m St.ok [s.arg m 0] s))) ∧
    (mbxTakes 0x0001 anyArgs m s = true →
      exec (.getDeviceInfo m) s = .next (settle (mbxComplete m St.ok
        [0x00040002 * 2 ^ 32 + 0x0402 * 2 ^ 16 + 0xB0 * 2 ^ 8, Config.serial.toNat,
         s.boot.retired.toNat * 2 ^ 32 + s.spares * 2 ^ 16 + 0x0009,
         b2n s.fab.id.isSome * 2 ^ 10 + s.fab.id.getD 0] s))) ∧
    (mbxTakes 0x0003 anyArgs m s = true → 6 ≤ s.arg m 1 → s.arg m 1 ≤ 16 →
      bufCheck (s.arg m 0) (64 * 2 ^ s.arg m 1) 4096 s = none →
      exec (.setEventRing m) s = .next (settle (mbxComplete m St.ok []
        { s with alm := { s.alm with ring := some (s.arg m 0, s.arg m 1), evtHead := 0, evtTail := 0, evtFloor := 0 } })))) ∧
  (∀ (m : Fin 16) (s : State), ∀ p ∈ ([(0x0F01, .sched, .readSchedCounters m), (0x0F02, .stream, .readStreamCounters m),
      (0x0F03, .memory, .readMemoryCounters m), (0x0F04, .stash, .readStashCounters m),
      (0x0F05, .numeric, .readNumericCounters m), (0x0F06, .photometer, .readPhotometerCounters m),
      (0x0F07, .spectro, .readSpectroCounters m), (0x0F08, .ephemeris, .readEphemerisCounters m),
      (0x0F09, .fabric, .readFabricCounters m), (0x0F0A, .collective, .readCollectiveCounters m),
      (0x0F0B, .host, .readHostCounters m), (0x0F0C, .reliability, .readReliabilityCounters m)] :
        List (Nat × CTable × Instr)),
    mbxTakes p.1 anyArgs m s = true →
    let w := tableWords p.2.1 s
    bufCheck (s.arg m 0) (s.arg m 1) 1 w.2 = none → (wordBytes w.1).length ≤ s.arg m 1 →
    exec p.2.2 s = .next (settle (mbxComplete m St.ok [(wordBytes w.1).length] (devPut (s.arg m 0) (wordBytes w.1) w.2))))

/-- A served TQ_DOORBELL write for queue q moves its tail to t where t is ahead of the tail and at most the ring's size
ahead of the head, and the head passes what is then published of discarded ranges that it has come to; otherwise,
and where there is no queue q, it sets write_refused and posts QUEUE_DOORBELL_INVALID. TQ_CPL_HEAD moves cpl_head
where it moves neither backward nor past cpl_tail; otherwise, and where there is no queue q, it sets write_refused.
A stash or guard doorbell whose tail is new and within the ring takes the new entries in order; otherwise, and
without a context (the model's reading, log entry 86), it sets write_refused and posts its event. A doorbell write
that the mode does not serve has no effect but that AER sees an Unsupported Request, and a poisoned one counts in
host_poisoned. -/
def Obligations.QueueDoorbells : Prop :=
  ∀ (v : W64) (tee : Bool) (s : State), s.powered = true →
    let q := v.toNat % 65536
    let t := BitVec.ofNat 32 (v.toNat / 2 ^ 32)
    let lo := BitVec.ofNat 32 v.toNat
    let ahead := fun (x : Queue) => 0 < (t - x.tail).toNat ∧ (t - x.head).toNat ≤ 2 ^ x.log
    let newStash := fun (c : StashCtx) => 0 < (lo - s.stash.tail).toNat ∧ (lo - s.stash.oldest).toNat ≤ 2 ^ c.log
    let newGuard := fun (c : NumCtx) => 0 < (lo - s.num.tail).toNat ∧ (lo - s.num.oldest).toNat ≤ 2 ^ c.log
    let bells := [Instr.tqDoorbell v, Instr.tqCplHead v, Instr.stashDoorbell v, Instr.guardDoorbell v]
    (s.hostServes tee = true →
      (∀ x, kvFind q s.mer.queues = some x → ahead x →
        exec (.tqDoorbell v ⟨tee, false, false⟩) s = .next (settle { s with mer := { s.mer with
          rung := true
          queues := kvUpd q (fun x => ({ x with
            tail := t, headSince := if x.head = x.tail ∧ x.fetched = none then s.cyc else x.headSince } : Queue).passSkips)
            s.mer.queues } })) ∧
      ((∀ x, kvFind q s.mer.queues = some x → ¬ ahead x) →
        exec (.tqDoorbell v ⟨tee, false, false⟩) s =
          .next (settle (post Ev.queueDoorbellInvalid [q, t.toNat] (setErr 2 s)))) ∧
      (∀ x, kvFind q s.mer.queues = some x → (t - x.cplHead).toNat ≤ (x.cplTail - x.cplHead).toNat →
        exec (.tqCplHead v ⟨tee, false, false⟩) s = .next (settle { s with mer := { s.mer with
          queues := kvUpd q (fun x => { x with cplHead := t }) s.mer.queues } })) ∧
      ((∀ x, kvFind q s.mer.queues = some x → (x.cplTail - x.cplHead).toNat < (t - x.cplHead).toNat) →
        exec (.tqCplHead v ⟨tee, false, false⟩) s = .next (settle (setErr 2 s))) ∧
      (∀ c, s.stash.ctx = some c → newStash c →
        exec (.stashDoorbell v ⟨tee, false, false⟩) s = .next (settle
          ((List.range (lo - s.stash.tail).toNat).foldl
            (fun u i => acceptEntry c (s.stash.tail + BitVec.ofNat 32 i) u)
            { s with stash := { s.stash with tail := lo } }))) ∧
      ((∀ c, s.stash.ctx = some c → ¬ newStash c) →
        exec (.stashDoorbell v ⟨tee, false, false⟩) s =
          .next (settle (post Ev.stashDoorbellInvalid [lo.toNat] (setErr 2 s)))) ∧
      (∀ c, s.num.ctx = some c → newGuard c →
        exec (.guardDoorbell v ⟨tee, false, false⟩) s = .next (settle
          ((List.range (lo - s.num.tail).toNat).foldl
            (fun u i => acceptGuard c (s.num.tail + BitVec.ofNat 32 i) u)
            { s with num := { s.num with tail := lo } }))) ∧
      ((∀ c, s.num.ctx = some c → ¬ newGuard c) →
        exec (.guardDoorbell v ⟨tee, false, false⟩) s =
          .next (settle (post Ev.guardDoorbellInvalid [lo.toNat] (setErr 2 s))))) ∧
    (∀ c ∈ bells,
      (s.hostServes tee = false →
        exec (c ⟨tee, false, false⟩) s = .next (settle { s with host := { s.host with aerUR := true } })) ∧
      exec (c ⟨tee, true, false⟩) s = .next (settle (count .hostPoisoned 0 1 s)))

/-- To a powered module: a served well-formed write of pages 0 to 2 has the effect its page's registers give it
(pageWrite), and one of page 4 writes the MSI-X table in every mode. A served 64-bit write of MBX_ARGk of a mailbox
that is not BUSY (and not the port's) stores the word, and one of MBX_CMD its low 32 bits; in BUSY both change
nothing. APERTURE_BASE takes win_base where it is a multiple of the BAR2 size, and 0 when that is 2 TiB; otherwise
write_refused is set. EVT_HEAD takes a value from the tail at SET_EVENT_RING to the tail; otherwise write_refused is
set. A write to MBX_DONE or ERR_SUMMARY clears the bits written as 1, but a set bit whose set falls in the same
cycle stays 1 and sets its missed bit; bits 16 up clear missed bits. A 64-bit write of BNC_IN_TAIL sets the inbound
tail and one of BNC_OUT_HEAD the outbound head, each to bits [30:0] of the value, in every mode (the model's
reading, log entry 98). A write of pages 0 to 2 that the mode does not serve, and one of a reserved page, changes
nothing but that AER sees an Unsupported Request; a poisoned write changes nothing and counts in host_poisoned; an
AtomicOp completes with UR. -/
def Obligations.HostRegisterWrites : Prop :=
  ∀ (s : State) (tee : Bool), s.powered = true →
    let w := (⟨tee, false, false⟩ : Tlp)
    let ur := { s with host := { s.host with aerUR := true } }
    (s.hostServes tee = true →
      (∀ (off width : Nat) (v : W64), regOk off width = true → off < 0x30000 →
        exec (.registerWrite off width v w) s = .next (settle (pageWrite off width (v.toNat % 2 ^ (8 * width)) 0 s))) ∧
      (∀ (m : Fin 16) (k : Fin 8) (v : W64), ¬ (m = 15 ∧ s.pow.mpOwner = true) →
        ((s.mailbox m).st ≠ .busy →
          exec (.registerWrite (0x100 * m.val + 8 * (k.val + 1)) 8 v w) s =
            .next (settle (setMbx m (fun x => { x with args := x.args.set k v }) s)) ∧
          exec (.registerWrite (0x100 * m.val) 8 v w) s =
            .next (settle (setMbx m (fun x => { x with cmd := BitVec.ofNat 64 (v.toNat % 2 ^ 32) }) s))) ∧
        ((s.mailbox m).st = .busy →
          exec (.registerWrite (0x100 * m.val + 8 * (k.val + 1)) 8 v w) s = .next (settle s) ∧
          exec (.registerWrite (0x100 * m.val) 8 v w) s = .next (settle s))) ∧
      (∀ v : W64, let a := v.toNat % 2 ^ 52
        let ok := a % 2 ^ s.host.bar2Log = 0 ∧ (s.host.bar2Log = 41 → a = 0)
        (ok → exec (.apertureBaseWrite v w) s =
          .next (settle { s with host := { s.host with winBase := BitVec.ofNat 64 a } })) ∧
        (¬ ok → exec (.apertureBaseWrite v w) s = .next (settle (setErr 2 s)))) ∧
      (∀ v : W64, let h := BitVec.ofNat 32 v.toNat
        let ok := (s.alm.evtTail - h).toNat ≤ (s.alm.evtTail - s.alm.evtFloor).toNat
        (ok → exec (.evtHeadWrite v w) s = .next (settle { s with alm := { s.alm with evtHead := h } })) ∧
        (¬ ok → exec (.evtHeadWrite v w) s = .next (settle (setErr 2 s)))) ∧
      (∀ v meets : W64, ∃ t, exec (.mbxDoneClear v meets w) s = .next (settle t) ∧
        t = { s with alm := { s.alm with mbxDone := t.alm.mbxDone, mbxMissed := t.alm.mbxMissed } } ∧
        ∀ i : Fin 16, let hit := meets.getLsbD i && s.alm.mbxDone.getLsbD i
          t.alm.mbxDone.getLsbD i = (s.alm.mbxDone.getLsbD i && (!v.getLsbD i || hit)) ∧
          t.alm.mbxMissed.getLsbD i = ((s.alm.mbxMissed.getLsbD i && !v.getLsbD (16 + i)) || (v.getLsbD i && hit))) ∧
      (∀ v meets : W64, ∃ t, exec (.errSummaryClear v meets w) s = .next (settle t) ∧
        t = { s with alm := { s.alm with errFlags := t.alm.errFlags, errMissed := t.alm.errMissed } } ∧
        ∀ i : Fin 5, let hit := meets.getLsbD i && s.alm.errFlags.getLsbD i
          t.alm.errFlags.getLsbD i = (s.alm.errFlags.getLsbD i && (!v.getLsbD i || hit)) ∧
          t.alm.errMissed.getLsbD i = ((s.alm.errMissed.getLsbD i && !v.getLsbD (16 + i)) || (v.getLsbD i && hit)))) ∧
    (∀ (off width : Nat) (v : W64), regOk off width = true → 0x40000 ≤ off → off < 0x50000 →
      exec (.registerWrite off width v w) s =
        .next (settle (writeMsix (off - 0x40000) width (v.toNat % 2 ^ (8 * width)) s))) ∧
    (∀ v : W64, let x := BitVec.ofNat 64 (v.toNat % 2 ^ 31)
      exec (.bncInTailWrite v w) s =
        .next (settle { s with sec := { s.sec with bounce := { s.sec.bounce with inTail := x } } }) ∧
      exec (.bncOutHeadWrite v w) s =
        .next (settle { s with sec := { s.sec with bounce := { s.sec.bounce with outHead := x } } })) ∧
    (∀ (off width : Nat) (v meets : W64), regOk off width = true →
      (0x50000 ≤ off ∨ (off < 0x30000 ∧ s.hostServes tee = false) →
        exec (.registerWrite off width v w) s = .next (settle ur)) ∧
      (s.hostServes tee = false →
        ∀ c ∈ [Instr.apertureBaseWrite v, Instr.evtHeadWrite v, Instr.mbxDoneClear v meets, Instr.errSummaryClear v meets],
          exec (c w) s = .next (settle ur)) ∧
      (∀ c ∈ [Instr.registerWrite off width v, Instr.apertureBaseWrite v, Instr.evtHeadWrite v,
          Instr.mbxDoneClear v meets, Instr.errSummaryClear v meets, Instr.bncInTailWrite v, Instr.bncOutHeadWrite v],
        exec (c ⟨tee, true, false⟩) s = .next (settle (count .hostPoisoned 0 1 s)) ∧
        exec (c ⟨tee, false, true⟩) s = .next (settle (emit .hostUR ur))))

/-- Offset o of the aperture addresses win_base + o. Where the module is ready, the mode serves the request, and the
range (its first address, of an access of no bytes: the model's choice, log entry 96) lies in one usable DRAM window
whose tier no fill closes, a write stores its bytes there as a device write does and a read returns the bytes
stored, poisoned where it meets poison; the bytes moved are counted. Any other address in BAR2 is refused: a write
is discarded, a read completes with UR, host_ur counts 1 and AER sees an Unsupported Request. Outside BAR2 the same
holds but host_ur does not count (the model's choice, log entry 96). A poisoned write is discarded and counts in
host_poisoned; an AtomicOp completes with UR. -/
def Obligations.ApertureAccess : Prop :=
  ∀ (s : State) (off n : Nat) (bs : List Byte) (tee : Bool), s.powered = true →
    let a := s.host.winBase.toNat + off
    let ok := fun n => s.hostServes tee = true ∧ s.boot.ready = true ∧ checkAccess .host a (max n 1) = none ∧
      s.memBusy a n = false
    let seen := { s with host := { s.host with aerUR := true } }
    let ur := count .hostUr 0 1 seen
    let r := devRead a n s
    (s.inBar2 off bs.length = true →
      (ok bs.length → exec (.apertureWrite off bs ⟨tee, false, false⟩) s =
        .next (settle (devPut a bs (count .hostWrBytes 0 bs.length s)))) ∧
      (¬ ok bs.length → exec (.apertureWrite off bs ⟨tee, false, false⟩) s = .next (settle ur))) ∧
    (s.inBar2 off n = true →
      (ok n → exec (.apertureRead off n ⟨tee, false, false⟩) s =
        .next (settle (emit (if r.1 = none then .hostData r.2.1 else .hostPoison r.2.1)
          (count .hostRdBytes 0 n r.2.2)))) ∧
      (¬ ok n → exec (.apertureRead off n ⟨tee, false, false⟩) s = .next (settle (emit .hostUR ur)))) ∧
    (s.inBar2 off bs.length = false →
      exec (.apertureWrite off bs ⟨tee, false, false⟩) s = .next (settle seen)) ∧
    (s.inBar2 off n = false →
      exec (.apertureRead off n ⟨tee, false, false⟩) s = .next (settle (emit .hostUR seen))) ∧
    exec (.apertureWrite off bs ⟨tee, true, false⟩) s = .next (settle (count .hostPoisoned 0 1 s)) ∧
    exec (.apertureWrite off bs ⟨tee, false, true⟩) s = .next (settle (emit .hostUR seen)) ∧
    exec (.apertureRead off n ⟨tee, false, true⟩) s = .next (settle (emit .hostUR seen))

/-- While Shutter answers, GET_VERSION returns version 1.2, GET_CAPABILITIES and NEGOTIATE_ALGORITHMS the one capability
set and algorithm suite, GET_DIGESTS the digest of the slot 0 chain, GET_CERTIFICATE a portion of that chain with
its length and what remains (InvalidRequest from an offset past its end), CHALLENGE the digest and a nonce signed
over the requester's nonce, GET_MEASUREMENTS the blocks that the session's scope returns, signed where asked; any
other request gets the UnsupportedRequest error, a slot other than 0 the InvalidRequest error. The codes of SPDM are
the standard's (log entry 100). While Shutter answers, KEY_EXCHANGE on slot 0 with fewer than 4 sessions opens one
under a free id, its answer naming the 10 s heartbeat period, and with 4 is answered Busy; FINISH with a MAC that
verifies secures it, and otherwise drops it; HEARTBEAT and KEY_UPDATE are answered in an open session; END_SESSION
ends it; a message of a session that is not open is answered InvalidSession. A session that has carried no message
for 20 s is ended, and the end of the owner session ends its tenancy. -/
def Obligations.SpdmMessages : Prop :=
  (∀ s : State, s.doeUp = true →
    exec .getVersion s = .next (settle (emit (.spdm "GET_VERSION" 0 [0x00, 0x12]) s)) ∧
    exec .getCapabilities s = .next (settle (emit (.spdm "GET_CAPABILITIES" 0 (leBytes 4 capabilityFlags)) s)) ∧
    exec (.negotiateAlgorithms true) s = .next (settle (emit (.spdm "NEGOTIATE_ALGORITHMS" 0 algorithms) s)) ∧
    exec .getDigests s = .next (settle (emit (.spdm "GET_DIGESTS" 0 (digestBytes (Config.sha384 Config.certChain))) s)) ∧
    (∀ off n, let p := (Config.certChain.drop off).take n
      exec (.getCertificate 0 off n) s = .next (settle (emit
        (if off < Config.certChain.length then .spdm "GET_CERTIFICATE" 0
          (leBytes 2 p.length ++ leBytes 2 (Config.certChain.length - off - p.length) ++ p)
         else .spdm "GET_CERTIFICATE" 1 []) s))) ∧
    (∀ nonce, let body := chainDigest ++ (freeBytes 32 s).1
      exec (.challenge 0 nonce) s = .next (settle (emit (.spdm "CHALLENGE" 0 (body ++ signed (nonce ++ body)))
        (freeBytes 32 s).2))) ∧
    (∀ slot off n nonce, slot ≠ 0 →
      exec (.getCertificate slot off n) s = .next (settle (emit (.spdm "GET_CERTIFICATE" 1 []) s)) ∧
      exec (.challenge slot nonce) s = .next (settle (emit (.spdm "CHALLENGE" 1 []) s))) ∧
    (∀ sess nonce, s.sessionOpen sess = true → let u := touched sess s
      (let body := leBytes 1 (u.indices sess).length ++ (u.indices sess).flatMap u.block
       exec (.getMeasurements sess 0xFF true nonce) s =
         .next (settle (emit (.spdm "GET_MEASUREMENTS" 0 (body ++ signed (nonce ++ body))) (attest sess u)))) ∧
      (∀ op, op ≠ 0 → op ≠ 0xFF →
        let asked := (u.indices sess).filter (· == op)
        exec (.getMeasurements sess op false nonce) s =
          .next (settle (emit (.spdm "GET_MEASUREMENTS" 0 (leBytes 1 asked.length ++ asked.flatMap u.block)) u))) ∧
      exec (.getMeasurements sess 0 false nonce) s =
        .next (settle (emit (.spdm "GET_MEASUREMENTS" 0 (leBytes 1 (u.indices sess).length)) u)) ∧
      exec (.spdmUnsupportedRequest sess) s = .next (settle (emit (.spdm "UNSUPPORTED" 7 []) u))) ∧
    (∀ index, index < 3 → exec (.doeDiscovery index) s =
      .next (settle (emit (.doe 0 (leBytes 2 1 ++ leBytes 1 index ++ leBytes 1 ((index + 1) % 3))) s)))) ∧
  (∀ (s : State) (i : Nat), 
    (s.doeUp = true → s.sec.sessions.length < 4 →
      exec (.keyExchange 0) s = .next (settle
        (let u := (freeBytes 128 s).2
         emit (.spdm "KEY_EXCHANGE" 0 ([10#8] ++ leBytes 2 s.freeSession ++ (freeBytes 128 s).1 ++ signed (freeBytes 128 s).1))
          { u with sec := { u.sec with sessions := u.sec.sessions ++ [{ id := s.freeSession, last := u.cyc }] } }))) ∧
    (s.doeUp = true → 4 ≤ s.sec.sessions.length →
      exec (.keyExchange 0) s = .next (settle (emit (.spdm "KEY_EXCHANGE" 3 []) s))) ∧
    (∀ x, s.doeUp = true → s.sec.sessions.find? (fun x => x.id == i) = some x → x.secured = false →
      exec (.finish i true) s = .next (settle (emit (.spdm "FINISH" 0 [])
        (setSession i (fun x => { x with secured := true, last := s.cyc }) s))) ∧
      exec (.finish i false) s = .next (settle (emit (.spdm "FINISH" 6 []) (dropSession i s)))) ∧
    (s.doeUp = true → (s.session i).isSome = true →
      exec (.heartbeat i) s = .next (settle (emit (.spdm "HEARTBEAT" 0 []) (touch i s))) ∧
      exec (.keyUpdate i) s = .next (settle (emit (.spdm "KEY_UPDATE" 0 [])
        (setSession i (fun x => { x with updates := x.updates + 1 }) (touch i s)))) ∧
      exec (.endSession i) s = .next (settle (sessionEnds i (emit (.spdm "END_SESSION" 0 []) (touch i s))))) ∧
    (s.doeUp = true → (s.session i).isSome = false →
      exec (.heartbeat i) s = .next (settle (emit (.spdm "HEARTBEAT" 2 []) s)) ∧
      exec (.keyUpdate i) s = .next (settle (emit (.spdm "KEY_UPDATE" 2 []) s)) ∧
      exec (.endSession i) s = .next (settle (emit (.spdm "END_SESSION" 2 []) s))) ∧
    (∀ x, s.powered = true → s.sec.sessions.find? (fun x => x.id == i) = some x → x.last + 20000000000 ≤ s.cyc →
      exec (.spdmSessionIdle i) s = .next (settle (sessionEnds i s))) ∧
    (s.isOwner (some i) = true → sessionEnds i s = ownerEnds (dropSession i s)) ∧
    (s.sec.owner ≠ some i → sessionEnds i s = dropSession i s))

/-- While Shutter answers and no scrub runs, in an open session: SET_SESSION_SCOPE with 1 to 1024 sets the session's
scope; the owner's INSTALL_KEY, after a signed report, stores a 32-byte key in slot 0 to 15, DESTROY_KEY erases one,
SET_PEER_MAP stores the 1024-bit map; INSTALL_MEMBERSHIP stores a certificate that passes its checks;
GET_MEMBERSHIP_PROOF returns the signed proof; EXIT_TENANT of the owner starts the scrub to OPEN, ENTER_TENANT in
OPEN with a ready module starts the scrub to TENANT_BOUNCE with this session as owner; an unlisted opcode is
answered status 1. While Shutter answers, in an open session: where no scrub runs, EXIT_TENANT, DESTROY_KEY and
SET_PEER_MAP from a session that is not the owner are answered status 2 and change nothing; INSTALL_KEY from an
owner that has received no signed report is answered status 5; ENTER_TENANT outside OPEN is answered status 2; a
certificate that fails a check is answered status 4. While a scrub runs, a request that names a state change waits
for its end and GET_MEMBERSHIP_PROOF is answered BUSY. -/
def Obligations.VendorMessages : Prop :=
  (∀ (s : State) (i : Nat), s.doeUp = true → s.sec.scrub = none → (s.session i).isSome = true →
    let u := touch i s
    (∀ n, 1 ≤ n → n ≤ 1024 → exec (.setSessionScope (some i) 0 n) s =
      .next (settle (emit (.vendor 1 0 []) (setSession i (fun x => { x with scope := n }) u)))) ∧
    (∀ slot kind keyId key x, slot ≤ 15 → kind ≤ 1 → keyId < 2 ^ 32 → key.length = 32 → u.sec.owner = some i →
      u.session i = some x → x.attested = true →
      exec (.installKey (some i) 0 slot kind keyId key) s = .next (settle (emit (.vendor 4 0 [])
        { u with sec := { u.sec with keys := kvSet slot ⟨kind == 1, keyId, key⟩ u.sec.keys } }))) ∧
    (∀ slot, slot ≤ 15 → u.sec.owner = some i →
      exec (.destroyKey (some i) 0 slot) s = .next (settle (emit (.vendor 5 0 [])
        { u with sec := { u.sec with keys := kvDel slot u.sec.keys } }))) ∧
    (∀ map, map.length = 128 → u.sec.owner = some i →
      exec (.setPeerMap (some i) 0 map) s = .next (settle (emit (.vendor 6 0 []) { u with sec := { u.sec with
        peers := (List.range 1024).filter fun m => (map.getD (m / 8) 0).getLsbD (m % 8) } }))) ∧
    (∀ cert, cert.length = 256 → u.certOk cert = true →
      exec (.installMembership (some i) 0 cert) s = .next (settle (emit (.vendor 7 0 [])
        { u with sec := { u.sec with membership := some cert } }))) ∧
    (∀ nonce c, nonce.length = 32 → u.sec.membership = some c →
      exec (.getMembershipProof (some i) 0 nonce) s =
        .next (settle (emit (.vendor 8 0 (u.proof c nonce)) (attest (some i) u)))) ∧
    (u.sec.owner = some i →
      exec (.exitTenant (some i) 0) s = .next (settle (scrubStart .exit .openMode .configUnlocked none u))) ∧
    (∀ ib il ob ol hw tw, let rings : Bounce := { inBase := ib, inLog := il, outBase := ob, outLog := ol, inHeadWord := hw, outTailWord := tw }
      ringsOk rings = true → u.sec.mode = .openMode → u.boot.ready = true → u.sec.jtagNow = false → u.pow.mpNow = false →
      exec (.enterTenant (some i) 0 ib il ob ol hw tw) s = .next (settle
        (scrubStart .enter .tenantBounce .configUnlocked (some rings) { u with sec := { u.sec with owner := some i } }))) ∧
    (∀ op, op < 65536 → exec (.vendorOpcodeInvalid (some i) op) s = .next (settle (emit (.vendor op 1 []) u)))) ∧
  (∀ (s : State) (i : Nat), s.doeUp = true → (s.session i).isSome = true →
    let u := touch i s
    (s.sec.scrub = none → u.sec.owner ≠ some i →
      exec (.exitTenant (some i) 0) s = .next (settle (emit (.vendor 3 2 []) u)) ∧
      (∀ slot, slot ≤ 15 → exec (.destroyKey (some i) 0 slot) s = .next (settle (emit (.vendor 5 2 []) u))) ∧
      (∀ map, map.length = 128 → exec (.setPeerMap (some i) 0 map) s = .next (settle (emit (.vendor 6 2 []) u)))) ∧
    (∀ slot kind keyId key x, s.sec.scrub = none → slot ≤ 15 → kind ≤ 1 → keyId < 2 ^ 32 → key.length = 32 →
      u.sec.owner = some i → u.session i = some x → x.attested = false →
      exec (.installKey (some i) 0 slot kind keyId key) s = .next (settle (emit (.vendor 4 5 []) u))) ∧
    (∀ ib il ob ol hw tw, s.sec.scrub = none → s.sec.mode ≠ .openMode →
      ringsOk { inBase := ib, inLog := il, outBase := ob, outLog := ol, inHeadWord := hw, outTailWord := tw } = true →
      exec (.enterTenant (some i) 0 ib il ob ol hw tw) s = .next (settle (emit (.vendor 2 2 []) u))) ∧
    (∀ cert, s.sec.scrub = none → cert.length = 256 → u.certOk cert = false →
      exec (.installMembership (some i) 0 cert) s = .next (settle (emit (.vendor 7 4 []) u))) ∧
    (∀ x, s.sec.scrub = some x →
      (∀ rsv, exec (.exitTenant (some i) rsv) s = .next (settle
        { u with sec := { u.sec with scrub := some { x with waiting := x.waiting ++ [.exitTenant (some i) rsv] } } })) ∧
      (∀ rsv slot, exec (.destroyKey (some i) rsv slot) s = .next (settle
        { u with sec := { u.sec with scrub := some { x with waiting := x.waiting ++ [.destroyKey (some i) rsv slot] } } })) ∧
      (∀ rsv nonce, exec (.getMembershipProof (some i) rsv nonce) s = .next (settle (emit (.vendor 8 3 []) u)))))

/-- While Shutter answers and no scrub runs, in an open session: version and capabilities are answered;
LOCK_INTERFACE_REQUEST in CONFIG_UNLOCKED and OPEN with a ready module, a Secure IDE stream, every stream halted and
neither debug gate open starts the scrub to TENANT_IDE and CONFIG_LOCKED; the report is returned in CONFIG_LOCKED
and RUN and refused elsewhere, the state always; START moves CONFIG_LOCKED to RUN and is refused elsewhere; STOP in
ERROR leads to CONFIG_UNLOCKED, and in CONFIG_LOCKED or RUN starts the scrub to OPEN. -/
def Obligations.TdispMessages : Prop :=
  ∀ (s : State) (i : Nat), s.doeUp = true → s.sec.scrub = none → (s.session i).isSome = true →
    let u := touch i s
    exec (.getTdispVersion (some i)) s = .next (settle (emit (.tdisp "GET_TDISP_VERSION" 0 [1, 0x10]) u)) ∧
    exec (.getTdispCapabilities (some i)) s =
      .next (settle (emit (.tdisp "GET_TDISP_CAPABILITIES" 0 (freeBytes 28 u).1) (freeBytes 28 u).2)) ∧
    (s.sec.tdisp = .configUnlocked → s.sec.mode = .openMode → s.boot.ready = true →
      s.sec.ide.any (fun p => p.2.secure) = true → s.mer.streams.all (fun p => p.2.halted) = true →
      s.sec.jtagNow = false → s.pow.mpNow = false →
      exec (.lockInterfaceRequest (some i)) s = .next (settle (scrubStart .lock .tenantIde .configLocked none
        { u with sec := { u.sec with owner := some i } }))) ∧
    (s.sec.tdisp ≠ .configUnlocked →
      exec (.lockInterfaceRequest (some i)) s = .next (settle (emit (.tdisp "LOCK_INTERFACE_REQUEST" 4 []) u))) ∧
    (s.sec.tdisp = .configLocked ∨ s.sec.tdisp = .run →
      exec (.getDeviceInterfaceReport (some i)) s =
        .next (settle (emit (.tdisp "GET_DEVICE_INTERFACE_REPORT" 0 u.tdiReport) u)) ∧
      exec (.stopInterfaceRequest (some i)) s = .next (settle (scrubStart .stop .openMode .configUnlocked none u))) ∧
    (¬ (s.sec.tdisp = .configLocked ∨ s.sec.tdisp = .run) →
      exec (.getDeviceInterfaceReport (some i)) s =
        .next (settle (emit (.tdisp "GET_DEVICE_INTERFACE_REPORT" 4 []) u))) ∧
    exec (.getDeviceInterfaceState (some i)) s =
      .next (settle (emit (.tdisp "GET_DEVICE_INTERFACE_STATE" 0 (leBytes 1 s.sec.tdisp.code)) u)) ∧
    (s.sec.tdisp = .configLocked → exec (.startInterfaceRequest (some i)) s =
      .next (settle (emit (.tdisp "START_INTERFACE_REQUEST" 0 []) { u with sec := { u.sec with tdisp := .run } }))) ∧
    (s.sec.tdisp ≠ .configLocked → exec (.startInterfaceRequest (some i)) s =
      .next (settle (emit (.tdisp "START_INTERFACE_REQUEST" 4 []) u))) ∧
    (s.sec.tdisp = .error → exec (.stopInterfaceRequest (some i)) s =
      .next (settle (emit (.tdisp "STOP_INTERFACE_REQUEST" 0 []) { u with sec := { u.sec with tdisp := .configUnlocked } })))

/-- The start of a scrub destroys the tenant keys, the bounce keys, the IDE streams and the peer map and removes the
event ring, while the mode stands; a second trigger while one runs starts none. TENANT_SCRUB_DONE, once no fill and
no reset runs and, before an entry, no read of the host window is outstanding, ends it (in every other state nothing
changes yet): the mode and the TDISP state are the scrub's targets, the semaphores, the programs, streams, stash,
numerics, Photometer, Spectrograph, Ephemeris, communicators and collectives are as after reset, an exit leaves no
owner, an entry raises the epoch, and the waiting requests are answered in order. -/
def Obligations.TenantScrub : Prop :=
  ∀ (s : State),
    (∀ tr tg td rg, s.sec.scrub = none → let t := scrubStart tr tg td rg s
      t.sec.scrub = some ⟨tr, tg, td, rg, []⟩ ∧ t.sec.keys = [] ∧ t.sec.bounceKeys = none ∧
      t.sec.ide = [] ∧ t.sec.peers = [] ∧ t.alm.ring = none ∧ t.sec.mode = s.sec.mode) ∧
    (∀ x tr tg td rg, s.sec.scrub = some x → scrubStart tr tg td rg s = s) ∧
    (∀ x, s.sec.scrub = some x → s.boot.reset = none → s.tiers.fills.any (fun p => p.2 == .tenant) = false →
      (x.target = .openMode ∨ s.host.reads = []) →
      exec .tenantScrubDone s = .next (settle (x.waiting.foldl (fun s r => secRequest r s) (scrubEnd x s)))) ∧
    (¬ (∃ x, s.sec.scrub = some x ∧ s.boot.reset = none ∧ s.tiers.fills.any (fun p => p.2 == .tenant) = false ∧
        (x.target = .openMode ∨ s.host.reads = [])) →
      exec .tenantScrubDone s = .next (settle s)) ∧
    (∀ x, let t := scrubEnd x s
      t.sec.mode = x.target ∧ t.sec.tdisp = x.tdisp ∧ t.sec.scrub = none ∧ t.sems = [] ∧ t.prog = [] ∧ t.strm = {} ∧
      t.stash = {} ∧ t.num = {} ∧ t.phot = {} ∧ t.spec = {} ∧ t.ephem = {} ∧ t.fab.comms = [] ∧ t.fab.colls = [] ∧
      (x.target = .openMode → t.sec.owner = none) ∧ (x.target ≠ .openMode → t.sec.epoch = s.sec.epoch + 1 ∧ t.sec.owner = s.sec.owner))

/-- While Shutter answers, in an open session, for stream 0 or 1, key set 0 or 1, sub-stream 0 to 2 and direction 0 or
1: QUERY is answered with the standard's body (free values, log entry 100); KEY_PROG programs the key; K_SET_GO
activates a programmed key, and the stream is Secure once all six keys of a set are active; K_SET_STOP removes it. A
stream number or key that does not exist is answered 3. An integrity failure on a Secure stream posts
IDE_INTEGRITY_FAIL and ends the stream. A stream that leaves Secure in CONFIG_LOCKED or RUN enters ERROR. In
TENANT_BOUNCE with no scrub, where a record with the expected sequence number stands whole below the tail: NOP has
no effect, WRITE of an address within reach writes its bytes, REG writes the register of pages 0 to 2, EXPORT of a
readable range within reach queues its DATA records; each first moves the inbound head past the record. A record
with an address out of reach, a reserved type or bit is skipped with an ERROR record and BOUNCE_RECORD_INVALID. A
record whose tag fails, or whose sequence number is not the expected one, starts the scrub to OPEN and ERROR. -/
def Obligations.IdeAndBounce : Prop :=
  (∀ (s : State) (i st set sub dir k : Nat), ideKey set sub dir = some k →
    (s.doeUp = true → (s.session i).isSome = true → let u := touch i s
      exec (.ideKmQuery i) s = .next (settle (emit (.tdisp "QUERY" 0 (freeBytes 32 u).1) (freeBytes 32 u).2)) ∧
      (st < 2 → exec (.ideKmKeyProg i st set sub dir) s =
        .next (settle (emit (.tdisp "KEY_PROG" 0 []) (setIde st (fun x => { x with prog := setIns k x.prog }) u)))) ∧
      (st < 2 → (u.ideStream st).prog.contains k = true → exec (.ideKmKSetGo i st set sub dir) s =
        .next (settle (emit (.tdisp "K_SET_GO" 0 []) (setIde st (fun x => { x with go := setIns k x.go }.judge) u)))) ∧
      (st < 2 → exec (.ideKmKSetStop i st set sub dir) s =
        .next (settle (emit (.tdisp "K_SET_STOP" 0 [])
          (setIde st (fun x => { x with go := setDel k x.go, prog := setDel k x.prog }.judge) u)))) ∧
      (2 ≤ st → exec (.ideKmKeyProg i st set sub dir) s = .next (settle (emit (.tdisp "KEY_PROG" 3 []) u)))) ∧
    (∀ n : Fin 2, s.powered = true → (s.ideStream n.val).secure = true →
      exec (.ideIntegrityFailure n true) s = .next (settle (setIde n.val (fun _ => {}) (post Ev.ideIntegrityFail [n.val] s))) ∧
      exec (.ideIntegrityFailure n false) s = .next (settle (setIde n.val (fun _ => {}) s))) ∧
    (∀ f, (s.ideStream st).secure = true → (f (s.ideStream st)).secure = false →
      setIde st f s = tdispError .error { s with sec := { s.sec with ide := kvPut {} st (f (s.ideStream st)) s.sec.ide } }) ∧
    (∀ x : IdeStream, x.judge.secure = true ↔
      ((∀ j, j < 6 → j ∈ x.go) ∨ (∀ j, j < 6 → 8 + j ∈ x.go)))) ∧
  (∀ (s : State) (n : Nat), s.powered = true → s.sec.mode = .tenantBounce → s.sec.scrub = none →
    let rec_ := 64 + (n + 63) / 64 * 64
    let u := bounceTake rec_ s
    let q := s.sec.bounce.seqIn
    payloadOk n = true →
    s.sec.bounce.inSkip rec_ + rec_ ≤ ringUsed s.sec.bounce.inHead s.sec.bounce.inTail s.sec.bounce.inLog →
    exec (.bounceNop q n) s = .next (settle u) ∧
    (∀ a bs, bs.length = n → u.bounceReach a n = true → exec (.bounceWrite q a bs) s = .next (settle (devPut a bs u))) ∧
    (∀ a bs, bs.length = n → u.bounceReach a n = false → exec (.bounceWrite q a bs) s = .next (settle (bounceInvalid q u))) ∧
    (∀ off v, off < 0x30000 → off % 8 = 0 → exec (.bounceReg q n off v) s = .next (settle (pageWrite off 8 v.toNat 0 u))) ∧
    (∀ a k, k % 64 = 0 → 64 ≤ k → k ≤ 2 ^ 30 → u.bounceReach a k = true → (devRead a k u).1 = none →
      exec (.bounceExport q n a k) s = .next (settle
        ((dataRecords a (devRead a k u).2.1).foldl (fun s r => bounceSend r s) (devRead a k u).2.2))) ∧
    exec (.bounceRecordInvalid q n) s = .next (settle (bounceInvalid q u)) ∧
    (∀ x, x ≠ q → exec (.bounceNop x n) s = .next (settle
      (scrubStart .error .openMode .error none { s with sec := { s.sec with tdisp := .error } }))) ∧
    (s.bounceHas 64 = true → exec .bounceRecordFail s = .next (settle
      (scrubStart .error .openMode .error none { s with sec := { s.sec with tdisp := .error } }))))

/-- A powered module answers a configuration request with Request Retry Status until its firmware serves them, and
otherwise a write has its effect and a read returns the register; a write of a register that TDISP locks is not
applied in CONFIG_LOCKED or RUN but enters ERROR. While Shutter runs, a PCIe function event makes configuration
requests retried; where no scrub runs, it is a COMPUTE reset in OPEN and a scrub to OPEN in a tenant mode, and where
one runs it starts no second one. A completion of an outstanding read ends that read; one that comes after the
Completion Timeout ends its task with TIMEOUT. -/
def Obligations.PcieCommands : Prop :=
  ∀ s : State, s.powered = true →
    (∀ r w, s.cfgRetry = true → exec (.pcieConfigRequest r w) s = .next (settle (emit .hostRRS s))) ∧
    (∀ r v, s.cfgRetry = false → ¬ (CfgReg.locked r = true ∧ (s.sec.tdisp = .configLocked ∨ s.sec.tdisp = .run)) →
      exec (.pcieConfigRequest r (some v)) s = .next (settle (cfgWrite r v s))) ∧
    (∀ r v, s.cfgRetry = false → CfgReg.locked r = true → s.sec.tdisp = .run →
      exec (.pcieConfigRequest r (some v)) s = .next (settle (tdispError .error s))) ∧
    (∀ r, s.cfgRetry = false → exec (.pcieConfigRequest r none) s =
      .next (settle (emit (.cfgData (BitVec.ofNat 32 (cfgRead r s).1)) (cfgRead r s).2))) ∧
    (∀ e, s.shutterUp = true → let u := { s with host := { s.host with retry := true } }
      (s.sec.scrub = none → s.sec.mode = .openMode →
        exec (.pcieFunctionReset e) s = .next (settle (computeStart none 0 u))) ∧
      (s.sec.scrub = none → s.sec.mode ≠ .openMode →
        exec (.pcieFunctionReset e) s = .next (settle (scrubStart .pcie .openMode .configUnlocked none u))) ∧
      (s.sec.scrub ≠ none → exec (.pcieFunctionReset e) s = .next (settle u))) ∧
    (∀ id bs, exec (.hostCompletion id 0 bs) s = .next (settle (hostCompletion id (.data bs) s)) ∧
      exec (.hostCompletion id 1 bs) s = .next (settle (hostCompletion id .poisoned s)) ∧
      exec (.hostCompletion id 2 bs) s = .next (settle (hostCompletion id .refused s)) ∧
      exec (.hostCompletion id 3 bs) s = .next (settle (hostCompletion id .refused s))) ∧
    (∀ id r k, kvFind id s.host.reads = some r → s.task r.task = some k →
      hostCompletion id .refused s = issueReads 1024 (endByRead r.task Ts.addrDenied r.bus (dropRead id s))) ∧
    (∀ id r, kvFind id s.host.reads = some r → r.since + s.host.cplTimeout ≤ s.cyc →
      exec (.hostCompletionTimeout id) s =
        .next (settle (issueReads 1024 (endByRead r.task Ts.timeout r.bus (count .cplTimeouts 0 1 (dropRead id s))))))

/-- Where source and destination pass their checks and the header is that of R368 for the key in slot MBX_ARG0: with
length 0 the command completes OK, otherwise the import runs. A chunk whose tag verifies is written to dest + 65,536
i, counted and, if it is the last, completes the command OK with the number of chunks; a chunk whose tag fails
completes it IMPORT_TAG_FAIL with the chunk's number and counts in import_tag_fail. A header that fails completes
with the status of the first check that fails. -/
def Obligations.WeightImport : Prop :=
  ∀ (m : Fin 16) (s : State),
    (let src := s.arg m 1
     let dest := s.arg m 2
     let r := devRead src 64 s
     let w := bytesWords r.2.1
     let len := w.getD 3 0
     mbxTakes 0x0601 anyArgs m s = true → containerCheck src 64 s = none → destCheck dest s = none → r.1 = none →
      (∀ st, importHeader (s.arg m 0) src dest w r.2.2 = some st →
        exec (.importWeights m) s = .next (settle (mbxComplete m st [] r.2.2))) ∧
      (importHeader (s.arg m 0) src dest w r.2.2 = none → containerCheck src (containerBytes len) r.2.2 = none →
        (len = 0 → exec (.importWeights m) s = .next (settle (mbxComplete m St.ok [0] r.2.2))) ∧
        (len ≠ 0 → exec (.importWeights m) s = .next (settle (setMbx m (fun x => { x with started := true })
          { r.2.2 with sec := { r.2.2.sec with
            importing := some ⟨m.val, src, dest, w.getD 2 0, len, sealedChunks len, 0⟩ } }))))) ∧
    (∀ x bs, s.sec.importing = some x → s.almanacUp = true →
      let n := chunkBytes x.length x.next
      let r := devRead (x.src + 64 + 65552 * x.next) (n + 16) s
      s.memBusy (x.dest + 65536 * x.next) n = false → r.1 = none →
      (chunkOk bs = true → bs.length = n → exec (.importChunkDone true bs) s = .next (settle (importChunk x bs r.2.2))) ∧
      exec (.importChunkDone false bs) s = .next (settle
        (count .importTagFail 0 1 (importEnd x St.importTagFail [x.next, x.next] r.2.2))))

/-- A command that has been BUSY for its T completes TIMEOUT with its progress in RES0 when it has started and 0
otherwise, and what it left running of an import or a checkpoint is stopped. A heartbeat tick adds 1 to the
heartbeat. Almanac's failure sets almanac_failed, ERR_SUMMARY bit 3 and its counter. The end of a moderation
interval on which an advance waits signals the vector. -/
def Obligations.AlmanacTimers : Prop :=
  ∀ s : State,
    (∀ (m : Fin 16) c, s.almanacUp = true → (s.mailbox m).st = .busy → cmdSpec (s.mailbox m).accOp = some c →
      (s.mailbox m).accAt + 1000 * c.t ≤ s.cyc →
      ((s.mailbox m).started = true → exec (.mailboxCommandTimeout m) s =
        .next (settle (mbxComplete m St.timeout [(s.mailbox m).progress] (cancelLong (s.mailbox m).accOp s)))) ∧
      ((s.mailbox m).started = false → exec (.mailboxCommandTimeout m) s =
        .next (settle (mbxComplete m St.timeout [0] s)))) ∧
    (s.almanacUp = true →
      exec .almanacHeartbeatTick s = .next (settle { s with alm := { s.alm with heartbeat := s.alm.heartbeat + 1 } }) ∧
      exec .almanacFailed s = .next (settle (setErr 3 { s with alm := { s.alm with failed := true } }))) ∧
    (∀ v, kvGet false v s.host.vecWait = true → exec (.msixModerationExpiry v) s =
      .next (settle (msixSignal v { s with host := { s.host with
        vecWait := kvDel v s.host.vecWait, vecLast := kvSet v s.cyc s.host.vecLast } }))) ∧
    (∀ v m, v ≠ 0xFF → kvFind v s.host.vecLast = none → cplSignal v m s =
      msixSignal v { s with host := { s.host with vecLast := kvSet v s.cyc s.host.vecLast } }) ∧
    (∀ v m t0, v ≠ 0xFF → m ≠ 0 → kvFind v s.host.vecLast = some t0 → s.cyc < t0 + m * 1000 → cplSignal v m s =
      { s with host := { s.host with vecWait := kvSet v true s.host.vecWait } })

/-- Auxiliary power in its range arrives and the rails start where MAIN_54V is in range, PWR_EN is high and no shutdown
holds. Rails that are up are declared good: PWR_GOOD and CLKREQ# are driven and the latched cause clears. ALERT#
follows the latched cause and the sensors' warnings. PWR_EN low, MAIN_54V below 38 V and the causes 1 to 4, 7 and 8
of a protective shutdown latch their cause, drop PWR_GOOD and release CLKREQ#; causes 5 and 6 post
PROTECTIVE_SHUTDOWN and the rails fall 100 us later. Fallen rails lose the powered domain as a FULL reset does. Loss
of auxiliary power loses all but flash, images, pins and cages. PERST# and MOD_RESET of a powered module are FULL
resets. SET_POWER_LIMIT with a limit of 1,200 to 2,600 W and a ceiling of 900 to 2,050 MHz in steps of 25 stores
both, and otherwise completes ARG_INVALID. A sample of module power above the limit, or any temperature 0 to 35 at
its warning limit, lowers the target by 25 MHz to no less than 900; a sample at least 40 W below the limit counts as
good, and the tenth in a row raises a target below the ceiling by 25 MHz; any other sample resets the count; the
target never exceeds the ceiling. The clock follows the target. -/
def Obligations.PowerCommands : Prop :=
  (∀ s : State,
    (∀ mv, s.pow.auxUp = false → inRange mv = true → exec (.auxPowerUp mv) s =
      .next (settle (tryRails { s with pow := { s.pow with auxUp := true, auxMv := mv } }))) ∧
    (s.pow.auxUp = true → s.pow.rails = .standby → inRange s.pow.mainMv = true → s.pow.commanded = false → s.pow.active = false →
      exec (.pwrEnChange true) s = .next (settle { s with pow := { s.pow with pwrEn := true, rails := .up } })) ∧
    (s.pow.rails = .up → exec .mainRailsUp s = .next (settle (alertPin s.alert (emit (.pin "PWR_GOOD" 1) (emit (.pin "CLKREQ#" 0)
      { s with pow := { s.pow with rails := .on, pwrGood := true, latched := {} } }))))) ∧
    (s.pow.rails = .on →
      exec (.pwrEnChange false) s = .next (settle (alertPin s.alert (emit (.pin "CLKREQ#" 1) (emit (.pin "PWR_GOOD" 0)
        { s with pow := { s.pow with
          pwrEn := false, latched := ⟨7, 0, 0, 0⟩, rails := .down, pwrGood := false, shutAt := none } })))) ∧
      (∀ mv held, mv < 38000 → exec (.mainPowerChange mv held) s =
        .next (settle (alertPin s.alert (emit (.pin "CLKREQ#" 1) (emit (.pin "PWR_GOOD" 0) { s with pow := { s.pow with
          mainMv := mv, latched := ⟨1, 0, 0, mv⟩, rails := .down, pwrGood := false, shutAt := none } }))))) ∧
      (∀ c k i v, s.pow.shutAt = none → (1 ≤ c ∧ c ≤ 4 ∨ c = 7 ∨ c = 8) →
        exec (.protectiveShutdown c k i v) s = .next (settle (powerTrigger ⟨c, k, i, v⟩ s))) ∧
      (∀ c k i v, s.pow.shutAt = none → (c = 5 ∨ c = 6) →
        exec (.protectiveShutdown c k i v) s = .next (settle (alertPin s.alert (post Ev.protectiveShutdown [c, k, i, v]
          { s with pow := { s.pow with shutAt := some s.cyc, latched := ⟨c, k, i, v⟩, active := c == 6 } })))) ∧
      exec (.perst .modReset) s = .next (settle (fullReset s)) ∧
      exec (.perst .perstLow) s = .next (settle { fullReset s with pow := { (fullReset s).pow with perst := true } })) ∧
    (s.pow.shutAt = none → s.pow.rails = .down → exec .powerDown s = .next (settle (railsFallen s))) ∧
    (∀ t, s.pow.shutAt = some t → t + 100000 ≤ s.cyc →
      exec .powerDown s = .next (settle (railsFallen (powerTrigger s.pow.latched s)))) ∧
    exec .auxPowerLoss s = .next (settle { fullReset s with pow := { ({} : Power) with
      mainMv := s.pow.mainMv, pwrEn := s.pow.pwrEn, perst := s.pow.perst, flashB := s.pow.flashB
      imageA := s.pow.imageA, imageB := s.pow.imageB, cages := s.pow.cages } }) ∧
    (∀ (p : Fin 30) mw, s.pow.auxUp = true →
      (mw ≤ 12000 → exec (.cageModuleInsert p mw) s =
        .next (settle { s with pow := { s.pow with cages := kvSet p.val mw s.pow.cages } })) ∧
      (12000 < mw → exec (.cageModuleInsert p mw) s = .next (settle (post Ev.cagePowerRefused [p.val, mw]
        { s with pow := { s.pow with cages := kvSet p.val mw s.pow.cages } }))))) ∧
  (∀ s : State,
    (∀ m, mbxTakes 0x0A06 anyArgs m s = true →
      let lim := s.arg m 0
      let ceil := s.arg m 1
      (1200 ≤ lim ∧ lim ≤ 2600 ∧ 900 ≤ ceil ∧ ceil ≤ 2050 ∧ ceil % 25 = 0 →
        exec (.setPowerLimit m) s =
          .next (settle (mbxComplete m St.ok [] { s with pow := { s.pow with limit := lim, ceil := ceil } }))) ∧
      (¬ (1200 ≤ lim ∧ lim ≤ 2600 ∧ 900 ≤ ceil ∧ ceil ≤ 2050 ∧ ceil % 25 = 0) →
        exec (.setPowerLimit m) s = .next (settle (mbxComplete m St.argInvalid [] s)))) ∧
    (∀ x : Power, ∀ p : Int,
      (p > 1000 * x.limit → controlTarget x p false =
        (min (if x.target > 900 then x.target - 25 else x.target) x.ceil, 0)) ∧
      (controlTarget x p true = (min (if x.target > 900 then x.target - 25 else x.target) x.ceil, 0)) ∧
      (p ≤ 1000 * x.limit - 40000 → 9 ≤ x.good → x.target < x.ceil →
        controlTarget x p false = (min (x.target + 25) x.ceil, 0)) ∧
      (p ≤ 1000 * x.limit - 40000 → x.good < 9 → controlTarget x p false = (min x.target x.ceil, x.good + 1)) ∧
      (1000 * x.limit - 40000 < p → p ≤ 1000 * x.limit → controlTarget x p false = (min x.target x.ceil, 0))) ∧
    (s.powered = true → s.boot.ready = true → (kvGet ({} : Sensor) 512 s.sens.sensors).valid = true →
      ∃ t, exec .powerControlSample s = .next (settle t) ∧
        (t.pow.target, t.pow.good) =
          controlTarget s.pow (kvGet ({} : Sensor) 512 s.sens.sensors).value s.warmSensor.isSome ∧
        t.pow.cclk = t.pow.target ∧ t.mem = s.mem ∧ t.mer = s.mer ∧ t.time = s.time ∧ t.sec = s.sec))

/-- With auxiliary power: the MCTP control messages are answered, and Set Endpoint ID stores an id of 1 to 0xFE. A
Zorwitra message with reserved bytes 0 answers its tag: ENABLE_PORT and DISABLE_PORT take and give mailbox 15 while
it is not BUSY; REG_READ reads mailbox 15 or page 0x1000 to 0x1068; REG_WRITE of the owner writes mailbox 15;
READ_HW_STATUS returns the record; POWER_CONTROL acts as PWR_EN does; FW_WRITE stores 1,024 bytes of image B;
FW_COMMIT installs a verified image of no older security version; MEM_ACCESS opens the memory gate (REFUSED where
the fuse is blown) and closes it; MEM_READ and MEM_WRITE move 64 bytes while it is open. A non-zero reserved byte is
answered INVALID. JTAG locks at any time and unlocks where fuses and mode allow. -/
def Obligations.ManagementPort : Prop :=
  ∀ (s : State) (tag : W16), s.pow.auxUp = true →
    let say := fun (req : String) (st : Nat) (res : List Byte) (u : State) =>
      emit (.mctp req st (leBytes 2 tag.toNat ++ res)) u
    (∀ eid, 0 < eid → eid < 0xFF → exec (.setEndpointId eid) s =
      .next (settle (emit (.mctp "Set Endpoint ID" 0 (leBytes 1 eid)) { s with pow := { s.pow with eid := eid } }))) ∧
    exec .getEndpointId s = .next (settle (emit (.mctp "Get Endpoint ID" 0 (leBytes 1 s.pow.eid)) s)) ∧
    (∀ mt, exec (.getMctpVersionSupport mt) s = .next (settle (emit (.mctp "Get MCTP Version Support" 0
      ((List.range 5).map fun i => Config.spdmByte (1000 + mt) i)) s))) ∧
    exec .getMessageTypeSupport s = .next (settle (emit (.mctp "Get Message Type Support" 0 [1, 0x7E]) s)) ∧
    exec .getVendorMessageSupport s =
      .next (settle (emit (.mctp "Get Vendor Defined Message Support" 0 [0x1F, 0x8E]) s)) ∧
    ((s.mailbox 15).st ≠ .busy →
      (s.powered = true → exec (.enablePort tag 0) s =
        .next (settle (mctpReply "ENABLE_PORT" 0 (leBytes 2 tag.toNat) (setPort true s.pow.mpNow s)))) ∧
      exec (.disablePort tag 0) s =
        .next (settle (mctpReply "DISABLE_PORT" 0 (leBytes 2 tag.toNat) (digestStep (setPort false false) s)))) ∧
    (∀ off, (0x0F00 ≤ off ∧ off ≤ 0x0FFF ∨ 0x1000 ≤ off ∧ off ≤ 0x1068) → s.powered = true →
      exec (.regRead tag 0 off) s = .next (settle (say "REG_READ" 0 (leBytes 8 (s.page0Bytes off)) s))) ∧
    (∀ off v, 0x0F00 ≤ off → off ≤ 0x0FFF → off % 8 = 0 → s.pow.mpOwner = true →
      exec (.regWrite tag 0 off v) s = .next (settle (mctpReply "REG_WRITE" 0 (leBytes 2 tag.toNat)
        (if off = 0x0F48 then mbxDoorbell 15 v.toNat true s else mbxRegWrite 15 (off % 0x100) 8 v.toNat s)))) ∧
    exec (.readHwStatus tag 0) s = .next (settle (say "READ_HW_STATUS" 0 (wordBytes s.hwStatus) s)) ∧
    exec (.powerControlOff tag 0) s = .next (settle (mctpReply "POWER_CONTROL" 0 (leBytes 2 tag.toNat)
      (powerTrigger ⟨8, 0, 0, 0⟩ { s with pow := { s.pow with commanded := true } }))) ∧
    exec (.powerControlOn tag 0) s = .next (settle (mctpReply "POWER_CONTROL" 0 (leBytes 2 tag.toNat)
      (tryRails { s with pow := { s.pow with commanded := false, cycle := false } }))) ∧
    (s.pow.rails = .on → exec (.powerControlCycle tag 0) s = .next (settle (mctpReply "POWER_CONTROL" 0 (leBytes 2 tag.toNat)
      (powerTrigger ⟨8, 0, 0, 0⟩ { s with pow := { s.pow with commanded := true, cycle := true } })))) ∧
    (∀ off bs, off % 1024 = 0 → off < 2 ^ 24 → bs.length = 1024 → s.debugShut = false →
      exec (.fwWrite tag 0 off bs) s = .next (settle (say "FW_WRITE" 0 []
        { s with pow := { s.pow with flashB := Memory.write s.pow.flashB off bs, imageB := none } }))) ∧
    (∀ size v svn, s.debugShut = false → size ≤ 2 ^ 24 → Config.svn.toNat ≤ svn →
      exec (.fwCommit tag 0 size (some (v, svn))) s = .next (settle (mctpReply "FW_COMMIT" 0
        (leBytes 2 tag.toNat ++ leBytes 8 (svn % 2 ^ 32 + v % 2 ^ 32 * 2 ^ 32)) (post Ev.firmwareStaged [v, svn]
          { s with pow := { s.pow with imageA := some ⟨v, svn⟩, imageB := some ⟨v, svn⟩ } })))) ∧
    (s.debugShut = false → exec (.memAccessEnable tag 0) s = .next (settle
      (if Config.fuseLocked then say "MEM_ACCESS" 4 [] s
       else mctpReply "MEM_ACCESS" 0 (leBytes 2 tag.toNat) (digestStep (setPort s.pow.mpOwner true) s)))) ∧
    exec (.memAccessDisable tag 0) s =
      .next (settle (mctpReply "MEM_ACCESS" 0 (leBytes 2 tag.toNat) (digestStep (setPort s.pow.mpOwner false) s))) ∧
    (∀ a, s.pow.mpNow = true → mpReach false a = true → s.powered = true →
      exec (.memRead tag 0 a) s = .next (settle (mctpReply "MEM_READ" 0
        (leBytes 2 tag.toNat ++ (devRead a 64 s).2.1) (devRead a 64 s).2.2))) ∧
    (∀ a bs, s.pow.mpNow = true → mpReach true a = true → bs.length = 64 → s.powered = true →
      exec (.memWrite tag 0 a bs) s = .next (settle (mctpReply "MEM_WRITE" 0 (leBytes 2 tag.toNat) (devPut a bs s)))) ∧
    (∀ rsv, rsv ≠ 0 → exec (.enablePort tag rsv) s = .next (settle (say "ENABLE_PORT" 1 [] s)) ∧
      exec (.readHwStatus tag rsv) s = .next (settle (say "READ_HW_STATUS" 1 [] s))) ∧
    exec (.jtagUnlock false) s =
      .next (settle (digestStep (fun s => { s with sec := { s.sec with jtagNow := false } }) s)) ∧
    (s.debugShut = false → exec (.jtagUnlock true) s = .next (settle (if Config.fuseLocked then s
      else digestStep (fun s => { s with sec := { s.sec with jtagNow := true, jtagEver := true } }) s)))

/-- SET_TIME_SOURCE with A0 = 0 steps the counter to A1 ns and leaves it FREE; with A0[0] = 1 it uses the pulse, and a
FREE source becomes ACQUIRING. READ_TIME_STATUS returns offset, state and step time. In FREE an edge has no effect;
past the acquisition point an edge 10^9 +- 50,000 cycles after the last is accepted, and another one is rejected and
counted; the third of three edges so spaced is the acquisition point. 2 x 10^9 cycles without an accepted edge post
TIME_HOLDOVER and leave HOLDOVER with the rate at the last frequency estimate. A sample of a sensor that exists
stores its value, marks it valid and stores its warning and shutdown limit bits; one of a sensor that does not exist
has no effect. CONFIGURE_MONITOR with a defined source, no edges and a mode the present module mode permits sets the
monitor with empty contents. READ_HISTOGRAM in OPEN and READ_SENSORS write their records to the buffer and return
the size; the contents of a monitor of a channel's read latency are free values (log entry 123). -/
def Obligations.TimeAndMonitors : Prop :=
  (∀ s : State,
    (∀ m, mbxTakes 0x0A01 (fun a => a.n 0 % 2 == 0) m s = true → s.arg m 0 = 0 →
      let u := stepTo (s.arg m 1 * 2 ^ 32) ((s.arg m 1 : Int) - s.now) 1 s
      exec (.setTimeSourceLoad m) s = .next (settle (mbxComplete m St.ok [] { u with time := { u.time with
        timeSet := true, r := 0, st := .free, stamps := [], past := false, inLock := 0, excursions := 0 } }))) ∧
    (∀ m, mbxTakes 0x0A01 (fun a => a.n 0 % 2 == 1) m s = true → s.arg m 1 = 0 →
      (s.time.st = .free → exec (.setTimeSourcePps m) s = .next (settle (mbxComplete m St.ok []
        { s with time := { s.time with allowStep := bit (s.arg m 0) 1, st := .acquiring, r := 0, stamps := [], edges := 0
                                       past := false, inLock := 0, excursions := 0 } }))) ∧
      (s.time.st ≠ .free → exec (.setTimeSourcePps m) s = .next (settle (mbxComplete m St.ok []
        { s with time := { s.time with allowStep := bit (s.arg m 0) 1 } })))) ∧
    (∀ m, mbxTakes 0x0A02 anyArgs m s = true → exec (.readTimeStatus m) s =
      .next (settle (mbxComplete m St.ok [sword s.time.offsetNs, s.time.st.code, s.time.stepTime] s))) ∧
    (∀ sub : Fin 16, s.powered = true →
      let stamp := 16 * s.time.tclk + sub.val
      let o := edgeOffset (s.time.c / 2 ^ 28 + sub.val)
      (s.time.st = .free → exec (.ppsEdge sub) s = .next (settle s)) ∧
      (∀ p, s.time.st ≠ .free → s.time.past = true → s.time.lastStamp = some p → onTime p stamp = true →
        exec (.ppsEdge sub) s = .next (settle (acceptEdge stamp o o s))) ∧
      (∀ p, s.time.st ≠ .free → s.time.past = true → s.time.lastStamp = some p → onTime p stamp = false →
        exec (.ppsEdge sub) s = .next (settle { s with time := { s.time with
          rejected := min (s.time.rejected + 1) 0xFFFFFFFF } })) ∧
      (∀ p q l, s.time.st ≠ .free → s.time.past = false → s.time.stamps = p :: q :: l → onTime p stamp = true →
        exec (.ppsEdge sub) s = .next (settle (acquire stamp o s)))) ∧
    (∀ p, s.time.lastStamp = some p → s.time.past = true → s.time.st = .locked → p + 32000000000 ≤ 16 * s.time.tclk →
      exec .timeHoldover s = .next (settle (post Ev.timeHoldover [s.time.lastC, sword s.time.f]
        { s with time := { s.time with st := .holdover, r := s.time.f, stamps := [], edges := 0
                                       past := false, inLock := 0, excursions := 0 } })))) ∧
  (∀ s : State,
    (∀ kind i v set, sensorOk kind i = true → ∃ t, exec (.sensorSample kind i v set) s = .next (settle t) ∧
      (let y := kvGet ({} : Sensor) (sensorKey kind i) t.sens.sensors
       y.value = v ∧ y.valid = true ∧ y.overWarning = (warnLimits kind i set).hit v ∧
       y.overLimit = (shutLimits kind i set).hit v) ∧
      (∀ k, k ≠ sensorKey kind i → kvFind k t.sens.sensors = kvFind k s.sens.sensors) ∧
      t.mem = s.mem ∧ t.mer = s.mer ∧ t.time = s.time ∧ t.boot = s.boot ∧ t.sec = s.sec) ∧
    (∀ kind i v set, sensorOk kind i = false → exec (.sensorSample kind i v set) s = .next (settle s)) ∧
    (∀ m, mbxTakes 0x0A03 anyArgs m s = true → s.inTenant = false → s.arg m 1 = 0 →
      let mode := bits (s.arg m 0) 17 16
      let src := bits (s.arg m 0) 15 8
      (mode = 1 ∧ sourceOk src = true ∨ mode = 2 ∧ sourceOk src = true ∧ eventSource src = true ∨ mode = 0 ∧ src = 0) →
      exec (.configureMonitor m) s = .next (settle (mbxComplete m St.ok [] { s with sens := { s.sens with
        monitors := kvPut {} (bits (s.arg m 0) 3 0)
          { mode := mode, source := src, edges := [], tStart := s.now } s.sens.monitors } }))) ∧
    (∀ m, mbxTakes 0x0A04 anyArgs m s = true → s.inTenant = false →
      let r := seeMonitor (s.arg m 0) s
      let bs := monitorRecord (s.arg m 0) r.1 s.now
      (let x := kvGet ({} : Monitor) (s.arg m 0) s.sens.monitors
       x.mode = 0 ∨ 5 < x.source → r = (x, s)) ∧
      (bufCheck (s.arg m 1) (s.arg m 2) 1 r.2 = none → bs.length ≤ s.arg m 2 →
        exec (.readHistogram m) s = .next (settle (mbxComplete m St.ok [bs.length] (devPut (s.arg m 1) bs r.2))))) ∧
    (∀ m, mbxTakes 0x0A05 anyArgs m s = true → 
      let r := allSensors.foldl (fun p k => (p.1 ++ [(sensorRecord k.1 k.2 p.2).1], (sensorRecord k.1 k.2 p.2).2)) (([] : List Nat), s)
      let bs := wordBytes (timeHeader s ++ r.1)
      bufCheck (s.arg m 0) (s.arg m 1) 1 r.2 = none → bs.length ≤ s.arg m 1 →
      exec (.readSensors m) s = .next (settle (mbxComplete m St.ok [bs.length] (devPut (s.arg m 0) bs r.2)))))

/-- A powered module with no bring-up running starts phase 0 with t = 0, not ready, its retired map that of the fuses.
Firmware of an acceptable security version in copy A, else B, starts phase 2 with new DRAM keys; with neither,
bring-up ends in phase 5 with FIRMWARE_INVALID. A measurement without a bad rail, temperature or LPDDR5X device
starts phase 3; one with a bad rail ends bring-up with cause 2. In phase 3 a bridge of whose groups none has two
failed lanes, the spare among them, reports its time, its steered lanes and its delay, and one with a failed group
ends bring-up with cause 4; a DRAM channel or NAND interface whose training holds is recorded; a failing LPDDR5X
channel ends bring-up with cause 6; a failing NAND interface leaves the store FAILED. The loaded index starts the
tiers' fills whose training has ended, and a die without a cluster ends bring-up with cause 7. When every activity
has ended the module is ready in phase 4 and BRINGUP_DONE is posted. A due save, and SAVE_TRAINING of a ready
module, write the older copy and post SETTINGS_SAVED; SAVE_TRAINING completes OK where the flash takes the write.
READ_BRINGUP_REPORT writes summary and channel records. -/
def Obligations.BringupEvents : Prop :=
  (∀ s : State, s.powered = true →
    (s.pow.pwrGood = true → s.boot.run = none → s.boot.phase = 0 →
      exec .bringupStart s = .next (settle { s with boot := { s.boot with
        phase := 0, ready := false, run := some { t0 := s.cyc }, retired := Config.fuseRetired } })) ∧
    (s.boot.run.isSome = true → s.boot.phase < 2 →
      (∀ x, imageOk s.pow.imageA = some x → ∃ t, exec .firmwareBoot s = .next (settle (observeBells t)) ∧
        t.boot.phase = 2 ∧ t.pow.running = some x ∧ t.sec.dramKeys = s.sec.dramKeys + 1 ∧
        t.boot.report.tBoot = s.bootMs ∧ t.mem = s.mem ∧ t.alm = s.alm) ∧
      (∀ x, imageOk s.pow.imageA = none → imageOk s.pow.imageB = some x →
        ∃ t, exec .firmwareBoot s = .next (settle (observeBells t)) ∧ t.boot.phase = 2 ∧ t.pow.running = some x) ∧
      (imageOk s.pow.imageA = none → imageOk s.pow.imageB = none →
        exec .firmwareBoot s = .next (settle (bootFail 1 0 s)))) ∧
    (∀ r : Measured, s.boot.run.isSome = true → s.boot.phase = 2 →
      (∀ i, r.badRail = some i → exec (.measureDone r) s = .next (settle (bootFail 2 i s))) ∧
      (r.badRail = none → r.badTemp = none → r.badLp = none →
        ∃ t, exec (.measureDone r) s = .next (settle t) ∧ t.boot.phase = 3 ∧ t.boot.run.any (·.measured) = true ∧
          t.mem = s.mem ∧ t.mer = s.mer ∧ t.time = s.time ∧ t.rel = s.rel)) ∧
    (s.training = true →
      (∀ lanes d w, (∀ a ∈ lanes, ∀ b ∈ lanes, a.1 = b.1 → a.2 = b.2) →
        ∃ t, exec (.bridgeTrainDone lanes none d w) s = .next (settle t) ∧
        t.boot.run.any (·.bridge) = true ∧ t.boot.sideDelay = d ∧ t.boot.report.tBridge = s.bootMs ∧
        t.boot.report.lanesSpared = s.boot.report.lanesSpared + (lanes.eraseDups.filter fun l => decide (l.2 < 20)).length ∧
        t.mem = s.mem) ∧
      (∀ lanes d w a b, a ∈ lanes → b ∈ lanes → a.1 = b.1 → a.2 ≠ b.2 → ∃ g, twoLanes lanes = some g ∧
        exec (.bridgeTrainDone lanes none d w) s = .next (settle (bootFail 4 g s))) ∧
      (∀ lanes u d w, exec (.bridgeTrainDone lanes (some u) d w) s = .next (settle (bootFail 4 u s))) ∧
      (∀ ch r x, ch < 256 → s.boot.run = some x →
        exec (.dramTrainDone 0 ch r) s = .next (settle (trainGddr ch r x s))) ∧
      (∀ ch r x, ch < 64 → s.boot.run = some x →
        let tried := x.saved.isSome && !x.coldL
        let warm := tried && r.warmOk
        (warm = true ∨ r.coldOk = true → exec (.dramTrainDone 1 ch r) s = .next (settle
          (bootFill 1 (setRun (fun x => { x with chansDone := setIns (256 + ch) x.chansDone })
            (trained (256 + ch) r tried warm false s))))) ∧
        (warm = false → r.coldOk = false → exec (.dramTrainDone 1 ch r) s = .next (settle
          (bootFail 6 ch (untrained (256 + ch) tried s))))) ∧
      (∀ (n : Fin 8) r x, s.boot.run = some x →
        let u := setRun (fun x => { x with nandDone := setIns n.val x.nandDone }) s
        let warm := x.saved.isSome && r.warmOk
        (warm = true ∨ r.coldOk = true → n.val ∉ x.badNand → exec (.nandTrainDone n r) s = .next (settle
          (trained (320 + n.val) r x.saved.isSome warm false u))) ∧
        (n.val ∈ x.badNand → exec (.nandTrainDone n r) s = .next (settle
          (storeFail (untrained (320 + n.val) x.saved.isSome u))))))) ∧
  (∀ s : State,
    (∀ rep no, s.training = true → ∃ t, exec (.storeIndexLoaded rep no) s = .next (settle
        (if (List.range 16).all fun i => t.boot.retired.getLsbD i then bootFail 7 0 t
         else if (List.range 16).all fun i => t.boot.retired.getLsbD (16 + i) then bootFail 7 1 t
         else bootFill 1 (bootFill 0 t))) ∧
      t.boot.run.any (·.index) = true ∧ t.boot.report.tStore = s.bootMs ∧ t.mem = s.mem) ∧
    (s.training = true → exec .portWindowClose s = .next (settle
      (setReport (fun r => { r with portsActive := s.portsActive }) (setRun (fun r => { r with window := true }) s)))) ∧
    (∀ x, s.training = true → s.boot.run = some x → x.complete = true →
      ∃ t, exec .bringupReady s = .next (settle t) ∧ t.boot.ready = true ∧ t.boot.phase = 4 ∧
        t.boot.saveDue = x.cold ∧ t.boot.report.tReady = s.bootMs ∧ t.mem = s.mem ∧ t.mer = s.mer) ∧
    (∀ ok, s.almanacUp = true → s.boot.ready = true → s.boot.saveDue = true →
      exec (.settingsSave ok) s = .next (settle (saveSettings ok { s with boot := { s.boot with saveDue := false } }))) ∧
    (∀ m ok, mbxTakes 0x0902 anyArgs m s = true → s.boot.ready = true →
      exec (.saveTraining m ok) s = .next (settle
        (mbxComplete m (if ok then St.ok else St.settingsWriteFailed) [] (saveSettings ok s)))) ∧
    (∀ m, mbxTakes 0x0906 anyArgs m s = true →
      let bs := wordBytes (reportWords s ++
        (List.range 328).flatMap fun i => (kvGet ({} : ChanRec) i s.boot.report.chans).words)
      bufCheck (s.arg m 0) (s.arg m 1) 1 s = none → bs.length ≤ s.arg m 1 →
      exec (.readBringupReport m) s = .next (settle (mbxComplete m St.ok [bs.length] (devPut (s.arg m 0) bs s)))))

/-- RESET_MODULE with MBX_ARG0 = 0 is a FULL reset after which bring-up starts again; no completion is written. Scope
COMPUTE on a ready module starts the COMPUTE reset with the fills asked for; scope CLUSTER of a cluster in service
starts its reset, discarding its work at once unless the Spectrograph is applying on it. A COMPUTE reset whose fills
have ended zeroes every cluster's SRAM, the semaphores and the counters; a CLUSTER reset zeroes that cluster's SRAM;
each posts RESET_DONE and completes its command. -/
def Obligations.Resets : Prop :=
  ∀ s : State,
    (∀ m, mbxTakes 0x0901 (fun a => a.n 0 % 4 == 0) m s = true → s.arg m 0 = 0 →
      exec (.resetModuleFull m) s = .next (settle (bootStart (fullReset s)))) ∧
    (∀ m, mbxTakes 0x0901 (fun a => a.n 0 % 2 == 1) m s = true → s.arg m 0 % 4 = 1 → s.boot.ready = true →
      bits (s.arg m 0) 20 16 = 0 → exec (.resetModuleCompute m) s = .next (settle
        (setMbx m (fun x => { x with started := true }) (computeStart (some m.val) (bits (s.arg m 0) 9 8) s)))) ∧
    (∀ m, mbxTakes 0x0901 (fun a => a.n 0 % 4 == 2) m s = true → s.boot.ready = true → bits (s.arg m 0) 9 8 = 0 →
      let c := bits (s.arg m 0) 20 16
      let u := if s.boot.slice.any (fun x => x.cluster == c) then abandonSlice s else s
      let v := { u with boot := { u.boot with
        reset := some ⟨2, c, some m.val, u.cyc, u.now, 0, specApplying c u⟩ } }
      s.boot.retired.getLsbD c = false → exec (.resetModuleCluster m) s = .next (settle
        (setMbx m (fun x => { x with started := true }) (if specApplying c u = true then v else clusterDiscard c v)))) ∧
    (s.boot.reset.any (fun r => r.scope == 1) = true → s.tiers.fills.any (fun p => p.2 == .compute) = false →
      exec .computeResetDone s = .next (settle (computeFinish s))) ∧
    (∀ r, s.boot.reset = some r → r.mbx = none →
      (computeFinish s).sems = [] ∧ (computeFinish s).boot.reset = none ∧
      (computeFinish s).mer = { s.mer with streams := s.mer.streams.map fun p => (p.1, { p.2 with halted := true }) } ∧
      (computeFinish s).time = s.time) ∧
    (∀ r, s.boot.reset = some r → r.scope = 2 → r.waiting = false → r.mbx = none →
      exec .clusterResetDone s = .next (settle
        (let u := zeroCluster r.cluster s
         post Ev.resetDone [2, r.cluster, s.cyc - r.since] { u with
          boot := { u.boot with reset := none }
          strm := { u.strm with mcast := kvDel r.cluster u.strm.mcast } })))

/-- SET_COLLIMATION with a period of 10 to 86,400 s and a budget of 31 to 1,000 ms enables it, MBX_ARG0 = 0 disables it.
A slice's drain ends when nothing runs on the cluster or 2 ms have passed, and discards the cluster's work; its
clear zeroes the cluster and drives SCAN_ENABLE high; a march without failing banks goes on to the logic blocks; a
block that matches moves the cluster's block pointer and the count; a block that fails its retest too posts
COLLIMATION_FAILED and CLUSTER_RETIRED and marks the cluster for retirement; the restore ends the slice with
SCAN_ENABLE low. RUN_TRAFFIC_TEST of a pattern 0 to 3 on a channel that exists for 1 to 60,000 ms runs and, where
the channel's tier has no test fill under way, marks the channel's granules dirty; its end starts the channel's
fill, and the end of that fill zeroes the channel's frames, posts TRAFFIC_TEST_DONE and completes OK with the bit
errors and the first failing address, all ones where there is none. RUN_MARGINING with a buffer long enough runs;
its end writes the margin record to the buffer and completes OK with its size. -/
def Obligations.CollimationAndFieldTests : Prop :=
  (∀ (s : State) (x : Slice),
    (∀ m, mbxTakes 0x0905 anyArgs m s = true →
      (s.arg m 0 = 0 → exec (.setCollimation m) s =
        .next (settle (mbxComplete m St.ok [] { s with boot := { s.boot with colEnable := false } }))) ∧
      (s.arg m 0 ≠ 0 → 10 ≤ s.arg m 1 → s.arg m 1 ≤ 86400 → 31 ≤ s.arg m 2 → s.arg m 2 ≤ 1000 →
        exec (.setCollimation m) s = .next (settle (mbxComplete m St.ok []
          { s with boot := { s.boot with colEnable := true, colPeriod := s.arg m 1, colBudget := s.arg m 2 } })))) ∧
    (s.boot.slice = some x → 
      (x.phase = .drain →
        (clusterBusy x.cluster s = false ∨ s.boot.colLast + 2000000 ≤ s.cyc → exec .collimationDrainEnd s =
          .next (settle (setSlice { x with phase := .clear } (clusterDiscard x.cluster s)))) ∧
        (clusterBusy x.cluster s = true → s.cyc < s.boot.colLast + 2000000 →
          exec .collimationDrainEnd s = .next (settle s))) ∧
      (x.phase = .clear → exec .collimationClearDone s = .next (settle (emit (.pin "SCAN_ENABLE" 1)
        (setSlice { x with phase := .march }
          (let u := zeroCluster x.cluster s
           { u with strm := { u.strm with mcast := kvDel x.cluster u.strm.mcast } }))))) ∧
      (∀ multi, x.phase = .march → x.blocks ≠ 0 → exec (.collimationMemoryTestDone [] multi) s =
        .next (settle (setSlice { x with phase := .logic x.blocks } s))) ∧
      (∀ n retest, x.phase = .logic n → 1 < n →
        let b := kvGet 0 x.cluster s.boot.colBlock
        let u := { s with boot := { s.boot with colBlock := kvSet x.cluster ((b + 1) % 512) s.boot.colBlock } }
        exec (.collimationBlockDone true retest) s = .next (settle (setSlice { x with phase := .logic (n - 1) } u)) ∧
        (x.retire = none → exec (.collimationBlockDone false false) s = .next (settle
          (setSlice { x with phase := .logic (n - 1), retire := some 1 } (post Ev.clusterRetired [x.cluster, 1]
            (post Ev.collimationFailed [x.cluster, b, 0, 1]
              (setReport (fun r => { r with colFailures := r.colFailures + 1 }) u))))))) ∧
      (x.phase = .restore → x.retire = none → exec .collimationRestoreDone s = .next (settle
        (setReport (fun r => { r with colSlices := r.colSlices + 1 })
          (let u := emit (.pin "SCAN_ENABLE" 0) (zeroCluster x.cluster s)
           { u with boot := { u.boot with slice := none } })))))) ∧
  (∀ (s : State) (m : Fin 16),
    (mbxTakes 0x0903 anyArgs m s = true →
      let tier := bits (s.arg m 0) 8 8
      let ch := bits (s.arg m 0) 7 0
      let pat := bits (s.arg m 0) 19 16
      pat < 4 → ¬ (tier = 1 ∧ 64 ≤ ch) → 1 ≤ s.arg m 1 → s.arg m 1 ≤ 60000 →
      kvHas (2 + (256 * tier + ch) / 256) s.tiers.fills = false →
      exec (.runTrafficTest m) s = .next (settle (setMbx m (fun x => { x with started := true }) { s with
        boot := { s.boot with test := some ⟨m.val, false, 256 * tier + ch, pat, 0, 0⟩ }
        tiers := { s.tiers with active := (chanGranules ((256 * tier + ch) / 256) ((256 * tier + ch) % 256) s).foldl (fun l g => setIns g l) s.tiers.active } }))) ∧
    (∀ t e f, s.boot.test = some t → t.margin = false → e < 2 ^ 64 → kvHas (2 + t.chan / 256) s.tiers.fills = false →
      exec (.trafficTestEnd e f) s = .next (settle (startFill (2 + t.chan / 256)
        (.traffic t.mbx e (if e = 0 then 2 ^ 64 - 1 else BitVec.toNat f)) s))) ∧
    (∀ t (tier : Fin 2) e w, s.boot.test = some t → kvFind tier.val s.tiers.fills = none →
      kvFind (2 + tier.val) s.tiers.fills = some (.traffic m.val e w) →
      let u := post Ev.trafficTestDone [t.chan / 256, t.chan % 256, e, w]
        (fillChannel t.chan { s with
          boot := { s.boot with test := none }, tiers := { s.tiers with fills := kvDel (2 + tier.val) s.tiers.fills } })
      mbxRuns 0x0903 m u = true →
      exec (.tierFillDone tier) s = .next (settle (mbxComplete m St.ok [e, w] u))) ∧
    (mbxTakes 0x0904 anyArgs m s = true →
      let tier := bits (s.arg m 0) 8 8
      let ch := bits (s.arg m 0) 7 0
      ¬ (tier = 1 ∧ 64 ≤ ch) → bufCheck (s.arg m 1) (s.arg m 2) 1 s = none →
      (if tier = 0 then 192 else 320) ≤ s.arg m 2 →
      exec (.runMargining m) s = .next (settle (setMbx m (fun x => { x with started := true }) { s with
        boot := { s.boot with test := some ⟨m.val, true, 256 * tier + ch, 0, s.arg m 1, s.arg m 2⟩ } }))) ∧
    (∀ t temp pass lanes, s.boot.test = some t → t.margin = true → t.mbx = m.val → mbxRuns 0x0904 m s = true →
      ∃ bs, bs.length = (if t.chan < 256 then 192 else 320) ∧
        exec (.marginingDone temp pass lanes) s = .next (settle (mbxComplete m St.ok [bs.length]
          (devPut t.dest bs { s with boot := { s.boot with test := none } })))))

/-- CREATE_QUEUE with arguments that chapter 05 allows, an unused number, no class conflict and no host ring in
TENANT_BOUNCE creates the queue and with bind binds its stream; a number in use is refused QUEUE_IN_USE.
DESTROY_QUEUE of a halted stream's queue with no admitted task removes it; of a running stream's it is refused
QUEUE_BUSY. HALT_STREAM halts a running stream with cause 0x101 and leaves a halted one; RESUME_STREAM lets it run;
RESET_STREAM ends its waiting tasks and returns how many descriptors and tasks; SET_CLASS_SHARES stores sixteen
weights for the next period. -/
def Obligations.QueueCommands : Prop :=
  ∀ (m : Fin 16) (s : State),
    (∀ q x, mbxTakes 0x0102 anyArgs m s = true → s.arg m 0 = q → kvFind q s.mer.queues = some x →
      ((s.stream x.stream).halted = true → s.mer.tasks.any (fun p => p.2.queue == q && p.2.phase != .head) = false →
        exec (.destroyQueue m) s = .next (settle (mbxComplete m St.ok [] (unbindStream x.stream { s with mer := { s.mer with
          queues := kvDel q s.mer.queues, tasks := s.mer.tasks.filter fun p => p.2.queue != q } })))) ∧
      ((s.stream x.stream).halted = false →
        exec (.destroyQueue m) s = .next (settle (mbxComplete m St.queueBusy [] s)))) ∧
    (mbxTakes 0x0101 anyArgs m s = true →
      let w := s.arg m 0
      let q := bits w 15 0
      let x : Queue := { ring := s.arg m 1, log := bits w 36 32, cpl := s.arg m 2, tailWord := s.arg m 3
                         stream := bits w 23 16, bind := true, held := bit w 29, vec := bits w 47 40, moder := bits w 55 48 }
      bit w 28 = true → 4 ≤ x.log → x.log ≤ 16 → x.vec = 0xFF →
      inDram x.ring = true → inDram (x.ring + 64 * 2 ^ x.log - 1) = true → tierOf x.ring = tierOf (x.ring + 64 * 2 ^ x.log - 1) →
      x.ring % 4096 = 0 →
      inDram x.cpl = true → inDram (x.cpl + 64 * 2 ^ x.log - 1) = true → tierOf x.cpl = tierOf (x.cpl + 64 * 2 ^ x.log - 1) →
      x.cpl % 4096 = 0 → x.tailWord % 8 = 0 → regionOf x.tailWord = regionOf x.cpl →
      regionOf (x.tailWord + 7) = regionOf x.cpl → s.sec.mode ≠ .tenantBounce →
      (kvHas q s.mer.queues = true → exec (.createQueue m) s = .next (settle (mbxComplete m St.queueInUse [] s))) ∧
      (kvHas q s.mer.queues = false → (s.stream x.stream).cls = none ∨ (s.stream x.stream).cls = some (bits w 27 24) →
        exec (.createQueue m) s = .next (settle (mbxComplete m St.ok []
          (setStream x.stream (fun y => { y with cls := some (bits w 27 24) })
            { s with mer := { s.mer with queues := kvSet q x s.mer.queues } }))))) ∧
    (mbxTakes 0x0103 anyArgs m s = true →
      ((s.stream (s.arg m 0)).halted = true → exec (.haltStream m) s = .next (settle (mbxComplete m St.ok [] s))) ∧
      ((s.stream (s.arg m 0)).halted = false → exec (.haltStream m) s = .next (settle (mbxComplete m St.ok []
        (post Ev.streamHalted [s.arg m 0, 0, 0x101] (setStream (s.arg m 0) (fun x => { x with halted := true }) s)))))) ∧
    (mbxTakes 0x0104 anyArgs m s = true → exec (.resumeStream m) s =
      .next (settle (mbxComplete m St.ok [] (setStream (s.arg m 0) (fun x => { x with halted := false }) s)))) ∧
    (mbxTakes 0x0105 anyArgs m s = true → let r := resetStream (s.arg m 0) s
      exec (.resetStream m) s = .next (settle (mbxComplete m St.ok [r.1.1, r.1.2] r.2))) ∧
    (mbxTakes 0x0106 anyArgs m s = true → ∃ w : Vector (BitVec 8) 16,
      (∀ i : Fin 16, w[i] = BitVec.ofNat 8 (s.arg m (i.val / 8) / 2 ^ (8 * (i.val % 8)))) ∧
      exec (.setClassShares m) s =
        .next (settle (mbxComplete m St.ok [] { s with mer := { s.mer with weightsNext := w } })))

/-- LOAD_LAYER_PROGRAM of an image of at least 64 bytes that fits the buffer, reads without poison and meets no refusal
of Table 4-18 completes OK with the lowest free handle, keeps the program and binds its stages' streams to their
classes; one that meets a refusal completes with its code and results. UNLOAD_LAYER_PROGRAM of a program whose
streams are all halted removes it; otherwise it is refused LP_IN_USE, or LP_UNKNOWN where there is none.
SET_COELOSTAT_CONFIG with values that fit sets the buffer size of one cluster. -/
def Obligations.ProgramCommands : Prop :=
  ∀ (m : Fin 16) (s : State),
    (mbxTakes 0x0107 anyArgs m s = true →
      let a := s.arg m 0
      let buf := s.arg m 1
      let r := devRead a 64 s
      let size := (LpImage.mk r.2.1).size
      let q := devRead a size r.2.2
      bufCheck a buf 1 s = none → 64 ≤ buf → r.1 = none → r.2.1.length = 64 → 64 < size → size ≤ 268435456 → size ≤ buf →
      q.1 = none → 
      let x : LpImage := ⟨q.2.1 ++ List.replicate (64 - q.2.1.length) 0⟩
      (∀ st res, x.refusal buf q.2.2 = some (st, res) →
        exec (.loadLayerProgram m) s = .next (settle (mbxComplete m st res q.2.2))) ∧
      (x.refusal buf q.2.2 = none →
        let h := ((List.range 64).find? fun i => !kvHas i q.2.2.prog).getD 0
        exec (.loadLayerProgram m) s = .next (settle (mbxComplete m St.ok [h]
          (x.stageRecs.foldl (fun s r => setStream r.stream (fun y => { y with cls := some r.cls }) s)
            { q.2.2 with prog := kvSet h ⟨a, x.size, x.h 439 432, x.h 431 416, x.stageRecs⟩ q.2.2.prog }))))) ∧
    (mbxTakes 0x0108 anyArgs m s = true →
      (kvFind (s.arg m 0) s.prog = none → exec (.unloadLayerProgram m) s = .next (settle (mbxComplete m St.lpUnknown [] s))) ∧
      (∀ g, kvFind (s.arg m 0) s.prog = some g →
        (g.stages.any (fun x => !(s.stream x.stream).halted) = true →
          exec (.unloadLayerProgram m) s = .next (settle (mbxComplete m St.lpInUse [] s))) ∧
        (g.stages.any (fun x => !(s.stream x.stream).halted) = false →
          exec (.unloadLayerProgram m) s = .next (settle (mbxComplete m St.ok []
            (g.stages.foldl (fun s x => unbindStream x.stream s) { s with prog := kvDel (s.arg m 0) s.prog })))))) ∧
    (mbxTakes 0x0109 anyArgs m s = true →
      let n := bits (s.arg m 0) 11 8
      let c := bits (s.arg m 0) 5 0
      n ≤ 8 → c < 32 → 512 * n + s.sgKib c ≤ 8192 →
      exec (.setCoelostatConfig m) s = .next (settle (mbxComplete m St.ok [] { s with strm := { s.strm with
        mcastKib := kvPut 2048 c (512 * n) s.strm.mcastKib } })))

/-- Where queue q has a descriptor to take and a completion slot, the head descriptor is read, which counts the bridge
crossing of a ring on the other die, the task gets the next number and stands at the queue's head, the head moves on
and a slot is reserved. It then waits, its reason noted at that moment (the model's reading, log entry 108), where
the descriptor reads without poison and passes its checks; it ends POISONED, or with the first check's status,
otherwise. TASK_ADMIT admits the task of a core or a unit that the class, stream and queue order name among all
ready heads of the die. A task ends where it has finished and has no packet left to inject. -/
def Obligations.FetchAndAdmit : Prop :=
  ∀ s : State,
    (∀ q x, kvFind q s.mer.queues = some x → s.mayFetch x = true → x.hasSlot = true → x.cplSince = none →
      x.head ∉ x.exhausted →
      let r := devRead (x.ring + 64 * (x.head.toNat % 2 ^ x.log)) 64 s
      let v := r.2.2
      let d : Desc := bytesWords r.2.1
      let v := bridge d.die false (x.ring + 64 * (x.head.toNat % 2 ^ x.log)) 64 v
      let t := v.mer.nextTask
      let u := count .finderReads d.die 1 { v with mer := { v.mer with
        nextTask := t + 1
        tasks := kvSet t { desc := d, queue := q, stream := x.stream, cls := (v.stream x.stream).cls.getD 0
                           since := x.headSince, fetchAt := v.cyc, loc := d.home } v.mer.tasks
        queues := kvUpd q (fun x => ({ x with
          head := x.head + 1, reserved := x.reserved + 1, fetched := some t, cplSince := none
          exhausted := x.exhausted.filter (· != x.head) } : Queue).passSkips) v.mer.queues } }
      (∀ a, r.1 = some a → exec (.descriptorFetch q) s = .next (settle (rejectTask t Ts.poisoned a u))) ∧
      (∀ st det, r.1 = none → checkDesc u d.home x.stream u.stepStreams 0 d = some (st, det) →
        exec (.descriptorFetch q) s = .next (settle (rejectTask t st det u))) ∧
      (r.1 = none → checkDesc u d.home x.stream u.stepStreams 0 d = none →
        exec (.descriptorFetch q) s = .next (settle (noteWaits u)))) ∧
    (∀ (die : Fin 2) c st q t k,
      let u := noteWaits (chargeAll s)
      let r0 := u.mer.tasks.filter fun p => p.2.phase == .head && p.2.desc.die == die.val && (u.admissible p.1 p.2).1
      let r1 := r0.filter fun p => p.2.cls == c
      let r2 := r1.filter fun p => p.2.stream == st
      u.bestClass die.val (r0.map fun p => p.2.cls) = some c →
      nextRound (kvFind c u.mer.lastStream) (r1.map fun p => p.2.stream) = some st →
      nextRound (kvFind st u.mer.lastQueue) (r2.map fun p => p.2.queue) = some q →
      (r2.find? fun p => p.2.queue == q) = some (t, k) → k.desc.type ≤ 8 → k.cls = c → k.stream = st → k.queue = q →
      exec (.taskAdmit die) s = .next (settle (noteWaits (admitTask t
        (if k.desc.core then k.desc.home
         else if clusterUnit k.desc.type then (u.unitCluster k.desc).getD k.desc.cluster else k.desc.die)
        { u with mer := { u.mer with
          lastStream := kvSet c st u.mer.lastStream, lastQueue := kvSet st q u.mer.lastQueue } })))) ∧
    (∀ t k cyc stall, s.task t = some k → k.phase = .finished → s.fab.inject.any (fun x => x.task == some t) = false →
      let u := setTask t (fun k => { k with overtime := s.overtime k }) s
      exec (.taskComplete t cyc stall) s = .next (settle (noteWaits
        (if k.desc.core then endTask t false cyc stall u else endTask t false 0 0 u))))

/-- CORE_SELECT puts the tasks of its kind back to admitted and then, where the core's cluster can be scheduled, selects
the task that the choice of R126 names as the next to run, unstaging the bound tasks whose stage areas it overlaps,
and as the one after it the choice among the rest whose stage areas do not clash with it; its coelostat then issues
what it has ready. A core that is idle, in service and has no steal under way takes tasks from the first level that
has a victim, no more than its run queue of 8 has room for (the model's reading, log entry 107); moved descriptors
enter its run queue. LEND_START lends the class of a waiter, for a semaphore or for injection credits, to the oldest
holder where its effective deficit is larger and no lend of the waiter runs, at most four deep and 64 to a die; on
which die's view the deficits are compared and the lend is kept is the model's choice (log entry 114).
ACCOUNTING_PERIOD_END steps every deficit by R124 within its bounds, starts a new period and puts the next weights
in force; DEFICIT_BROADCAST gives the cores the deficits and clears their running charges. -/
def Obligations.SelectStealLend : Prop :=
  ∀ s : State,
    (∀ (core : Fin 512) vec, let u := chargeAll s
      let kind := (u.runQueue core.val).filter fun p => p.2.desc.engine != vec
      let mine := kind.filter fun p => u.startable p.1 p.2
      let put := fun (t place : Nat) (s : State) =>
        setTask t (fun k => { k with place := place, phase := if place = 0 then .admitted else .selected }) s
      let v := kind.foldl (fun s p => put p.1 0 s) u
      (u.clusterUp (core.val / 16) = false → exec (.coreSelect core vec) s = .next (settle (issueAll core.val u))) ∧
      (u.clusterUp (core.val / 16) = true → v.choose (core.val / 256) mine = none →
        exec (.coreSelect core vec) s = .next (settle (issueAll core.val v))) ∧
      (∀ t k, u.clusterUp (core.val / 16) = true → v.choose (core.val / 256) mine = some (t, k) →
        let clash := (v.runQueue core.val).filter fun p => p.1 != t && p.2.bound && stageClash k p.2
        let w := put t 1 (clash.foldl (fun s p => unstage p.1 s) v)
        let rest := mine.filter fun p => p.1 != t && !stageClash p.2 k && !stageClash k p.2
        (w.choose (core.val / 256) rest = none → exec (.coreSelect core vec) s = .next (settle (issueAll core.val w))) ∧
        (∀ x, w.choose (core.val / 256) rest = some x →
          exec (.coreSelect core vec) s = .next (settle (issueAll core.val (put x.1 2 w)))))) ∧
    (∀ (core : Fin 512) idle l v ts,
      (s.runQueue core.val).any (fun p => s.startable p.1 p.2) = false → s.clusterUp (core.val / 16) = true →
      s.inCompute = false → s.mer.moves.any (fun m => m.thief == core.val) = false →
      (if idle ≥ 512 then [1, 2, 3] else if idle ≥ 64 then [1, 2] else [1]).findSome?
        (fun l => (mostOf (s.victims core.val l)).map fun v => (l, v)) = some (l, v, ts) →
      exec (.stealAttempt core idle) s = .next (settle
        ((oldestN (Nat.min (match l with | 1 => 1 | 2 => 2 | _ => 4) (8 - s.runLoad core.val)) ts).foldl (fun s t => stealTask core.val v l t s) s))) ∧
    (∀ core : Fin 512, exec (.stealDescriptorMoved core) s = .next (settle
      ((s.mer.moves.filter fun m => m.thief == core.val).foldl
        (fun s m => setTask m.task (fun k => { k with phase := .admitted }) s)
        { s with mer := { s.mer with moves := s.mer.moves.filter fun m => m.thief != core.val } }))) ∧
    (∀ t k want h x, let u := chargeAll s
      u.task t = some k → u.waiterOn t k = some want →
      (match want with
       | .sem i => oldest (u.tasksWhere fun h => h.desc.sigEn && h.desc.sigSem == i && h.cls != k.payer &&
          decide (h.desc.type ≤ 0x8) && (h.phase == .admitted || h.phase == .selected || h.phase == .moving))
       | .credit i v => oldest (u.mer.tasks.filter fun h => h.2.cls != k.payer && (h.2.desc.type == 7 || h.2.desc.type == 8) &&
          u.holdsCredit h.1 i v && u.unsent h.1)) = some (h, x) →
      let depth := ((u.mer.lends.find? fun l => l.holder == t).map Lend.depth).getD 0 + 1
      u.mer.lends.any (fun l => l.waiter == t) = false → x.lent = none → u.effective x.dieOf x.cls < u.effective x.dieOf k.payer → depth ≤ 4 →
      u.mer.lends.countP (fun l => l.die == x.dieOf) < 64 →
      exec (.lendStart t) s = .next (settle (setTask h (fun x => { x with lent := some k.payer })
        { u with mer := { u.mer with lends := u.mer.lends ++ [⟨x.dieOf, t, h, k.payer, depth,
          match want with | .sem _ => none | .credit i v => some (i, v)⟩] } }))) ∧
    (∃ t, exec .accountingPeriodEnd s = .next (settle t) ∧ t.mer.weights = s.mer.weightsNext ∧ t.mer.charged = [] ∧
      t.mer.unitCharged = [] ∧ t.mer.periodStart = s.cyc ∧
      ∀ c : Fin 16, t.mer.deficit[c] = clampD (let u := chargeAll s
        deficitStep ((List.range 16).map fun c => kvGet 0 c u.mer.charged).sum
          ((List.range 16).map fun c => if u.mer.active.contains c then u.weight c else 0).sum
          (u.weight c) (kvGet 0 c.val u.mer.charged) (u.mer.active.contains c.val) u.mer.deficit[c])) ∧
    (exec .deficitBroadcast s = .next (settle (let u := chargeAll s
      { u with mer := { u.mer with heard := u.mer.deficit, running := [] } })))

/-- The class that is chosen among a list is one of the list with the largest effective deficit on the die, and of those
with that deficit the lowest id. The next number after the last, in cyclic order, is the least of the list above it,
or the least of the list where none is. After the clamp of R124 a deficit is between -1,024,000,000 and
1,024,000,000, and a value within those bounds is unchanged. -/
def Obligations.DeficitBounds : Prop :=
  (∀ (s : State) (die c : Nat) (cs : List Nat), s.bestClass die cs = some c →
    c ∈ cs ∧ ∀ x ∈ cs, s.effective die x < s.effective die c ∨ (s.effective die x = s.effective die c ∧ c ≤ x)) ∧
  (∀ (l : Nat) (xs : List Nat) (n : Nat), nextRound (some l) xs = some n →
    n ∈ xs ∧ ((l < n ∧ ∀ x ∈ xs, l < x → n ≤ x) ∨ ((∀ x ∈ xs, x ≤ l) ∧ ∀ x ∈ xs, n ≤ x))) ∧
  (∀ xs : List Nat, (∃ n, nextRound none xs = some n) ↔ xs ≠ []) ∧
  (∀ x : Int, -1024000000 ≤ clampD x ∧ clampD x ≤ 1024000000 ∧
    (-1024000000 ≤ x → x ≤ 1024000000 → clampD x = x))

/-- Where the task stands admissible at its queue's head and the class, stream and queue order names it: a local
SEM_WAIT whose count is reached finishes with that count, and otherwise parks; a remote one parks with a token and a
watch or waits for a token; a local SEM_SIGNAL adds or sets, an ADD that passes 2^32 - 1 ending with SEM_OVERFLOW,
and a remote one sends a SEM_OP; TIMER takes its time, and finishes when it is reached; STEP_MARK sets its stream's
step and finishes unless it waits for its boundary. A SEM_WAIT that is parked, or waits for a token, and whose
deadline is reached finishes with TIMEOUT and the last count observed, but where the answer to its watch stands
ready at the deadline itself; 1,000 cycles after a BUSY answer its watch is sent again; one that waits for a token
parks when one is free. -/
def Obligations.MeridianTasks : Prop :=
  ∀ (s : State) (t : Nat) (k : Task),
    (let v := noteWaits (chargeAll s)
     let a := admitTask t k.desc.die (tookTurn k v)
     let d := k.desc
    (v.atHead t 0x9 = some k →
      let u := setTask t (fun k => { k with deadline := if d.f 4 63 0 = 0 then 0 else a.now + d.f 4 63 0 }) a
      (u.remote (d.f 2 63 0) = true → exec (.semWait t) s = .next (settle (noteWaits (parkWait t u)))) ∧
      (u.remote (d.f 2 63 0) = false →
        let c := (u.sem ((gaAddr (d.f 2 63 0) - 0x30000000000) / 8)).count.toNat
        (d.f 3 63 32 ≤ c → exec (.semWait t) s =
          .next (settle (noteWaits (setTask t (fun k => { k with phase := .finished, result := c }) u)))) ∧
        (c < d.f 3 63 32 → exec (.semWait t) s =
          .next (settle (noteWaits (setTask t (fun k => { k with phase := .parked }) u)))))) ∧
    (v.atHead t 0xA = some k →
      let u := setTask t (fun k => { k with phase := .finished }) a
      let i := (gaAddr (d.f 2 63 0) - 0x30000000000) / 8
      (u.remote (d.f 2 63 0) = true → exec (.semSignal t) s = .next (settle (noteWaits (sendPkts [{
        pkt := { typ := .semOp, cls := 2, dst := gaModule (d.f 2 63 0), src := u.ownId, flow := 0xFD
                 addr := gaAddr (d.f 2 63 0), op := d.f 3 63 62, operand := d.f 3 31 0 }
        die := d.die, task := some t }] u)))) ∧
      (u.remote (d.f 2 63 0) = false →
        (d.f 3 63 62 = 1 → exec (.semSignal t) s =
          .next (settle (noteWaits (semSet i (BitVec.ofNat 32 (d.f 3 31 0)) u)))) ∧
        (d.f 3 63 62 ≠ 1 → exec (.semSignal t) s = .next (settle (noteWaits
          (if (semAdd i (d.f 3 31 0) u).1 = true
            then setTask t (fun k => { k with status := Ts.semOverflow }) (semAdd i (d.f 3 31 0) u).2
            else (semAdd i (d.f 3 31 0) u).2)))))) ∧
    (v.atHead t 0xB = some k → exec (.timerTask t) s = .next (settle (noteWaits (setTask t (fun x => { x with
        deadline := if x.desc.b 3 0 then a.cyc + d.f 2 63 0 else d.f 2 63 0 }) a)))) ∧
    (v.atHead t 0xC = some k → exec (.stepMark t) s = .next (settle (noteWaits (setTask t
        (fun x => { x with phase := if x.desc.b 3 0 then .running else .finished })
        (setStream k.stream (fun x => { x with step := BitVec.ofNat 64 (d.f 2 63 0) }) a)))))) ∧
    (s.task t = some k → k.desc.type = 0xB → k.phase = .admitted →
      (if k.desc.b 3 0 then k.deadline ≤ s.cyc else k.deadline ≤ s.now) →
      exec (.timerExpired t) s = .next (settle (setTask t (fun k => { k with phase := .finished }) s))) ∧
    (s.task t = some k → k.desc.type = 0x9 → (k.phase = .parked ∨ k.phase = .admitted ∧ k.waitWhy = 2) →
      k.deadline ≠ 0 → k.deadline ≤ s.now →
      ¬ (k.deadline = s.now ∧ s.fab.inbox.any (fun x => k.watchedBy x.2 && x.2.op == 0 && x.2.status == 0) = true) →
      let ga := k.desc.f 2 63 0
      let c := if s.remote ga then k.result else (s.sem ((gaAddr ga - 0x30000000000) / 8)).count.toNat
      exec (.semWaitTimeout t) s = .next (settle (dropToken t (setTask t (fun k => { k with
        phase := .finished, status := Ts.timeout, result := c, token := none }) (endWait t (cancelWatch k s)))))) ∧
    (∀ b tk, s.task t = some k → k.busySince = some b → k.token = some tk → k.phase = .parked → b + 1000 ≤ s.cyc →
      exec (.watchResend t) s = .next (settle (count .watchRetry (tk / 4096) 1 (sendWatch k tk
        (setTask t (fun k => { k with busySince := none, remaining := 1, prog := s.cyc }) s))))) ∧
    (s.task t = some k → k.desc.type = 0x9 → k.phase = .admitted → k.waitWhy = 2 →
      exec (.parkTokenFree t) s = .next (settle (parkWait t s)))

/-- A matrix or stats task that may start, whose core's engines are free and whose first slices are there, starts: its
accumulators are set, its landed slices' products run, and it is poisoned where a partial block it loads is, the
words it reads of SRAM in error being met first (R412); one with no valid tile finishes, and a STATS task ends its
statistics with it. A slice that the core's coelostat has issued lands from the cluster's multicast buffer or from
memory, is placed in its buffer and its products run; poison lands as zeros and poisons the task; a held page
withdraws it. RESULT_DRAIN drains a block of a task whose products are done: a resident output is written at once, a
streamed one waits in the stage area, a STATS block in the accumulators. An output block that is written back goes
to the task's output, or is added to the statistics. WRITEBACK_ACCEPTED, once every block column has been written,
finishes the task. A vector task that may start runs whole on a free vector unit. -/
def Obligations.CoreTasks : Prop :=
  ∀ (s : State) (t : Nat) (k : Task), s.task t = some k → let d := k.desc
    (∀ ty i, (ty = 0 ∧ i = Instr.matrixTaskStart t) ∨ (ty = 1 ∧ i = Instr.statsTaskStart t) →
      d.type = ty → s.mayStart t k = true → s.enginesFree k.loc t = true →
      (∀ w, w = 2 ∨ w = 3 → d.slices = 0 ∨ d.res w = true ∨ (w, 0) ∈ k.landed) →
      (d.tileValid = false → exec i s = .next (settle (setTask t (fun k => { k with phase := .finished })
        (if ty = 1 then statsEnd k (startTask t s) else startTask t s)))) ∧
      (d.tileValid = true →
        let u := setTask t (fun k => { k with acc := accStart k s }) (startTask t s)
        let part := (List.range d.mb).map fun bi => (coreBase d.home + d.pOff + 4 * bi * 4096, d.nb * 4096)
        let v := part.foldl (fun s r => sramReads r.1 r.2 s) u
        let p := part.findSome? fun r => v.firstPoison r.1 r.2
        (d.accInit = 1 → ∀ a, p = some a → exec i s =
          .next (settle (issueAll k.loc (runSlices t (d.slices + 1) (taskPoison t a v))))) ∧
        (d.accInit = 1 → p = none → exec i s = .next (settle (issueAll k.loc (runSlices t (d.slices + 1) v)))) ∧
        (d.accInit ≠ 1 → exec i s = .next (settle (issueAll k.loc (runSlices t (d.slices + 1) u)))))) ∧
    (∀ (op : Fin 2) (i : Nat) (r : StreamReq), let w := op.val + 2
      let q := coelOf k.loc
      let v := issueAll k.loc s
      (kvGet [] q v.strm.issued).find? (fun r => r.task == t && r.w == w && r.i == i) = some r →
      let v := { v with strm := { v.strm with issued := kvMod [] q (·.erase r) v.strm.issued } }
      let c := k.loc / 16
      let runs := (d.sliceRuns w i).map fun r => (r.1, r.2.1)
      let n := ((d.sliceRuns w i).map fun r => r.2.1).sum
      let land := fun (bs : List Byte) (u : State) => issueAll k.loc (runSlices t (d.slices + 1)
        (setTask t (fun k => { k with landed := k.landed ++ [(w, i)] }) (placeSlice k.loc d w i bs (count .stageBytes c n u))))
      let hit := (kvGet [] c v.strm.mcast).find? fun x => x.key == d.sliceKey w i && decide (k.age < x.issued)
      let g := taskReads (c / 16) runs v
      (∀ x, hit = some x → exec (.sliceLanded t op i) s = .next (settle (land x.data (count .mcastHits c 1 v)))) ∧
      (∀ bs, hit = none → g.1 = .ok bs →
        exec (.sliceLanded t op i) s = .next (settle (land bs (keepSlice c (d.sliceKey w i) r.stamp bs g.2)))) ∧
      (∀ a, hit = none → g.1 = .poison a →
        exec (.sliceLanded t op i) s = .next (settle (land (List.replicate n 0) (taskPoison t a g.2)))) ∧
      (∀ page, hit = none → g.1 = .held page → exec (.sliceLanded t op i) s = .next (settle (withdraw t page g.2)))) ∧
    (∀ b, d.engine = true → k.phase = .running → d.slices ≤ k.prog → b < d.mb * d.nb → b ∉ k.drained →
      let r := drainBlock d (s.rng k) (b / d.nb) (b % d.nb) k.amax (k.acc.getD b [])
      let last := k.drained.length + 1 = d.mb * d.nb
      let u := setTask t (fun k => { k with
        drained := setIns b k.drained, amax := r.amax
        phase := if last ∧ d.writesBack = false then .finished else .running }) s
      let bs := patBytes (esizeOf (d.fmt 4)) r.out
      let bb := bbytesOf (d.fmt 4)
      (d.type = 0 → d.res 4 = true → exec (.resultDrain t b) s = .next (settle (issueAll k.loc
        (taskWrite t (d.addr 4 + (b / d.nb * d.oStride + b % d.nb) * bb) bs (tallyTask t r.sat r.flush r.nan u))))) ∧
      (d.type = 0 → d.res 4 = false → exec (.resultDrain t b) s = .next (settle (issueAll k.loc
        (devPut (coreBase k.loc + d.outOff + (4 * (b / d.nb) + b % d.nb) * bb) bs (tallyTask t r.sat r.flush r.nan u))))) ∧
      (d.type = 1 → exec (.resultDrain t b) s = .next (settle (issueAll k.loc u)))) ∧
    (∀ bi bj, 
      (d.type = 0 → let bb := bbytesOf (d.fmt 4)
        let stage := coreBase k.loc + d.outOff + (4 * bi + bj) * bb
        let v := sramReads stage bb s
        writeBlock t bi bj s = count .wbBytes (k.loc / 16) bb (taskWrite t (d.addr 4 + (bi * d.oStride + bj) * bb)
          (s.mem.read stage bb) (match v.firstPoison stage bb with | some a => taskPoison t a v | none => v))) ∧
      (d.type = 1 → let q := statsBlock k bi bj (drainBlock d (s.rng k) bi bj 0 (k.acc.getD (bi * d.nb + bj) [])).step1 s
        writeBlock t bi bj s = tallyTask t (q.1.countP (·.sat)) (q.1.countP (·.flush)) (q.1.countP (·.nan)) q.2)) ∧
    (let v := issueAll k.loc s
     ∀ x, v.task t = some x → x.desc.writesBack = true → x.phase = .running → x.desc.nb ≤ x.wbCols.length →
      exec (.writebackAccepted t) s = .next (settle (setTask t (fun k => { k with phase := .finished })
        (if x.desc.type = 1 then statsEnd x v else v)))) ∧
    (d.type = 2 → s.mayStart t k = true →
      s.mer.tasks.any (fun p => p.2.desc.type == 2 && p.2.loc == k.loc &&
        (p.2.phase == .running || p.2.phase == .finished)) = false →
      let done := setTask t (fun k => { k with phase := .finished })
      let u := startTask t s
      (d.vcount = 0 → exec (.vectorTaskStart t) s = .next (settle (done u))) ∧
      (d.vcount ≠ 0 →
        let runs := (d.vwords.filter (· != 5)).flatMap d.vruns
        let w := runs.foldl (fun s r => sramReads r.1 r.2 s) u
        let v := match runs.findSome? fun r => w.firstPoison r.1 r.2 with
          | some a => taskPoison t a w
          | none => w
        let o := vecRun v.mem d (v.rng { k with step := (v.stream k.stream).step })
        exec (.vectorTaskStart t) s = .next (settle (done (setTask t
          (fun k => { k with sat := o.sat, flush := o.flush, nan := o.nan, amax := o.amax })
          (o.writes.foldl (fun s w => taskWrite t w.1 w.2 s) v))))))

/-- A cluster's coelostats take what their unit order names: a task, or the parts of a stash copy, which start. A GATHER
or SCATTER moves its index stream's units in order; with no page held it finishes with what it moved and what was
out of bounds, and with one held it waits for that page's repair. A TRANSFER that needs no park token, or gets one,
copies within the module, asks the host for its pages, sends another module its writes or asks it for the data; it
finishes, or parks for the answers that it awaits. -/
def Obligations.MoveTasks : Prop :=
  ∀ (c : Fin 32) (s : State), let die := c.val / 16
    (∀ ty i, (ty = 3 ∧ i = Instr.gatherTask c) ∨ (ty = 4 ∧ i = Instr.scatterTask c) → let u := chargeAll s
      (∀ slot, u.unitPick c.val c.val [3, 4, 7] 8 = some (.copy slot) →
        exec i s = .next (settle (startCopy slot c.val u))) ∧
      (∀ t k k', u.unitPick c.val c.val [3, 4, 7] 8 = some (.task t k) → k.desc.type = ty →
        (startUnit t u).task t = some k' → let d := k.desc
        let v := startUnit t u
        let m := gatherRows t die d ((List.range (ceilDiv d.gcount (4096 / Nat.max 1 (esizeOf (d.fmt 2))))).foldl
          (movePiece t die (v.rng k') d) { s := v })
        (∀ page, m.held = some page → exec i s = .next (settle
          (setTask t (fun k => { k with heldBy := some page }) (taskReads die m.again v).2))) ∧
        (m.held = none → exec i s = .next (settle (setTask t (fun k => { k with
          phase := .finished, sat := Nat.min m.sat 0xFFFFFFFF, flush := Nat.min m.flush 0xFFFFFFFF
          nan := Nat.min m.nan 0xFFFFFFFF, result := m.moved * 2 ^ 40 + m.oob * 2 ^ 16 + b2n d.finder })
          (count .unitBytes c.val (m.moved * (if ty = 3 then d.unitLen * esizeOf (d.fmt 4) else d.unitLen * esizeOf (d.fmt 3)))
            (count .oob c.val m.oob m.s))))))) ∧
    (let u0 := chargeAll s
     let u := (if (u0.freeToken die).isSome then [] else u0.tasksWhere fun k =>
       k.desc.type == 7 && k.loc == c.val && k.phase == .admitted && u0.needsToken k.desc).foldl (fun s p => waitToken p.1 s) u0
     (∀ slot, u.unitPick c.val c.val [3, 4, 7] 8 = some (.copy slot) →
        exec (.transferTask c) s = .next (settle (startCopy slot c.val u))) ∧
     (∀ t k tk v, u.unitPick c.val c.val [3, 4, 7] 8 = some (.task t k) → let d := k.desc
      d.type = 7 →
      (if (u.needsToken d && k.phase == .admitted) = true then takeToken t die (endWait t u)
        else some (k.token.getD 0, u)) = some (tk, v) →
      let w := setTask t (fun k => { k with result := b2n (v.tfinder d) }) (startUnit t v)
      let ack := d.b 5 31
      let out := w.remote (d.f 3 63 0)
      (w.remote (d.f 2 63 0) = true →
        exec (.transferTask c) s = .next (settle (transferCount c.val d (transferIn t die tk d w)))) ∧
      (w.remote (d.f 2 63 0) = false → regionOf (gaAddr (d.f 2 63 0)) = some .hostWin →
        exec (.transferTask c) s = .next (settle (transferCount c.val d (transferHost t (out && ack) d w)))) ∧
      (w.remote (d.f 2 63 0) = false → regionOf (gaAddr (d.f 2 63 0)) ≠ some .hostWin →
        let m := if out = true then transferOut t die tk ack d w else transferLocal t die d w
        (∀ page, m.held = some page → exec (.transferTask c) s = .next (settle
          (setTask t (fun k => { k with heldBy := some page }) (taskReads die m.again w).2))) ∧
        (m.held = none → let x := transferCount c.val d m.s
          (out = true → ack = true → 0 < m.moved → exec (.transferTask c) s = .next (settle (setTask t (fun k => { k with
            phase := .parked, remaining := m.moved, ackWait := true, prog := x.cyc }) x))) ∧
          (¬ (out = true ∧ ack = true ∧ 0 < m.moved) → exec (.transferTask c) s = .next (settle (setTask t (fun k => { k with
            phase := .finished }) x)))))))

/-- A READ_RSP of status 0 that a parked TRANSFER awaits brings its bytes to the task's destination, each page of which
is written once it has come whole, and counts as answered, and so does one with an error status, which is the
task's; one that answers a repair moves it on; one that nothing awaits is a late response. A WRITE_ACK that a parked
TRANSFER awaits counts as answered, with its error; a failed SEM_OP's posts REMOTE_SIGNAL_FAILED. A WATCH_RSP to the
watch of a parked SEM_WAIT before its deadline ends it with the count that satisfies it, or records that it is
registered or that the table was busy; one that finds no such wait is a late arrival. A request with no answer
within the fabric timeout ends with TIMEOUT. -/
def Obligations.FabricAnswers : Prop :=
  ∀ (s : State),
    (∀ i p v, takeIn (fun k => k.typ == .readRsp) s = some (i, p, v) →
      let u := tripDone i p v
      (∀ t k, u.byToken p = some (t, k) → let d := k.desc
        let ga := d.f 2 63 0
        let o := p.addr - gaAddr ga
        d.type = 7 → k.phase = .parked → gaModule ga = p.src → gaAddr ga ≤ p.addr → o < d.tbytes →
        let n := Nat.min (2048 - p.addr % 2048) (d.tbytes - o)
        let last := decide (k.remaining ≤ 1)
        (p.status = 0 → exec .readRspReceived s = .next (settle (answered t (landPieces t last
          (movedUnits t n (addPiece t o (p.data.take n) u)))))) ∧
        (p.status ≠ 0 → exec .readRspReceived s = .next (settle (answered t (landPieces t last
          (addPiece t o (if p.status = 4 then List.replicate n 0 else [])
            (rspError t p.status (gaModule ga * 2 ^ 52 + p.addr) u))))))) ∧
      (∀ v, u.byToken p = none → repairRsp p u = some v → exec .readRspReceived s = .next (settle v)) ∧
      (u.byToken p = none → repairRsp p u = none → exec .readRspReceived s = .next (settle (lateRsp i u)))) ∧
    (∀ i p u, takeIn (fun k => k.typ == .writeAck) s = some (i, p, u) → p.flow ≠ 0xFF →
      (∀ t k, u.byToken p = some (t, k) → let ga := k.desc.f 3 63 0
        k.desc.type = 7 → k.phase = .parked → u.remote ga = true → gaModule ga = p.src → gaAddr ga ≤ p.addr →
        p.addr - gaAddr ga < k.desc.tbytes →
        let n := Nat.min (2048 - p.addr % 2048) (k.desc.tbytes - (p.addr - gaAddr ga))
        exec .writeAckReceived s = .next (settle (answered t
          (if p.status = 0 then movedUnits t n u else rspError t p.status (gaModule ga * 2 ^ 52 + p.addr) u)))) ∧
      (u.byToken p = none →
        (regionOf p.addr = some .sems → p.flow = 0xFD →
          exec .writeAckReceived s = .next (settle (post Ev.remoteSignalFailed [p.src, p.addr, p.status] u))) ∧
        (p.flow ≠ 0xFD → exec .writeAckReceived s = .next (settle (lateRsp i u))))) ∧
    (∀ i p u t k, takeIn (fun k => k.typ == .watchRsp) s = some (i, p, u) → u.byToken p = some (t, k) →
      (k.watchedBy p = false → exec .watchRspReceived s = .next (settle (lateWatch i p u))) ∧
      (k.watchedBy p = true → k.expired u.now = false → p.status = 0 →
      (p.op = 1 → exec .watchRspReceived s =
        .next (settle (setTask t (fun k => { k with remaining := 0, result := p.operand }) u))) ∧
      (p.op = 2 → exec .watchRspReceived s = .next (settle
        (setTask t (fun k => { k with remaining := 0, busySince := some u.cyc, result := p.operand }) u))) ∧
      (p.op = 0 → k.desc.f 3 63 32 ≤ p.operand → exec .watchRspReceived s = .next (settle (dropToken t
        (setTask t (fun k => { k with phase := .finished, token := none, remaining := 0, result := p.operand }) u)))))) ∧
    (∀ t k, s.task t = some k → k.phase = .parked → k.desc.type = 7 ∧ k.ackWait = true ∨
        k.desc.type = 9 ∧ k.token.isSome = true ∧ 0 < k.remaining →
      k.prog + s.fab.timeoutUs * 1000 ≤ s.cyc →
      let ga := if k.desc.type = 9 ∨ s.remote (k.desc.f 2 63 0) = true then k.desc.f 2 63 0 else k.desc.f 3 63 0
      exec (.fabricTimeout t) s = .next (settle (count .fabricTimeouts k.dieOf 1 (dropToken t (setTask t (fun k => { k with
        phase := .finished, status := Ts.timeout, detail := ga, token := none, remaining := 0, ackWait := false })
        (if k.desc.type = 9 then cancelWatch k s else s))))))

/-- READ_PORT_STATUS of a buffer that serves returns 30 records of Table 13-7. RETRAIN_PORT starts every named port
again, cold or warm. SET_PORT_CONFIG of rings that serve sets a global port's extension and trains it again where it
is active; a bad port or extension is refused. SET_TOPOLOGY with an id set stores N and the canonical links;
SET_GLOBAL_LINK changes one entry; SET_ROUTING stores threshold and timeout; each refuses values out of range. -/
def Obligations.PortCommands : Prop :=
  ∀ (m : Fin 16) (s : State),
    (∀ bs, mbxTakes 0x0501 anyArgs m s = true → bs = wordBytes ((List.range 30).flatMap fun i => portRecord (s.port i)) →
      bufCheck (s.arg m 0) 960 1 s = none → bs.length ≤ 960 →
      exec (.readPortStatus m) s = .next (settle (mbxComplete m St.ok [bs.length] (devPut (s.arg m 0) bs s)))) ∧
    (mbxTakes 0x0502 anyArgs m s = true →
      (s.arg m 0 = 0 → exec (.retrainPort m) s = .next (settle (mbxComplete m St.portArgInvalid [] s))) ∧
      (s.arg m 0 ≠ 0 → exec (.retrainPort m) s = .next (settle (mbxComplete m St.ok [] ((List.range 30).foldl (fun u i =>
        if bit (s.arg m 0) i = true then setPortAt i (fun p => { p with usable := 3, degrading := false })
          (retrain i (s.arg m 1 == 0) .detect u) else u) s))))) ∧
    (mbxTakes 0x0503 anyArgs m s = true →
      let i := bits (s.arg m 0) 4 0
      let ext := bits (s.arg m 0) 15 8
      (i < 14 ∨ 29 < i ∨ 64 < ext ∨ ext % 4 ≠ 0 →
        exec (.setPortConfig m) s = .next (settle (mbxComplete m St.portArgInvalid [] s))) ∧
      (14 ≤ i → i ≤ 29 → ext ≤ 64 → ext % 4 = 0 → bufCheck (s.arg m 1) (ext * 2 ^ 20) 65536 s = none →
        bufCheck (s.arg m 2) (ext * 2 ^ 20) 65536 s = none → regionOf (s.arg m 1) = some .gddr7 →
        regionOf (s.arg m 2) = some .gddr7 →
        let u := setPortAt i (fun p => { p with extMib := ext, rxRing := s.arg m 1, replayRing := s.arg m 2 }) s
        exec (.setPortConfig m) s = .next (settle (mbxComplete m St.ok []
          (if (u.port i).st = .active then retrain i true .train u else u))))) ∧
    (mbxTakes 0x0504 anyArgs m s = true → let n := s.arg m 0
      (n < 1 ∨ 128 < n → exec (.setTopology m) s = .next (settle (mbxComplete m St.argInvalid [] s))) ∧
      (1 ≤ n → n ≤ 128 → s.fab.id = none → exec (.setTopology m) s = .next (settle (mbxComplete m St.notReady [] s))) ∧
      (∀ id, 1 ≤ n → n ≤ 128 → s.fab.id = some id → exec (.setTopology m) s = .next (settle (mbxComplete m St.ok []
        (checkAllWiring (digestStep (fun s => { s with fab := { s.fab with
          groups := some n, links := canonicalLinks n (id / 8) } }) s)))))) ∧
    (mbxTakes 0x0505 anyArgs m s = true →
      let g := bits (s.arg m 0) 6 0
      let h := bits (s.arg m 0) 14 8
      let spare := bit (s.arg m 0) 24
      (s.fab.groups = none → exec (.setGlobalLink m) s = .next (settle (mbxComplete m St.notReady [] s))) ∧
      (∀ n, s.fab.groups = some n → spare = false → n ≤ h →
        exec (.setGlobalLink m) s = .next (settle (mbxComplete m St.argInvalid [] s))) ∧
      (∀ n, s.fab.groups = some n → spare = true ∨ h < n →
        exec (.setGlobalLink m) s = .next (settle (mbxComplete m St.ok [] (checkAllWiring { s with fab := { s.fab with
          links := if spare = true then kvDel g s.fab.links else kvSet g (h, bits (s.arg m 0) 22 16) s.fab.links } }))))) ∧
    (mbxTakes 0x0506 anyArgs m s = true →
      (s.arg m 1 < 100 ∨ 10000000 < s.arg m 1 → exec (.setRouting m) s = .next (settle (mbxComplete m St.argInvalid [] s))) ∧
      (100 ≤ s.arg m 1 → s.arg m 1 ≤ 10000000 → exec (.setRouting m) s = .next (settle (mbxComplete m St.ok []
        { s with fab := { s.fab with thr := s.arg m 0, timeoutUs := s.arg m 1 } }))))

/-- A signal on a down or detecting port that may train starts training, warm where bring-up has its settings saved.
Training ends in the length state with the lane pairs found good, one of them where the port degrades, in a cold
attempt after a warm one with none, or failed. The length measured is the mean of the 64 samples at 4.9 or 4.4 ns a
metre, and the capability record goes out. A record whose CRC and reserved fields fail is asked for again, at most
eight times. A good one from CAPS makes the port active with the credits it announces, posts
PORT_PARTNER_INCOMPATIBLE for another version, then PORT_UP, or PORT_DEGRADED where it degraded, and the wiring is
checked; one from ACTIVE brings the partner's fields up to date. A lane lost with the other pair good degrades an
active port, which says so to its partner; otherwise, and at PORT_DOWN, the port goes down. -/
def Obligations.PortTraining : Prop :=
  ∀ (i : Fin 30) (s : State), let p := s.port i.val
    (s.mayTrain i.val = true → p.st = .down ∨ p.st = .detect →
      exec (.portSignalDetect i) s = .next (settle (setPortAt i.val (fun p => { p with
        st := .train, warm := p.warm || (p.st == .down && s.portSaved i.val) }) s))) ∧
    (∀ good, p.st = .train →
      let lo := good % 4 == 3 && (p.usable == 3 || p.usable == 1)
      let hi := good / 4 % 4 == 3 && (p.usable == 3 || p.usable == 2)
      let lanes := if (lo && hi) = true then (if p.degrading = true then 1 else 3) else if lo = true then 1 else if hi = true then 2 else 0
      (lanes ≠ 0 → exec (.portTrainDone i good) s =
        .next (settle (setPortAt i.val (fun p => { p with
          st := .length, lanes := lanes, good := good % 16, usable := if p.degrading = true then lanes else p.usable }) s))) ∧
      (lanes = 0 → p.warm = true → exec (.portTrainDone i good) s =
        .next (settle (portFellBack i.val s))) ∧
      (lanes = 0 → p.warm = false → exec (.portTrainDone i good) s =
        .next (settle (setPortAt i.val (fun p => { p with st := .failed, lanes := 0 }) s)))) ∧
    (∀ (xs : List (Nat × Nat)) medium turn, p.st = .length → xs.length = 64 →
      let t := ((xs.map fun x => x.1 - x.2).sum + 64) / 128
      let k := if medium = 2 then 490 else 440
      exec (.portLengthDone i xs medium turn) s = .next (settle (sendCaps i.val (setPortAt i.val (fun p => { p with
        st := .caps, oneWay := t, length := (t * 250 + k / 2) / k, medium := medium % 4, turn := turn, capsTries := 0 }) s)))) ∧
    (∀ (w : List Nat), let q := fun k => w.getD k 0
      let bare := (List.range 8).map fun k => if k = 7 then 0 else q k
      let good := bits (q 7) 31 0 = (crc32c (wordBytes bare)).toNat ∧ bits (q 7) 63 32 = 0 ∧ q 3 = 0 ∧ q 4 = 0 ∧ q 5 = 0 ∧
        q 6 = 0 ∧ bits (q 1) 31 0 = 0 ∧ bits (q 0) 10 0 = 0
      p.st = .caps ∨ p.st = .active →
      (¬ good → p.capsTries < 8 → exec (.capsRecordReceived i w) s = .next (settle (emit (.link i.val "CAPS_REQUEST" [])
        (setPortAt i.val (fun p => { p with capsTries := p.capsTries + 1 }) s)))) ∧
      (¬ good → 8 ≤ p.capsTries → exec (.capsRecordReceived i w) s = .next (settle (leaveService i.val .failed s))) ∧
      (good → p.st = .caps →
        let vc := bits (q 2) 31 16
        let sh := bits (q 2) 63 32
        let bad := bits (q 0) 47 32 != 0x0009 || bits (q 0) 63 48 != 0x0402
        let u := setPortAt i.val (fun p => { p with
            vcCr := Vector.replicate 8 vc, sharedCr := sh, vcCr0 := vc, sharedCr0 := sh, rxUsed := Vector.replicate 8 0 })
          (setPortAt i.val (fun p => { p with
            st := .active, incompatible := bad, partner := q 0, partnerKnown := true, capsTries := 0
            peerResetting := bit (q 0) 11, degrading := false }) s)
        let u := if (p.warm || s.boot.phase != 3) = true then u
          else { u with boot := { u.boot with run := u.boot.run.map fun r => { r with cold := true } } }
        let u := if bad = true then post Ev.portPartnerIncompatible [i.val, q 0] u else u
        exec (.capsRecordReceived i w) s = .next (settle (checkWiring i.val
          (post (if p.degrading = true then Ev.portDegraded else Ev.portUp) [i.val, (u.port i.val).lanes] u)))) ∧
      (good → p.st = .active →
        let bad := bits (q 0) 47 32 != 0x0009 || bits (q 0) 63 48 != 0x0402
        let u := setPortAt i.val (fun p => { p with
            st := .active, incompatible := bad, partner := q 0, partnerKnown := true, capsTries := 0
            peerResetting := bit (q 0) 11, degrading := false }) s
        exec (.capsRecordReceived i w) s = .next (settle (checkWiring i.val
          (if (bad && !p.incompatible) = true then post Ev.portPartnerIncompatible [i.val, q 0] u else u))))) ∧
    (∀ lane : Fin 4, p.st = .active →
      (p.lanes = 3 → let pair := if lane.val < 2 then 2 else 1
        exec (.portDegrade i lane true) s = .next (settle (setPortAt i.val
          (fun p => { p with usable := pair, lanes := pair, degrading := true })
          (retrain i.val true .train (linkState i.val 1 s))))) ∧
      (∀ g, p.lanes ≠ 3 ∨ g = false → exec (.portDegrade i lane g) s = .next (settle (portFails i.val s)))) ∧
    (p.st ≠ .down → p.st ≠ .failed → exec (.portDown i) s = .next (settle (portFails i.val s)))

/-- On an active port the codeword expected next is accepted and its packet flits enter the receive buffer; another,
unless one that comes after it is discarded while it is asked for, counts uncorrectable and is answered with a NAK.
A link flit with no reserved kind or bit acknowledges, returns credits and, for a NAK, replays the codewords from
the one it names; nine NAKs of one codeword or a DOWN take the port down; DEGRADE_REQUEST trains it for one pair;
any other flit is ignored. Owed acknowledgement and credits go out in a link flit, a codeword of its own. The router
ejects the next packet it may take where it is addressed to this module, passes one of this group to its member, and
counts one at a level that does not exist unroutable. The next packet of this module for which there are credits is
injected. Group peers exchange port states, and one unreported for 300 µs is forgotten. -/
def Obligations.LinkAndRouter : Prop :=
  ∀ (s : State),
    (∀ (i : Fin 30), let p := s.port i.val
      p.st = .active →
      (∀ ok seq (lpos : Fin 16) fec flits,
        let u := (List.range 4).foldl (fun s l => count .fecCorrected (4 * i.val + l) (fec.getD l 0) s) s
        let good := ok = true ∧ (lpos.val < 0xA ∨ lpos.val = 0xF) ∧ seq = p.rxSeq.setWidth 8
        (good → exec (.codewordReceived i ok seq lpos fec flits) s = .next (settle (flitsIn i.val flits
          (setPortAt i.val (fun p => { p with rxSeq := p.rxSeq + 1, nakked := false, ackOwed := true }) u)))) ∧
        (¬ good → p.nakked = true → seq ≠ p.rxSeq.setWidth 8 →
          exec (.codewordReceived i ok seq lpos fec flits) s = .next (settle u)) ∧
        (¬ good → p.nakked = false ∨ seq = p.rxSeq.setWidth 8 →
          exec (.codewordReceived i ok seq lpos fec flits) s = .next (settle
            (linkFlit i.val 1 p.rxSeq.toNat 0 (count .uncorrectable i.val 1
              (setPortAt i.val (fun p => { p with nakked := true }) u)))))) ∧
      (∀ w : List Nat, let q := fun k => w.getD k 0
        (q 0 % 4 = 3 ∨ linkFlitOk q = false → exec (.linkFlitReceived i w) s = .next (settle s))) ∧
      (∀ w : List Nat, let q := fun k => w.getD k 0
        linkFlitOk q = true →
        let ack := BitVec.ofNat 24 (bits (q 0) 63 40)
        let u := creditBack i.val (q 1) (bits (q 2) 63 48) (setPortAt i.val (fun p => { p with
          replay := p.replay.filter fun x => !decide (seqDist x.seq ack < 2 ^ 23) }) s)
        (q 0 % 4 = 0 → exec (.linkFlitReceived i w) s = .next (settle u)) ∧
        (q 0 % 4 = 1 →
          let nak := BitVec.ofNat 24 (bits (q 0) 39 16)
          let n := if 0 < p.nakCount ∧ p.nakSeq = nak then p.nakCount + 1 else 1
          let again := (u.port i.val).replay.filter fun x => decide (seqDist nak x.seq < 2 ^ 23)
          (8 < n → exec (.linkFlitReceived i w) s = .next (settle (portFails i.val u))) ∧
          (n ≤ 8 → exec (.linkFlitReceived i w) s = .next (settle (again.foldl
            (fun s x => emit (.codeword i.val x.control x.flits) s)
            (count .replays i.val again.length
              (setPortAt i.val (fun p => { p with nakSeq := nak, nakCount := n }) u)))))) ∧
        (q 0 % 4 = 2 → q 3 = 1 → p.lanes = 3 → exec (.linkFlitReceived i w) s =
          .next (settle (setPortAt i.val (fun p => { p with degrading := true }) (retrain i.val true .train u)))) ∧
        (q 0 % 4 = 2 → q 3 = 2 → exec (.linkFlitReceived i w) s = .next (settle (portFails i.val u))) ∧
        (q 0 % 4 = 2 → q 3 = 3 ∨ q 3 = 4 → exec (.linkFlitReceived i w) s =
          .next (settle (setPortAt i.val (fun p => { p with peerResetting := q 3 == 3 }) u)))) ∧
      ((p.ackOwed || decide (0 < p.sharedOwed) || p.vcOwed.toList.any (fun x => decide (0 < x))) = true →
        let vcs := (List.range 8).map fun v => min (p.vcOwed[v]?.getD 0) 255
        let sh := min p.sharedOwed 65535
        exec (.linkFlitDue i) s = .next (settle (sendCodeword i.val 0
            [([(p.rxSeq - 1).toNat * 2 ^ 40, (List.range 8).foldl (fun x v => x + vcs.getD v 0 * 2 ^ (8 * v)) 0,
             sh * 2 ^ 48, 0, 0, 0, 0, 0], false)]
          (setPortAt i.val (fun p => { p with
            ackOwed := false, sharedOwed := p.sharedOwed - sh
            vcOwed := Vector.ofFn fun v => p.vcOwed[v] - vcs.getD v.val 0 }) s)))) ∧
      (∀ hop k, s.nextRx i.val = some k → s.inService i.val = true →
        let die := portDie i.val
        let u := monSample 0x08 die hop (freeRx i.val k s)
        let k := if 14 ≤ i.val then { k with level := k.level + 1 } else k
        (14 ≤ i.val → levelOk k = false → exec (.packetForward i hop) s = .next (settle (unroutable die k u))) ∧
        (i.val < 14 ∨ levelOk k = true → k.dst = u.ownId → exec (.packetForward i hop) s = .next (settle (eject i.val k u))) ∧
        (i.val < 14 ∨ levelOk k = true → k.dst ≠ u.ownId → k.dst / 8 = u.ownId / 8 → k.val = false ∨ k.igroup = u.ownId / 8 →
          exec (.packetForward i hop) s =
            .next (settle (toMember (k.dst % 8) die ⟨k, true, none⟩ (count .transitPackets die 1 u)))))) ∧
    (∀ x, let u := collExpire (chargeAll s)
      u.nextInject = some x →
      let v := injectPkt x { u with fab := { u.fab with inject := u.fab.inject.erase x } }
      (x.task = none → exec .packetInject s = .next (settle v)) ∧
      (∀ t, x.task = some t → exec .packetInject s = .next (settle (endCreditLends (collPumpAll
        (fun y => some y.comm == (v.fab.colls.find? fun y => y.task == t).map Coll.comm) (releaseUnit t v)))))) ∧
    (s.fab.id.isSome = true → s.fab.groups.isSome = true → exec .portStatesSend s =
      .next (settle (sendPkts (s.groupPeers.map fun d => mgmtPkt d [2 ^ 56 + s.ownStates, 0, 0] s) s))) ∧
    (∀ i k u, takeIn (fun k => k.typ == .mgmt && k.kind == 1) s = some (i, k, u) → k.src / 8 = u.ownId / 8 →
      exec .portStatesReceived s = .next (settle { u with fab := { u.fab with
        peers := kvSet (k.src % 8) (k.mgmt.getD 0 0 % 2 ^ 48, u.cyc) u.fab.peers } })) ∧
    (∀ (p : Fin 8) x t, kvFind p.val s.fab.peers = some (x, t) → t + 300000 ≤ s.cyc →
      exec (.peerReportStale p) s = .next (settle { s with fab := { s.fab with peers := kvDel p.val s.fab.peers } }))

/-- The oldest WRITE that arrived and that checks clean is stored, unless its range is poisoned, and acknowledged where
it asks; one that does not is acknowledged with its status. A READ_REQ that checks clean is answered with its data,
with status 4 where it meets poison, with status 1 for a semaphore during a COMPUTE reset, or with its status; short
reads and semaphore writes count as Finder requests. A SEM_OP of a semaphore adds or sets; otherwise a WRITE_ACK
carries its status. A SEM_WATCH is answered at once where its count is reached, as busy with 4,096 watches on the
die, and otherwise registered. A WATCH_CANCEL removes its watch. -/
def Obligations.InboundRequests : Prop :=
  ∀ (s : State) (i : Nat) (k : Packet) (u : State),
    (takeIn (fun k => k.typ == .write) s = some (i, k, u) →
      let st := inboundStatus k k.data.length u
      let v := if regionOf k.addr = some .sems then count .finderWrites (portDie i) 1 u else u
      let r := devWrite k.addr k.data v
      (st ≠ 0 → exec .inboundWrite s = .next (settle (if k.ack = true then respond i k .writeAck st [] u else u))) ∧
      (st = 0 → exec .inboundWrite s = .next (settle
        (if k.ack = true then respond i k .writeAck (if r.1 = true then 4 else 0) [] r.2 else r.2)))) ∧
    (takeIn (fun k => k.typ == .readReq) s = some (i, k, u) →
      let n := k.lenM1 + 1
      let st := inboundStatus k n u
      (st ≠ 0 → exec .inboundReadReq s = .next (settle (respond i k .readRsp st [] u))) ∧
      (st = 0 → regionOf k.addr = some .sems → u.boot.reset.any (fun r => r.scope == 1) = true →
        exec .inboundReadReq s = .next (settle (respond i k .readRsp 1 [] u))) ∧
      (st = 0 → regionOf k.addr ≠ some .sems ∨ u.boot.reset.any (fun r => r.scope == 1) = false →
        let v := if n ≤ 256 then count .finderReads (portDie i) (finderReqs [(k.addr, n)]) u else u
        let r := devRead k.addr n v
        (∀ a, r.1 = some a → exec .inboundReadReq s = .next (settle (respond i k .readRsp 4 [] r.2.2))) ∧
        (r.1 = none → exec .inboundReadReq s = .next (settle (respond i k .readRsp 0 r.2.1 r.2.2))))) ∧
    (takeIn (fun k => k.typ == .semOp) s = some (i, k, u) →
      (semStatus k u ≠ 0 → exec .inboundSemOp s = .next (settle (respond i k .writeAck (semStatus k u) [] u))) ∧
      (∀ j, semStatus k u = 0 → semIndex k.addr = some j →
        (k.op = 0 → exec .inboundSemOp s = .next (settle (semAdd j k.operand u).2)) ∧
        (k.op ≠ 0 → exec .inboundSemOp s = .next (settle (semSet j (BitVec.ofNat 32 k.operand) u))))) ∧
    (takeIn (fun k => k.typ == .semWatch) s = some (i, k, u) →
      (semStatus k u ≠ 0 → exec .inboundSemWatch s = .next (settle (respond i k .watchRsp (semStatus k u) [] u))) ∧
      (∀ j, semStatus k u = 0 → semIndex k.addr = some j →
        let c := (u.sem j).count.toNat
        let w : Watch := ⟨semDie j, k.src, k.tdie * 4096 + k.token, j, k.operand⟩
        let full := 4096 ≤ u.mer.watches.countP (fun x => x.die == w.die)
        (k.operand ≤ c → exec .inboundSemWatch s = .next (settle (sendPkts [watchAnswer u.ownId w 0 c] u))) ∧
        (c < k.operand → full → exec .inboundSemWatch s = .next (settle (sendPkts [watchAnswer u.ownId w 2 c] u))) ∧
        (c < k.operand → ¬ full → exec .inboundSemWatch s = .next (settle (sendPkts [watchAnswer u.ownId w 1 c]
          { u with mer := { u.mer with watches := u.mer.watches ++ [w] } }))))) ∧
    (takeIn (fun k => k.typ == .watchCancel) s = some (i, k, u) →
      exec .inboundWatchCancel s = .next (settle { u with mer := { u.mer with
        watches := u.mer.watches.filter fun w => !(w.module == k.src && w.token == k.tdie * 4096 + k.token) } }))

/-- SET_MODULE_ID before the topology stores the id and sends capability records again; after it, it is refused.
CREATE_COMMUNICATOR of a record that R324 accepts stores it; another completes with its refusal.
DESTROY_COMMUNICATOR and SWITCH_LAYOUT of a communicator with an open collective are refused COMM_BUSY; a switch
installs the record and admits what waited for its epoch. An engine goes on with its open collectives and admits the
oldest task of a current epoch of each communicator by class. A data packet of the current epoch lands and is pumped
on; a FREE is recorded; an ABORT ends the collective it names; a collective past its deadline ends with TIMEOUT and
the lowest rank it lacks. -/
def Obligations.Collectives : Prop :=
  ∀ (s : State),
    (∀ m : Fin 16, mbxTakes 0x0507 anyArgs m s = true →
      (s.fab.groups.isSome = true → exec (.setModuleId m) s = .next (settle (mbxComplete m St.commArgInvalid [] s))) ∧
      (s.fab.groups = none → let u := digestStep (fun s => { s with fab := { s.fab with id := some (s.arg m 0) } }) s
        exec (.setModuleId m) s = .next (settle (mbxComplete m St.ok []
          ((List.range 30).foldl (fun s i => if (s.port i).st = .active then sendCaps i s else s) u))))) ∧
    (∀ m : Fin 16, mbxTakes 0x0508 anyArgs m s = true →
      let r := readComm (s.arg m 0) (fun id s => !kvHas id s.fab.comms && decide (s.fab.comms.length < 256)) s
      (∀ id c u, r = .inl (id, c, u) → exec (.createCommunicator m) s =
        .next (settle (mbxComplete m St.ok [] { u with fab := { u.fab with comms := kvSet id c u.fab.comms } }))) ∧
      (∀ x, r = .inr x → exec (.createCommunicator m) s = .next (settle (x.settle m)))) ∧
    (∀ m : Fin 16, mbxTakes 0x0509 anyArgs m s = true → let id := s.arg m 0
      (kvHas id s.fab.comms = false → exec (.destroyCommunicator m) s = .next (settle (mbxComplete m St.commArgInvalid [] s))) ∧
      (kvHas id s.fab.comms = true → s.collOpen id = true →
        exec (.destroyCommunicator m) s = .next (settle (mbxComplete m St.commBusy [] s))) ∧
      (kvHas id s.fab.comms = true → s.collOpen id = false → exec (.destroyCommunicator m) s =
        .next (settle (mbxComplete m St.ok [] { s with fab := { s.fab with comms := kvDel id s.fab.comms } })))) ∧
    (∀ (m : Fin 16) c, mbxTakes 0x050A anyArgs m s = true → let id := bits (s.arg m 0) 11 0
      let e := bits (s.arg m 0) 31 16
      kvFind id s.fab.comms = some c →
      (e ≠ (c.epoch + 1) % 65536 → exec (.switchLayout m) s = .next (settle (mbxComplete m St.commArgInvalid [] s))) ∧
      (∀ x n u, e = (c.epoch + 1) % 65536 → readComm (s.arg m 1) (fun i _ => i == id) s = .inl (x, n, u) →
        (u.collOpen id = true ∨ c.stale = false ∧ c.owed ≠ [] →
          exec (.switchLayout m) s = .next (settle (mbxComplete m St.commBusy [] u))) ∧
        (u.collOpen id = false → c.stale = true ∨ c.owed = [] → exec (.switchLayout m) s =
          .next (settle (mbxComplete m St.ok [] (admitEpoch id (chargeAll (count .switches 0 1 (setComm id (fun _ => { n with epoch := e }) u))))))))) ∧
    (∀ die : Fin 2, let u := collPumpAll (fun x => x.die == die.val) (collExpire (chargeAll s))
      (u.inCompute = true ∨ 16 ≤ u.fab.colls.countP (fun x => (u.task x.task).any Task.busy) →
        exec (.collectiveTask die) s = .next (settle u)) ∧
      (∀ t k v, u.inCompute = false → u.fab.colls.countP (fun x => (u.task x.task).any Task.busy) < 16 →
        let mine := u.mer.tasks.filter fun p =>
          p.2.desc.type == 8 && p.2.loc == die.val && p.2.phase == .admitted && !u.awaitsSwitch p.2
        let ready := mine.filter fun p =>
          !(mine.any fun q => q.2.desc.cgroup == p.2.desc.cgroup && decide (q.2.age < p.2.age))
        u.unitChoose (66 + die.val) ready = some (t, k) →
        (kvFind k.desc.cgroup u.fab.comms = none →
          exec (.collectiveTask die) s = .next (settle (rejectTask t Ts.descFieldInvalid 368 u))) ∧
        (∀ c, kvFind k.desc.cgroup u.fab.comms = some c → c.stale = false → k.desc.cepoch = c.epoch →
          collAdmit t die.val k c u = some v → exec (.collectiveTask die) s = .next (settle v)))) ∧
    (∀ i p u c v, takeIn (fun k => k.typ == .collData) (collExpire (chargeAll s)) = some (i, p, u) → collFilter i p u = (some c, v) →
      let id := bits p.coll 63 52
      let seq := bits p.coll 35 20
      let q := bits p.coll 18 8
      let base := c.slotAt c.own seq
      checkAccess .remote p.addr p.data.length = none → base ≤ p.addr → p.addr < base + c.slot64k * 65536 →
      q < c.ranks.length → q ≠ c.own →
      exec .collDataReceived s = .next (settle (collPumpAll (fun x => x.comm == id) (setComm id (fun c => { c with
        landed := c.landed ++ [(seq, bits p.coll 19 19, q, p.addr - base)] })
        (count .rxLines (c.dieOf c.own) (p.data.length / 64) (devPut p.addr p.data v)))))) ∧
    (∀ i p u c v, takeIn (fun k => k.typ == .collCtrl && k.kind == 0x10) (collExpire (chargeAll s)) = some (i, p, u) →
      collFilter i p u = (some c, v) → let id := bits p.coll 63 52
      let e := (bits p.coll 18 8, bits p.coll 35 20)
      let used := v.freeUsed id e.2 c
      exec .collFreeReceived s = .next (settle (collPumpAll (fun x => x.comm == id) (setComm id (fun c => { c with
        frees := if used || c.frees.contains e then c.frees else c.frees ++ [e], owed := c.owed.filter (· != e) }) v)))) ∧
    (∀ i p u c v x, takeIn (fun k => k.typ == .collCtrl && k.kind == 0x11) s = some (i, p, u) →
      collFilter i p u = (some c, v) →
      v.fab.colls.find? (fun x => x.comm == bits p.coll 63 52 && x.num % 65536 == bits p.coll 35 20) = some x →
      exec .collAbortReceived s = .next (settle (collFail x.task Ts.aborted p.src (count .abortsRx (c.dieOf c.own) 1 v)))) ∧
    (∀ t x c d, s.collOver t false = true → (chargeAll s).coll t = some (x, c, d) →
      (s.collOver t true = true ∨ s.collArrives t = false ∨ s.collLacks t = none) →
      exec (.collectiveTimeout t) s =
        .next (settle (collFail t Ts.timeout (((chargeAll s).collLacks t).getD (c.moduleOf c.own)) (chargeAll s))))

/-- SET_SITE_MAP stores the map and its enable and checks the sites. CLEAR_FENCE without a fence completes OK, with a
communicator that spans the sites is refused, and otherwise lifts the fence, posts FENCE_CLEARED and checks again,
after which an abandoned mirror may begin again (R441). Reports of the group's cross-site links go to the groups of
this site and are taken from them. SET_BUDDY with a ring of Table 14-9 stores the buddy and starts the mirror
afresh; a bad ring is refused. Beats are sent and taken; a buddy silent for 5 ms is lost, a later beat restores it,
and its credit adds up to the ring's size. -/
def Obligations.SitesAndBuddy : Prop :=
  ∀ (s : State),
    (∀ m : Fin 16, mbxTakes 0x050B anyArgs m s = true → exec (.setSiteMap m) s = .next (settle (mbxComplete m St.ok []
      (siteCheck (digestStep (fun u => { u with fab := { u.fab with
        siteMap := #v[BitVec.ofNat 64 (s.arg m 0), BitVec.ofNat 64 (s.arg m 1)], siteEn := bit (s.arg m 2) 0 } }) s))))) ∧
    (∀ u, mirrorAgain u = mirrorPump { u with store := { u.store with mirrorHalt := false } }) ∧
    (∀ m : Fin 16, mbxTakes 0x050C anyArgs m s = true →
      (s.fab.fenced = none → exec (.clearFence m) s = .next (settle (mbxComplete m St.ok [] s))) ∧
      (s.fab.fenced.isSome = true → s.fab.comms.any (fun p => s.spans p.2) = true →
        exec (.clearFence m) s = .next (settle (mbxComplete m St.fenceSpanning [] s))) ∧
      (s.fab.fenced.isSome = true → s.fab.comms.any (fun p => s.spans p.2) = false → exec (.clearFence m) s =
        .next (settle (mbxComplete m St.ok [] (mirrorAgain (siteCheck (post Ev.fenceCleared []
          { s with fab := { s.fab with fenced := none, armed := false } }))))))) ∧
    (s.fab.siteEn = true → s.fab.id.isSome = true → s.fab.groups.isSome = true → let u := siteCheck s
      exec .siteStateSend s = .next (settle (sendPkts (u.siteGroups.map fun g => mgmtPkt (8 * g + u.ownId % 8)
        [2 * 2 ^ 56 + b2n u.fab.fenced.isSome * 2 ^ 16 + u.crossCount, u.now, 0] u) u))) ∧
    (∀ i k u, takeIn (fun k => k.typ == .mgmt && k.kind == 2) s = some (i, k, u) → u.fab.siteEn = true →
      exec .siteStateReceived s = .next (settle (siteCheck { u with fab := { u.fab with
        siteView := kvSet (k.src / 8) (k.mgmt.getD 0 0 % 65536, u.cyc) u.fab.siteView } }))) ∧
    exec .siteViewStale s = .next (settle (siteCheck s)) ∧
    (∀ m : Fin 16, mbxTakes 0x050D anyArgs m s = true →
      let base := s.arg m 1
      let n := s.arg m 2
      let on := bit (s.arg m 0) 10
      let ringOk := base % 65536 = 0 ∧ regionOf base = some .gddr7 ∧ regionOf (base + n - 1) = some .gddr7 ∧
        n % 65536 = 0 ∧ 2 ^ 26 ≤ n ∧ n ≤ 2 ^ 32
      (on = true → ¬ ringOk → exec (.setBuddy m) s = .next (settle (mbxComplete m St.commArgInvalid [] s))) ∧
      (on = false ∨ ringOk → exec (.setBuddy m) s = .next (settle (mbxComplete m St.ok []
        (mirrorPump (digestStep (fun s => { s with
          store := { s.store with
            mirroring := none, outQ := [], incoming := none, mirrorHalt := false, seqOut := 0, seqIn := 0, unacked := [], freed := 0 }
          fab := { s.fab with
            buddy := if on = true then some (bits (s.arg m 0) 9 0) else none
            ringBase := base, ringBytes := n, rate := bits (s.arg m 0) 31 16, beatAt := s.cyc, buddyLost := false
            credit := n, mirrorAt := 0, drainAt := 0 } }) s)))))) ∧
    (∀ b, s.fab.buddy = some b → exec .buddyBeatSend s =
      .next (settle (sendPkts [mgmtPkt b [3 * 2 ^ 56 + b2n (!s.mirrorDown), s.now, 0] s] s))) ∧
    (∀ i k u, takeIn (fun k => k.typ == .mgmt && k.kind == 3) s = some (i, k, u) → u.fab.buddy = some k.src →
      let v := { u with fab := { u.fab with beatAt := u.cyc, buddyLost := false } }
      exec .buddyBeatReceived s =
        .next (settle (if u.fab.buddyLost = true then mirrorAgain (post Ev.buddyRestored [k.src] v) else v))) ∧
    (∀ b, s.fab.buddy = some b → s.fab.buddyLost = false → s.fab.beatAt + 5000000 ≤ s.cyc → exec .buddyLost s =
      .next (settle (mirrorLost (post Ev.buddyLost [b] { s with fab := { s.fab with buddyLost := true } })))) ∧
    (∀ i k u, takeIn (fun k => k.typ == .mgmt && k.kind == 4) s = some (i, k, u) → u.fab.buddy = some k.src →
      exec .mirrorCreditReceived s = .next (settle (mirrorPump { u with fab := { u.fab with
        credit := Nat.min u.fab.ringBytes (u.fab.credit + k.mgmt.getD 0 0 % 2 ^ 32 * 65536) } })))

/-- Where the store is mounted and the manifest reads, WRITE_CHECKPOINT meets the first refusal of R431, or starts the
write of a generation with the key, parent and depth of R430, and captures at once where the manifest asks. A held
write's granule is staged first while there is room; staged granules are programmed in order, and a store without
room for the next ends the command CKPT_NO_SPACE; with all programmed the generation is committed and becomes the
base. RESTORE_CHECKPOINT of a generation that may be read, with matching regions, starts the restore, whose last
granule ends it. LIST_CHECKPOINTS and READ_STORE_HEALTH return their records; DELETE_CHECKPOINT of a childless
generation that may be deleted removes it. -/
def Obligations.CheckpointStore : Prop :=
  ∀ (m : Fin 16) (s : State),
    (∀ full i w rs v, (full = true ∧ i = Instr.writeCheckpointFull m) ∨ (full = false ∧ i = Instr.writeCheckpointIncremental m) →
      s.store.mounting = false → mbxTakes 0x0801 (fun a => bit (a.n 0) 0 == full) m s = true →
      (∀ k, readManifest (s.arg m 1) true s k = k w rs v) →
      let slot := bits (s.arg m 0) 15 8
      let mirror := bit (s.arg m 0) 1
      (∀ st, ckptRefused full slot (s.arg m 2) mirror rs v = some st →
        exec i s = .next (settle (mbxComplete m st [] v))) ∧
      (ckptRefused full slot (s.arg m 2) mirror rs v = none →
        let k := kvFind slot v.sec.keys
        let parent := if full = true then 0 else v.store.base
        let gen : Generation :=
          { id := s.arg m 2, parent := parent, regions := rs, keyId := (k.map KeySlot.keyId).getD 0xFFFFFFFF
            key := k.map KeySlot.key, source := v.fab.id.getD 0, mirror := b2n mirror
            depth := if full = true then 0 else
              ((v.store.gens.find? fun g => g.id == parent).map fun g => g.depth + 1).getD 0 }
        let job : CkptWrite :=
          { mbx := m.val, gen := gen, since := v.cyc, stage := bits (w.getD 2 0) 51 0, room := bits (w.getD 3 0) 63 32 }
        let u := setStore (fun x => { x with write := some job }) v
        exec i s = .next (settle (setMbx m (fun x => { x with started := true })
          (if bit (w.getD 0 0) 0 = true then capture u else u))))) ∧
    (∀ a ns w x, s.store.write = some w → w.todo.find? (fun x => x.addr == a / granBytes * granBytes) = some x →
      w.staged.length < w.room →
      exec (.captureOnDemand a ns) s = .next (settle (stageMore 1 (setStore (fun st => { st with write := some { w with
        todo := x :: w.todo.filter (fun y => y.addr != a / granBytes * granBytes), heldNs := w.heldNs + ns } }) s)))) ∧
    (∀ n bl w, s.store.write = some w →
      let take := w.staged.take n
      let put := take.take (s.store.free / granBytes)
      let w' := { w with staged := w.staged.drop put.length, gen := { w.gen with grans := w.gen.grans ++ put } }
      let u := setProgress w'.mbx w'.gen.bytes (programmed (put.length * granBytes) bl
        (setStore (fun x => { x with write := some w' }) s))
      exec (.stagingDrain n bl) s =
        .next (settle (if put.length < take.length then ckptEnd St.ckptNoSpace u else capturePump u))) ∧
    (∀ w (h : w.mbx < 16), s.store.write = some w → w.captured = true → w.todo = [] → w.staged = [] →
      let g := { w.gen with tCommit := s.now }
      exec .checkpointCommit s = .next (settle (mirrorPump (mbxComplete ⟨w.mbx, h⟩ St.ok [g.bytes]
        (post Ev.checkpointCommitted [g.id, g.bytes, s.cyc - w.since, w.heldNs, g.lost]
          (setStore (fun x => { x with gens := x.gens ++ [g], base := g.id, write := none }) s)))))) ∧
    (∀ w rs v, mbxTakes 0x0802 (fun a => !bit (a.n 0) 0) m s = true →
      (∀ k, readManifest (s.arg m 1) false s k = k w rs v) → v.store.failed = false →
      (v.store.gens.find? (fun g => g.id == s.arg m 2) = none →
        exec (.restoreCheckpointLocal m) s = .next (settle (mbxComplete m St.ckptNotFound [] v))) ∧
      (∀ g, v.store.gens.find? (fun g => g.id == s.arg m 2) = some g →
        (v.mayRead g = false → exec (.restoreCheckpointLocal m) s = .next (settle (mbxComplete m St.ckptKeyMismatch [] v))) ∧
        (v.mayRead g = true → g.regions.map Prod.snd ≠ rs.map Prod.snd →
          exec (.restoreCheckpointLocal m) s = .next (settle (mbxComplete m St.ckptManifestMismatch [] v))) ∧
        (v.mayRead g = true → g.regions.map Prod.snd = rs.map Prod.snd →
          let job : CkptRestore := { mbx := m.val, gen := g.id, regions := rs, buddy := false
                                     todo := (restorePlan (v.store.chainOf g.id) g.regions rs).map fun p => (p.2.1, p.2.2) }
          exec (.restoreCheckpointLocal m) s = .next (settle (setMbx m (fun x => { x with started := true })
            (setStore (fun x => { x with restore := some job }) v)))))) ∧
    (∀ n r, s.store.restore = some r → r.buddy = false →
      let p := (r.todo.take n).foldl (fun (p : State × Bool) x =>
        match resolve (s.store.chainOf r.gen) x.1.addr with
        | none => p
        | some (g, y) => let z := unsealGran g y (p.1.storageKey g.keyId)
          (restoreGran z.1 z.2 x.2 p.1, p.2 || !z.2.isEmpty)) (s, r.lost)
      let r' := { r with
        todo := r.todo.drop n, written := r.written + Nat.min n r.todo.length * granBytes, lost := p.2 }
      let u := setProgress r'.mbx r'.written (setStore (fun x => { x with restore := some r' }) p.1)
      (r.todo.length ≤ n → exec (.restoreDone n) s =
        .next (settle (restoreEnd (if p.2 = true then St.ckptDataLost else 0) u))) ∧
      (n < r.todo.length → exec (.restoreDone n) s = .next (settle u))) ∧
    (∀ bs, mbxTakes 0x0803 anyArgs m s = true → bs = s.store.gens.flatMap Generation.record →
      bufCheck (s.arg m 0) (s.arg m 1) 1 s = none → bs.length ≤ s.arg m 1 →
      exec (.listCheckpoints m) s = .next (settle (mbxComplete m St.ok [bs.length] (devPut (s.arg m 0) bs s)))) ∧
    (∀ g, s.store.mounting = false → mbxTakes 0x0804 anyArgs m s = true → s.store.failed = false →
      s.store.gens.find? (fun g => g.id == s.arg m 0) = some g →
      (s.store.gens.any (fun x => x.parent == g.id) = true →
        exec (.deleteCheckpoint m) s = .next (settle (mbxComplete m St.ckptHasChildren [] s))) ∧
      (s.store.gens.any (fun x => x.parent == g.id) = false → g.keyId = 0xFFFFFFFF ∨ s.inTenant = false ∨
          (s.storageKey g.keyId).isSome = true →
        exec (.deleteCheckpoint m) s = .next (settle (mbxComplete m St.ok [] (setStore (fun x => { x with
          gens := x.gens.filter fun y => y.id != g.id, base := if x.base = g.id then 0 else x.base }) s))))) ∧
    (mbxTakes 0x0805 anyArgs m s = true → bufCheck (s.arg m 0) (s.arg m 1) 1 s = none →
      s.storeHealth.length ≤ s.arg m 1 → exec (.readStoreHealth m) s =
        .next (settle (mbxComplete m St.ok [s.storeHealth.length] (devPut (s.arg m 0) s.storeHealth s))))

/-- BEGIN opens the incoming foreign generation, or answers ABORT with the first cause of R440, or heads a buddy restore
whose regions match. A granule goes into the incoming generation, or is restored. COMMIT keeps the generation and
answers DONE, or ends the restore. ABORT marks the generation being mirrored failed; DONE marks it mirrored. A
restore request of a known generation of its own module is answered with the generation's records. Space taken from
the ring returns in 64 KiB units. RESTORE_CHECKPOINT from a reachable buddy sends the request and waits. -/
def Obligations.MirrorRecords : Prop :=
  ∀ (s : State),
    (∀ w pb u, ringTake 1 s = some (w, pb, u) → let g := beginGen w pb
      (u.restoreOf g.id = none →
        let known := fun i => u.store.gens.any fun x => x.id == i
        let bytes := (bytesWords (pb.take 64)).getD 7 0
        let ans := fun c => mirrorPost { typ := 4, gen := g.id, parent := g.parent, arg := c, dst := mrModule w } u
        (u.fab.buddy ≠ some (mrModule w) → exec .mirrorBeginReceived s = .next (settle (ans 3))) ∧
        (u.fab.buddy = some (mrModule w) → known g.id = true → exec .mirrorBeginReceived s = .next (settle (ans 4))) ∧
        (u.fab.buddy = some (mrModule w) → known g.id = false → g.parent ≠ 0 → known g.parent = false →
          exec .mirrorBeginReceived s = .next (settle (ans 5))) ∧
        (u.fab.buddy = some (mrModule w) → known g.id = false → g.parent = 0 ∨ known g.parent = true →
          (u.store.failed = true ∨ u.store.free < bytes → exec .mirrorBeginReceived s = .next (settle (ans 6))) ∧
          (u.store.failed = false → bytes ≤ u.store.free → exec .mirrorBeginReceived s =
            .next (settle (setStore (fun x => { x with incoming := some g }) u))))) ∧
      (∀ r, u.restoreOf g.id = some r → r.head = none →
        (u.mayRead g = false → exec .mirrorBeginReceived s = .next (settle (restoreEnd St.ckptKeyMismatch u))) ∧
        (u.mayRead g = true → g.regions.map Prod.snd = r.regions.map Prod.snd → exec .mirrorBeginReceived s =
          .next (settle (setStore (fun x => { x with restore := some { r with head := some g } }) u))))) ∧
    (∀ w pb u, ringTake 2 s = some (w, pb, u) →
      let cells := ((List.range granBytes).zip pb).filter fun c => c.2 != 0
      let x : StoredGran := if mrSealed w = true then { addr := mrArg w, cells := [], sealed := pb }
        else { addr := mrArg w, cells := cells }
      (∀ g, u.store.incoming = some g → g.id = mrGen w → exec .mirrorGranuleReceived s =
        .next (settle (programmed granBytes [] (setStore (fun st => { st with
          incoming := some { g with grans := g.grans ++ [x] } }) u)))) ∧
      (∀ r h dst, u.restoreGranOf (mrGen w) = some r → r.head = some h → r.dest h x.addr = some dst →
        let q := unsealGran { h with id := mrGen w, sealed := mrSealed w } x (u.storageKey h.keyId)
        let r' := { r with written := r.written + granBytes, lost := r.lost || !q.2.isEmpty }
        exec .mirrorGranuleReceived s = .next (settle (setProgress r'.mbx r'.written
          (setStore (fun x => { x with restore := some r' }) (restoreGran q.1 q.2 dst u)))))) ∧
    (∀ w pb u, ringTake 3 s = some (w, pb, u) →
      (∀ g, u.restoreOf (mrGen w) = none → u.store.incoming = some g → g.id = mrGen w → let g := { g with tCommit := u.now }
        exec .mirrorCommitReceived s = .next (settle (mirrorPost { typ := 5, gen := g.id, parent := g.parent, dst := mrModule w }
          (post Ev.mirrorReceived [g.id, mrModule w]
            (setStore (fun x => { x with gens := x.gens ++ [g], incoming := none }) u))))) ∧
      (∀ r, u.restoreOf (mrGen w) = some r → r.head.isSome = true → exec .mirrorCommitReceived s =
        .next (settle (restoreEnd (if r.lost = true then St.ckptDataLost else 0) u)))) ∧
    (∀ w pb u, ringTake 4 s = some (w, pb, u) →
      (u.restoreOf (mrGen w) = none → u.store.mirroring = some (mrGen w) → exec .mirrorAbortReceived s =
        .next (settle (mirrorPump (post Ev.mirrorFailed [mrGen w, mrArg w] (setStore (fun x => { x with
          mirroring := none, outQ := x.outQ.filter fun r => r.typ != 2 && r.typ != 3 }) (setMirror (mrGen w) 3 u)))))) ∧
      (∀ r, u.restoreOf (mrGen w) = some r →
        exec .mirrorAbortReceived s = .next (settle (restoreEnd (abortStatus (mrArg w)) u)))) ∧
    (∀ w pb u, ringTake 5 s = some (w, pb, u) → u.store.mirroring = some (mrGen w) → exec .mirrorDoneReceived s =
      .next (settle (mirrorPump (post Ev.mirrorDone [mrGen w, u.fab.buddy.getD 0]
        (setStore (fun x => { x with mirroring := none }) (setMirror (mrGen w) 2 u)))))) ∧
    (∀ w pb u g, ringTake 6 s = some (w, pb, u) → u.store.gens.find? (fun g => g.id == mrGen w) = some g →
      (u.fab.buddy ≠ some (mrModule w) ∨ g.source ≠ mrModule w → exec .restoreReqReceived s = .next (settle
        (mirrorPost { typ := 4, gen := g.id, parent := g.parent, arg := 3, dst := mrModule w } u))) ∧
      (u.fab.buddy = some (mrModule w) → g.source = mrModule w → let d := draw u
        exec .restoreReqReceived s = .next (settle (mirrorPump (setStore (fun st => { st with
          outQ := st.outQ ++ genRecords g ((regionGrans g.regions).filterMap (resolve (d.2.store.chainOf g.id)))
            (mrModule w) d.1 }) d.2))))) ∧
    (∀ b, s.fab.buddy = some b → let n := s.store.freed / 65536
      n ≠ 0 → exec .mirrorRingDrained s = .next (settle (sendPkts [mgmtPkt b [4 * 2 ^ 56 + n, 0, 0] s]
        (setStore (fun x => { x with freed := x.freed - n * 65536 }) s)))) ∧
    (∀ (m : Fin 16) w rs v b, mbxTakes 0x0802 (fun a => bit (a.n 0) 0) m s = true →
      (∀ k, readManifest (s.arg m 1) false s k = k w rs v) → v.store.failed = false →
      (v.fab.buddy = none → exec (.restoreCheckpointBuddy m) s = .next (settle (mbxComplete m St.ckptNoBuddy [] v))) ∧
      (v.fab.buddy = some b → v.mirrorDown = true →
        exec (.restoreCheckpointBuddy m) s = .next (settle (mbxComplete m St.ckptBuddyLost [] v))) ∧
      (v.fab.buddy = some b → v.mirrorDown = false → exec (.restoreCheckpointBuddy m) s =
        .next (settle (setMbx m (fun x => { x with started := true }) (mirrorPost { typ := 6, gen := s.arg m 2, dst := b }
          (setStore (fun x => { x with restore := some {
            mbx := m.val, gen := s.arg m 2, regions := rs, buddy := true } }) v))))))

/-- SET_MEMORY_INTERLEAVE refuses values that Table 7-4 does not allow, completes at once where nothing changes, and
otherwise fills the changed tiers; a fill's end opens the tier and, as the last, completes the command.
SNAPSHOT_DIRTY swaps now, at the boundary, or releases the frozen map. A channel grants the oldest read of the best
class, with the guards of R163, and reads it; it writes within a page, drains its queue and lets metadata go after 1
ms. A frame read counts, and marks its block due for refresh, as R444 and R445 say; a due, old or little worn block
is refreshed; a failed one retires; a day passes; reclaim ends mounting. -/
def Obligations.TiersAndMedia : Prop :=
  ∀ (s : State),
    (∀ m : Fin 16, mbxTakes 0x0201 anyArgs m s = true →
      let bg := bits (s.arg m 0) 15 0
      let bl := bits (s.arg m 0) 31 16
      (bg % 8 ≠ 0 ∨ 232 < bg ∨ bl % 16 ≠ 0 ∨ 464 < bl →
        exec (.setMemoryInterleave m) s = .next (settle (mbxComplete m St.memArgInvalid [] s))) ∧
      (bg % 8 = 0 → bg ≤ 232 → bl % 16 = 0 → bl ≤ 464 →
        (bg = s.tiers.bg → bl = s.tiers.bl →
          exec (.setMemoryInterleave m) s = .next (settle (mbxComplete m St.ok [] s))) ∧
        (bg ≠ s.tiers.bg ∨ bl ≠ s.tiers.bl →
          let u := { s with tiers := { s.tiers with bg := bg, bl := bl } }
          let v := if bg ≠ s.tiers.bg then startFill 0 (.interleave m.val) u else u
          exec (.setMemoryInterleave m) s = .next (settle (setMbx m (fun x => { x with started := true })
            (if bl ≠ s.tiers.bl then startFill 1 (.interleave m.val) v else v)))))) ∧
    (∀ (t : Fin 2) why, kvFind t.val s.tiers.fills = some why →
      let u := fillTier t.val s
      let v := { u with tiers := { u.tiers with fills := kvDel t.val u.tiers.fills } }
      (why = .compute ∨ why = .tenant → exec (.tierFillDone t) s = .next (settle v)) ∧
      (∀ m : Fin 16, why = .interleave m.val → v.tiers.fills.all (fun p => decide (2 ≤ p.1)) = true → mbxRuns 0x0201 m v = true →
        exec (.tierFillDone t) s = .next (settle (mbxComplete m St.ok [] v)))) ∧
    (∀ m : Fin 16,
      (mbxTakes 0x0202 (fun a => a.n 0 % 4 == 0 || a.n 0 % 4 == 3) m s = true →
        (s.arg m 0 % 4 = 3 → exec (.snapshotDirtyAtBoundary m) s = .next (settle (mbxComplete m St.argInvalid [] s))) ∧
        (s.arg m 0 % 4 = 0 → exec (.snapshotDirtyAtBoundary m) s = .next (settle (mbxComplete m St.ok []
          { s with tiers := { s.tiers with swapReq := s.tiers.swapReq ||| bits (s.arg m 0) 9 8 } })))) ∧
      (mbxTakes 0x0202 (fun a => a.n 0 % 4 == 1) m s = true → exec (.snapshotDirtyNow m) s =
        .next (settle (mbxComplete m St.ok [] (swapDirty (bits (s.arg m 0) 9 8) 1 s)))) ∧
      (mbxTakes 0x0202 (fun a => a.n 0 % 4 == 2) m s = true → exec (.snapshotDirtyRelease m) s =
        .next (settle (mbxComplete m St.ok [] { s with tiers := { s.tiers with
          frozen := s.tiers.frozen.filter fun g => !inMask (bits (s.arg m 0) 9 8) g } }))) ∧
      (mbxTakes 0x0203 anyArgs m s = true →
        let n := if s.arg m 0 = 0 then 3801088 else 7602176
        let base := if s.arg m 0 = 0 then 0 else 0x1000000
        let bs := (List.range (n / 8)).map fun i => BitVec.ofNat 8
          ((List.range 8).foldl (fun x j => x + b2n (s.tiers.frozen.contains (base + 8 * i + j)) * 2 ^ j) 0)
        bufCheck (s.arg m 1) (s.arg m 2) 1 s = none → bs.length ≤ s.arg m 2 → exec (.readDirtyMap m) s =
          .next (settle (mbxComplete m St.ok [bs.length] (devPut (s.arg m 1) bs s))))) ∧
    (∀ chan rs r, let fit := rs.filter fun r => readFits r chan s
      let first := fun (c : ReadCls) => fit.find? fun r => readServed r == c
      let run := kvGet 0 chan s.tiers.lcRun
      let die := (s.loc r.a).die
      let grant := fun (n : Nat) (u : State) => (devRead r.a r.n { u with tiers := { u.tiers with
        lcRun := kvPut 0 chan n u.tiers.lcRun } }).2.2
      let agedRead := fun (n : Nat) (u : State) => (devRead r.a r.n (count .aged die 1 { u with tiers := { u.tiers with
        lcRun := kvPut 0 chan n u.tiers.lcRun } })).2.2
      (first .lc = some r → first .bulk = none →
        exec (.channelRead chan rs) s = .next (settle (if r.cls = .lc then grant 0 s else agedRead 0 s))) ∧
      (first .lc = some r → (first .bulk).isSome = true → run < 16 →
        exec (.channelRead chan rs) s = .next (settle (if r.cls = .lc then grant (run + 1) s else agedRead (run + 1) s))) ∧
      ((first .lc).isSome = true → first .bulk = some r → 16 ≤ run → exec (.channelRead chan rs) s = .next (settle
        (devRead r.a r.n (count .lcGuard die 1 { s with tiers := { s.tiers with
          lcRun := kvPut 0 chan 0 s.tiers.lcRun } })).2.2)) ∧
      (first .lc = none → first .bulk = some r → exec (.channelRead chan rs) s = .next (settle (grant 0 s))) ∧
      (first .lc = none → first .bulk = none → first .bg = some r →
        exec (.channelRead chan rs) s = .next (settle (grant 0 s)))) ∧
    (∀ a bs, inDram a = true → bs ≠ [] → a % 2048 + bs.length ≤ 2048 →
      exec (.channelWrite a bs) s = .next (settle (devPut a bs s))) ∧
    (∀ chan x t, kvGet [] chan s.tiers.wq = x :: t → let i := (s.loc (64 * x.1)).cidx
      exec (.channelWriteDrain chan) s = .next (settle (drainQueue 64 chan i 0 (count .turnarounds i 1 s)))) ∧
    (∀ chan, exec (.metadataWriteback chan) s = .next (settle { s with tiers := { s.tiers with
      heldMeta := kvMod [] chan (fun h => h.filter fun p => decide (s.cyc < p.2 + 1000000)) s.tiers.heldMeta } })) ∧
    (s.powered = true →
      (∀ gen block frame, s.store.gens.any (fun g => g.id == gen) = true → frame ≠ [] →
        frame.all (fun p => !p.levels.isEmpty) = true →
        let r := frame.foldl (fun (r : State × Nat × Bool × Bool) p => let q := readNandPage gen p r.1
          (q.1, r.2.1 + q.2.1, r.2.2.1 || q.2.2.1, r.2.2.2 || q.2.2.2)) (s, 0, false, false)
        exec (.nandFrameRead gen block frame) s = .next (settle (setStore (fun x => { x with
          strongReads := x.strongReads + b2n r.2.2.1, retries := x.retries + b2n r.2.2.2
          due := if r.2.2.1 = true ∨ r.2.2.2 = true ∨ 24 ≤ r.2.1 then setIns block x.due else x.due }) r.1))) ∧
      (∀ block into live, s.store.failed = false → block ∈ s.store.due → exec (.storeBlockRefresh block into live) s =
        .next (settle (setStore (fun x => { x with refreshed := x.refreshed + 1 })
          (erased [block] (programmed live [into] s))))) ∧
      (∀ block (cause : Fin 3), block ∉ s.store.bad → block < 262144 → let d := block / 2048
        let u := post Ev.storeBlockRetired [d / 16, d % 16, block % 2048, cause.val] (setStore (fun x => { x with
          bad := setIns block x.bad, stamps := kvDel block x.stamps, due := setDel block x.due }) s)
        exec (.nandProgramFail block cause) s = .next (settle (
          if u.store.reserve d = 8 ∧ u.store.badOf d ≤ reserveOf d then
            post Ev.storeReserveLow [d / 16, d % 16, u.store.reserve d] u else u))) ∧
      exec .storeDayTick s = .next (settle (setStore (fun x => { x with
        day := x.day + 1, writtenDay := 0, overBudget := false }) s)) ∧
      (∀ bl, s.store.failed = false → exec (.storeReclaimDone bl) s =
        .next (settle (erased bl (setStore (fun x => { x with mounting := false }) s)))))

/-- A read that meets a word of core or cluster SRAM in error corrects it and counts sram_ce, where one bit is wrong;
otherwise it poisons the word's line, counts sram_ue and posts SRAM_UNCORRECTABLE, so that the reader meets poison
(R414). A word written whole is good again, as is the SRAM of a cluster that is zeroed. An error in another SRAM is
met on an empty queue of a powered module, in the order in which they stand (the model's choice, log entry 126): one
bit has no effect; two poison the Ephemeris task they serve, keep a slot's or table's current generation and abandon
its fold or rebuild with a fatal SRAM_UNCORRECTABLE, discard the task or the packet, run the tenant scrub or in OPEN
draw new DRAM keys and fill both tiers, or stop Almanac. -/
def Obligations.SramErrors : Prop :=
  (∀ (w : Nat) (s : State), let a := 8 * w
    let core := regionOf a = some .coreSram
    let c := if core then coreOf a / 16 else clusterOf a
    let u := { s with rel := { s.rel with sramErrs := kvDel w s.rel.sramErrs } }
    sramMeet w false s = count .sramCe c 1 u ∧
    (a / 64 ∈ s.rel.sramPoison → sramMeet w true s = u) ∧
    (a / 64 ∉ s.rel.sramPoison → sramMeet w true s =
      sramLost (if core then 2 else 3) (if core then coreOf a else clusterOf a) c a false
        (count .sramUe c 1 { u with rel := { u.rel with sramPoison := setIns (a / 64) u.rel.sramPoison } }))) ∧
  (∀ (w a n x : Nat) (twice : Bool) (s : State), s.rel.sramErrs = [(w, twice)] → 0 < n → a ≤ 8 * w → 8 * w + 8 ≤ a + n →
    (regionOf a = some .coreSram ∨ regionOf a = some .clusterSram) →
    (s.rel.sramPoison = [] → (devRead a n s).1 = (if twice = true then some (max a (8 * w / 64 * 64)) else none) ∧
      (devRead a n s).2.2 = sramMeet w twice s) ∧
    (∀ bs : List Byte, bs.length = n → (sramWrite a bs s).2.rel.sramErrs = []) ∧
    (x < 32 → (8 * w < 0x20000000000 + 0x1000000 * (x + 1) ∧ 0x20000000000 + 0x1000000 * x ≤ 8 * w / 64 * 64) →
      (zeroCluster x s).rel.sramErrs = [])) ∧
  (∀ (e : UnitErr) (rest : List UnitErr) (s : State), s.pending = [] → s.powered = true → s.boot.phase ≠ 0 →
    s.rel.unitErrs = e :: rest →
    let u := { tclkCycle s with rel := { s.rel with unitErrs := rest } }
    (e.twice = false → step s = .next u) ∧
    (e.twice = true → e.unit = .ephem → step s = .next (sramLost 4 e.idx 0 0 false (taskPoison e.idx 0 u))) ∧
    (e.twice = true → e.unit = .slots → step s = .next (sramLost 4 e.idx 0 0 true (abandonFold e.idx u))) ∧
    (e.twice = true → e.unit = .tables → step s = .next (sramLost 4 e.idx 0 0 true { u with spec := { u.spec with
      tables := kvUpd e.idx (fun t => { t with done := [], opened := false }) u.spec.tables } })) ∧
    (e.twice = true → e.unit = .meridian → step s = .next (sramLost 4 e.idx 0 0 false (discardTask e.idx u))) ∧
    (∀ p rx, e.twice = true → e.unit = .orrery → (s.port e.idx).rx = p :: rx →
      step s = .next (sramLost 4 e.idx 0 0 false (malformed e.idx true (freeRx e.idx p u)))) ∧
    (e.twice = true → e.unit = .shutter → s.inTenant = true →
      step s = .next (sramLost 4 e.idx 0 0 false (scrubStart .error .openMode .configUnlocked none u))) ∧
    (e.twice = true → e.unit = .shutter → s.inTenant = false → s.sec.scrub = none →
      step s = .next (sramLost 4 e.idx 0 0 false
        (startFill 1 .tenant (startFill 0 .tenant { u with sec := { u.sec with dramKeys := u.sec.dramKeys + 1 } })))) ∧
    (e.twice = true → e.unit = .almanac → step s = .next { u with alm := { u.alm with stopped := true } }) ∧
    (∀ i x k, kvFind i u.phot.slots = some x → i ∈ u.phot.todo → kvFind i (abandonFold i u).phot.slots = some k →
      k.gen = x.gen ∧ k.cur = x.cur ∧ i ∉ (abandonFold i u).phot.todo) ∧
    (∀ t, (u.mer.tasks.map Prod.fst).count t = 1 → (discardTask t u).task t = none ∧ (discardTask t u).mem = u.mem))

/-- SET_SCRUB_RATE, SET_FLIP_MASK and SET_REPAIR_MAP store what R409, R422 and R416 admit and refuse the rest;
READ_ERROR_LOG returns the log. A sector that the light code does not serve goes to the strong code; a channel that
loses training fails; a bridge lane is spared once per group, the loss of a second lane or of the spare's place
fails the bridge and halts all streams. Survey visits the pages of a live channel in order. The oldest waiting
repair starts unless 16 run, asks its peer again after 100 µs, and ends with the page written from peer or store, or
as failed, which aborts the step where its entry says so. -/
def Obligations.ErrorsAndRepairs : Prop :=
  ∀ (s : State),
    (∀ m : Fin 16,
      (mbxTakes 0x0701 anyArgs m s = true → let n := bits (s.arg m 0) 31 0
        (n ≠ 0 → n < 3600 ∨ 2592000 < n → exec (.setScrubRate m) s = .next (settle (mbxComplete m St.argInvalid [] s))) ∧
        (n = 0 ∨ 3600 ≤ n ∧ n ≤ 2592000 → exec (.setScrubRate m) s = .next (settle (mbxComplete m St.ok []
          { s with rel := { s.rel with
            scrubG := if bit (s.arg m 0) 32 = true then n else s.rel.scrubG
            scrubL := if bit (s.arg m 0) 33 = true then n else s.rel.scrubL } })))) ∧
      (mbxTakes 0x0702 anyArgs m s = true →
        let target := bits (s.arg m 0) 11 9
        let tier := bits (s.arg m 0) 8 8
        let ch := bits (s.arg m 0) 7 0
        (4 ≤ target ∨ tier = 1 ∧ 64 ≤ ch → exec (.setFlipMask m) s = .next (settle (mbxComplete m St.argInvalid [] s))) ∧
        (target < 4 → tier ≠ 1 ∨ ch < 64 → exec (.setFlipMask m) s = .next (settle (mbxComplete m St.ok []
          { s with rel := { s.rel with
            flips := if s.arg m 1 = 0 then kvDel (256 * tier + ch) s.rel.flips
              else kvSet (256 * tier + ch) (target, s.arg m 1) s.rel.flips } })))) ∧
      (mbxTakes 0x0703 anyArgs m s = true →
        let oldest := s.rel.logNext - s.rel.log.length
        let bs := (s.rel.log.drop (s.arg m 0 - oldest)).flatMap ErrRec.bytes
        bufCheck (s.arg m 1) (s.arg m 2) 1 s = none → bs.length ≤ s.arg m 2 → exec (.readErrorLog m) s =
          .next (settle (mbxComplete m St.ok [bs.length, oldest] (devPut (s.arg m 1) bs s)))) ∧
      (mbxTakes 0x0704 anyArgs m s = true →
        let a := s.arg m 0
        let n := s.arg m 1
        (4096 < n ∨ a % 64 ≠ 0 → exec (.setRepairMap m) s = .next (settle (mbxComplete m St.argInvalid [] s))) ∧
        (n ≤ 4096 → a % 64 = 0 → bufCheck a (64 * n) 1 s = none → regionOf a = some .gddr7 →
          let r := devRead a (64 * n) s
          let ok := ((List.range n).map fun i => repairEntry (((bytesWords r.2.1).drop (8 * i)).take 8)).filterMap id
          (r.1.isSome = true → exec (.setRepairMap m) s = .next (settle (mbxComplete m St.poisoned [] r.2.2))) ∧
          (r.1 = none → ok.length < n ∨ repairOrdered ok = false →
            exec (.setRepairMap m) s = .next (settle (mbxComplete m St.argInvalid [] r.2.2))) ∧
          (r.1 = none → n ≤ ok.length → repairOrdered ok = true → exec (.setRepairMap m) s = .next (settle
            (mbxComplete m St.ok [] { r.2.2 with rel := { r.2.2.rel with repairMap := ok } })))))) ∧
    (∀ a, inDram a = true → let l := s.loc (a / 2048 * 2048)
      s.rel.failed.contains l.chan = false →
      (!s.lostTags l == [] || (List.range 8).any fun i => !bit (s.frame l.frameKey).poison (8 * l.page + i) &&
        !lightServes (kvGet [] (l.sectorKey + i) s.rel.errs)) = true →
      exec (.strongCodeDecision a) s = .next (settle (strongDecision a s))) ∧
    (∀ chan, chan < 320 → exec (.channelTrainingLost chan) s = .next (settle (failChannel chan 1 s))) ∧
    (∀ (die : Fin 2) (g : Fin 150) (lane : Fin 21), let k := 256 * die.val + g.val
      (kvFind k s.rel.spared = none → lane.val = 20 → exec (.bridgeLaneError die g lane) s =
        .next (settle { s with rel := { s.rel with spared := kvSet k 20 s.rel.spared } })) ∧
      (kvFind k s.rel.spared = none → lane.val ≠ 20 → exec (.bridgeLaneError die g lane) s =
        .next (settle (post Ev.bridgeLaneSpared [die.val, g.val, lane.val] (count .lanesSpared die.val 1
          (logErr ⟨s.now, 0, Ev.bridgeLaneSpared, die.val, 5, 6, 0, g.val⟩
            { s with rel := { s.rel with spared := kvSet k lane.val s.rel.spared } }))))) ∧
      (∀ l, kvFind k s.rel.spared = some l → l ≠ lane.val → s.rel.bridgeFailed = false →
        exec (.bridgeLaneError die g lane) s = .next (settle (haltAll (postFatal Ev.bridgeFailed [die.val, g.val]
          (logErr ⟨s.now, 0, Ev.bridgeFailed, die.val, 5, 7, 0, g.val⟩
            { s with rel := { s.rel with bridgeFailed := true } })))))) ∧
    (∀ chan, let tier := chan / 256
      let p := kvGet ({} : SurveyPos) chan s.rel.survey
      let a := dramEncode s.tiers.bg s.tiers.bl ⟨tier, chan % 256, p.frame * 59392 + p.page * 2048⟩
      chan < 320 → (if tier = 0 then s.rel.scrubG else s.rel.scrubL) ≠ 0 → chan ∉ s.rel.failed → s.boot.ready = true →
      kvHas tier s.tiers.fills = false → p.page < 28 →
      let u := surveyPage a s
      exec (.surveyPageVisit chan) s = .next (settle { u with rel := { u.rel with
        survey := kvSet chan { p with page := p.page + 1 } u.rel.survey } })) ∧
    (∀ r, s.rel.repairs.find? (fun r => !r.running) = some r → s.rel.repairs.countP (fun r => r.running) < 16 →
      s.inCompute = false → let v := (s.sem r.ent.vsem).count.toNat
      let u := setRepair r.page (fun r => { r with running := true, ver := v, since := s.cyc }) s
      u.rel.failed.contains (u.loc r.page).chan = false → (u.fab.fenced.isSome && u.otherSite (gaModule r.ent.peer)) = false →
      (r.ent.kind = 1 → exec .repairStart s = .next (settle (repairNext r 0 u))) ∧
      (r.ent.kind ≠ 1 → exec .repairStart s = .next (settle (repairAsk r r.semGa 8 u)))) ∧
    (∀ page r, s.rel.repairs.find? (fun r => r.page == page) = some r →
      (r.stage = 3 → r.sentAt + 100000 ≤ s.cyc → exec (.repairPeerRetry page) s = .next (settle
        (repairAsk r r.semGa 8 (setRepair page (fun r => { r with stage := 0, tries := r.tries + 1 }) s)))) ∧
      (r.running = true → r.stage = 5 →
        (∀ bs, s.storePage r.ent.gen page = some bs → exec (.storeRepairRead page) s =
          .next (settle (setRepair page (fun r => { r with stage := 7, copy := bs }) s))) ∧
        (s.storePage r.ent.gen page = none → exec (.storeRepairRead page) s =
          .next (settle (setRepair page (fun r => { r with stage := 6, cause := 2 }) s)))) ∧
      (∀ src, r.running = true → r.superseded = true ∧ src = 2 ∨
          r.superseded = false ∧ (r.stage = 4 ∧ src = 0 ∨ r.stage = 7 ∧ src = 1) →
        let u := if r.superseded = true then s else devPut page r.copy s
        let v := repairEnd r (count .repairs 0 1 u)
        exec (.repairDone page) s = .next (settle (
          let w := logErr ⟨v.now, page, Ev.repairDone, r.entry, tierOf page, 3, (v.loc page).frame, (v.loc page).ch⟩ v
          post Ev.repairDone [r.entry, page, src, w.cyc - r.since] w))) ∧
      (r.running = true → r.superseded = false → r.stage = 6 →
        let v := repairEnd r (count .repairFailed 0 1 s)
        let w := post Ev.repairFailed [r.entry, page, r.cause]
          (logErr ⟨v.now, page, Ev.repairFailed, r.entry, tierOf page, 4, (v.loc page).frame, (v.loc page).ch⟩ v)
        exec (.repairFailed page) s = .next (settle (if r.ent.abort = true then stepAbort r.entry page w else w))))

/-- CONFIGURE_STASH of values that Table 8-1 admits installs the context with empty pools and no entry; others are
refused. A trigger that is observed acts after those of the kinds before it (s_free, s_bwd_need, s_fwd_done, s_bind)
and of lower slots. A triggered s_bind binds an entry as RECOMPUTE where its policy or its instance's flag says so,
and enters the loop of R195 otherwise. s_fwd_done notes the span and starts an eager off-load unless s_bwd_need has
triggered. s_bwd_need releases the backward range, starts a reload or a recomputation, or cancels an off-load in
progress, of which each part has moved some 64 KiB units. s_rc_done releases the backward range at the recompute
area; s_free frees the entry's runs and discards its ranges. A running copy whose pages are not held moves its four
parts, frees its source, and what waited for it tries again. -/
def Obligations.StashManager : Prop :=
  ∀ (s : State),
    (∀ m : Fin 16, mbxTakes 0x0204 anyArgs m s = true →
      let w := s.arg m 1
      let log := bits w 3 0
      let imb := bits w 31 24
      let ring := s.arg m 0
      let pool := fun (r : Region) (x n : Nat) => x % 65536 = 0 ∧ n % 65536 = 0 ∧ r.lo ≤ x ∧ x + n ≤ r.hi
      let ok := 4 ≤ log ∧ log ≤ 14 ∧ ring % 4096 = 0 ∧ Region.gddr7.lo ≤ ring ∧ ring + 64 * 2 ^ log ≤ Region.gddr7.hi ∧
        pool .gddr7 (s.arg m 2) (s.arg m 3) ∧ pool .lpddr (s.arg m 4) (s.arg m 5) ∧ (imb = 0 ∨ 17 ≤ imb)
      (¬ ok → exec (.configureStash m) s = .next (settle (mbxComplete m St.argInvalid [] s))) ∧
      (ok → exec (.configureStash m) s = .next (settle (mbxComplete m St.ok [] { s with stash :=
        { ctx := some ⟨ring, log, s.arg m 2, s.arg m 3, s.arg m 4, s.arg m 5, bits w 15 8, bits w 20 16, imb⟩
          ranges := s.stash.ranges.filter fun r => decide (3 ≤ r.kind) } })))) ∧
    (∀ slot c e0, s.stashAt slot = some (c, e0) →
      let all := s.stash.entries.map Prod.fst
      let low := all.filter fun j => decide (j < slot)
      let atBind := actTrigs c [.bind] low (actTrigs c [.free, .need, .fwdDone] all s)
      let atDone := actTrigs c [.fwdDone] low (actTrigs c [.free, .need] all s)
      let atNeed := actTrigs c [.need] low (actTrigs c [.free] all s)
      let atFree := actTrigs c [.free] low s
      (∀ e, kvFind slot atBind.stash.entries = some e → e.bindTrig = false → atBind.triggered e.sBind = true →
        let u := setEntry slot (fun e => { e with bindTrig := true }) atBind
        (e.policy = 2 ∨ u.stash.rcFlags.contains e.inst = true ∧ e.rcOk = true →
          exec (.stashSBind slot) s = .next (settle (bindRc slot e u))) ∧
        (e.policy ≠ 2 → u.stash.rcFlags.contains e.inst = false ∨ e.rcOk = false →
          exec (.stashSBind slot) s = .next (settle (bindLoop c slot u)))) ∧
      (∀ e t, kvFind slot atDone.stash.entries = some e → e.fwdRel = some t → e.fwdDone = false →
        atDone.triggered e.sFwdDone = true →
        let u := setEntry slot (fun e => { e with fwdDone := true }) atDone
        let v := noteSpan c e (atDone.cyc - t) u
        (e.policy = 1 → e.bwdTrig = false → v.triggered e.sBwdNeed = false →
          exec (.stashSFwdDone slot) s = .next (settle ((startOff c slot v).getD v))) ∧
        (e.policy ≠ 1 ∨ e.bwdTrig = true ∨ v.triggered e.sBwdNeed = true →
          exec (.stashSFwdDone slot) s = .next (settle v))) ∧
      (∀ e, kvFind slot atNeed.stash.entries = some e → e.bwdTrig = false → e.fwdReq = true →
        atNeed.triggered e.sBwdNeed = true →
        let u := setEntry slot (fun e => { e with bwdTrig := true }) atNeed
        (e.place = .none → exec (.stashSBwdNeed slot) s = .next (settle u)) ∧
        (∀ a, e.place = .rc a → exec (.stashSBwdNeed slot) s = .next (settle (needRc slot e u))) ∧
        (∀ a, e.place = .off a → exec (.stashSBwdNeed slot) s = .next (settle (reload c slot u))) ∧
        (∀ a, e.place = .pool a → e.copy = none → exec (.stashSBwdNeed slot) s = .next (settle (releaseBwd slot a u))) ∧
        (∀ a x, e.place = .pool a → e.copy = some x → exec (.stashSBwdNeed slot) s = .next (settle
          (retryStash c (unwait slot (releaseBwd slot a (count .offloadCancel 0 1 (freeL c x.dst
            (setEntry slot (fun e => { e with copy := none }) (copyPartly 65536 x e.size (chargeAll u))))))))))) ∧
      (e0.recompute = true → e0.rcReq = true → e0.bwdTrig = true → e0.bwdReq = false → s.triggered e0.sRcDone = true →
        exec (.stashSRcDone slot) s = .next (settle (releaseBwd slot e0.rcAddr s))) ∧
      (∀ e, kvFind slot atFree.stash.entries = some e → atFree.triggered e.sFree = true →
        let u := freeRuns c e (match e.copy with
          | some x => copyPartly 65536 x e.size (chargeAll atFree)
          | none => atFree)
        let v := { u with stash := { u.stash with ranges := u.stash.ranges.map fun r =>
          if r.slot = slot ∧ r.kind < 3 then { r with act := .discard } else r } }
        let v := if e.fwdReq = true then v else askRange slot 0 .discard v
        let v := if e.rcReq = true ∨ e.rcN = 0 then v else askRange slot 1 .discard v
        let v := if e.bwdReq = true then v else askRange slot 2 .discard v
        exec (.stashSFree slot) s = .next (settle (retryStash c (unwait slot
          { v with stash := { v.stash with entries := kvDel slot v.stash.entries } })))) ∧
      (∀ x k, e0.copy = some x → x.run = some k → s.heldPage x.src (65536 * e0.size) = none →
        let n := 65536 * e0.size
        let u := count .unitBytes k n ((copyParts e0.size).foldl
          (fun s p => copyBytes (k / 16) x p.1 (65536 * p.2) s) (actTrigs c [.free] low (chargeAll s)))
        (x.out = true → exec (.stashCopyDone slot) s = .next (settle (retryStash c (unwait slot
          (setEntry slot (fun e => { e with place := .off x.dst, copy := none })
            (count .offloadBytes 0 n (count .offloads 0 1 (freeG c x.src u)))))))) ∧
        (x.out = false → exec (.stashCopyDone slot) s = .next (settle (retryStash c (releaseBwd slot x.dst
          (setEntry slot (fun e => { e with place := .pool x.dst, copy := none })
            (count .reloadBytes 0 n (count .reloads 0 1 (freeL c x.src u))))))))))

/-- CONFIGURE_NUMERICS of values that Table 9-2 admits installs the table and an empty guard ring; others are refused.
SET_RNG_SEED stores the seed; READ_WATCH returns the named entries; SET_WATCH writes the masked fields unless a
bound would be bad. A guard whose trigger semaphore has triggered starts. With the range's completions counted, a
probe's amax gives the exponent of variant 1, and a variant is judged under R214; a record that is refused makes the
guard fail. -/
def Obligations.NumericsControl : Prop :=
  ∀ (s : State),
    (∀ m : Fin 16, mbxTakes 0x0301 anyArgs m s = true →
      let n := s.arg m 1
      let log := s.arg m 3
      let ok := 1 ≤ n ∧ n ≤ 65536 ∧ 4 ≤ log ∧ log ≤ 12 ∧ s.arg m 0 % 64 = 0 ∧ s.arg m 2 % 4096 = 0 ∧
        Region.gddr7.lo ≤ s.arg m 0 ∧ s.arg m 0 + 64 * n ≤ Region.gddr7.hi ∧
        Region.gddr7.lo ≤ s.arg m 2 ∧ s.arg m 2 + 64 * 2 ^ log ≤ Region.gddr7.hi
      (¬ ok → exec (.configureNumerics m) s = .next (settle (mbxComplete m St.argInvalid [] s))) ∧
      (ok → exec (.configureNumerics m) s = .next (settle (mbxComplete m St.ok [] { s with
        num := { s.num with ctx := some ⟨s.arg m 0, n, s.arg m 2, log⟩, tail := 0, guards := [] }
        stash := { s.stash with ranges := s.stash.ranges.filter fun r => decide (r.kind < 3) } })))) ∧
    (∀ m : Fin 16, mbxTakes 0x0302 anyArgs m s = true → exec (.setRngSeed m) s = .next (settle (mbxComplete m St.ok []
      { s with num := { s.num with seed := BitVec.ofNat 64 (s.arg m 0) } }))) ∧
    (∀ m : Fin 16, mbxTakes 0x0303 anyArgs m s = true →
      let i := s.arg m 0
      let n := s.arg m 1
      let bs := (List.range n).flatMap fun k => (s.watchEntry (i + k)).bytes
      (n = 0 ∨ 16384 < i + n → exec (.readWatch m) s = .next (settle (mbxComplete m St.argInvalid [] s))) ∧
      (n ≠ 0 → i + n ≤ 16384 → bufCheck (s.arg m 2) (32 * n) 1 s = none → bs.length ≤ 32 * n →
        exec (.readWatch m) s = .next (settle (mbxComplete m St.ok [bs.length] (devPut (s.arg m 2) bs s))))) ∧
    (∀ m : Fin 16, mbxTakes 0x0304 anyArgs m s = true →
      let i := bits (s.arg m 0) 13 0
      let on := fun (b : Nat) => bit (s.arg m 0) (16 + b) = true
      let w := fun (k hi lo : Nat) => BitVec.ofNat 32 (bits (s.arg m k) hi lo)
      let x := s.watchEntry i
      let y := { x with
        lo := if on 0 then w 1 31 0 else x.lo, hi := if on 1 then w 1 63 32 else x.hi
        zeroLimit := if on 2 then w 2 31 0 else x.zeroLimit, zeroRun := if on 3 then w 2 63 32 else x.zeroRun }
      let bad := bandBad y.lo = true ∨ bandBad y.hi = true ∨ fgt y.lo.toNat y.hi.toNat = true
      (bad → exec (.setWatch m) s = .next (settle (mbxComplete m St.watchArgInvalid [] s))) ∧
      (¬ bad → exec (.setWatch m) s = .next (settle (mbxComplete m St.ok [] (setWatchEntry i y s))))) ∧
    (∀ slot c g, s.num.ctx = some c → kvFind slot s.num.guards = some g → s.inCompute = false → s.powered = true →
      (g.cur = none → s.triggered g.sTrig = true → exec (.guardTrigger slot) s = .next (settle (startGuard c slot s))) ∧
      (∀ i, g.cur = some i → g.n i ≤ g.counted →
        let q := readRec c g.recNo s
        (recRefused q.1 = true → exec (.guardRangeComplete slot) s = .next (settle (refuseGuard slot 48 q.2))) ∧
        (∀ r, q.1 = some r → r.malformed = false →
          (i = 0 → fpos g.amax = true → fisInf g.amax = false → exec (.guardRangeComplete slot) s =
            .next (settle (runGuard c slot 1 (kFrom g.amax (fmtMax r.fmt0) r.room) r.fmt0
              (foldAmax c g g.amax false q.2)))) ∧
          (i = 0 → fpos g.amax = false ∨ fisInf g.amax = true → exec (.guardRangeComplete slot) s =
            .next (settle (runGuard c slot 1 r.kInit r.fmt0 q.2))) ∧
          (i ≠ 0 → exec (.guardRangeComplete slot) s = .next (settle (variantDone c slot i g r q.2))))))

/-- CONFIGURE_PHOTOMETER whose slot records read and are valid, with no set, stores them and draws no list; the first
bad record and bit are returned, and bad arguments refused. With no fold left of the closed epoch a swap inverts the
epoch and draws the lists. The fold of a slot whose turn it is, with no STATS task of its epoch left, waits for a
held buffer or starts. A tainted half is skipped; one without tokens is idle; another is folded, its record written
back. A SPECTRO job past its deadline has missed it; another holds the slot's current buffer where the slot has a
result, goes on where its entry does not show that result and carries where it does, and is infeasible where the
slot has none; after its passes the hold is released. -/
def Obligations.Photometer : Prop :=
  ∀ (s : State),
    (∀ m : Fin 16, mbxTakes 0x0401 anyArgs m s = true →
      let n := s.arg m 1
      (n = 0 ∨ 65536 < n ∨ 256 < s.arg m 3 ∨ s.arg m 2 = 0 ∧ s.arg m 3 ≠ 0 ∨ regionOf (s.arg m 0) ≠ some .gddr7 →
        exec (.configurePhotometer m) s = .next (settle (mbxComplete m St.photometerArgInvalid [] s))) ∧
      (n ≠ 0 → n ≤ 65536 → s.arg m 2 = 0 → s.arg m 3 = 0 → regionOf (s.arg m 0) = some .gddr7 →
        bufReadable (s.arg m 0) (64 * n) 64 s = true →
        let u := bufAfter (s.arg m 0) (64 * n) s
        let valid := ((List.range n).zip (records 8 n (bytesWords (bufBytes (s.arg m 0) (64 * n) s)))).filter
          fun r => bit (r.2.getD 0 0) 30
        let all := (valid.flatMap fun r => (slotRegions r.2).map fun g => (r.1, g)) ++ [(n, (s.arg m 0, 64 * n, 0))]
        let bad := valid.findSome? fun r => (slotBad all r.1 r.2).map fun b => (r.1, b)
        (∀ i b, bad = some (i, b) →
          exec (.configurePhotometer m) s = .next (settle (mbxComplete m St.photometerArgInvalid [i, b] u))) ∧
        (bad = none → exec (.configurePhotometer m) s = .next (settle (mbxComplete m St.ok [] { u with phot :=
          { table := some (s.arg m 0, n), sets := [], epoch := u.phot.epoch
            slots := valid.map fun r => (r.1, slotOf r.2 (kvFind r.1 u.phot.slots)) } }))))) ∧
    (∀ w rest, s.phot.swaps = w :: rest → s.inCompute = false → s.phot.todo = [] →
      let u := if w.late = true then post Ev.foldSwapLate [w.step, s.cyc - w.at_] (count .swapLate 0 1 s) else s
      exec .foldSwap s = .next (settle (drawLists w.step { u with phot := { u.phot with
        swaps := rest, epoch := !u.phot.epoch,
        noted := u.phot.noted.filter fun n => n % 2 == b2n u.phot.epoch, todo := u.phot.slots.map Prod.fst, started := [], waits := []
        closedStep := u.phot.openStep, openStep := w.step } }))) ∧
    (∀ i x, kvFind i s.phot.slots = some x → i ∈ s.phot.todo → kvHas i s.phot.started = false → s.inCompute = false →
      s.mer.tasks.any (fun t => t.2.desc.type == 1 && t.2.epoch == !s.phot.epoch && t.2.phase != .head) = false →
      (s.phot.todo.all fun j => decide (i ≤ j) ||
        ((kvFind j s.phot.slots).all fun y => s.foldCore y.fcore != s.foldCore x.fcore)) = true →
      s.phot.started.any (fun q => some q.2 == s.foldCore x.fcore) = false →
      (x.holds (!x.cur) ≠ 0 → exec (.foldStart i) s = .next (settle { s with phot := { s.phot with
        waits := if kvHas i s.phot.waits = true then s.phot.waits else kvSet i s.cyc s.phot.waits } })) ∧
      (∀ c, x.holds (!x.cur) = 0 → s.foldCore x.fcore = some c → kvFind i s.phot.waits = none →
        exec (.foldStart i) s = .next (settle { s with phot := { s.phot with
          started := kvSet i c s.phot.started, waits := kvDel i s.phot.waits } }))) ∧
    (∀ i x core, kvFind i s.phot.slots = some x → kvFind i s.phot.started = some core → s.inCompute = false →
      let h := !s.phot.epoch
      let y := x.half h
      let n := packedCount x.nb
      let cap := fun (n : Nat) => Nat.min (n + 1) 0xFFFFFFFF
      let done := fun (u : State) =>
        let v := { u with phot := { u.phot with
          todo := u.phot.todo.filter (· != i), started := kvDel i u.phot.started } }
        if v.phot.todo.isEmpty = true then (semAdd Config.foldSem.toNat 1 v).2 else v
      (y.tainted = true → let u := setSlot i (fun x => { x.setHalf h {} with skips := cap x.skips }) (clearHalf (core / 256) x h s)
        exec (.foldPublish i) s = .next (settle (done (count .foldBytes core (8192 * n)
          (count .foldsSkipped 0 1 (writeSlot i (post Ev.factorFoldSkipped [i, u.phot.closedStep, y.reason] u))))))) ∧
      (y.tainted = false → y.tokens = 0 → exec (.foldPublish i) s = .next (settle (done (count .foldsIdle 0 1 s)))) ∧
      (y.tainted = false → y.tokens ≠ 0 → exec (.foldPublish i) s = .next (settle (done (count .foldBytes core (24576 * n)
        (count .folds 0 1 (writeSlot i (setSlot i (fun x => { x.setHalf h {} with
          cur := !x.cur, gen := if x.gen = 0xFFFFFFFF then 1 else x.gen + 1, nLast := y.tokens, folds := cap x.folds })
          ((List.range n).foldl (foldBlock (core / 256) i x h (fdiv f1 (ffromInt y.tokens)) (fsub f1 x.beta)) s))))))))) ∧
    (∀ (c : Fin 32) j k, s.jobIn c.val [.hold] = some j → s.task j.task = some k →
      let slot := j.f 0 55 40
      let none_ := infeasible j k.desc 6 (count .holdsRefused 0 1 s)
      let compare := fun (tb : PTable) (j : SpJob) (u : State) => jobRead j [(tb.entry j.entry, 64)] u fun bs u =>
        let w := bytesWords bs
        if 1 ≤ tb.gen ∧ entAge w (tb.gen % 2) ≠ 0xFFFF ∧ entSrc w (tb.gen % 2) = j.src then decideJob j.task 3 0 0 u
        else setJob j.task (fun j => { j with stage := .passes }) u
      (k.desc.sdeadline < s.now → exec (.photometerHold c) s = .next (settle (missed j s))) ∧
      (s.now ≤ k.desc.sdeadline →
        (∀ tb, j.held.isSome = true → kvFind k.desc.stable s.spec.tables = some tb →
          exec (.photometerHold c) s = .next (settle (compare tb j s))) ∧
        (j.held = none → kvFind slot s.phot.slots = none → exec (.photometerHold c) s = .next (settle none_)) ∧
        (∀ x, j.held = none → kvFind slot s.phot.slots = some x →
          (x.gen = 0 → exec (.photometerHold c) s = .next (settle none_)) ∧
          (x.gen ≠ 0 → 65535 ≤ x.holds x.cur → exec (.photometerHold c) s =
            .next (settle (setJob j.task (fun j => { j with waitFrom := some (j.waitFrom.getD s.cyc) }) s))) ∧
          (∀ tb, x.gen ≠ 0 → x.holds x.cur < 65535 → kvFind k.desc.stable s.spec.tables = some tb →
            let j' := { j with held := some (slot, x.cur), src := x.gen, waitFrom := none }
            exec (.photometerHold c) s = .next (settle (compare tb j'
              (setJob j.task (fun _ => j') (setSlot slot (fun x => x.addHold x.cur) (stopWait j.task s))))))))) ∧
    (∀ (c : Fin 32) t j,
      s.spec.jobs.find? (fun p => p.2.cluster == c.val && p.2.held.isSome && p.2.stage != .passes) = some (t, j) →
      exec (.photometerHoldRelease c) s = .next (settle (unhold t s)))

/-- CONFIGURE_SPECTROGRAPH without a directory stores the SG sizes. A free Assembler takes the task that its unit order
names. Its passes end by the source kind: a dense matrix, a block-sparse problem or an operator; past the deadline
the job has missed it. The array takes the assembled job, and comes to its next decision, or, past the deadline, the
job has missed it; every undecided job past its deadline has. An operator's application ends when its semaphore has
reached the count. A decided job with no hold on its build buffer writes its result and entry and ends; with one it
waits. A table hold is taken for the oldest waiting open record, and released in order. -/
def Obligations.Spectrograph : Prop :=
  ∀ (c : Fin 32) (s : State),
    (∀ m : Fin 16, mbxTakes 0x0402 anyArgs m s = true → s.arg m 0 = 0 →
      let x := s.arg m 2
      let kib := bits x 31 16
      let k := bits x 5 0
      let ks := if k = 0x3F then List.range 32 else [k]
      (bit x 6 = false → exec (.configureSpectrograph m) s = .next (settle (mbxComplete m St.ok [] s))) ∧
      (bit x 6 = true →
        let ok := (kib = 1024 ∨ kib = 2048 ∨ kib = 4096) ∧ (k < 32 ∨ k = 0x3F) ∧
          ∀ c ∈ ks, kvGet 2048 c s.strm.mcastKib + kib ≤ 8192
        (¬ ok → exec (.configureSpectrograph m) s = .next (settle (mbxComplete m St.spectroArgInvalid [] s))) ∧
        (ok → exec (.configureSpectrograph m) s = .next (settle (mbxComplete m St.ok [] { s with spec := { s.spec with
          sgKib := ks.foldl (fun t c => kvPut 2048 c kib t) s.spec.sgKib } }))))) ∧
    (∀ t k, let u := chargeAll s
      u.unitPick c.val (32 + c.val) [5] 64 = some (.task t k) → u.clusterUp c.val = true →
      u.jobIn c.val [.hold, .passes, .ready] = none →
      u.mer.tasks.any (fun p => p.2.desc.type == 5 && p.2.loc == c.val && p.2.phase == .running && p.2.heldBy.isSome) = false ∨
        k.phase = .running →
      exec (.spectroTask c) s = .next (settle (takeProblem c.val t k.desc (startUnit t u)))) ∧
    (∀ j k, s.jobIn c.val [.passes] = some j → s.task j.task = some k →
      (k.desc.sdeadline < s.now → exec (.assemblerPassDone c) s = .next (settle (missed j s))) ∧
      (s.now ≤ k.desc.sdeadline → j.kindSrc < 2 → exec (.assemblerPassDone c) s = .next (settle (denseDone j k.desc s))) ∧
      (s.now ≤ k.desc.sdeadline → j.kindSrc = 2 → exec (.assemblerPassDone c) s = .next (settle (bsrDone j k.desc s))) ∧
      (s.now ≤ k.desc.sdeadline → j.kindSrc = 3 → exec (.assemblerPassDone c) s = .next (settle (operDone j k.desc s)))) ∧
    (∀ j k, s.jobIn c.val [.array] = some j ∨ s.jobIn c.val [.array] = none ∧
        s.jobIn c.val [.applying, .draining, .out] = none ∧ s.jobIn c.val [.ready] = some j →
      s.task j.task = some k →
      (k.desc.sdeadline < s.now → exec (.spectroDecision c) s = .next (settle (missed j s))) ∧
      (s.now ≤ k.desc.sdeadline → let d := draw s
        exec (.spectroDecision c) s = .next (settle (arrayTurn { j with stage := .array } k.desc
          (setJob j.task (fun j => { j with stage := .array }) (count .spArrayBusy c.val d.1 d.2)))))) ∧
    exec (.spectroDeadline c) s = .next (settle ((s.spec.jobs.filter fun p => p.2.cluster == c.val &&
      p.2.stage != .draining && p.2.stage != .out &&
      (match s.task p.1 with | some k => decide (k.desc.sdeadline ≤ s.now) | none => false)).foldl
        (fun s p => missed p.2 s) s)) ∧
    (∀ j o cols, s.jobIn c.val [.applying, .draining] = some j → j.work = .oper o cols →
      j.apps ≤ (s.sem (wf o 0 47 34)).count.toNat →
      (j.stage = .draining → exec (.operatorApplyDone c) s = .next (settle (clusterResume c.val
        (setJob j.task (fun j => { j with stage := .out }) (stopWait j.task s))))) ∧
      (j.stage = .applying → exec (.operatorApplyDone c) s = .next (settle (clusterResume c.val
        (jobRead j [(wf o 3 51 0, j.nbr * 8192)] (stopWait j.task s) fun bs u =>
          let xs := patterns 4 (j.dim * 64) bs
          setJob j.task (fun j => { j with
            stage := .array
            q := some ((List.range cols.length).map fun i => blockCol 2 j.dim xs i) }) u))))) ∧
    (∀ j k t, s.jobIn c.val [.out] = some j → s.task j.task = some k → kvFind k.desc.stable s.spec.tables = some t →
      (t.pinned = true → exec (.spectroWriteOut c) s =
        .next (settle (setJob j.task (fun j => { j with waitFrom := some (j.waitFrom.getD s.cyc) }) s))) ∧
      (t.pinned = false → exec (.spectroWriteOut c) s = .next (settle
        (jobRead j [(t.entry j.entry, 64)] (stopWait j.task s) fun bs u =>
          let w := bytesWords bs
          let xs := j.result k.desc
          let bytes := patBytes (if j.bf16 = true then 2 else 4) (xs.map Prod.fst)
          let u := if j.outcome < 2 then
              count .writeBytes j.cluster bytes.length (addMarks j.task (j.resultMarks xs)
                (count .readBytes j.cluster (if j.kindSrc < 2 then qHalf j.dim else 0)
                  (taskWrite j.task (entBuf w (1 - entSel w (t.gen % 2))) bytes u)))
            else u
          let v := setTable k.desc.stable (fun t => { t with done := setIns j.entry t.done })
            (diePut (j.cluster / 16) (t.entry j.entry) (wordBytes (finishEntry w (genSucc t.gen) (t.gen % 2) j)) u)
          closeJob j j.status 0 (specResult j.reason j.outcome j.iters j.rho) (countOutcome c.val j.outcome v))))) ∧
    (∀ (die : Fin 2) e, s.ephem.openRecs.find? (fun e => e.die == die.val && e.hold.isNone) = some e →
      (∀ u, tableHold e.table s = (none, u) → exec (.tableHold die) s = .next (settle u)) ∧
      (∀ g u t k, tableHold e.table s = (some g, u) → let v := setOpen die.val e.record (fun e => { e with hold := some g }) u
        (v.acceptedOn die.val).find? (fun p => p.2.phase == .running && p.2.desc.ostate == e.record) = some (t, k) →
        exec (.tableHold die) s = .next (settle (optGo t die.val (chargeAll v))))) ∧
    (∀ i g rest, s.ephem.releases = (i, g) :: rest → exec .tableHoldRelease s =
      .next (settle (tableDrop i g { s with ephem := { s.ephem with releases := rest } })))

/-- CONFIGURE_EPHEMERIS of records that read and are valid stores them; the first bad record and bit are returned, and a
bad count is refused. Ephemeris of a die fills its accepted queue, goes on with a running task whose held page has
been repaired, or starts its oldest ready task while fewer than eight run. The boundary of a step task comes once
every OPTIM task admitted before it has completed and every record one of them opened is closed: the boundary is
taken at its stream's step, and the task ends. -/
def Obligations.EphemerisAndSteps : Prop :=
  ∀ (s : State),
    (∀ m : Fin 16, mbxTakes 0x0403 anyArgs m s = true → let n := bits (s.arg m 1) 12 0
      (n = 0 ∨ 4096 < n → exec (.configureEphemeris m) s = .next (settle (mbxComplete m St.ephemerisArgInvalid [] s))) ∧
      (n ≠ 0 → n ≤ 4096 → bufReadable (s.arg m 0) (64 * n) 64 s = true →
        let u := bufAfter (s.arg m 0) (64 * n) s
        let rs := chunks 8 n (bytesWords (bufBytes (s.arg m 0) (64 * n) s))
        let bad := ((List.range n).zip rs).findSome? fun r => (hyperBad r.2).map fun b => (r.1, b)
        (∀ i b, bad = some (i, b) →
          exec (.configureEphemeris m) s = .next (settle (mbxComplete m St.ephemerisArgInvalid [i, b] u))) ∧
        (bad = none → exec (.configureEphemeris m) s =
          .next (settle (mbxComplete m St.ok [] { u with ephem := { u.ephem with hyper := rs } }))))) ∧
    (∀ die : Fin 2,
      let u := acceptMore 64 die.val (chargeAll { s with ephem := { s.ephem with
        accepted := s.ephem.accepted.filter fun p => kvHas p.1 s.mer.tasks } })
      let mine := u.acceptedOn die.val
      let held := mine.find? fun p => p.2.phase == .running &&
        (match p.2.heldBy with | some g => (u.heldPage g 1).isNone | none => false)
      u.inCompute = false →
      (∀ t k, held = some (t, k) → exec (.optimTask die) s =
        .next (settle (optGo t die.val (setTask t (fun k => { k with heldBy := none }) u)))) ∧
      (∀ t k, held = none → mine.countP (fun p => p.2.phase != .admitted) < 8 →
        let ready := mine.filter fun p => p.2.phase == .admitted &&
          (mine.find? fun q => q.2.desc.ostate == p.2.desc.ostate).map Prod.fst == some p.1
        (ready.filter fun p => u.noEntry die.val p.2.desc) = [] → ready.head? = some (t, k) → k.waitWhy ≠ 4 →
        exec (.optimTask die) s = .next (settle (optGo t die.val (startTask t (endWait t
          (count .stateWait die.val (u.cyc - (kvFind t u.ephem.accepted).getD u.cyc) u))))))) ∧
    (∀ t k, s.task t = some k → k.desc.type = 0xC → k.desc.b 3 0 = true → k.phase = .running →
      s.mer.tasks.any (fun p => p.2.desc.type == 6 && decide (p.2.age ≠ 0) && decide (p.2.age < k.age)) = false →
      s.ephem.openRecs.any (fun e => decide (e.age ≠ 0) && decide (e.age < k.age)) = false →
      let u := count .commitWait 0 (s.cyc - k.startCyc) s
      let v := { u with mer := { u.mer with boundary := some k.stream } }
      exec (.stepBoundary t) s =
        .next (settle (noteWaits (endTask t false 0 0 (boundary (v.stream k.stream).step v)))))

/-- For every seed the generator is the ten rounds of R219, r = 0 to 9, applied to the counter (x, y), where a round
with constant k = seed xor (r + 1) × 0x0101_0101_0101_0101 takes x to (rotr(x, 8) + y) xor k and y to rotl(y, 12)
xor the new x. From a round's output (x', y') the input is y = rotr(y' xor x', 12) and x = rotl((x' xor k) − y, 8).
For one seed, distinct counters give distinct outputs. SET_RNG_SEED sets the module-wide seed to MBX_ARG0 and
completes OK, the seed is 0 after a FULL reset, and a COMPUTE reset keeps it as it begins and as it ends. -/
def Obligations.GeneratorAlgorithm : Prop :=
  (∀ seed x y : W64, rng seed x y = [0, 1, 2, 3, 4, 5, 6, 7, 8, 9].foldl (fun (p : W64 × W64) (r : Nat) =>
    let k := seed ^^^ (BitVec.ofNat 64 (r + 1) * 0x0101010101010101)
    let x' := (p.1.rotateRight 8 + p.2) ^^^ k
    (x', p.2.rotateLeft 12 ^^^ x')) (x, y)) ∧
  (∀ (seed x y : W64) (r : Nat), let k := seed ^^^ (BitVec.ofNat 64 (r + 1) * 0x0101010101010101)
    let q := rngRound seed (x, y) r
    y = (q.2 ^^^ q.1).rotateRight 12 ∧ x = ((q.1 ^^^ k) - y).rotateLeft 8) ∧
  (∀ seed x y x2 y2 : W64, (x, y) ≠ (x2, y2) → rng seed x y ≠ rng seed x2 y2) ∧
  (∀ s : State,
    (∀ m : Fin 16, mbxTakes 0x0302 anyArgs m s = true → exec (.setRngSeed m) s =
      .next (settle (mbxComplete m St.ok [] { s with num := { s.num with seed := BitVec.ofNat 64 (s.arg m 0) } }))) ∧
    (fullReset s).num.seed = 0 ∧
    (∀ mbx fills, (computeStart mbx fills s).num.seed = s.num.seed) ∧ (computeFinish s).num.seed = s.num.seed)

/-- SET_POWER_LIMIT with a limit of 1,200 to 2,600 W and a ceiling of 900 to 2,050 MHz in steps of 25 MHz completes OK
and sets the two values and nothing else; for a value outside these ranges it completes ARG_INVALID and sets
neither. After a FULL reset the limit is 2,600 W and the ceiling 2,050 MHz. A COMPUTE reset, as it begins and as it
ends, and a tenant scrub, as it begins and as it ends, keep both values. -/
def Obligations.PowerLimitRule : Prop :=
  ∀ s : State,
    (∀ m : Fin 16, mbxTakes 0x0A06 anyArgs m s = true →
      ((1200 ≤ s.arg m 0 ∧ s.arg m 0 ≤ 2600) ∧ (900 ≤ s.arg m 1 ∧ s.arg m 1 ≤ 2050 ∧ s.arg m 1 % 25 = 0) →
        exec (.setPowerLimit m) s = .next (settle (mbxComplete m St.ok []
          { s with pow := { s.pow with limit := s.arg m 0, ceil := s.arg m 1 } }))) ∧
      (s.arg m 0 < 1200 ∨ 2600 < s.arg m 0 ∨ s.arg m 1 < 900 ∨ 2050 < s.arg m 1 ∨ s.arg m 1 % 25 ≠ 0 →
        exec (.setPowerLimit m) s = .next (settle (mbxComplete m St.argInvalid [] s)))) ∧
    (fullReset s).pow.limit = 2600 ∧ (fullReset s).pow.ceil = 2050 ∧
    (∀ mbx fills, (computeStart mbx fills s).pow.limit = s.pow.limit ∧
      (computeStart mbx fills s).pow.ceil = s.pow.ceil) ∧
    (computeFinish s).pow.limit = s.pow.limit ∧ (computeFinish s).pow.ceil = s.pow.ceil ∧
    (∀ trigger target tdisp rings, (scrubStart trigger target tdisp rings s).pow.limit = s.pow.limit ∧
      (scrubStart trigger target tdisp rings s).pow.ceil = s.pow.ceil) ∧
    (∀ x, (scrubEnd x s).pow.limit = s.pow.limit ∧ (scrubEnd x s).pow.ceil = s.pow.ceil)

/-- SET_SCRUB_RATE with 3,600 to 2,592,000 s, or with 0, sets the rate of each tier of its mask and leaves the other
tier's; another value is refused with ARG_INVALID. Where a tier's rate is 0, a visit by Survey to a channel of that
tier changes nothing. A FULL reset sets both tiers to 86,400 s and every channel's walk to frame 0, page 0. A
COMPUTE reset, as it begins and as it ends, keeps both rates and every channel's position. When a channel ends the
last page of its last frame, its walk starts again, and SCRUB_PASS_DONE is posted for the tier where every channel
of the tier that has not failed has then completed as many passes, and not otherwise. -/
def Obligations.ScrubRateRule : Prop :=
  ∀ s : State,
    (∀ m : Fin 16, mbxTakes 0x0701 anyArgs m s = true → let n := bits (s.arg m 0) 31 0
      (n ≠ 0 → n < 3600 ∨ 2592000 < n → exec (.setScrubRate m) s = .next (settle (mbxComplete m St.argInvalid [] s))) ∧
      (n = 0 ∨ 3600 ≤ n ∧ n ≤ 2592000 → exec (.setScrubRate m) s = .next (settle (mbxComplete m St.ok []
        { s with rel := { s.rel with
          scrubG := if bit (s.arg m 0) 32 = true then n else s.rel.scrubG
          scrubL := if bit (s.arg m 0) 33 = true then n else s.rel.scrubL } })))) ∧
    (∀ chan, (chan < 256 → s.rel.scrubG = 0 → exec (.surveyPageVisit chan) s = .next (settle s)) ∧
      (256 ≤ chan → s.rel.scrubL = 0 → exec (.surveyPageVisit chan) s = .next (settle s))) ∧
    (fullReset s).rel.scrubG = 86400 ∧ (fullReset s).rel.scrubL = 86400 ∧
    (∀ chan, kvGet ({} : SurveyPos) chan (fullReset s).rel.survey = {}) ∧
    (∀ mbx fills, (computeStart mbx fills s).rel.scrubG = s.rel.scrubG ∧
      (computeStart mbx fills s).rel.scrubL = s.rel.scrubL ∧ (computeStart mbx fills s).rel.survey = s.rel.survey) ∧
    ((computeFinish s).rel.scrubG = s.rel.scrubG ∧ (computeFinish s).rel.scrubL = s.rel.scrubL ∧
      (computeFinish s).rel.survey = s.rel.survey) ∧
    (∀ chan, let tier := chan / 256
      let p := kvGet ({} : SurveyPos) chan s.rel.survey
      let a := dramEncode s.tiers.bg s.tiers.bl ⟨tier, chan % 256, p.frame * 59392 + p.page * 2048⟩
      chan < 320 → (if tier = 0 then s.rel.scrubG else s.rel.scrubL) ≠ 0 → chan ∉ s.rel.failed → s.boot.ready = true →
      kvHas tier s.tiers.fills = false → 28 ≤ p.page → framesOf tier ≤ p.frame + 1 →
      let u := surveyFrameEnd ((surveyPage a s).loc a) (surveyPage a s)
      let v := { u with rel := { u.rel with survey := kvSet chan ⟨0, 0, p.passes + 1⟩ u.rel.survey } }
      let all := ∀ c, c < chansOf tier → 256 * tier + c ∉ v.rel.failed →
        p.passes + 1 ≤ (kvGet ({} : SurveyPos) (256 * tier + c) v.rel.survey).passes
      let g := kvGet ({} : ScrubPass) tier v.rel.pass
      (all → exec (.surveyPageVisit chan) s = .next (settle (post Ev.scrubPassDone
        [tier, (s.cyc - g.start) / 1000000000, g.corrections, g.uncorrectable]
        (logErr ⟨s.now, 0, Ev.scrubPassDone, tier, tier, 0, 0, 0⟩ { v with rel := { v.rel with
          pass := kvSet tier { start := s.cyc, passes := p.passes + 1 } v.rel.pass } })))) ∧
      (¬ all → exec (.surveyPageVisit chan) s = .next (settle v)))

/-- RESET_MODULE is refused with ARG_INVALID, and has no other effect, where scope is 3; where scope is COMPUTE or
CLUSTER while DEV_STATUS.ready is 0; where cluster is non-zero with scope FULL or COMPUTE; where cluster names a
retired cluster with scope CLUSTER; and where the scrub tier mask is non-zero with scope FULL or CLUSTER. A COMPUTE
reset whose command runs on mailbox m posts RESET_DONE and completes the command OK as it ends, and so does a
CLUSTER reset. A FULL reset writes no completion: bring-up starts again and every mailbox is as after reset. -/
def Obligations.ResetModuleRule : Prop :=
  ∀ (m : Fin 16) (s : State), let a := s.arg m 0
    let refused := .next (settle (mbxComplete m St.argInvalid [] s))
    (mbxTakes 0x0901 (fun a => a.n 0 % 4 == 0) m s = true →
      (bits a 20 16 ≠ 0 ∨ bits a 9 8 ≠ 0 → exec (.resetModuleFull m) s = refused) ∧
      (a = 0 → exec (.resetModuleFull m) s = .next (settle (bootStart (fullReset s))))) ∧
    (∀ k : Fin 16, (settle (bootStart (fullReset s))).mailbox k = {}) ∧
    (mbxTakes 0x0901 (fun a => a.n 0 % 2 == 1) m s = true →
      a % 4 = 3 ∨ s.boot.ready = false ∨ bits a 20 16 ≠ 0 → exec (.resetModuleCompute m) s = refused) ∧
    (mbxTakes 0x0901 (fun a => a.n 0 % 4 == 2) m s = true →
      s.boot.ready = false ∨ s.boot.retired.getLsbD (bits a 20 16) = true ∨ bits a 9 8 ≠ 0 →
      exec (.resetModuleCluster m) s = refused) ∧
    (∀ r, s.boot.reset = some r → r.mbx = some m.val → mbxRuns 0x0901 m s = true →
      (r.scope = 1 → s.tiers.fills.any (fun p => p.2 == .compute) = false →
        let u := computeClear ((List.range 32).foldl (fun s c => zeroCluster c s) s)
        let v := { u with
          boot := { u.boot with reset := none }
          host := { u.host with retry := u.host.retry && u.sec.scrub.isSome } }
        exec .computeResetDone s =
          .next (settle (mbxComplete m St.ok [] (post Ev.resetDone [1, 0, v.cyc - r.since] (peerResetDone v))))) ∧
      (r.scope = 2 → r.waiting = false → let u := zeroCluster r.cluster s
        let v := { u with
          boot := { u.boot with reset := none }
          strm := { u.strm with mcast := kvDel r.cluster u.strm.mcast } }
        exec .clusterResetDone s =
          .next (settle (mbxComplete m St.ok [] (post Ev.resetDone [2, r.cluster, v.cyc - r.since] v)))))

/-- For boundaries that Table 7-4 allows and every address of a tier's usable window, the channel and channel offset are
those of the algorithm of R172: with o the tier offset, x the granule number in the module region or in the die's
half, w, lo and first of its region, and f the fold of the bits of x from w up, the channel is first + (x xor f) mod
2^w and the offset is lo + (x >> w) × 2,048 + o mod 2,048. The map is a bijection onto the usable channel offsets of
the tier: it has an inverse on either side. A channel offset lies in frame o div 59,392 at data offset r = o mod
59,392, raw channel address f × 65,536 + r, sector r div 256, page r div 2,048; every 2 KiB-aligned channel offset
starts a page, so that a granule is exactly one page of one frame. -/
def Obligations.DramInterleave : Prop :=
  (∀ bg bl a : Nat, bg % 8 = 0 → bg ≤ 232 → bl % 16 = 0 → bl ≤ 464 →
    ∀ tier base cap n wb bnd : Nat,
      (tier, base, cap, n, wb, bnd) = (0, 0, 232 * 2 ^ 30, 256, 8, bg * 2 ^ 30) ∨
      (tier, base, cap, n, wb, bnd) = (1, 0x10000000000, 464 * 2 ^ 30, 64, 6, bl * 2 ^ 30) →
    (base ≤ a → a < base + cap → let l := dramDecode bg bl a
      let o := a - base
      let fold := fun (x w : Nat) => (List.range 8).foldl (fun f i => f ^^^ (x / 2 ^ (w * (i + 1)) % 2 ^ w)) 0
      l.tier = tier ∧
      (o < bnd → let x := o / 2 ^ 11
        l.ch = (x ^^^ fold x wb) % 2 ^ wb ∧ l.off = x / 2 ^ wb * 2 ^ 11 + o % 2 ^ 11) ∧
      (∀ d, bnd ≤ o → d = (if bnd + (cap - bnd) / 2 ≤ o then 1 else 0) →
        let x := (o - bnd - d * ((cap - bnd) / 2)) / 2 ^ 11
        let w := wb - 1
        l.ch = d * (n / 2) + (x ^^^ fold x w) % 2 ^ w ∧ l.off = bnd / n + x / 2 ^ w * 2 ^ 11 + o % 2 ^ 11) ∧
      l.ch < n ∧ l.off < cap / n ∧ dramEncode bg bl l = a) ∧
    (∀ ch off, ch < n → off < cap / n → let b := dramEncode bg bl ⟨tier, ch, off⟩
      base ≤ b ∧ b < base + cap ∧ dramDecode bg bl b = ⟨tier, ch, off⟩)) ∧
  (∀ l : Loc, l.frame = l.off / 59392 ∧ l.raw = l.off / 59392 * 65536 + l.off % 59392 ∧
    l.sector = l.off % 59392 / 256 ∧ l.page = l.off % 59392 / 2048 ∧
    (l.off % 2048 = 0 → l.off % 59392 % 2048 = 0 ∧
      ∀ i, i < 2048 → ({ l with off := l.off + i } : Loc).frame = l.frame ∧
        ({ l with off := l.off + i } : Loc).page = l.page))
end

