-- ==== Sys2Proof/Laws/Memory.lean ====
section
/-!
SUPPORT. Laws of memory: what a read gives after a write, and that every operation on memory keeps its canonical form.
-/

namespace Sys2Proof.Machine

/-! The canonical form. -/

/-- A lower start bound still rises. -/
theorem Memory.rising_weaken {m : Memory} {lo : Option Nat} {b : Nat} (h : Memory.rising (some b) m = true)
    (hb : ∀ l, lo = some l → l ≤ b) : Memory.rising lo m = true := by
  cases m with
  | nil => rfl
  | cons c t =>
    obtain ⟨j, x⟩ := c
    cases lo with
    | none => simp_all [Memory.rising]
    | some l =>
      have := hb l rfl
      simp_all [Memory.rising]
      omega

/-- Filtering keeps rising addresses. -/
theorem Memory.rising_filter (p : Host.Cell → Bool) : ∀ (m : Memory) (lo : Option Nat),
    Memory.rising lo m = true → Memory.rising lo (m.filter p) = true
  | [], _, _ => rfl
  | (j, x) :: t, lo, h => by
    simp only [Memory.rising, Bool.and_eq_true] at h
    by_cases hp : p (j, x) = true
    · simp only [List.filter_cons, hp, if_true, Memory.rising, Bool.and_eq_true]
      exact ⟨h.1, Memory.rising_filter p t _ h.2⟩
    · simp only [List.filter_cons, hp]
      refine Memory.rising_weaken (b := j) (Memory.rising_filter p t _ h.2) ?_
      intro l hl
      subst hl
      have := h.1
      simp at this
      omega

/-- Removing an address keeps rising addresses. -/
theorem Memory.rising_erase (a : Nat) : ∀ (m : Memory) (lo : Option Nat),
    Memory.rising lo m = true → Memory.rising lo (m.erase a) = true
  | [], _, _ => rfl
  | (j, x) :: t, lo, h => by
    simp only [Memory.rising, Bool.and_eq_true] at h
    unfold Memory.erase
    split
    · refine Memory.rising_weaken (b := j) h.2 ?_
      intro l hl
      subst hl
      have := h.1
      simp at this
      omega
    · simp only [Memory.rising, Bool.and_eq_true]
      exact ⟨h.1, Memory.rising_erase a t _ h.2⟩

/-- Putting a byte keeps rising addresses. -/
theorem Memory.rising_ins (a : Nat) (v : Byte) : ∀ (m : Memory) (lo : Option Nat),
    Memory.rising lo m = true → (∀ l, lo = some l → l < a) → Memory.rising lo (m.ins a v) = true
  | [], lo, _, hl => by
    cases lo with
    | none => rfl
    | some l => simp [Memory.ins, Memory.rising, hl l rfl]
  | (j, x) :: t, lo, h, hl => by
    simp only [Memory.rising, Bool.and_eq_true] at h
    unfold Memory.ins
    split
    · rename_i hlt
      cases lo with
      | none => simp [Memory.rising, h.2, hlt]
      | some l => simp [Memory.rising, h.2, hlt, hl l rfl]
    · split
      · rename_i heq
        subst heq
        cases lo with
        | none => simp [Memory.rising, h.2]
        | some l => simp [Memory.rising, h.2, hl l rfl]
      · rename_i h1 h2
        simp only [Memory.rising, Bool.and_eq_true]
        refine ⟨h.1, Memory.rising_ins a v t _ h.2 ?_⟩
        intro l hl'
        cases hl'
        omega

/-- Filtering keeps the canonical form. -/
theorem Memory.wf_filter {m : Memory} (p : Host.Cell → Bool) (h : m.wf = true) : Memory.wf (m.filter p) = true := by
  simp only [Memory.wf, Bool.and_eq_true] at h ⊢
  refine ⟨Memory.rising_filter p m _ h.1, ?_⟩
  simp only [List.all_eq_true] at h ⊢
  intro c hc
  exact h.2 c (List.mem_filter.mp hc).1

/-- Clearing a range keeps the canonical form. -/
theorem Memory.wf_clear {m : Memory} (lo hi : Nat) (h : m.wf = true) : (m.clear lo hi).wf = true := Memory.wf_filter _ h

theorem Memory.mem_erase {a : Nat} {c : Host.Cell} : ∀ {m : Memory}, c ∈ m.erase a → c ∈ m
  | [], h => h
  | (j, x) :: t, h => by
    unfold Memory.erase at h
    split at h
    · exact List.mem_cons_of_mem _ h
    · rcases List.mem_cons.mp h with h | h
      · exact List.mem_cons.mpr (.inl h)
      · exact List.mem_cons_of_mem _ (Memory.mem_erase h)

theorem Memory.mem_ins {a : Nat} {v : Byte} {c : Host.Cell} : ∀ {m : Memory}, c ∈ m.ins a v → c = (a, v) ∨ c ∈ m
  | [], h => .inl (by simpa [Memory.ins] using h)
  | (j, x) :: t, h => by
    unfold Memory.ins at h
    split at h
    · rcases List.mem_cons.mp h with h | h
      · exact .inl h
      · exact .inr h
    · split at h
      · rcases List.mem_cons.mp h with h | h
        · exact .inl h
        · exact .inr (List.mem_cons_of_mem _ h)
      · rcases List.mem_cons.mp h with h | h
        · exact .inr (List.mem_cons.mpr (.inl h))
        · rcases Memory.mem_ins h with h | h
          · exact .inl h
          · exact .inr (List.mem_cons_of_mem _ h)

/-- Writing one byte keeps the canonical form. -/
theorem Memory.wf_set {m : Memory} (a : Nat) (v : Byte) (h : m.wf = true) : (m.set a v).wf = true := by
  simp only [Memory.wf, Bool.and_eq_true, List.all_eq_true] at h ⊢
  unfold Memory.set
  split
  · exact ⟨Memory.rising_erase a m _ h.1, fun c hc => h.2 c (Memory.mem_erase hc)⟩
  · rename_i hv
    refine ⟨Memory.rising_ins a v m _ h.1 (by simp), fun c hc => ?_⟩
    rcases Memory.mem_ins hc with rfl | hc
    · simpa using hv
    · exact h.2 c hc

/-- Writing bytes keeps the canonical form. -/
theorem Memory.wf_write (bs : List Byte) : ∀ {m : Memory} (a : Nat), m.wf = true → (m.write a bs).wf = true := by
  induction bs with
  | nil => exact fun _ h => h
  | cons b t ih => exact fun a h => ih (a + 1) (Memory.wf_set a b h)

/-- The memory of reset is canonical. -/
theorem Memory.wf_reset : State.reset.mem.wf = true := rfl

/-! Reading after a write. -/

/-- Below every listed address nothing is listed. -/
theorem Memory.get_of_lt {a : Nat} : ∀ {m : Memory} {l : Nat}, Memory.rising (some l) m = true → a ≤ l → m.get a = 0
  | [], _, _, _ => rfl
  | (j, x) :: t, l, h, ha => by
    simp only [Memory.rising, Bool.and_eq_true, decide_eq_true_eq] at h
    have hj : ¬ j = a := by omega
    simp only [Memory.get, hj, if_false]
    exact Memory.get_of_lt h.2 (by omega)

theorem Memory.get_erase {a b : Nat} : ∀ {m : Memory} {lo : Option Nat}, Memory.rising lo m = true →
    (m.erase a).get b = if b = a then 0 else m.get b
  | [], _, _ => by simp [Memory.erase, Memory.get]
  | (j, x) :: t, lo, h => by
    simp only [Memory.rising, Bool.and_eq_true] at h
    unfold Memory.erase
    split
    · rename_i hj
      subst hj
      by_cases hb : b = a
      · subst hb
        simp [Memory.get_of_lt h.2 (Nat.le_refl _)]
      · have : ¬ a = b := fun e => hb e.symm
        simp [Memory.get, hb, this]
    · rename_i hj
      by_cases hb : j = b
      · subst hb
        have : ¬ j = a := fun e => hj e.symm
        simp [Memory.get, this]
      · simp only [Memory.get, hb, if_false]
        exact Memory.get_erase h.2

theorem Memory.get_ins {a b : Nat} {v : Byte} : ∀ {m : Memory},
    (m.ins a v).get b = if b = a then v else m.get b
  | [] => by
    by_cases hb : b = a
    · subst hb; simp [Memory.ins, Memory.get]
    · have : ¬ a = b := fun e => hb e.symm
      simp [Memory.ins, Memory.get, hb, this]
  | (j, x) :: t => by
    unfold Memory.ins
    split
    · by_cases hb : b = a
      · subst hb; simp [Memory.get]
      · have : ¬ a = b := fun e => hb e.symm
        simp [Memory.get, hb, this]
    · split
      · rename_i hj
        subst hj
        by_cases hb : b = a
        · subst hb; simp [Memory.get]
        · have : ¬ a = b := fun e => hb e.symm
          simp [Memory.get, hb, this]
      · rename_i h1 h2
        by_cases hb : j = b
        · subst hb
          have : ¬ j = a := fun e => h2 e.symm
          simp [Memory.get, this]
        · simp only [Memory.get, hb, if_false]
          exact Memory.get_ins

/-- A byte written reads back, and every other byte is as before. -/
theorem Memory.get_set {m : Memory} (a b : Nat) (v : Byte) (h : m.wf = true) :
    (m.set a v).get b = if b = a then v else m.get b := by
  simp only [Memory.wf, Bool.and_eq_true] at h
  unfold Memory.set
  split
  · rename_i hv
    rw [Memory.get_erase h.1, hv]
  · exact Memory.get_ins

/-- Bytes written read back, and every byte outside them is as before. -/
theorem Memory.get_write (bs : List Byte) : ∀ {m : Memory} (a b : Nat), m.wf = true →
    (m.write a bs).get b = if h : a ≤ b ∧ b < a + bs.length then bs[b - a]'(by omega) else m.get b := by
  induction bs with
  | nil => intro m a b _; simp [Memory.write] <;> omega
  | cons x t ih =>
    intro m a b h
    have e : ((m.write a (x :: t)).get b) = ((m.set a x).write (a + 1) t).get b := rfl
    rw [e, ih (a + 1) b (Memory.wf_set a x h), Memory.get_set a b x h]
    by_cases h1 : a + 1 ≤ b ∧ b < a + 1 + t.length
    · have h2 : a ≤ b ∧ b < a + (x :: t).length := by simp; omega
      rw [dif_pos h1, dif_pos h2]
      have : b - a = (b - (a + 1)) + 1 := by omega
      simp [this]
    · rw [dif_neg h1]
      by_cases hb : b = a
      · subst hb
        have h2 : b ≤ b ∧ b < b + (x :: t).length := by simp
        rw [dif_pos h2]
        simp
      · have h2 : ¬ (a ≤ b ∧ b < a + (x :: t).length) := by
          intro hc
          simp only [List.length_cons] at hc
          exact h1 (by omega)
        rw [dif_neg h2]
        simp [hb]

/-- A byte outside those written is as before. -/
theorem Memory.get_write_of_out {m : Memory} (a b : Nat) (bs : List Byte) (h : m.wf = true)
    (ho : b < a ∨ a + bs.length ≤ b) : (m.write a bs).get b = m.get b := by
  rw [Memory.get_write bs a b h, dif_neg (by omega)]

end Sys2Proof.Machine
end

