-- ==== Sys2Proof/Laws/State.lean ====
section
/-!
SUPPORT. What each named update of the state gives, field by field: every field but the one it names is as before.
-/

namespace Sys2Proof.Machine

/-! `emit`. -/

@[simp] theorem emit_pending (o : Out) (s : State) : (emit o s).pending = s.pending := rfl
@[simp] theorem emit_sent (o : Out) (s : State) : (emit o s).sent = o :: s.sent := rfl
@[simp] theorem emit_free (o : Out) (s : State) : (emit o s).free = s.free := rfl
@[simp] theorem emit_mem (o : Out) (s : State) : (emit o s).mem = s.mem := rfl
@[simp] theorem emit_sems (o : Out) (s : State) : (emit o s).sems = s.sems := rfl
@[simp] theorem emit_ctr (o : Out) (s : State) : (emit o s).ctr = s.ctr := rfl
@[simp] theorem emit_alm (o : Out) (s : State) : (emit o s).alm = s.alm := rfl
@[simp] theorem emit_host (o : Out) (s : State) : (emit o s).host = s.host := rfl
@[simp] theorem emit_sec (o : Out) (s : State) : (emit o s).sec = s.sec := rfl
@[simp] theorem emit_mer (o : Out) (s : State) : (emit o s).mer = s.mer := rfl
@[simp] theorem emit_prog (o : Out) (s : State) : (emit o s).prog = s.prog := rfl
@[simp] theorem emit_strm (o : Out) (s : State) : (emit o s).strm = s.strm := rfl
@[simp] theorem emit_tiers (o : Out) (s : State) : (emit o s).tiers = s.tiers := rfl
@[simp] theorem emit_rel (o : Out) (s : State) : (emit o s).rel = s.rel := rfl
@[simp] theorem emit_time (o : Out) (s : State) : (emit o s).time = s.time := rfl
@[simp] theorem emit_sens (o : Out) (s : State) : (emit o s).sens = s.sens := rfl
@[simp] theorem emit_boot (o : Out) (s : State) : (emit o s).boot = s.boot := rfl
@[simp] theorem emit_pow (o : Out) (s : State) : (emit o s).pow = s.pow := rfl
@[simp] theorem emit_fab (o : Out) (s : State) : (emit o s).fab = s.fab := rfl
@[simp] theorem emit_num (o : Out) (s : State) : (emit o s).num = s.num := rfl
@[simp] theorem emit_stash (o : Out) (s : State) : (emit o s).stash = s.stash := rfl
@[simp] theorem emit_phot (o : Out) (s : State) : (emit o s).phot = s.phot := rfl
@[simp] theorem emit_spec (o : Out) (s : State) : (emit o s).spec = s.spec := rfl
@[simp] theorem emit_ephem (o : Out) (s : State) : (emit o s).ephem = s.ephem := rfl
@[simp] theorem emit_store (o : Out) (s : State) : (emit o s).store = s.store := rfl

/-! `count`. -/

@[simp] theorem count_pending (c : Counter) (i n : Nat) (s : State) : (count c i n s).pending = s.pending := rfl
@[simp] theorem count_sent (c : Counter) (i n : Nat) (s : State) : (count c i n s).sent = s.sent := rfl
@[simp] theorem count_free (c : Counter) (i n : Nat) (s : State) : (count c i n s).free = s.free := rfl
@[simp] theorem count_mem (c : Counter) (i n : Nat) (s : State) : (count c i n s).mem = s.mem := rfl
@[simp] theorem count_sems (c : Counter) (i n : Nat) (s : State) : (count c i n s).sems = s.sems := rfl
@[simp] theorem count_ctr (c : Counter) (i n : Nat) (s : State) : (count c i n s).ctr = s.ctr.add c i n := rfl
@[simp] theorem count_alm (c : Counter) (i n : Nat) (s : State) : (count c i n s).alm = s.alm := rfl
@[simp] theorem count_host (c : Counter) (i n : Nat) (s : State) : (count c i n s).host = s.host := rfl
@[simp] theorem count_sec (c : Counter) (i n : Nat) (s : State) : (count c i n s).sec = s.sec := rfl
@[simp] theorem count_mer (c : Counter) (i n : Nat) (s : State) : (count c i n s).mer = s.mer := rfl
@[simp] theorem count_prog (c : Counter) (i n : Nat) (s : State) : (count c i n s).prog = s.prog := rfl
@[simp] theorem count_strm (c : Counter) (i n : Nat) (s : State) : (count c i n s).strm = s.strm := rfl
@[simp] theorem count_tiers (c : Counter) (i n : Nat) (s : State) : (count c i n s).tiers = s.tiers := rfl
@[simp] theorem count_rel (c : Counter) (i n : Nat) (s : State) : (count c i n s).rel = s.rel := rfl
@[simp] theorem count_time (c : Counter) (i n : Nat) (s : State) : (count c i n s).time = s.time := rfl
@[simp] theorem count_sens (c : Counter) (i n : Nat) (s : State) : (count c i n s).sens = s.sens := rfl
@[simp] theorem count_boot (c : Counter) (i n : Nat) (s : State) : (count c i n s).boot = s.boot := rfl
@[simp] theorem count_pow (c : Counter) (i n : Nat) (s : State) : (count c i n s).pow = s.pow := rfl
@[simp] theorem count_fab (c : Counter) (i n : Nat) (s : State) : (count c i n s).fab = s.fab := rfl
@[simp] theorem count_num (c : Counter) (i n : Nat) (s : State) : (count c i n s).num = s.num := rfl
@[simp] theorem count_stash (c : Counter) (i n : Nat) (s : State) : (count c i n s).stash = s.stash := rfl
@[simp] theorem count_phot (c : Counter) (i n : Nat) (s : State) : (count c i n s).phot = s.phot := rfl
@[simp] theorem count_spec (c : Counter) (i n : Nat) (s : State) : (count c i n s).spec = s.spec := rfl
@[simp] theorem count_ephem (c : Counter) (i n : Nat) (s : State) : (count c i n s).ephem = s.ephem := rfl
@[simp] theorem count_store (c : Counter) (i n : Nat) (s : State) : (count c i n s).store = s.store := rfl

/-! `countHigh`. -/

@[simp] theorem countHigh_pending (c : Counter) (i n : Nat) (s : State) : (countHigh c i n s).pending = s.pending := rfl
@[simp] theorem countHigh_sent (c : Counter) (i n : Nat) (s : State) : (countHigh c i n s).sent = s.sent := rfl
@[simp] theorem countHigh_free (c : Counter) (i n : Nat) (s : State) : (countHigh c i n s).free = s.free := rfl
@[simp] theorem countHigh_mem (c : Counter) (i n : Nat) (s : State) : (countHigh c i n s).mem = s.mem := rfl
@[simp] theorem countHigh_sems (c : Counter) (i n : Nat) (s : State) : (countHigh c i n s).sems = s.sems := rfl
@[simp] theorem countHigh_ctr (c : Counter) (i n : Nat) (s : State) : (countHigh c i n s).ctr = s.ctr.high c i n := rfl
@[simp] theorem countHigh_alm (c : Counter) (i n : Nat) (s : State) : (countHigh c i n s).alm = s.alm := rfl
@[simp] theorem countHigh_host (c : Counter) (i n : Nat) (s : State) : (countHigh c i n s).host = s.host := rfl
@[simp] theorem countHigh_sec (c : Counter) (i n : Nat) (s : State) : (countHigh c i n s).sec = s.sec := rfl
@[simp] theorem countHigh_mer (c : Counter) (i n : Nat) (s : State) : (countHigh c i n s).mer = s.mer := rfl
@[simp] theorem countHigh_prog (c : Counter) (i n : Nat) (s : State) : (countHigh c i n s).prog = s.prog := rfl
@[simp] theorem countHigh_strm (c : Counter) (i n : Nat) (s : State) : (countHigh c i n s).strm = s.strm := rfl
@[simp] theorem countHigh_tiers (c : Counter) (i n : Nat) (s : State) : (countHigh c i n s).tiers = s.tiers := rfl
@[simp] theorem countHigh_rel (c : Counter) (i n : Nat) (s : State) : (countHigh c i n s).rel = s.rel := rfl
@[simp] theorem countHigh_time (c : Counter) (i n : Nat) (s : State) : (countHigh c i n s).time = s.time := rfl
@[simp] theorem countHigh_sens (c : Counter) (i n : Nat) (s : State) : (countHigh c i n s).sens = s.sens := rfl
@[simp] theorem countHigh_boot (c : Counter) (i n : Nat) (s : State) : (countHigh c i n s).boot = s.boot := rfl
@[simp] theorem countHigh_pow (c : Counter) (i n : Nat) (s : State) : (countHigh c i n s).pow = s.pow := rfl
@[simp] theorem countHigh_fab (c : Counter) (i n : Nat) (s : State) : (countHigh c i n s).fab = s.fab := rfl
@[simp] theorem countHigh_num (c : Counter) (i n : Nat) (s : State) : (countHigh c i n s).num = s.num := rfl
@[simp] theorem countHigh_stash (c : Counter) (i n : Nat) (s : State) : (countHigh c i n s).stash = s.stash := rfl
@[simp] theorem countHigh_phot (c : Counter) (i n : Nat) (s : State) : (countHigh c i n s).phot = s.phot := rfl
@[simp] theorem countHigh_spec (c : Counter) (i n : Nat) (s : State) : (countHigh c i n s).spec = s.spec := rfl
@[simp] theorem countHigh_ephem (c : Counter) (i n : Nat) (s : State) : (countHigh c i n s).ephem = s.ephem := rfl
@[simp] theorem countHigh_store (c : Counter) (i n : Nat) (s : State) : (countHigh c i n s).store = s.store := rfl

/-! `draw`. -/

@[simp] theorem draw_pending (s : State) : ((draw s).2).pending = s.pending := rfl
@[simp] theorem draw_sent (s : State) : ((draw s).2).sent = s.sent := rfl
@[simp] theorem draw_free (s : State) : ((draw s).2).free = s.free + 1 := rfl
@[simp] theorem draw_mem (s : State) : ((draw s).2).mem = s.mem := rfl
@[simp] theorem draw_sems (s : State) : ((draw s).2).sems = s.sems := rfl
@[simp] theorem draw_ctr (s : State) : ((draw s).2).ctr = s.ctr := rfl
@[simp] theorem draw_alm (s : State) : ((draw s).2).alm = s.alm := rfl
@[simp] theorem draw_host (s : State) : ((draw s).2).host = s.host := rfl
@[simp] theorem draw_sec (s : State) : ((draw s).2).sec = s.sec := rfl
@[simp] theorem draw_mer (s : State) : ((draw s).2).mer = s.mer := rfl
@[simp] theorem draw_prog (s : State) : ((draw s).2).prog = s.prog := rfl
@[simp] theorem draw_strm (s : State) : ((draw s).2).strm = s.strm := rfl
@[simp] theorem draw_tiers (s : State) : ((draw s).2).tiers = s.tiers := rfl
@[simp] theorem draw_rel (s : State) : ((draw s).2).rel = s.rel := rfl
@[simp] theorem draw_time (s : State) : ((draw s).2).time = s.time := rfl
@[simp] theorem draw_sens (s : State) : ((draw s).2).sens = s.sens := rfl
@[simp] theorem draw_boot (s : State) : ((draw s).2).boot = s.boot := rfl
@[simp] theorem draw_pow (s : State) : ((draw s).2).pow = s.pow := rfl
@[simp] theorem draw_fab (s : State) : ((draw s).2).fab = s.fab := rfl
@[simp] theorem draw_num (s : State) : ((draw s).2).num = s.num := rfl
@[simp] theorem draw_stash (s : State) : ((draw s).2).stash = s.stash := rfl
@[simp] theorem draw_phot (s : State) : ((draw s).2).phot = s.phot := rfl
@[simp] theorem draw_spec (s : State) : ((draw s).2).spec = s.spec := rfl
@[simp] theorem draw_ephem (s : State) : ((draw s).2).ephem = s.ephem := rfl
@[simp] theorem draw_store (s : State) : ((draw s).2).store = s.store := rfl

/-! `setMbxDone`. -/

@[simp] theorem setMbxDone_pending (m : Nat) (s : State) : (setMbxDone m s).pending = s.pending := rfl
@[simp] theorem setMbxDone_sent (m : Nat) (s : State) : (setMbxDone m s).sent = s.sent := rfl
@[simp] theorem setMbxDone_free (m : Nat) (s : State) : (setMbxDone m s).free = s.free := rfl
@[simp] theorem setMbxDone_mem (m : Nat) (s : State) : (setMbxDone m s).mem = s.mem := rfl
@[simp] theorem setMbxDone_sems (m : Nat) (s : State) : (setMbxDone m s).sems = s.sems := rfl
@[simp] theorem setMbxDone_ctr (m : Nat) (s : State) : (setMbxDone m s).ctr = s.ctr := rfl
@[simp] theorem setMbxDone_host (m : Nat) (s : State) : (setMbxDone m s).host = s.host := rfl
@[simp] theorem setMbxDone_sec (m : Nat) (s : State) : (setMbxDone m s).sec = s.sec := rfl
@[simp] theorem setMbxDone_mer (m : Nat) (s : State) : (setMbxDone m s).mer = s.mer := rfl
@[simp] theorem setMbxDone_prog (m : Nat) (s : State) : (setMbxDone m s).prog = s.prog := rfl
@[simp] theorem setMbxDone_strm (m : Nat) (s : State) : (setMbxDone m s).strm = s.strm := rfl
@[simp] theorem setMbxDone_tiers (m : Nat) (s : State) : (setMbxDone m s).tiers = s.tiers := rfl
@[simp] theorem setMbxDone_rel (m : Nat) (s : State) : (setMbxDone m s).rel = s.rel := rfl
@[simp] theorem setMbxDone_time (m : Nat) (s : State) : (setMbxDone m s).time = s.time := rfl
@[simp] theorem setMbxDone_sens (m : Nat) (s : State) : (setMbxDone m s).sens = s.sens := rfl
@[simp] theorem setMbxDone_boot (m : Nat) (s : State) : (setMbxDone m s).boot = s.boot := rfl
@[simp] theorem setMbxDone_pow (m : Nat) (s : State) : (setMbxDone m s).pow = s.pow := rfl
@[simp] theorem setMbxDone_fab (m : Nat) (s : State) : (setMbxDone m s).fab = s.fab := rfl
@[simp] theorem setMbxDone_num (m : Nat) (s : State) : (setMbxDone m s).num = s.num := rfl
@[simp] theorem setMbxDone_stash (m : Nat) (s : State) : (setMbxDone m s).stash = s.stash := rfl
@[simp] theorem setMbxDone_phot (m : Nat) (s : State) : (setMbxDone m s).phot = s.phot := rfl
@[simp] theorem setMbxDone_spec (m : Nat) (s : State) : (setMbxDone m s).spec = s.spec := rfl
@[simp] theorem setMbxDone_ephem (m : Nat) (s : State) : (setMbxDone m s).ephem = s.ephem := rfl
@[simp] theorem setMbxDone_store (m : Nat) (s : State) : (setMbxDone m s).store = s.store := rfl

/-! `setMbx`. -/

@[simp] theorem setMbx_pending (m : Fin 16) (f : Mailbox → Mailbox) (s : State) : (setMbx m f s).pending = s.pending := rfl
@[simp] theorem setMbx_sent (m : Fin 16) (f : Mailbox → Mailbox) (s : State) : (setMbx m f s).sent = s.sent := rfl
@[simp] theorem setMbx_free (m : Fin 16) (f : Mailbox → Mailbox) (s : State) : (setMbx m f s).free = s.free := rfl
@[simp] theorem setMbx_mem (m : Fin 16) (f : Mailbox → Mailbox) (s : State) : (setMbx m f s).mem = s.mem := rfl
@[simp] theorem setMbx_sems (m : Fin 16) (f : Mailbox → Mailbox) (s : State) : (setMbx m f s).sems = s.sems := rfl
@[simp] theorem setMbx_ctr (m : Fin 16) (f : Mailbox → Mailbox) (s : State) : (setMbx m f s).ctr = s.ctr := rfl
@[simp] theorem setMbx_alm (m : Fin 16) (f : Mailbox → Mailbox) (s : State) : (setMbx m f s).alm = { s.alm with mbx := s.alm.mbx.set m (f s.alm.mbx[m]) } := rfl
@[simp] theorem setMbx_host (m : Fin 16) (f : Mailbox → Mailbox) (s : State) : (setMbx m f s).host = s.host := rfl
@[simp] theorem setMbx_sec (m : Fin 16) (f : Mailbox → Mailbox) (s : State) : (setMbx m f s).sec = s.sec := rfl
@[simp] theorem setMbx_mer (m : Fin 16) (f : Mailbox → Mailbox) (s : State) : (setMbx m f s).mer = s.mer := rfl
@[simp] theorem setMbx_prog (m : Fin 16) (f : Mailbox → Mailbox) (s : State) : (setMbx m f s).prog = s.prog := rfl
@[simp] theorem setMbx_strm (m : Fin 16) (f : Mailbox → Mailbox) (s : State) : (setMbx m f s).strm = s.strm := rfl
@[simp] theorem setMbx_tiers (m : Fin 16) (f : Mailbox → Mailbox) (s : State) : (setMbx m f s).tiers = s.tiers := rfl
@[simp] theorem setMbx_rel (m : Fin 16) (f : Mailbox → Mailbox) (s : State) : (setMbx m f s).rel = s.rel := rfl
@[simp] theorem setMbx_time (m : Fin 16) (f : Mailbox → Mailbox) (s : State) : (setMbx m f s).time = s.time := rfl
@[simp] theorem setMbx_sens (m : Fin 16) (f : Mailbox → Mailbox) (s : State) : (setMbx m f s).sens = s.sens := rfl
@[simp] theorem setMbx_boot (m : Fin 16) (f : Mailbox → Mailbox) (s : State) : (setMbx m f s).boot = s.boot := rfl
@[simp] theorem setMbx_pow (m : Fin 16) (f : Mailbox → Mailbox) (s : State) : (setMbx m f s).pow = s.pow := rfl
@[simp] theorem setMbx_fab (m : Fin 16) (f : Mailbox → Mailbox) (s : State) : (setMbx m f s).fab = s.fab := rfl
@[simp] theorem setMbx_num (m : Fin 16) (f : Mailbox → Mailbox) (s : State) : (setMbx m f s).num = s.num := rfl
@[simp] theorem setMbx_stash (m : Fin 16) (f : Mailbox → Mailbox) (s : State) : (setMbx m f s).stash = s.stash := rfl
@[simp] theorem setMbx_phot (m : Fin 16) (f : Mailbox → Mailbox) (s : State) : (setMbx m f s).phot = s.phot := rfl
@[simp] theorem setMbx_spec (m : Fin 16) (f : Mailbox → Mailbox) (s : State) : (setMbx m f s).spec = s.spec := rfl
@[simp] theorem setMbx_ephem (m : Fin 16) (f : Mailbox → Mailbox) (s : State) : (setMbx m f s).ephem = s.ephem := rfl
@[simp] theorem setMbx_store (m : Fin 16) (f : Mailbox → Mailbox) (s : State) : (setMbx m f s).store = s.store := rfl

/-! `setFrame`. -/

@[simp] theorem setFrame_pending (k : Nat) (f : FrameRec) (s : State) : (setFrame k f s).pending = s.pending := rfl
@[simp] theorem setFrame_sent (k : Nat) (f : FrameRec) (s : State) : (setFrame k f s).sent = s.sent := rfl
@[simp] theorem setFrame_free (k : Nat) (f : FrameRec) (s : State) : (setFrame k f s).free = s.free := rfl
@[simp] theorem setFrame_mem (k : Nat) (f : FrameRec) (s : State) : (setFrame k f s).mem = s.mem := rfl
@[simp] theorem setFrame_sems (k : Nat) (f : FrameRec) (s : State) : (setFrame k f s).sems = s.sems := rfl
@[simp] theorem setFrame_ctr (k : Nat) (f : FrameRec) (s : State) : (setFrame k f s).ctr = s.ctr := rfl
@[simp] theorem setFrame_alm (k : Nat) (f : FrameRec) (s : State) : (setFrame k f s).alm = s.alm := rfl
@[simp] theorem setFrame_host (k : Nat) (f : FrameRec) (s : State) : (setFrame k f s).host = s.host := rfl
@[simp] theorem setFrame_sec (k : Nat) (f : FrameRec) (s : State) : (setFrame k f s).sec = s.sec := rfl
@[simp] theorem setFrame_mer (k : Nat) (f : FrameRec) (s : State) : (setFrame k f s).mer = s.mer := rfl
@[simp] theorem setFrame_prog (k : Nat) (f : FrameRec) (s : State) : (setFrame k f s).prog = s.prog := rfl
@[simp] theorem setFrame_strm (k : Nat) (f : FrameRec) (s : State) : (setFrame k f s).strm = s.strm := rfl
@[simp] theorem setFrame_tiers (k : Nat) (f : FrameRec) (s : State) : (setFrame k f s).tiers = s.tiers := rfl
@[simp] theorem setFrame_rel (k : Nat) (f : FrameRec) (s : State) : (setFrame k f s).rel = { s.rel with frames := kvPut {} k f s.rel.frames } := rfl
@[simp] theorem setFrame_time (k : Nat) (f : FrameRec) (s : State) : (setFrame k f s).time = s.time := rfl
@[simp] theorem setFrame_sens (k : Nat) (f : FrameRec) (s : State) : (setFrame k f s).sens = s.sens := rfl
@[simp] theorem setFrame_boot (k : Nat) (f : FrameRec) (s : State) : (setFrame k f s).boot = s.boot := rfl
@[simp] theorem setFrame_pow (k : Nat) (f : FrameRec) (s : State) : (setFrame k f s).pow = s.pow := rfl
@[simp] theorem setFrame_fab (k : Nat) (f : FrameRec) (s : State) : (setFrame k f s).fab = s.fab := rfl
@[simp] theorem setFrame_num (k : Nat) (f : FrameRec) (s : State) : (setFrame k f s).num = s.num := rfl
@[simp] theorem setFrame_stash (k : Nat) (f : FrameRec) (s : State) : (setFrame k f s).stash = s.stash := rfl
@[simp] theorem setFrame_phot (k : Nat) (f : FrameRec) (s : State) : (setFrame k f s).phot = s.phot := rfl
@[simp] theorem setFrame_spec (k : Nat) (f : FrameRec) (s : State) : (setFrame k f s).spec = s.spec := rfl
@[simp] theorem setFrame_ephem (k : Nat) (f : FrameRec) (s : State) : (setFrame k f s).ephem = s.ephem := rfl
@[simp] theorem setFrame_store (k : Nat) (f : FrameRec) (s : State) : (setFrame k f s).store = s.store := rfl

/-! `logErr`. -/

@[simp] theorem logErr_pending (e : ErrRec) (s : State) : (logErr e s).pending = s.pending := rfl
@[simp] theorem logErr_sent (e : ErrRec) (s : State) : (logErr e s).sent = s.sent := rfl
@[simp] theorem logErr_free (e : ErrRec) (s : State) : (logErr e s).free = s.free := rfl
@[simp] theorem logErr_mem (e : ErrRec) (s : State) : (logErr e s).mem = s.mem := rfl
@[simp] theorem logErr_sems (e : ErrRec) (s : State) : (logErr e s).sems = s.sems := rfl
@[simp] theorem logErr_ctr (e : ErrRec) (s : State) : (logErr e s).ctr = s.ctr := rfl
@[simp] theorem logErr_alm (e : ErrRec) (s : State) : (logErr e s).alm = s.alm := rfl
@[simp] theorem logErr_host (e : ErrRec) (s : State) : (logErr e s).host = s.host := rfl
@[simp] theorem logErr_sec (e : ErrRec) (s : State) : (logErr e s).sec = s.sec := rfl
@[simp] theorem logErr_mer (e : ErrRec) (s : State) : (logErr e s).mer = s.mer := rfl
@[simp] theorem logErr_prog (e : ErrRec) (s : State) : (logErr e s).prog = s.prog := rfl
@[simp] theorem logErr_strm (e : ErrRec) (s : State) : (logErr e s).strm = s.strm := rfl
@[simp] theorem logErr_tiers (e : ErrRec) (s : State) : (logErr e s).tiers = s.tiers := rfl
@[simp] theorem logErr_time (e : ErrRec) (s : State) : (logErr e s).time = s.time := rfl
@[simp] theorem logErr_sens (e : ErrRec) (s : State) : (logErr e s).sens = s.sens := rfl
@[simp] theorem logErr_boot (e : ErrRec) (s : State) : (logErr e s).boot = s.boot := rfl
@[simp] theorem logErr_pow (e : ErrRec) (s : State) : (logErr e s).pow = s.pow := rfl
@[simp] theorem logErr_fab (e : ErrRec) (s : State) : (logErr e s).fab = s.fab := rfl
@[simp] theorem logErr_num (e : ErrRec) (s : State) : (logErr e s).num = s.num := rfl
@[simp] theorem logErr_stash (e : ErrRec) (s : State) : (logErr e s).stash = s.stash := rfl
@[simp] theorem logErr_phot (e : ErrRec) (s : State) : (logErr e s).phot = s.phot := rfl
@[simp] theorem logErr_spec (e : ErrRec) (s : State) : (logErr e s).spec = s.spec := rfl
@[simp] theorem logErr_ephem (e : ErrRec) (s : State) : (logErr e s).ephem = s.ephem := rfl
@[simp] theorem logErr_store (e : ErrRec) (s : State) : (logErr e s).store = s.store := rfl

/-! `setStore`. -/

@[simp] theorem setStore_pending (f : Store → Store) (s : State) : (setStore f s).pending = s.pending := rfl
@[simp] theorem setStore_sent (f : Store → Store) (s : State) : (setStore f s).sent = s.sent := rfl
@[simp] theorem setStore_free (f : Store → Store) (s : State) : (setStore f s).free = s.free := rfl
@[simp] theorem setStore_mem (f : Store → Store) (s : State) : (setStore f s).mem = s.mem := rfl
@[simp] theorem setStore_sems (f : Store → Store) (s : State) : (setStore f s).sems = s.sems := rfl
@[simp] theorem setStore_ctr (f : Store → Store) (s : State) : (setStore f s).ctr = s.ctr := rfl
@[simp] theorem setStore_alm (f : Store → Store) (s : State) : (setStore f s).alm = s.alm := rfl
@[simp] theorem setStore_host (f : Store → Store) (s : State) : (setStore f s).host = s.host := rfl
@[simp] theorem setStore_sec (f : Store → Store) (s : State) : (setStore f s).sec = s.sec := rfl
@[simp] theorem setStore_mer (f : Store → Store) (s : State) : (setStore f s).mer = s.mer := rfl
@[simp] theorem setStore_prog (f : Store → Store) (s : State) : (setStore f s).prog = s.prog := rfl
@[simp] theorem setStore_strm (f : Store → Store) (s : State) : (setStore f s).strm = s.strm := rfl
@[simp] theorem setStore_tiers (f : Store → Store) (s : State) : (setStore f s).tiers = s.tiers := rfl
@[simp] theorem setStore_rel (f : Store → Store) (s : State) : (setStore f s).rel = s.rel := rfl
@[simp] theorem setStore_time (f : Store → Store) (s : State) : (setStore f s).time = s.time := rfl
@[simp] theorem setStore_sens (f : Store → Store) (s : State) : (setStore f s).sens = s.sens := rfl
@[simp] theorem setStore_boot (f : Store → Store) (s : State) : (setStore f s).boot = s.boot := rfl
@[simp] theorem setStore_pow (f : Store → Store) (s : State) : (setStore f s).pow = s.pow := rfl
@[simp] theorem setStore_fab (f : Store → Store) (s : State) : (setStore f s).fab = s.fab := rfl
@[simp] theorem setStore_num (f : Store → Store) (s : State) : (setStore f s).num = s.num := rfl
@[simp] theorem setStore_stash (f : Store → Store) (s : State) : (setStore f s).stash = s.stash := rfl
@[simp] theorem setStore_phot (f : Store → Store) (s : State) : (setStore f s).phot = s.phot := rfl
@[simp] theorem setStore_spec (f : Store → Store) (s : State) : (setStore f s).spec = s.spec := rfl
@[simp] theorem setStore_ephem (f : Store → Store) (s : State) : (setStore f s).ephem = s.ephem := rfl
@[simp] theorem setStore_store (f : Store → Store) (s : State) : (setStore f s).store = f s.store := rfl

/-! `setReport`. -/

@[simp] theorem setReport_pending (f : Report → Report) (s : State) : (setReport f s).pending = s.pending := rfl
@[simp] theorem setReport_sent (f : Report → Report) (s : State) : (setReport f s).sent = s.sent := rfl
@[simp] theorem setReport_free (f : Report → Report) (s : State) : (setReport f s).free = s.free := rfl
@[simp] theorem setReport_mem (f : Report → Report) (s : State) : (setReport f s).mem = s.mem := rfl
@[simp] theorem setReport_sems (f : Report → Report) (s : State) : (setReport f s).sems = s.sems := rfl
@[simp] theorem setReport_ctr (f : Report → Report) (s : State) : (setReport f s).ctr = s.ctr := rfl
@[simp] theorem setReport_alm (f : Report → Report) (s : State) : (setReport f s).alm = s.alm := rfl
@[simp] theorem setReport_host (f : Report → Report) (s : State) : (setReport f s).host = s.host := rfl
@[simp] theorem setReport_sec (f : Report → Report) (s : State) : (setReport f s).sec = s.sec := rfl
@[simp] theorem setReport_mer (f : Report → Report) (s : State) : (setReport f s).mer = s.mer := rfl
@[simp] theorem setReport_prog (f : Report → Report) (s : State) : (setReport f s).prog = s.prog := rfl
@[simp] theorem setReport_strm (f : Report → Report) (s : State) : (setReport f s).strm = s.strm := rfl
@[simp] theorem setReport_tiers (f : Report → Report) (s : State) : (setReport f s).tiers = s.tiers := rfl
@[simp] theorem setReport_rel (f : Report → Report) (s : State) : (setReport f s).rel = s.rel := rfl
@[simp] theorem setReport_time (f : Report → Report) (s : State) : (setReport f s).time = s.time := rfl
@[simp] theorem setReport_sens (f : Report → Report) (s : State) : (setReport f s).sens = s.sens := rfl
@[simp] theorem setReport_boot (f : Report → Report) (s : State) : (setReport f s).boot = { s.boot with report := f s.boot.report } := rfl
@[simp] theorem setReport_pow (f : Report → Report) (s : State) : (setReport f s).pow = s.pow := rfl
@[simp] theorem setReport_fab (f : Report → Report) (s : State) : (setReport f s).fab = s.fab := rfl
@[simp] theorem setReport_num (f : Report → Report) (s : State) : (setReport f s).num = s.num := rfl
@[simp] theorem setReport_stash (f : Report → Report) (s : State) : (setReport f s).stash = s.stash := rfl
@[simp] theorem setReport_phot (f : Report → Report) (s : State) : (setReport f s).phot = s.phot := rfl
@[simp] theorem setReport_spec (f : Report → Report) (s : State) : (setReport f s).spec = s.spec := rfl
@[simp] theorem setReport_ephem (f : Report → Report) (s : State) : (setReport f s).ephem = s.ephem := rfl
@[simp] theorem setReport_store (f : Report → Report) (s : State) : (setReport f s).store = s.store := rfl

/-! `setRun`. -/

@[simp] theorem setRun_pending (f : BootRun → BootRun) (s : State) : (setRun f s).pending = s.pending := rfl
@[simp] theorem setRun_sent (f : BootRun → BootRun) (s : State) : (setRun f s).sent = s.sent := rfl
@[simp] theorem setRun_free (f : BootRun → BootRun) (s : State) : (setRun f s).free = s.free := rfl
@[simp] theorem setRun_mem (f : BootRun → BootRun) (s : State) : (setRun f s).mem = s.mem := rfl
@[simp] theorem setRun_sems (f : BootRun → BootRun) (s : State) : (setRun f s).sems = s.sems := rfl
@[simp] theorem setRun_ctr (f : BootRun → BootRun) (s : State) : (setRun f s).ctr = s.ctr := rfl
@[simp] theorem setRun_alm (f : BootRun → BootRun) (s : State) : (setRun f s).alm = s.alm := rfl
@[simp] theorem setRun_host (f : BootRun → BootRun) (s : State) : (setRun f s).host = s.host := rfl
@[simp] theorem setRun_sec (f : BootRun → BootRun) (s : State) : (setRun f s).sec = s.sec := rfl
@[simp] theorem setRun_mer (f : BootRun → BootRun) (s : State) : (setRun f s).mer = s.mer := rfl
@[simp] theorem setRun_prog (f : BootRun → BootRun) (s : State) : (setRun f s).prog = s.prog := rfl
@[simp] theorem setRun_strm (f : BootRun → BootRun) (s : State) : (setRun f s).strm = s.strm := rfl
@[simp] theorem setRun_tiers (f : BootRun → BootRun) (s : State) : (setRun f s).tiers = s.tiers := rfl
@[simp] theorem setRun_rel (f : BootRun → BootRun) (s : State) : (setRun f s).rel = s.rel := rfl
@[simp] theorem setRun_time (f : BootRun → BootRun) (s : State) : (setRun f s).time = s.time := rfl
@[simp] theorem setRun_sens (f : BootRun → BootRun) (s : State) : (setRun f s).sens = s.sens := rfl
@[simp] theorem setRun_boot (f : BootRun → BootRun) (s : State) : (setRun f s).boot = { s.boot with run := s.boot.run.map f } := rfl
@[simp] theorem setRun_pow (f : BootRun → BootRun) (s : State) : (setRun f s).pow = s.pow := rfl
@[simp] theorem setRun_fab (f : BootRun → BootRun) (s : State) : (setRun f s).fab = s.fab := rfl
@[simp] theorem setRun_num (f : BootRun → BootRun) (s : State) : (setRun f s).num = s.num := rfl
@[simp] theorem setRun_stash (f : BootRun → BootRun) (s : State) : (setRun f s).stash = s.stash := rfl
@[simp] theorem setRun_phot (f : BootRun → BootRun) (s : State) : (setRun f s).phot = s.phot := rfl
@[simp] theorem setRun_spec (f : BootRun → BootRun) (s : State) : (setRun f s).spec = s.spec := rfl
@[simp] theorem setRun_ephem (f : BootRun → BootRun) (s : State) : (setRun f s).ephem = s.ephem := rfl
@[simp] theorem setRun_store (f : BootRun → BootRun) (s : State) : (setRun f s).store = s.store := rfl

/-! `setSlice`. -/

@[simp] theorem setSlice_pending (x : Slice) (s : State) : (setSlice x s).pending = s.pending := rfl
@[simp] theorem setSlice_sent (x : Slice) (s : State) : (setSlice x s).sent = s.sent := rfl
@[simp] theorem setSlice_free (x : Slice) (s : State) : (setSlice x s).free = s.free := rfl
@[simp] theorem setSlice_mem (x : Slice) (s : State) : (setSlice x s).mem = s.mem := rfl
@[simp] theorem setSlice_sems (x : Slice) (s : State) : (setSlice x s).sems = s.sems := rfl
@[simp] theorem setSlice_ctr (x : Slice) (s : State) : (setSlice x s).ctr = s.ctr := rfl
@[simp] theorem setSlice_alm (x : Slice) (s : State) : (setSlice x s).alm = s.alm := rfl
@[simp] theorem setSlice_host (x : Slice) (s : State) : (setSlice x s).host = s.host := rfl
@[simp] theorem setSlice_sec (x : Slice) (s : State) : (setSlice x s).sec = s.sec := rfl
@[simp] theorem setSlice_mer (x : Slice) (s : State) : (setSlice x s).mer = s.mer := rfl
@[simp] theorem setSlice_prog (x : Slice) (s : State) : (setSlice x s).prog = s.prog := rfl
@[simp] theorem setSlice_strm (x : Slice) (s : State) : (setSlice x s).strm = s.strm := rfl
@[simp] theorem setSlice_tiers (x : Slice) (s : State) : (setSlice x s).tiers = s.tiers := rfl
@[simp] theorem setSlice_rel (x : Slice) (s : State) : (setSlice x s).rel = s.rel := rfl
@[simp] theorem setSlice_time (x : Slice) (s : State) : (setSlice x s).time = s.time := rfl
@[simp] theorem setSlice_sens (x : Slice) (s : State) : (setSlice x s).sens = s.sens := rfl
@[simp] theorem setSlice_boot (x : Slice) (s : State) : (setSlice x s).boot = { s.boot with slice := some x } := rfl
@[simp] theorem setSlice_pow (x : Slice) (s : State) : (setSlice x s).pow = s.pow := rfl
@[simp] theorem setSlice_fab (x : Slice) (s : State) : (setSlice x s).fab = s.fab := rfl
@[simp] theorem setSlice_num (x : Slice) (s : State) : (setSlice x s).num = s.num := rfl
@[simp] theorem setSlice_stash (x : Slice) (s : State) : (setSlice x s).stash = s.stash := rfl
@[simp] theorem setSlice_phot (x : Slice) (s : State) : (setSlice x s).phot = s.phot := rfl
@[simp] theorem setSlice_spec (x : Slice) (s : State) : (setSlice x s).spec = s.spec := rfl
@[simp] theorem setSlice_ephem (x : Slice) (s : State) : (setSlice x s).ephem = s.ephem := rfl
@[simp] theorem setSlice_store (x : Slice) (s : State) : (setSlice x s).store = s.store := rfl

/-! `startFill`. -/

@[simp] theorem startFill_pending (t : Nat) (y : FillWhy) (s : State) : (startFill t y s).pending = s.pending := rfl
@[simp] theorem startFill_sent (t : Nat) (y : FillWhy) (s : State) : (startFill t y s).sent = s.sent := rfl
@[simp] theorem startFill_free (t : Nat) (y : FillWhy) (s : State) : (startFill t y s).free = s.free := rfl
@[simp] theorem startFill_mem (t : Nat) (y : FillWhy) (s : State) : (startFill t y s).mem = s.mem := rfl
@[simp] theorem startFill_sems (t : Nat) (y : FillWhy) (s : State) : (startFill t y s).sems = s.sems := rfl
@[simp] theorem startFill_ctr (t : Nat) (y : FillWhy) (s : State) : (startFill t y s).ctr = s.ctr := rfl
@[simp] theorem startFill_alm (t : Nat) (y : FillWhy) (s : State) : (startFill t y s).alm = s.alm := rfl
@[simp] theorem startFill_host (t : Nat) (y : FillWhy) (s : State) : (startFill t y s).host = s.host := rfl
@[simp] theorem startFill_sec (t : Nat) (y : FillWhy) (s : State) : (startFill t y s).sec = s.sec := rfl
@[simp] theorem startFill_mer (t : Nat) (y : FillWhy) (s : State) : (startFill t y s).mer = s.mer := rfl
@[simp] theorem startFill_prog (t : Nat) (y : FillWhy) (s : State) : (startFill t y s).prog = s.prog := rfl
@[simp] theorem startFill_strm (t : Nat) (y : FillWhy) (s : State) : (startFill t y s).strm = s.strm := rfl
@[simp] theorem startFill_tiers (t : Nat) (y : FillWhy) (s : State) : (startFill t y s).tiers = { s.tiers with fills := kvSet t y s.tiers.fills } := rfl
@[simp] theorem startFill_rel (t : Nat) (y : FillWhy) (s : State) : (startFill t y s).rel = s.rel := rfl
@[simp] theorem startFill_time (t : Nat) (y : FillWhy) (s : State) : (startFill t y s).time = s.time := rfl
@[simp] theorem startFill_sens (t : Nat) (y : FillWhy) (s : State) : (startFill t y s).sens = s.sens := rfl
@[simp] theorem startFill_boot (t : Nat) (y : FillWhy) (s : State) : (startFill t y s).boot = s.boot := rfl
@[simp] theorem startFill_pow (t : Nat) (y : FillWhy) (s : State) : (startFill t y s).pow = s.pow := rfl
@[simp] theorem startFill_fab (t : Nat) (y : FillWhy) (s : State) : (startFill t y s).fab = s.fab := rfl
@[simp] theorem startFill_num (t : Nat) (y : FillWhy) (s : State) : (startFill t y s).num = s.num := rfl
@[simp] theorem startFill_stash (t : Nat) (y : FillWhy) (s : State) : (startFill t y s).stash = s.stash := rfl
@[simp] theorem startFill_phot (t : Nat) (y : FillWhy) (s : State) : (startFill t y s).phot = s.phot := rfl
@[simp] theorem startFill_spec (t : Nat) (y : FillWhy) (s : State) : (startFill t y s).spec = s.spec := rfl
@[simp] theorem startFill_ephem (t : Nat) (y : FillWhy) (s : State) : (startFill t y s).ephem = s.ephem := rfl
@[simp] theorem startFill_store (t : Nat) (y : FillWhy) (s : State) : (startFill t y s).store = s.store := rfl

/-! `setTask`. -/

@[simp] theorem setTask_pending (t : Nat) (f : Task → Task) (s : State) : (setTask t f s).pending = s.pending := rfl
@[simp] theorem setTask_sent (t : Nat) (f : Task → Task) (s : State) : (setTask t f s).sent = s.sent := rfl
@[simp] theorem setTask_free (t : Nat) (f : Task → Task) (s : State) : (setTask t f s).free = s.free := rfl
@[simp] theorem setTask_mem (t : Nat) (f : Task → Task) (s : State) : (setTask t f s).mem = s.mem := rfl
@[simp] theorem setTask_sems (t : Nat) (f : Task → Task) (s : State) : (setTask t f s).sems = s.sems := rfl
@[simp] theorem setTask_ctr (t : Nat) (f : Task → Task) (s : State) : (setTask t f s).ctr = s.ctr := rfl
@[simp] theorem setTask_alm (t : Nat) (f : Task → Task) (s : State) : (setTask t f s).alm = s.alm := rfl
@[simp] theorem setTask_host (t : Nat) (f : Task → Task) (s : State) : (setTask t f s).host = s.host := rfl
@[simp] theorem setTask_sec (t : Nat) (f : Task → Task) (s : State) : (setTask t f s).sec = s.sec := rfl
@[simp] theorem setTask_prog (t : Nat) (f : Task → Task) (s : State) : (setTask t f s).prog = s.prog := rfl
@[simp] theorem setTask_strm (t : Nat) (f : Task → Task) (s : State) : (setTask t f s).strm = s.strm := rfl
@[simp] theorem setTask_tiers (t : Nat) (f : Task → Task) (s : State) : (setTask t f s).tiers = s.tiers := rfl
@[simp] theorem setTask_rel (t : Nat) (f : Task → Task) (s : State) : (setTask t f s).rel = s.rel := rfl
@[simp] theorem setTask_time (t : Nat) (f : Task → Task) (s : State) : (setTask t f s).time = s.time := rfl
@[simp] theorem setTask_sens (t : Nat) (f : Task → Task) (s : State) : (setTask t f s).sens = s.sens := rfl
@[simp] theorem setTask_boot (t : Nat) (f : Task → Task) (s : State) : (setTask t f s).boot = s.boot := rfl
@[simp] theorem setTask_pow (t : Nat) (f : Task → Task) (s : State) : (setTask t f s).pow = s.pow := rfl
@[simp] theorem setTask_fab (t : Nat) (f : Task → Task) (s : State) : (setTask t f s).fab = s.fab := rfl
@[simp] theorem setTask_num (t : Nat) (f : Task → Task) (s : State) : (setTask t f s).num = s.num := rfl
@[simp] theorem setTask_stash (t : Nat) (f : Task → Task) (s : State) : (setTask t f s).stash = s.stash := rfl
@[simp] theorem setTask_phot (t : Nat) (f : Task → Task) (s : State) : (setTask t f s).phot = s.phot := rfl
@[simp] theorem setTask_spec (t : Nat) (f : Task → Task) (s : State) : (setTask t f s).spec = s.spec := rfl
@[simp] theorem setTask_ephem (t : Nat) (f : Task → Task) (s : State) : (setTask t f s).ephem = s.ephem := rfl
@[simp] theorem setTask_store (t : Nat) (f : Task → Task) (s : State) : (setTask t f s).store = s.store := rfl

/-! `setStream`. -/

@[simp] theorem setStream_pending (i : Nat) (f : Stream → Stream) (s : State) : (setStream i f s).pending = s.pending := rfl
@[simp] theorem setStream_sent (i : Nat) (f : Stream → Stream) (s : State) : (setStream i f s).sent = s.sent := rfl
@[simp] theorem setStream_free (i : Nat) (f : Stream → Stream) (s : State) : (setStream i f s).free = s.free := rfl
@[simp] theorem setStream_mem (i : Nat) (f : Stream → Stream) (s : State) : (setStream i f s).mem = s.mem := rfl
@[simp] theorem setStream_sems (i : Nat) (f : Stream → Stream) (s : State) : (setStream i f s).sems = s.sems := rfl
@[simp] theorem setStream_ctr (i : Nat) (f : Stream → Stream) (s : State) : (setStream i f s).ctr = s.ctr := rfl
@[simp] theorem setStream_alm (i : Nat) (f : Stream → Stream) (s : State) : (setStream i f s).alm = s.alm := rfl
@[simp] theorem setStream_host (i : Nat) (f : Stream → Stream) (s : State) : (setStream i f s).host = s.host := rfl
@[simp] theorem setStream_sec (i : Nat) (f : Stream → Stream) (s : State) : (setStream i f s).sec = s.sec := rfl
@[simp] theorem setStream_prog (i : Nat) (f : Stream → Stream) (s : State) : (setStream i f s).prog = s.prog := rfl
@[simp] theorem setStream_strm (i : Nat) (f : Stream → Stream) (s : State) : (setStream i f s).strm = s.strm := rfl
@[simp] theorem setStream_tiers (i : Nat) (f : Stream → Stream) (s : State) : (setStream i f s).tiers = s.tiers := rfl
@[simp] theorem setStream_rel (i : Nat) (f : Stream → Stream) (s : State) : (setStream i f s).rel = s.rel := rfl
@[simp] theorem setStream_time (i : Nat) (f : Stream → Stream) (s : State) : (setStream i f s).time = s.time := rfl
@[simp] theorem setStream_sens (i : Nat) (f : Stream → Stream) (s : State) : (setStream i f s).sens = s.sens := rfl
@[simp] theorem setStream_boot (i : Nat) (f : Stream → Stream) (s : State) : (setStream i f s).boot = s.boot := rfl
@[simp] theorem setStream_pow (i : Nat) (f : Stream → Stream) (s : State) : (setStream i f s).pow = s.pow := rfl
@[simp] theorem setStream_fab (i : Nat) (f : Stream → Stream) (s : State) : (setStream i f s).fab = s.fab := rfl
@[simp] theorem setStream_num (i : Nat) (f : Stream → Stream) (s : State) : (setStream i f s).num = s.num := rfl
@[simp] theorem setStream_stash (i : Nat) (f : Stream → Stream) (s : State) : (setStream i f s).stash = s.stash := rfl
@[simp] theorem setStream_phot (i : Nat) (f : Stream → Stream) (s : State) : (setStream i f s).phot = s.phot := rfl
@[simp] theorem setStream_spec (i : Nat) (f : Stream → Stream) (s : State) : (setStream i f s).spec = s.spec := rfl
@[simp] theorem setStream_ephem (i : Nat) (f : Stream → Stream) (s : State) : (setStream i f s).ephem = s.ephem := rfl
@[simp] theorem setStream_store (i : Nat) (f : Stream → Stream) (s : State) : (setStream i f s).store = s.store := rfl

/-! `setQueue`. -/

@[simp] theorem setQueue_pending (q : Nat) (f : Queue → Queue) (s : State) : (setQueue q f s).pending = s.pending := rfl
@[simp] theorem setQueue_sent (q : Nat) (f : Queue → Queue) (s : State) : (setQueue q f s).sent = s.sent := rfl
@[simp] theorem setQueue_free (q : Nat) (f : Queue → Queue) (s : State) : (setQueue q f s).free = s.free := rfl
@[simp] theorem setQueue_mem (q : Nat) (f : Queue → Queue) (s : State) : (setQueue q f s).mem = s.mem := rfl
@[simp] theorem setQueue_sems (q : Nat) (f : Queue → Queue) (s : State) : (setQueue q f s).sems = s.sems := rfl
@[simp] theorem setQueue_ctr (q : Nat) (f : Queue → Queue) (s : State) : (setQueue q f s).ctr = s.ctr := rfl
@[simp] theorem setQueue_alm (q : Nat) (f : Queue → Queue) (s : State) : (setQueue q f s).alm = s.alm := rfl
@[simp] theorem setQueue_host (q : Nat) (f : Queue → Queue) (s : State) : (setQueue q f s).host = s.host := rfl
@[simp] theorem setQueue_sec (q : Nat) (f : Queue → Queue) (s : State) : (setQueue q f s).sec = s.sec := rfl
@[simp] theorem setQueue_prog (q : Nat) (f : Queue → Queue) (s : State) : (setQueue q f s).prog = s.prog := rfl
@[simp] theorem setQueue_strm (q : Nat) (f : Queue → Queue) (s : State) : (setQueue q f s).strm = s.strm := rfl
@[simp] theorem setQueue_tiers (q : Nat) (f : Queue → Queue) (s : State) : (setQueue q f s).tiers = s.tiers := rfl
@[simp] theorem setQueue_rel (q : Nat) (f : Queue → Queue) (s : State) : (setQueue q f s).rel = s.rel := rfl
@[simp] theorem setQueue_time (q : Nat) (f : Queue → Queue) (s : State) : (setQueue q f s).time = s.time := rfl
@[simp] theorem setQueue_sens (q : Nat) (f : Queue → Queue) (s : State) : (setQueue q f s).sens = s.sens := rfl
@[simp] theorem setQueue_boot (q : Nat) (f : Queue → Queue) (s : State) : (setQueue q f s).boot = s.boot := rfl
@[simp] theorem setQueue_pow (q : Nat) (f : Queue → Queue) (s : State) : (setQueue q f s).pow = s.pow := rfl
@[simp] theorem setQueue_fab (q : Nat) (f : Queue → Queue) (s : State) : (setQueue q f s).fab = s.fab := rfl
@[simp] theorem setQueue_num (q : Nat) (f : Queue → Queue) (s : State) : (setQueue q f s).num = s.num := rfl
@[simp] theorem setQueue_stash (q : Nat) (f : Queue → Queue) (s : State) : (setQueue q f s).stash = s.stash := rfl
@[simp] theorem setQueue_phot (q : Nat) (f : Queue → Queue) (s : State) : (setQueue q f s).phot = s.phot := rfl
@[simp] theorem setQueue_spec (q : Nat) (f : Queue → Queue) (s : State) : (setQueue q f s).spec = s.spec := rfl
@[simp] theorem setQueue_ephem (q : Nat) (f : Queue → Queue) (s : State) : (setQueue q f s).ephem = s.ephem := rfl
@[simp] theorem setQueue_store (q : Nat) (f : Queue → Queue) (s : State) : (setQueue q f s).store = s.store := rfl

/-! `setEntry`. -/

@[simp] theorem setEntry_pending (k : Nat) (f : StashEntry → StashEntry) (s : State) : (setEntry k f s).pending = s.pending := rfl
@[simp] theorem setEntry_sent (k : Nat) (f : StashEntry → StashEntry) (s : State) : (setEntry k f s).sent = s.sent := rfl
@[simp] theorem setEntry_free (k : Nat) (f : StashEntry → StashEntry) (s : State) : (setEntry k f s).free = s.free := rfl
@[simp] theorem setEntry_mem (k : Nat) (f : StashEntry → StashEntry) (s : State) : (setEntry k f s).mem = s.mem := rfl
@[simp] theorem setEntry_sems (k : Nat) (f : StashEntry → StashEntry) (s : State) : (setEntry k f s).sems = s.sems := rfl
@[simp] theorem setEntry_ctr (k : Nat) (f : StashEntry → StashEntry) (s : State) : (setEntry k f s).ctr = s.ctr := rfl
@[simp] theorem setEntry_alm (k : Nat) (f : StashEntry → StashEntry) (s : State) : (setEntry k f s).alm = s.alm := rfl
@[simp] theorem setEntry_host (k : Nat) (f : StashEntry → StashEntry) (s : State) : (setEntry k f s).host = s.host := rfl
@[simp] theorem setEntry_sec (k : Nat) (f : StashEntry → StashEntry) (s : State) : (setEntry k f s).sec = s.sec := rfl
@[simp] theorem setEntry_mer (k : Nat) (f : StashEntry → StashEntry) (s : State) : (setEntry k f s).mer = s.mer := rfl
@[simp] theorem setEntry_prog (k : Nat) (f : StashEntry → StashEntry) (s : State) : (setEntry k f s).prog = s.prog := rfl
@[simp] theorem setEntry_strm (k : Nat) (f : StashEntry → StashEntry) (s : State) : (setEntry k f s).strm = s.strm := rfl
@[simp] theorem setEntry_tiers (k : Nat) (f : StashEntry → StashEntry) (s : State) : (setEntry k f s).tiers = s.tiers := rfl
@[simp] theorem setEntry_rel (k : Nat) (f : StashEntry → StashEntry) (s : State) : (setEntry k f s).rel = s.rel := rfl
@[simp] theorem setEntry_time (k : Nat) (f : StashEntry → StashEntry) (s : State) : (setEntry k f s).time = s.time := rfl
@[simp] theorem setEntry_sens (k : Nat) (f : StashEntry → StashEntry) (s : State) : (setEntry k f s).sens = s.sens := rfl
@[simp] theorem setEntry_boot (k : Nat) (f : StashEntry → StashEntry) (s : State) : (setEntry k f s).boot = s.boot := rfl
@[simp] theorem setEntry_pow (k : Nat) (f : StashEntry → StashEntry) (s : State) : (setEntry k f s).pow = s.pow := rfl
@[simp] theorem setEntry_fab (k : Nat) (f : StashEntry → StashEntry) (s : State) : (setEntry k f s).fab = s.fab := rfl
@[simp] theorem setEntry_num (k : Nat) (f : StashEntry → StashEntry) (s : State) : (setEntry k f s).num = s.num := rfl
@[simp] theorem setEntry_phot (k : Nat) (f : StashEntry → StashEntry) (s : State) : (setEntry k f s).phot = s.phot := rfl
@[simp] theorem setEntry_spec (k : Nat) (f : StashEntry → StashEntry) (s : State) : (setEntry k f s).spec = s.spec := rfl
@[simp] theorem setEntry_ephem (k : Nat) (f : StashEntry → StashEntry) (s : State) : (setEntry k f s).ephem = s.ephem := rfl
@[simp] theorem setEntry_store (k : Nat) (f : StashEntry → StashEntry) (s : State) : (setEntry k f s).store = s.store := rfl

/-! `setGuard`. -/

@[simp] theorem setGuard_pending (k : Nat) (f : Guard → Guard) (s : State) : (setGuard k f s).pending = s.pending := rfl
@[simp] theorem setGuard_sent (k : Nat) (f : Guard → Guard) (s : State) : (setGuard k f s).sent = s.sent := rfl
@[simp] theorem setGuard_free (k : Nat) (f : Guard → Guard) (s : State) : (setGuard k f s).free = s.free := rfl
@[simp] theorem setGuard_mem (k : Nat) (f : Guard → Guard) (s : State) : (setGuard k f s).mem = s.mem := rfl
@[simp] theorem setGuard_sems (k : Nat) (f : Guard → Guard) (s : State) : (setGuard k f s).sems = s.sems := rfl
@[simp] theorem setGuard_ctr (k : Nat) (f : Guard → Guard) (s : State) : (setGuard k f s).ctr = s.ctr := rfl
@[simp] theorem setGuard_alm (k : Nat) (f : Guard → Guard) (s : State) : (setGuard k f s).alm = s.alm := rfl
@[simp] theorem setGuard_host (k : Nat) (f : Guard → Guard) (s : State) : (setGuard k f s).host = s.host := rfl
@[simp] theorem setGuard_sec (k : Nat) (f : Guard → Guard) (s : State) : (setGuard k f s).sec = s.sec := rfl
@[simp] theorem setGuard_mer (k : Nat) (f : Guard → Guard) (s : State) : (setGuard k f s).mer = s.mer := rfl
@[simp] theorem setGuard_prog (k : Nat) (f : Guard → Guard) (s : State) : (setGuard k f s).prog = s.prog := rfl
@[simp] theorem setGuard_strm (k : Nat) (f : Guard → Guard) (s : State) : (setGuard k f s).strm = s.strm := rfl
@[simp] theorem setGuard_tiers (k : Nat) (f : Guard → Guard) (s : State) : (setGuard k f s).tiers = s.tiers := rfl
@[simp] theorem setGuard_rel (k : Nat) (f : Guard → Guard) (s : State) : (setGuard k f s).rel = s.rel := rfl
@[simp] theorem setGuard_time (k : Nat) (f : Guard → Guard) (s : State) : (setGuard k f s).time = s.time := rfl
@[simp] theorem setGuard_sens (k : Nat) (f : Guard → Guard) (s : State) : (setGuard k f s).sens = s.sens := rfl
@[simp] theorem setGuard_boot (k : Nat) (f : Guard → Guard) (s : State) : (setGuard k f s).boot = s.boot := rfl
@[simp] theorem setGuard_pow (k : Nat) (f : Guard → Guard) (s : State) : (setGuard k f s).pow = s.pow := rfl
@[simp] theorem setGuard_fab (k : Nat) (f : Guard → Guard) (s : State) : (setGuard k f s).fab = s.fab := rfl
@[simp] theorem setGuard_stash (k : Nat) (f : Guard → Guard) (s : State) : (setGuard k f s).stash = s.stash := rfl
@[simp] theorem setGuard_phot (k : Nat) (f : Guard → Guard) (s : State) : (setGuard k f s).phot = s.phot := rfl
@[simp] theorem setGuard_spec (k : Nat) (f : Guard → Guard) (s : State) : (setGuard k f s).spec = s.spec := rfl
@[simp] theorem setGuard_ephem (k : Nat) (f : Guard → Guard) (s : State) : (setGuard k f s).ephem = s.ephem := rfl
@[simp] theorem setGuard_store (k : Nat) (f : Guard → Guard) (s : State) : (setGuard k f s).store = s.store := rfl

/-! `setComm`. -/

@[simp] theorem setComm_pending (k : Nat) (f : Comm → Comm) (s : State) : (setComm k f s).pending = s.pending := rfl
@[simp] theorem setComm_sent (k : Nat) (f : Comm → Comm) (s : State) : (setComm k f s).sent = s.sent := rfl
@[simp] theorem setComm_free (k : Nat) (f : Comm → Comm) (s : State) : (setComm k f s).free = s.free := rfl
@[simp] theorem setComm_mem (k : Nat) (f : Comm → Comm) (s : State) : (setComm k f s).mem = s.mem := rfl
@[simp] theorem setComm_sems (k : Nat) (f : Comm → Comm) (s : State) : (setComm k f s).sems = s.sems := rfl
@[simp] theorem setComm_ctr (k : Nat) (f : Comm → Comm) (s : State) : (setComm k f s).ctr = s.ctr := rfl
@[simp] theorem setComm_alm (k : Nat) (f : Comm → Comm) (s : State) : (setComm k f s).alm = s.alm := rfl
@[simp] theorem setComm_host (k : Nat) (f : Comm → Comm) (s : State) : (setComm k f s).host = s.host := rfl
@[simp] theorem setComm_sec (k : Nat) (f : Comm → Comm) (s : State) : (setComm k f s).sec = s.sec := rfl
@[simp] theorem setComm_mer (k : Nat) (f : Comm → Comm) (s : State) : (setComm k f s).mer = s.mer := rfl
@[simp] theorem setComm_prog (k : Nat) (f : Comm → Comm) (s : State) : (setComm k f s).prog = s.prog := rfl
@[simp] theorem setComm_strm (k : Nat) (f : Comm → Comm) (s : State) : (setComm k f s).strm = s.strm := rfl
@[simp] theorem setComm_tiers (k : Nat) (f : Comm → Comm) (s : State) : (setComm k f s).tiers = s.tiers := rfl
@[simp] theorem setComm_rel (k : Nat) (f : Comm → Comm) (s : State) : (setComm k f s).rel = s.rel := rfl
@[simp] theorem setComm_time (k : Nat) (f : Comm → Comm) (s : State) : (setComm k f s).time = s.time := rfl
@[simp] theorem setComm_sens (k : Nat) (f : Comm → Comm) (s : State) : (setComm k f s).sens = s.sens := rfl
@[simp] theorem setComm_boot (k : Nat) (f : Comm → Comm) (s : State) : (setComm k f s).boot = s.boot := rfl
@[simp] theorem setComm_pow (k : Nat) (f : Comm → Comm) (s : State) : (setComm k f s).pow = s.pow := rfl
@[simp] theorem setComm_num (k : Nat) (f : Comm → Comm) (s : State) : (setComm k f s).num = s.num := rfl
@[simp] theorem setComm_stash (k : Nat) (f : Comm → Comm) (s : State) : (setComm k f s).stash = s.stash := rfl
@[simp] theorem setComm_phot (k : Nat) (f : Comm → Comm) (s : State) : (setComm k f s).phot = s.phot := rfl
@[simp] theorem setComm_spec (k : Nat) (f : Comm → Comm) (s : State) : (setComm k f s).spec = s.spec := rfl
@[simp] theorem setComm_ephem (k : Nat) (f : Comm → Comm) (s : State) : (setComm k f s).ephem = s.ephem := rfl
@[simp] theorem setComm_store (k : Nat) (f : Comm → Comm) (s : State) : (setComm k f s).store = s.store := rfl

/-! `setColl`. -/

@[simp] theorem setColl_pending (k : Nat) (f : Coll → Coll) (s : State) : (setColl k f s).pending = s.pending := rfl
@[simp] theorem setColl_sent (k : Nat) (f : Coll → Coll) (s : State) : (setColl k f s).sent = s.sent := rfl
@[simp] theorem setColl_free (k : Nat) (f : Coll → Coll) (s : State) : (setColl k f s).free = s.free := rfl
@[simp] theorem setColl_mem (k : Nat) (f : Coll → Coll) (s : State) : (setColl k f s).mem = s.mem := rfl
@[simp] theorem setColl_sems (k : Nat) (f : Coll → Coll) (s : State) : (setColl k f s).sems = s.sems := rfl
@[simp] theorem setColl_ctr (k : Nat) (f : Coll → Coll) (s : State) : (setColl k f s).ctr = s.ctr := rfl
@[simp] theorem setColl_alm (k : Nat) (f : Coll → Coll) (s : State) : (setColl k f s).alm = s.alm := rfl
@[simp] theorem setColl_host (k : Nat) (f : Coll → Coll) (s : State) : (setColl k f s).host = s.host := rfl
@[simp] theorem setColl_sec (k : Nat) (f : Coll → Coll) (s : State) : (setColl k f s).sec = s.sec := rfl
@[simp] theorem setColl_mer (k : Nat) (f : Coll → Coll) (s : State) : (setColl k f s).mer = s.mer := rfl
@[simp] theorem setColl_prog (k : Nat) (f : Coll → Coll) (s : State) : (setColl k f s).prog = s.prog := rfl
@[simp] theorem setColl_strm (k : Nat) (f : Coll → Coll) (s : State) : (setColl k f s).strm = s.strm := rfl
@[simp] theorem setColl_tiers (k : Nat) (f : Coll → Coll) (s : State) : (setColl k f s).tiers = s.tiers := rfl
@[simp] theorem setColl_rel (k : Nat) (f : Coll → Coll) (s : State) : (setColl k f s).rel = s.rel := rfl
@[simp] theorem setColl_time (k : Nat) (f : Coll → Coll) (s : State) : (setColl k f s).time = s.time := rfl
@[simp] theorem setColl_sens (k : Nat) (f : Coll → Coll) (s : State) : (setColl k f s).sens = s.sens := rfl
@[simp] theorem setColl_boot (k : Nat) (f : Coll → Coll) (s : State) : (setColl k f s).boot = s.boot := rfl
@[simp] theorem setColl_pow (k : Nat) (f : Coll → Coll) (s : State) : (setColl k f s).pow = s.pow := rfl
@[simp] theorem setColl_num (k : Nat) (f : Coll → Coll) (s : State) : (setColl k f s).num = s.num := rfl
@[simp] theorem setColl_stash (k : Nat) (f : Coll → Coll) (s : State) : (setColl k f s).stash = s.stash := rfl
@[simp] theorem setColl_phot (k : Nat) (f : Coll → Coll) (s : State) : (setColl k f s).phot = s.phot := rfl
@[simp] theorem setColl_spec (k : Nat) (f : Coll → Coll) (s : State) : (setColl k f s).spec = s.spec := rfl
@[simp] theorem setColl_ephem (k : Nat) (f : Coll → Coll) (s : State) : (setColl k f s).ephem = s.ephem := rfl
@[simp] theorem setColl_store (k : Nat) (f : Coll → Coll) (s : State) : (setColl k f s).store = s.store := rfl

/-! `setPortAt`. -/

@[simp] theorem setPortAt_pending (k : Nat) (f : Port → Port) (s : State) : (setPortAt k f s).pending = s.pending := rfl
@[simp] theorem setPortAt_sent (k : Nat) (f : Port → Port) (s : State) : (setPortAt k f s).sent = s.sent := rfl
@[simp] theorem setPortAt_free (k : Nat) (f : Port → Port) (s : State) : (setPortAt k f s).free = s.free := rfl
@[simp] theorem setPortAt_mem (k : Nat) (f : Port → Port) (s : State) : (setPortAt k f s).mem = s.mem := rfl
@[simp] theorem setPortAt_sems (k : Nat) (f : Port → Port) (s : State) : (setPortAt k f s).sems = s.sems := rfl
@[simp] theorem setPortAt_ctr (k : Nat) (f : Port → Port) (s : State) : (setPortAt k f s).ctr = s.ctr := rfl
@[simp] theorem setPortAt_alm (k : Nat) (f : Port → Port) (s : State) : (setPortAt k f s).alm = s.alm := rfl
@[simp] theorem setPortAt_host (k : Nat) (f : Port → Port) (s : State) : (setPortAt k f s).host = s.host := rfl
@[simp] theorem setPortAt_sec (k : Nat) (f : Port → Port) (s : State) : (setPortAt k f s).sec = s.sec := rfl
@[simp] theorem setPortAt_mer (k : Nat) (f : Port → Port) (s : State) : (setPortAt k f s).mer = s.mer := rfl
@[simp] theorem setPortAt_prog (k : Nat) (f : Port → Port) (s : State) : (setPortAt k f s).prog = s.prog := rfl
@[simp] theorem setPortAt_strm (k : Nat) (f : Port → Port) (s : State) : (setPortAt k f s).strm = s.strm := rfl
@[simp] theorem setPortAt_tiers (k : Nat) (f : Port → Port) (s : State) : (setPortAt k f s).tiers = s.tiers := rfl
@[simp] theorem setPortAt_rel (k : Nat) (f : Port → Port) (s : State) : (setPortAt k f s).rel = s.rel := rfl
@[simp] theorem setPortAt_time (k : Nat) (f : Port → Port) (s : State) : (setPortAt k f s).time = s.time := rfl
@[simp] theorem setPortAt_sens (k : Nat) (f : Port → Port) (s : State) : (setPortAt k f s).sens = s.sens := rfl
@[simp] theorem setPortAt_boot (k : Nat) (f : Port → Port) (s : State) : (setPortAt k f s).boot = s.boot := rfl
@[simp] theorem setPortAt_pow (k : Nat) (f : Port → Port) (s : State) : (setPortAt k f s).pow = s.pow := rfl
@[simp] theorem setPortAt_num (k : Nat) (f : Port → Port) (s : State) : (setPortAt k f s).num = s.num := rfl
@[simp] theorem setPortAt_stash (k : Nat) (f : Port → Port) (s : State) : (setPortAt k f s).stash = s.stash := rfl
@[simp] theorem setPortAt_phot (k : Nat) (f : Port → Port) (s : State) : (setPortAt k f s).phot = s.phot := rfl
@[simp] theorem setPortAt_spec (k : Nat) (f : Port → Port) (s : State) : (setPortAt k f s).spec = s.spec := rfl
@[simp] theorem setPortAt_ephem (k : Nat) (f : Port → Port) (s : State) : (setPortAt k f s).ephem = s.ephem := rfl
@[simp] theorem setPortAt_store (k : Nat) (f : Port → Port) (s : State) : (setPortAt k f s).store = s.store := rfl

/-! `setSlot`. -/

@[simp] theorem setSlot_pending (k : Nat) (f : FactorSlot → FactorSlot) (s : State) : (setSlot k f s).pending = s.pending := rfl
@[simp] theorem setSlot_sent (k : Nat) (f : FactorSlot → FactorSlot) (s : State) : (setSlot k f s).sent = s.sent := rfl
@[simp] theorem setSlot_free (k : Nat) (f : FactorSlot → FactorSlot) (s : State) : (setSlot k f s).free = s.free := rfl
@[simp] theorem setSlot_mem (k : Nat) (f : FactorSlot → FactorSlot) (s : State) : (setSlot k f s).mem = s.mem := rfl
@[simp] theorem setSlot_sems (k : Nat) (f : FactorSlot → FactorSlot) (s : State) : (setSlot k f s).sems = s.sems := rfl
@[simp] theorem setSlot_ctr (k : Nat) (f : FactorSlot → FactorSlot) (s : State) : (setSlot k f s).ctr = s.ctr := rfl
@[simp] theorem setSlot_alm (k : Nat) (f : FactorSlot → FactorSlot) (s : State) : (setSlot k f s).alm = s.alm := rfl
@[simp] theorem setSlot_host (k : Nat) (f : FactorSlot → FactorSlot) (s : State) : (setSlot k f s).host = s.host := rfl
@[simp] theorem setSlot_sec (k : Nat) (f : FactorSlot → FactorSlot) (s : State) : (setSlot k f s).sec = s.sec := rfl
@[simp] theorem setSlot_mer (k : Nat) (f : FactorSlot → FactorSlot) (s : State) : (setSlot k f s).mer = s.mer := rfl
@[simp] theorem setSlot_prog (k : Nat) (f : FactorSlot → FactorSlot) (s : State) : (setSlot k f s).prog = s.prog := rfl
@[simp] theorem setSlot_strm (k : Nat) (f : FactorSlot → FactorSlot) (s : State) : (setSlot k f s).strm = s.strm := rfl
@[simp] theorem setSlot_tiers (k : Nat) (f : FactorSlot → FactorSlot) (s : State) : (setSlot k f s).tiers = s.tiers := rfl
@[simp] theorem setSlot_rel (k : Nat) (f : FactorSlot → FactorSlot) (s : State) : (setSlot k f s).rel = s.rel := rfl
@[simp] theorem setSlot_time (k : Nat) (f : FactorSlot → FactorSlot) (s : State) : (setSlot k f s).time = s.time := rfl
@[simp] theorem setSlot_sens (k : Nat) (f : FactorSlot → FactorSlot) (s : State) : (setSlot k f s).sens = s.sens := rfl
@[simp] theorem setSlot_boot (k : Nat) (f : FactorSlot → FactorSlot) (s : State) : (setSlot k f s).boot = s.boot := rfl
@[simp] theorem setSlot_pow (k : Nat) (f : FactorSlot → FactorSlot) (s : State) : (setSlot k f s).pow = s.pow := rfl
@[simp] theorem setSlot_fab (k : Nat) (f : FactorSlot → FactorSlot) (s : State) : (setSlot k f s).fab = s.fab := rfl
@[simp] theorem setSlot_num (k : Nat) (f : FactorSlot → FactorSlot) (s : State) : (setSlot k f s).num = s.num := rfl
@[simp] theorem setSlot_stash (k : Nat) (f : FactorSlot → FactorSlot) (s : State) : (setSlot k f s).stash = s.stash := rfl
@[simp] theorem setSlot_spec (k : Nat) (f : FactorSlot → FactorSlot) (s : State) : (setSlot k f s).spec = s.spec := rfl
@[simp] theorem setSlot_ephem (k : Nat) (f : FactorSlot → FactorSlot) (s : State) : (setSlot k f s).ephem = s.ephem := rfl
@[simp] theorem setSlot_store (k : Nat) (f : FactorSlot → FactorSlot) (s : State) : (setSlot k f s).store = s.store := rfl

/-! `setTable`. -/

@[simp] theorem setTable_pending (k : Nat) (f : PTable → PTable) (s : State) : (setTable k f s).pending = s.pending := rfl
@[simp] theorem setTable_sent (k : Nat) (f : PTable → PTable) (s : State) : (setTable k f s).sent = s.sent := rfl
@[simp] theorem setTable_free (k : Nat) (f : PTable → PTable) (s : State) : (setTable k f s).free = s.free := rfl
@[simp] theorem setTable_mem (k : Nat) (f : PTable → PTable) (s : State) : (setTable k f s).mem = s.mem := rfl
@[simp] theorem setTable_sems (k : Nat) (f : PTable → PTable) (s : State) : (setTable k f s).sems = s.sems := rfl
@[simp] theorem setTable_ctr (k : Nat) (f : PTable → PTable) (s : State) : (setTable k f s).ctr = s.ctr := rfl
@[simp] theorem setTable_alm (k : Nat) (f : PTable → PTable) (s : State) : (setTable k f s).alm = s.alm := rfl
@[simp] theorem setTable_host (k : Nat) (f : PTable → PTable) (s : State) : (setTable k f s).host = s.host := rfl
@[simp] theorem setTable_sec (k : Nat) (f : PTable → PTable) (s : State) : (setTable k f s).sec = s.sec := rfl
@[simp] theorem setTable_mer (k : Nat) (f : PTable → PTable) (s : State) : (setTable k f s).mer = s.mer := rfl
@[simp] theorem setTable_prog (k : Nat) (f : PTable → PTable) (s : State) : (setTable k f s).prog = s.prog := rfl
@[simp] theorem setTable_strm (k : Nat) (f : PTable → PTable) (s : State) : (setTable k f s).strm = s.strm := rfl
@[simp] theorem setTable_tiers (k : Nat) (f : PTable → PTable) (s : State) : (setTable k f s).tiers = s.tiers := rfl
@[simp] theorem setTable_rel (k : Nat) (f : PTable → PTable) (s : State) : (setTable k f s).rel = s.rel := rfl
@[simp] theorem setTable_time (k : Nat) (f : PTable → PTable) (s : State) : (setTable k f s).time = s.time := rfl
@[simp] theorem setTable_sens (k : Nat) (f : PTable → PTable) (s : State) : (setTable k f s).sens = s.sens := rfl
@[simp] theorem setTable_boot (k : Nat) (f : PTable → PTable) (s : State) : (setTable k f s).boot = s.boot := rfl
@[simp] theorem setTable_pow (k : Nat) (f : PTable → PTable) (s : State) : (setTable k f s).pow = s.pow := rfl
@[simp] theorem setTable_fab (k : Nat) (f : PTable → PTable) (s : State) : (setTable k f s).fab = s.fab := rfl
@[simp] theorem setTable_num (k : Nat) (f : PTable → PTable) (s : State) : (setTable k f s).num = s.num := rfl
@[simp] theorem setTable_stash (k : Nat) (f : PTable → PTable) (s : State) : (setTable k f s).stash = s.stash := rfl
@[simp] theorem setTable_phot (k : Nat) (f : PTable → PTable) (s : State) : (setTable k f s).phot = s.phot := rfl
@[simp] theorem setTable_ephem (k : Nat) (f : PTable → PTable) (s : State) : (setTable k f s).ephem = s.ephem := rfl
@[simp] theorem setTable_store (k : Nat) (f : PTable → PTable) (s : State) : (setTable k f s).store = s.store := rfl

/-! `setJob`. -/

@[simp] theorem setJob_pending (k : Nat) (f : SpJob → SpJob) (s : State) : (setJob k f s).pending = s.pending := rfl
@[simp] theorem setJob_sent (k : Nat) (f : SpJob → SpJob) (s : State) : (setJob k f s).sent = s.sent := rfl
@[simp] theorem setJob_free (k : Nat) (f : SpJob → SpJob) (s : State) : (setJob k f s).free = s.free := rfl
@[simp] theorem setJob_mem (k : Nat) (f : SpJob → SpJob) (s : State) : (setJob k f s).mem = s.mem := rfl
@[simp] theorem setJob_sems (k : Nat) (f : SpJob → SpJob) (s : State) : (setJob k f s).sems = s.sems := rfl
@[simp] theorem setJob_ctr (k : Nat) (f : SpJob → SpJob) (s : State) : (setJob k f s).ctr = s.ctr := rfl
@[simp] theorem setJob_alm (k : Nat) (f : SpJob → SpJob) (s : State) : (setJob k f s).alm = s.alm := rfl
@[simp] theorem setJob_host (k : Nat) (f : SpJob → SpJob) (s : State) : (setJob k f s).host = s.host := rfl
@[simp] theorem setJob_sec (k : Nat) (f : SpJob → SpJob) (s : State) : (setJob k f s).sec = s.sec := rfl
@[simp] theorem setJob_mer (k : Nat) (f : SpJob → SpJob) (s : State) : (setJob k f s).mer = s.mer := rfl
@[simp] theorem setJob_prog (k : Nat) (f : SpJob → SpJob) (s : State) : (setJob k f s).prog = s.prog := rfl
@[simp] theorem setJob_strm (k : Nat) (f : SpJob → SpJob) (s : State) : (setJob k f s).strm = s.strm := rfl
@[simp] theorem setJob_tiers (k : Nat) (f : SpJob → SpJob) (s : State) : (setJob k f s).tiers = s.tiers := rfl
@[simp] theorem setJob_rel (k : Nat) (f : SpJob → SpJob) (s : State) : (setJob k f s).rel = s.rel := rfl
@[simp] theorem setJob_time (k : Nat) (f : SpJob → SpJob) (s : State) : (setJob k f s).time = s.time := rfl
@[simp] theorem setJob_sens (k : Nat) (f : SpJob → SpJob) (s : State) : (setJob k f s).sens = s.sens := rfl
@[simp] theorem setJob_boot (k : Nat) (f : SpJob → SpJob) (s : State) : (setJob k f s).boot = s.boot := rfl
@[simp] theorem setJob_pow (k : Nat) (f : SpJob → SpJob) (s : State) : (setJob k f s).pow = s.pow := rfl
@[simp] theorem setJob_fab (k : Nat) (f : SpJob → SpJob) (s : State) : (setJob k f s).fab = s.fab := rfl
@[simp] theorem setJob_num (k : Nat) (f : SpJob → SpJob) (s : State) : (setJob k f s).num = s.num := rfl
@[simp] theorem setJob_stash (k : Nat) (f : SpJob → SpJob) (s : State) : (setJob k f s).stash = s.stash := rfl
@[simp] theorem setJob_phot (k : Nat) (f : SpJob → SpJob) (s : State) : (setJob k f s).phot = s.phot := rfl
@[simp] theorem setJob_ephem (k : Nat) (f : SpJob → SpJob) (s : State) : (setJob k f s).ephem = s.ephem := rfl
@[simp] theorem setJob_store (k : Nat) (f : SpJob → SpJob) (s : State) : (setJob k f s).store = s.store := rfl

/-! `setOpen`. -/

@[simp] theorem setOpen_pending (d k : Nat) (f : OpenRec → OpenRec) (s : State) : (setOpen d k f s).pending = s.pending := rfl
@[simp] theorem setOpen_sent (d k : Nat) (f : OpenRec → OpenRec) (s : State) : (setOpen d k f s).sent = s.sent := rfl
@[simp] theorem setOpen_free (d k : Nat) (f : OpenRec → OpenRec) (s : State) : (setOpen d k f s).free = s.free := rfl
@[simp] theorem setOpen_mem (d k : Nat) (f : OpenRec → OpenRec) (s : State) : (setOpen d k f s).mem = s.mem := rfl
@[simp] theorem setOpen_sems (d k : Nat) (f : OpenRec → OpenRec) (s : State) : (setOpen d k f s).sems = s.sems := rfl
@[simp] theorem setOpen_ctr (d k : Nat) (f : OpenRec → OpenRec) (s : State) : (setOpen d k f s).ctr = s.ctr := rfl
@[simp] theorem setOpen_alm (d k : Nat) (f : OpenRec → OpenRec) (s : State) : (setOpen d k f s).alm = s.alm := rfl
@[simp] theorem setOpen_host (d k : Nat) (f : OpenRec → OpenRec) (s : State) : (setOpen d k f s).host = s.host := rfl
@[simp] theorem setOpen_sec (d k : Nat) (f : OpenRec → OpenRec) (s : State) : (setOpen d k f s).sec = s.sec := rfl
@[simp] theorem setOpen_mer (d k : Nat) (f : OpenRec → OpenRec) (s : State) : (setOpen d k f s).mer = s.mer := rfl
@[simp] theorem setOpen_prog (d k : Nat) (f : OpenRec → OpenRec) (s : State) : (setOpen d k f s).prog = s.prog := rfl
@[simp] theorem setOpen_strm (d k : Nat) (f : OpenRec → OpenRec) (s : State) : (setOpen d k f s).strm = s.strm := rfl
@[simp] theorem setOpen_tiers (d k : Nat) (f : OpenRec → OpenRec) (s : State) : (setOpen d k f s).tiers = s.tiers := rfl
@[simp] theorem setOpen_rel (d k : Nat) (f : OpenRec → OpenRec) (s : State) : (setOpen d k f s).rel = s.rel := rfl
@[simp] theorem setOpen_time (d k : Nat) (f : OpenRec → OpenRec) (s : State) : (setOpen d k f s).time = s.time := rfl
@[simp] theorem setOpen_sens (d k : Nat) (f : OpenRec → OpenRec) (s : State) : (setOpen d k f s).sens = s.sens := rfl
@[simp] theorem setOpen_boot (d k : Nat) (f : OpenRec → OpenRec) (s : State) : (setOpen d k f s).boot = s.boot := rfl
@[simp] theorem setOpen_pow (d k : Nat) (f : OpenRec → OpenRec) (s : State) : (setOpen d k f s).pow = s.pow := rfl
@[simp] theorem setOpen_fab (d k : Nat) (f : OpenRec → OpenRec) (s : State) : (setOpen d k f s).fab = s.fab := rfl
@[simp] theorem setOpen_num (d k : Nat) (f : OpenRec → OpenRec) (s : State) : (setOpen d k f s).num = s.num := rfl
@[simp] theorem setOpen_stash (d k : Nat) (f : OpenRec → OpenRec) (s : State) : (setOpen d k f s).stash = s.stash := rfl
@[simp] theorem setOpen_phot (d k : Nat) (f : OpenRec → OpenRec) (s : State) : (setOpen d k f s).phot = s.phot := rfl
@[simp] theorem setOpen_spec (d k : Nat) (f : OpenRec → OpenRec) (s : State) : (setOpen d k f s).spec = s.spec := rfl
@[simp] theorem setOpen_store (d k : Nat) (f : OpenRec → OpenRec) (s : State) : (setOpen d k f s).store = s.store := rfl

/-! `setRepair`. -/

@[simp] theorem setRepair_pending (k : Nat) (f : Repair → Repair) (s : State) : (setRepair k f s).pending = s.pending := rfl
@[simp] theorem setRepair_sent (k : Nat) (f : Repair → Repair) (s : State) : (setRepair k f s).sent = s.sent := rfl
@[simp] theorem setRepair_free (k : Nat) (f : Repair → Repair) (s : State) : (setRepair k f s).free = s.free := rfl
@[simp] theorem setRepair_mem (k : Nat) (f : Repair → Repair) (s : State) : (setRepair k f s).mem = s.mem := rfl
@[simp] theorem setRepair_sems (k : Nat) (f : Repair → Repair) (s : State) : (setRepair k f s).sems = s.sems := rfl
@[simp] theorem setRepair_ctr (k : Nat) (f : Repair → Repair) (s : State) : (setRepair k f s).ctr = s.ctr := rfl
@[simp] theorem setRepair_alm (k : Nat) (f : Repair → Repair) (s : State) : (setRepair k f s).alm = s.alm := rfl
@[simp] theorem setRepair_host (k : Nat) (f : Repair → Repair) (s : State) : (setRepair k f s).host = s.host := rfl
@[simp] theorem setRepair_sec (k : Nat) (f : Repair → Repair) (s : State) : (setRepair k f s).sec = s.sec := rfl
@[simp] theorem setRepair_mer (k : Nat) (f : Repair → Repair) (s : State) : (setRepair k f s).mer = s.mer := rfl
@[simp] theorem setRepair_prog (k : Nat) (f : Repair → Repair) (s : State) : (setRepair k f s).prog = s.prog := rfl
@[simp] theorem setRepair_strm (k : Nat) (f : Repair → Repair) (s : State) : (setRepair k f s).strm = s.strm := rfl
@[simp] theorem setRepair_tiers (k : Nat) (f : Repair → Repair) (s : State) : (setRepair k f s).tiers = s.tiers := rfl
@[simp] theorem setRepair_time (k : Nat) (f : Repair → Repair) (s : State) : (setRepair k f s).time = s.time := rfl
@[simp] theorem setRepair_sens (k : Nat) (f : Repair → Repair) (s : State) : (setRepair k f s).sens = s.sens := rfl
@[simp] theorem setRepair_boot (k : Nat) (f : Repair → Repair) (s : State) : (setRepair k f s).boot = s.boot := rfl
@[simp] theorem setRepair_pow (k : Nat) (f : Repair → Repair) (s : State) : (setRepair k f s).pow = s.pow := rfl
@[simp] theorem setRepair_fab (k : Nat) (f : Repair → Repair) (s : State) : (setRepair k f s).fab = s.fab := rfl
@[simp] theorem setRepair_num (k : Nat) (f : Repair → Repair) (s : State) : (setRepair k f s).num = s.num := rfl
@[simp] theorem setRepair_stash (k : Nat) (f : Repair → Repair) (s : State) : (setRepair k f s).stash = s.stash := rfl
@[simp] theorem setRepair_phot (k : Nat) (f : Repair → Repair) (s : State) : (setRepair k f s).phot = s.phot := rfl
@[simp] theorem setRepair_spec (k : Nat) (f : Repair → Repair) (s : State) : (setRepair k f s).spec = s.spec := rfl
@[simp] theorem setRepair_ephem (k : Nat) (f : Repair → Repair) (s : State) : (setRepair k f s).ephem = s.ephem := rfl
@[simp] theorem setRepair_store (k : Nat) (f : Repair → Repair) (s : State) : (setRepair k f s).store = s.store := rfl

/-! `setSession`. -/

@[simp] theorem setSession_pending (i : Nat) (f : Session → Session) (s : State) : (setSession i f s).pending = s.pending := rfl
@[simp] theorem setSession_sent (i : Nat) (f : Session → Session) (s : State) : (setSession i f s).sent = s.sent := rfl
@[simp] theorem setSession_free (i : Nat) (f : Session → Session) (s : State) : (setSession i f s).free = s.free := rfl
@[simp] theorem setSession_mem (i : Nat) (f : Session → Session) (s : State) : (setSession i f s).mem = s.mem := rfl
@[simp] theorem setSession_sems (i : Nat) (f : Session → Session) (s : State) : (setSession i f s).sems = s.sems := rfl
@[simp] theorem setSession_ctr (i : Nat) (f : Session → Session) (s : State) : (setSession i f s).ctr = s.ctr := rfl
@[simp] theorem setSession_alm (i : Nat) (f : Session → Session) (s : State) : (setSession i f s).alm = s.alm := rfl
@[simp] theorem setSession_host (i : Nat) (f : Session → Session) (s : State) : (setSession i f s).host = s.host := rfl
@[simp] theorem setSession_mer (i : Nat) (f : Session → Session) (s : State) : (setSession i f s).mer = s.mer := rfl
@[simp] theorem setSession_prog (i : Nat) (f : Session → Session) (s : State) : (setSession i f s).prog = s.prog := rfl
@[simp] theorem setSession_strm (i : Nat) (f : Session → Session) (s : State) : (setSession i f s).strm = s.strm := rfl
@[simp] theorem setSession_tiers (i : Nat) (f : Session → Session) (s : State) : (setSession i f s).tiers = s.tiers := rfl
@[simp] theorem setSession_rel (i : Nat) (f : Session → Session) (s : State) : (setSession i f s).rel = s.rel := rfl
@[simp] theorem setSession_time (i : Nat) (f : Session → Session) (s : State) : (setSession i f s).time = s.time := rfl
@[simp] theorem setSession_sens (i : Nat) (f : Session → Session) (s : State) : (setSession i f s).sens = s.sens := rfl
@[simp] theorem setSession_boot (i : Nat) (f : Session → Session) (s : State) : (setSession i f s).boot = s.boot := rfl
@[simp] theorem setSession_pow (i : Nat) (f : Session → Session) (s : State) : (setSession i f s).pow = s.pow := rfl
@[simp] theorem setSession_fab (i : Nat) (f : Session → Session) (s : State) : (setSession i f s).fab = s.fab := rfl
@[simp] theorem setSession_num (i : Nat) (f : Session → Session) (s : State) : (setSession i f s).num = s.num := rfl
@[simp] theorem setSession_stash (i : Nat) (f : Session → Session) (s : State) : (setSession i f s).stash = s.stash := rfl
@[simp] theorem setSession_phot (i : Nat) (f : Session → Session) (s : State) : (setSession i f s).phot = s.phot := rfl
@[simp] theorem setSession_spec (i : Nat) (f : Session → Session) (s : State) : (setSession i f s).spec = s.spec := rfl
@[simp] theorem setSession_ephem (i : Nat) (f : Session → Session) (s : State) : (setSession i f s).ephem = s.ephem := rfl
@[simp] theorem setSession_store (i : Nat) (f : Session → Session) (s : State) : (setSession i f s).store = s.store := rfl

/-! `dropSession`. -/

@[simp] theorem dropSession_pending (i : Nat) (s : State) : (dropSession i s).pending = s.pending := rfl
@[simp] theorem dropSession_sent (i : Nat) (s : State) : (dropSession i s).sent = s.sent := rfl
@[simp] theorem dropSession_free (i : Nat) (s : State) : (dropSession i s).free = s.free := rfl
@[simp] theorem dropSession_mem (i : Nat) (s : State) : (dropSession i s).mem = s.mem := rfl
@[simp] theorem dropSession_sems (i : Nat) (s : State) : (dropSession i s).sems = s.sems := rfl
@[simp] theorem dropSession_ctr (i : Nat) (s : State) : (dropSession i s).ctr = s.ctr := rfl
@[simp] theorem dropSession_alm (i : Nat) (s : State) : (dropSession i s).alm = s.alm := rfl
@[simp] theorem dropSession_host (i : Nat) (s : State) : (dropSession i s).host = s.host := rfl
@[simp] theorem dropSession_mer (i : Nat) (s : State) : (dropSession i s).mer = s.mer := rfl
@[simp] theorem dropSession_prog (i : Nat) (s : State) : (dropSession i s).prog = s.prog := rfl
@[simp] theorem dropSession_strm (i : Nat) (s : State) : (dropSession i s).strm = s.strm := rfl
@[simp] theorem dropSession_tiers (i : Nat) (s : State) : (dropSession i s).tiers = s.tiers := rfl
@[simp] theorem dropSession_rel (i : Nat) (s : State) : (dropSession i s).rel = s.rel := rfl
@[simp] theorem dropSession_time (i : Nat) (s : State) : (dropSession i s).time = s.time := rfl
@[simp] theorem dropSession_sens (i : Nat) (s : State) : (dropSession i s).sens = s.sens := rfl
@[simp] theorem dropSession_boot (i : Nat) (s : State) : (dropSession i s).boot = s.boot := rfl
@[simp] theorem dropSession_pow (i : Nat) (s : State) : (dropSession i s).pow = s.pow := rfl
@[simp] theorem dropSession_fab (i : Nat) (s : State) : (dropSession i s).fab = s.fab := rfl
@[simp] theorem dropSession_num (i : Nat) (s : State) : (dropSession i s).num = s.num := rfl
@[simp] theorem dropSession_stash (i : Nat) (s : State) : (dropSession i s).stash = s.stash := rfl
@[simp] theorem dropSession_phot (i : Nat) (s : State) : (dropSession i s).phot = s.phot := rfl
@[simp] theorem dropSession_spec (i : Nat) (s : State) : (dropSession i s).spec = s.spec := rfl
@[simp] theorem dropSession_ephem (i : Nat) (s : State) : (dropSession i s).ephem = s.ephem := rfl
@[simp] theorem dropSession_store (i : Nat) (s : State) : (dropSession i s).store = s.store := rfl

/-! `urSeen`. -/

@[simp] theorem urSeen_pending (s : State) : (urSeen s).pending = s.pending := rfl
@[simp] theorem urSeen_sent (s : State) : (urSeen s).sent = s.sent := rfl
@[simp] theorem urSeen_free (s : State) : (urSeen s).free = s.free := rfl
@[simp] theorem urSeen_mem (s : State) : (urSeen s).mem = s.mem := rfl
@[simp] theorem urSeen_sems (s : State) : (urSeen s).sems = s.sems := rfl
@[simp] theorem urSeen_ctr (s : State) : (urSeen s).ctr = s.ctr := rfl
@[simp] theorem urSeen_alm (s : State) : (urSeen s).alm = s.alm := rfl
@[simp] theorem urSeen_host (s : State) : (urSeen s).host = { s.host with aerUR := true } := rfl
@[simp] theorem urSeen_sec (s : State) : (urSeen s).sec = s.sec := rfl
@[simp] theorem urSeen_mer (s : State) : (urSeen s).mer = s.mer := rfl
@[simp] theorem urSeen_prog (s : State) : (urSeen s).prog = s.prog := rfl
@[simp] theorem urSeen_strm (s : State) : (urSeen s).strm = s.strm := rfl
@[simp] theorem urSeen_tiers (s : State) : (urSeen s).tiers = s.tiers := rfl
@[simp] theorem urSeen_rel (s : State) : (urSeen s).rel = s.rel := rfl
@[simp] theorem urSeen_time (s : State) : (urSeen s).time = s.time := rfl
@[simp] theorem urSeen_sens (s : State) : (urSeen s).sens = s.sens := rfl
@[simp] theorem urSeen_boot (s : State) : (urSeen s).boot = s.boot := rfl
@[simp] theorem urSeen_pow (s : State) : (urSeen s).pow = s.pow := rfl
@[simp] theorem urSeen_fab (s : State) : (urSeen s).fab = s.fab := rfl
@[simp] theorem urSeen_num (s : State) : (urSeen s).num = s.num := rfl
@[simp] theorem urSeen_stash (s : State) : (urSeen s).stash = s.stash := rfl
@[simp] theorem urSeen_phot (s : State) : (urSeen s).phot = s.phot := rfl
@[simp] theorem urSeen_spec (s : State) : (urSeen s).spec = s.spec := rfl
@[simp] theorem urSeen_ephem (s : State) : (urSeen s).ephem = s.ephem := rfl
@[simp] theorem urSeen_store (s : State) : (urSeen s).store = s.store := rfl

end Sys2Proof.Machine
end

