-- ==== Sys2Proof/Laws/Frames.lean ====
section
/-!
SUPPORT. What the shared operations of Machine/Ops.lean and Machine/Mailbox.lean can do, said once for each: the fields
that it leaves as they are, and that memory keeps its canonical form.
-/

namespace Sys2Proof.Machine

/-- Between `s` and `t` events were posted, flags set and outputs driven, and nothing else. -/
structure Posted (s t : State) : Prop where
  pending : t.pending = s.pending
  free : t.free = s.free
  mem : t.mem = s.mem
  sems : t.sems = s.sems
  ctr : t.ctr = s.ctr
  sec : t.sec = s.sec
  mer : t.mer = s.mer
  prog : t.prog = s.prog
  strm : t.strm = s.strm
  tiers : t.tiers = s.tiers
  rel : t.rel = s.rel
  time : t.time = s.time
  sens : t.sens = s.sens
  boot : t.boot = s.boot
  pow : t.pow = s.pow
  fab : t.fab = s.fab
  num : t.num = s.num
  stash : t.stash = s.stash
  phot : t.phot = s.phot
  spec : t.spec = s.spec
  ephem : t.ephem = s.ephem
  store : t.store = s.store
  almMbx : t.alm.mbx = s.alm.mbx
  almRing : t.alm.ring = s.alm.ring
  almEvtHead : t.alm.evtHead = s.alm.evtHead
  almEvtTail : t.alm.evtTail = s.alm.evtTail
  almEvtFloor : t.alm.evtFloor = s.alm.evtFloor
  almShortQ : t.alm.shortQ = s.alm.shortQ
  almFailed : t.alm.failed = s.alm.failed
  almBells : t.alm.bells = s.alm.bells
  almHeartbeat : t.alm.heartbeat = s.alm.heartbeat
  almMbxMissed : t.alm.mbxMissed = s.alm.mbxMissed
  almErrMissed : t.alm.errMissed = s.alm.errMissed
  hostBar2Log : t.host.bar2Log = s.host.bar2Log
  hostWinBase : t.host.winBase = s.host.winBase
  hostMsix : t.host.msix = s.host.msix
  hostMsixEnable : t.host.msixEnable = s.host.msixEnable
  hostMsixFnMask : t.host.msixFnMask = s.host.msixFnMask
  hostReads : t.host.reads = s.host.reads
  hostReadQ : t.host.readQ = s.host.readQ
  hostCfg : t.host.cfg = s.host.cfg
  hostCplTimeout : t.host.cplTimeout = s.host.cplTimeout
  hostAerUR : t.host.aerUR = s.host.aerUR
  hostVecLast : t.host.vecLast = s.host.vecLast
  hostVecWait : t.host.vecWait = s.host.vecWait

@[refl] theorem Posted.refl (s : State) : Posted s s :=
  ⟨rfl, rfl, rfl, rfl, rfl, rfl, rfl, rfl, rfl, rfl, rfl, rfl, rfl, rfl, rfl, rfl, rfl, rfl, rfl, rfl, rfl, rfl, rfl, rfl, rfl, rfl, rfl, rfl, rfl, rfl, rfl, rfl, rfl, rfl, rfl, rfl, rfl, rfl, rfl, rfl, rfl, rfl, rfl, rfl, rfl⟩

theorem Posted.trans {s t u : State} (h : Posted s t) (k : Posted t u) : Posted s u :=
  ⟨k.pending.trans h.pending,
   k.free.trans h.free,
   k.mem.trans h.mem,
   k.sems.trans h.sems,
   k.ctr.trans h.ctr,
   k.sec.trans h.sec,
   k.mer.trans h.mer,
   k.prog.trans h.prog,
   k.strm.trans h.strm,
   k.tiers.trans h.tiers,
   k.rel.trans h.rel,
   k.time.trans h.time,
   k.sens.trans h.sens,
   k.boot.trans h.boot,
   k.pow.trans h.pow,
   k.fab.trans h.fab,
   k.num.trans h.num,
   k.stash.trans h.stash,
   k.phot.trans h.phot,
   k.spec.trans h.spec,
   k.ephem.trans h.ephem,
   k.store.trans h.store,
   k.almMbx.trans h.almMbx,
   k.almRing.trans h.almRing,
   k.almEvtHead.trans h.almEvtHead,
   k.almEvtTail.trans h.almEvtTail,
   k.almEvtFloor.trans h.almEvtFloor,
   k.almShortQ.trans h.almShortQ,
   k.almFailed.trans h.almFailed,
   k.almBells.trans h.almBells,
   k.almHeartbeat.trans h.almHeartbeat,
   k.almMbxMissed.trans h.almMbxMissed,
   k.almErrMissed.trans h.almErrMissed,
   k.hostBar2Log.trans h.hostBar2Log,
   k.hostWinBase.trans h.hostWinBase,
   k.hostMsix.trans h.hostMsix,
   k.hostMsixEnable.trans h.hostMsixEnable,
   k.hostMsixFnMask.trans h.hostMsixFnMask,
   k.hostReads.trans h.hostReads,
   k.hostReadQ.trans h.hostReadQ,
   k.hostCfg.trans h.hostCfg,
   k.hostCplTimeout.trans h.hostCplTimeout,
   k.hostAerUR.trans h.hostAerUR,
   k.hostVecLast.trans h.hostVecLast,
   k.hostVecWait.trans h.hostVecWait⟩

theorem Posted.foldl {α : Type} (f : State → α → State) (h : ∀ s a, Posted s (f s a)) :
    ∀ (l : List α) (s : State), Posted s (l.foldl f s)
  | [], s => Posted.refl s
  | a :: l, s => (h s a).trans (Posted.foldl f h l (f s a))

/-- Between `s` and `t` a channel of DRAM worked: bytes, codes, records, counters, events, and nothing else. -/
structure Dram (s t : State) : Prop where
  pending : t.pending = s.pending
  free : t.free = s.free
  sems : t.sems = s.sems
  sec : t.sec = s.sec
  mer : t.mer = s.mer
  prog : t.prog = s.prog
  strm : t.strm = s.strm
  time : t.time = s.time
  sens : t.sens = s.sens
  boot : t.boot = s.boot
  pow : t.pow = s.pow
  fab : t.fab = s.fab
  num : t.num = s.num
  stash : t.stash = s.stash
  phot : t.phot = s.phot
  spec : t.spec = s.spec
  ephem : t.ephem = s.ephem
  store : t.store = s.store
  wf : s.mem.wf = true → t.mem.wf = true
  almMbx : t.alm.mbx = s.alm.mbx
  almRing : t.alm.ring = s.alm.ring
  almEvtHead : t.alm.evtHead = s.alm.evtHead
  almEvtTail : t.alm.evtTail = s.alm.evtTail
  almEvtFloor : t.alm.evtFloor = s.alm.evtFloor
  almShortQ : t.alm.shortQ = s.alm.shortQ
  almFailed : t.alm.failed = s.alm.failed
  almBells : t.alm.bells = s.alm.bells
  almHeartbeat : t.alm.heartbeat = s.alm.heartbeat
  almMbxMissed : t.alm.mbxMissed = s.alm.mbxMissed
  almErrMissed : t.alm.errMissed = s.alm.errMissed
  hostBar2Log : t.host.bar2Log = s.host.bar2Log
  hostWinBase : t.host.winBase = s.host.winBase
  hostMsix : t.host.msix = s.host.msix
  hostMsixEnable : t.host.msixEnable = s.host.msixEnable
  hostMsixFnMask : t.host.msixFnMask = s.host.msixFnMask
  hostReads : t.host.reads = s.host.reads
  hostReadQ : t.host.readQ = s.host.readQ
  hostCfg : t.host.cfg = s.host.cfg
  hostCplTimeout : t.host.cplTimeout = s.host.cplTimeout
  hostAerUR : t.host.aerUR = s.host.aerUR
  hostVecLast : t.host.vecLast = s.host.vecLast
  hostVecWait : t.host.vecWait = s.host.vecWait
  tiersBg : t.tiers.bg = s.tiers.bg
  tiersBl : t.tiers.bl = s.tiers.bl
  tiersFills : t.tiers.fills = s.tiers.fills
  tiersFrozen : t.tiers.frozen = s.tiers.frozen
  tiersSwapReq : t.tiers.swapReq = s.tiers.swapReq
  relRepairMap : t.rel.repairMap = s.rel.repairMap
  relScrubG : t.rel.scrubG = s.rel.scrubG
  relScrubL : t.rel.scrubL = s.rel.scrubL
  relSurvey : t.rel.survey = s.rel.survey
  relPass : t.rel.pass = s.rel.pass
  relSpared : t.rel.spared = s.rel.spared
  relBridgeFailed : t.rel.bridgeFailed = s.rel.bridgeFailed
  relSoftRepair : t.rel.softRepair = s.rel.softRepair

@[refl] theorem Dram.refl (s : State) : Dram s s :=
  ⟨rfl, rfl, rfl, rfl, rfl, rfl, rfl, rfl, rfl, rfl, rfl, rfl, rfl, rfl, rfl, rfl, rfl, rfl, id, rfl, rfl, rfl, rfl, rfl, rfl, rfl, rfl, rfl, rfl, rfl, rfl, rfl, rfl, rfl, rfl, rfl, rfl, rfl, rfl, rfl, rfl, rfl, rfl, rfl, rfl, rfl, rfl, rfl, rfl, rfl, rfl, rfl, rfl, rfl, rfl⟩

theorem Dram.trans {s t u : State} (h : Dram s t) (k : Dram t u) : Dram s u :=
  ⟨k.pending.trans h.pending,
   k.free.trans h.free,
   k.sems.trans h.sems,
   k.sec.trans h.sec,
   k.mer.trans h.mer,
   k.prog.trans h.prog,
   k.strm.trans h.strm,
   k.time.trans h.time,
   k.sens.trans h.sens,
   k.boot.trans h.boot,
   k.pow.trans h.pow,
   k.fab.trans h.fab,
   k.num.trans h.num,
   k.stash.trans h.stash,
   k.phot.trans h.phot,
   k.spec.trans h.spec,
   k.ephem.trans h.ephem,
   k.store.trans h.store,
   fun w => k.wf (h.wf w),
   k.almMbx.trans h.almMbx,
   k.almRing.trans h.almRing,
   k.almEvtHead.trans h.almEvtHead,
   k.almEvtTail.trans h.almEvtTail,
   k.almEvtFloor.trans h.almEvtFloor,
   k.almShortQ.trans h.almShortQ,
   k.almFailed.trans h.almFailed,
   k.almBells.trans h.almBells,
   k.almHeartbeat.trans h.almHeartbeat,
   k.almMbxMissed.trans h.almMbxMissed,
   k.almErrMissed.trans h.almErrMissed,
   k.hostBar2Log.trans h.hostBar2Log,
   k.hostWinBase.trans h.hostWinBase,
   k.hostMsix.trans h.hostMsix,
   k.hostMsixEnable.trans h.hostMsixEnable,
   k.hostMsixFnMask.trans h.hostMsixFnMask,
   k.hostReads.trans h.hostReads,
   k.hostReadQ.trans h.hostReadQ,
   k.hostCfg.trans h.hostCfg,
   k.hostCplTimeout.trans h.hostCplTimeout,
   k.hostAerUR.trans h.hostAerUR,
   k.hostVecLast.trans h.hostVecLast,
   k.hostVecWait.trans h.hostVecWait,
   k.tiersBg.trans h.tiersBg,
   k.tiersBl.trans h.tiersBl,
   k.tiersFills.trans h.tiersFills,
   k.tiersFrozen.trans h.tiersFrozen,
   k.tiersSwapReq.trans h.tiersSwapReq,
   k.relRepairMap.trans h.relRepairMap,
   k.relScrubG.trans h.relScrubG,
   k.relScrubL.trans h.relScrubL,
   k.relSurvey.trans h.relSurvey,
   k.relPass.trans h.relPass,
   k.relSpared.trans h.relSpared,
   k.relBridgeFailed.trans h.relBridgeFailed,
   k.relSoftRepair.trans h.relSoftRepair⟩

theorem Dram.foldl {α : Type} (f : State → α → State) (h : ∀ s a, Dram s (f s a)) :
    ∀ (l : List α) (s : State), Dram s (l.foldl f s)
  | [], s => Dram.refl s
  | a :: l, s => (h s a).trans (Dram.foldl f h l (f s a))

/-- Between `s` and `t` the device wrote or read bytes of any region: with semaphore words go the watches and the waits
that they answer. -/
structure Wrote (s t : State) : Prop where
  pending : t.pending = s.pending
  free : t.free = s.free
  sec : t.sec = s.sec
  prog : t.prog = s.prog
  strm : t.strm = s.strm
  time : t.time = s.time
  sens : t.sens = s.sens
  boot : t.boot = s.boot
  pow : t.pow = s.pow
  num : t.num = s.num
  stash : t.stash = s.stash
  phot : t.phot = s.phot
  spec : t.spec = s.spec
  ephem : t.ephem = s.ephem
  store : t.store = s.store
  wf : s.mem.wf = true → t.mem.wf = true
  almMbx : t.alm.mbx = s.alm.mbx
  almRing : t.alm.ring = s.alm.ring
  almEvtHead : t.alm.evtHead = s.alm.evtHead
  almEvtTail : t.alm.evtTail = s.alm.evtTail
  almEvtFloor : t.alm.evtFloor = s.alm.evtFloor
  almShortQ : t.alm.shortQ = s.alm.shortQ
  almFailed : t.alm.failed = s.alm.failed
  almBells : t.alm.bells = s.alm.bells
  almHeartbeat : t.alm.heartbeat = s.alm.heartbeat
  almMbxMissed : t.alm.mbxMissed = s.alm.mbxMissed
  almErrMissed : t.alm.errMissed = s.alm.errMissed
  hostBar2Log : t.host.bar2Log = s.host.bar2Log
  hostWinBase : t.host.winBase = s.host.winBase
  hostMsix : t.host.msix = s.host.msix
  hostMsixEnable : t.host.msixEnable = s.host.msixEnable
  hostMsixFnMask : t.host.msixFnMask = s.host.msixFnMask
  hostReads : t.host.reads = s.host.reads
  hostReadQ : t.host.readQ = s.host.readQ
  hostCfg : t.host.cfg = s.host.cfg
  hostCplTimeout : t.host.cplTimeout = s.host.cplTimeout
  hostAerUR : t.host.aerUR = s.host.aerUR
  hostVecLast : t.host.vecLast = s.host.vecLast
  hostVecWait : t.host.vecWait = s.host.vecWait
  tiersBg : t.tiers.bg = s.tiers.bg
  tiersBl : t.tiers.bl = s.tiers.bl
  tiersFills : t.tiers.fills = s.tiers.fills
  tiersFrozen : t.tiers.frozen = s.tiers.frozen
  tiersSwapReq : t.tiers.swapReq = s.tiers.swapReq
  relRepairMap : t.rel.repairMap = s.rel.repairMap
  relScrubG : t.rel.scrubG = s.rel.scrubG
  relScrubL : t.rel.scrubL = s.rel.scrubL
  relSurvey : t.rel.survey = s.rel.survey
  relPass : t.rel.pass = s.rel.pass
  relSpared : t.rel.spared = s.rel.spared
  relBridgeFailed : t.rel.bridgeFailed = s.rel.bridgeFailed
  relSoftRepair : t.rel.softRepair = s.rel.softRepair
  merQueues : t.mer.queues = s.mer.queues
  merStreams : t.mer.streams = s.mer.streams
  merNextTask : t.mer.nextTask = s.mer.nextTask
  merRung : t.mer.rung = s.mer.rung
  merWeights : t.mer.weights = s.mer.weights
  merWeightsNext : t.mer.weightsNext = s.mer.weightsNext
  merDeficit : t.mer.deficit = s.mer.deficit
  merHeard : t.mer.heard = s.mer.heard
  merRunning : t.mer.running = s.mer.running
  merCharged : t.mer.charged = s.mer.charged
  merActive : t.mer.active = s.mer.active
  merLends : t.mer.lends = s.mer.lends
  merPark : t.mer.park = s.mer.park
  merMoves : t.mer.moves = s.mer.moves
  merBoundary : t.mer.boundary = s.mer.boundary
  fabPorts : t.fab.ports = s.fab.ports
  fabId : t.fab.id = s.fab.id
  fabComms : t.fab.comms = s.fab.comms
  fabColls : t.fab.colls = s.fab.colls
  fabFenced : t.fab.fenced = s.fab.fenced

@[refl] theorem Wrote.refl (s : State) : Wrote s s :=
  ⟨rfl, rfl, rfl, rfl, rfl, rfl, rfl, rfl, rfl, rfl, rfl, rfl, rfl, rfl, rfl, id, rfl, rfl, rfl, rfl, rfl, rfl, rfl, rfl, rfl, rfl, rfl, rfl, rfl, rfl, rfl, rfl, rfl, rfl, rfl, rfl, rfl, rfl, rfl, rfl, rfl, rfl, rfl, rfl, rfl, rfl, rfl, rfl, rfl, rfl, rfl, rfl, rfl, rfl, rfl, rfl, rfl, rfl, rfl, rfl, rfl, rfl, rfl, rfl, rfl, rfl, rfl, rfl, rfl, rfl, rfl, rfl⟩

theorem Wrote.trans {s t u : State} (h : Wrote s t) (k : Wrote t u) : Wrote s u :=
  ⟨k.pending.trans h.pending,
   k.free.trans h.free,
   k.sec.trans h.sec,
   k.prog.trans h.prog,
   k.strm.trans h.strm,
   k.time.trans h.time,
   k.sens.trans h.sens,
   k.boot.trans h.boot,
   k.pow.trans h.pow,
   k.num.trans h.num,
   k.stash.trans h.stash,
   k.phot.trans h.phot,
   k.spec.trans h.spec,
   k.ephem.trans h.ephem,
   k.store.trans h.store,
   fun w => k.wf (h.wf w),
   k.almMbx.trans h.almMbx,
   k.almRing.trans h.almRing,
   k.almEvtHead.trans h.almEvtHead,
   k.almEvtTail.trans h.almEvtTail,
   k.almEvtFloor.trans h.almEvtFloor,
   k.almShortQ.trans h.almShortQ,
   k.almFailed.trans h.almFailed,
   k.almBells.trans h.almBells,
   k.almHeartbeat.trans h.almHeartbeat,
   k.almMbxMissed.trans h.almMbxMissed,
   k.almErrMissed.trans h.almErrMissed,
   k.hostBar2Log.trans h.hostBar2Log,
   k.hostWinBase.trans h.hostWinBase,
   k.hostMsix.trans h.hostMsix,
   k.hostMsixEnable.trans h.hostMsixEnable,
   k.hostMsixFnMask.trans h.hostMsixFnMask,
   k.hostReads.trans h.hostReads,
   k.hostReadQ.trans h.hostReadQ,
   k.hostCfg.trans h.hostCfg,
   k.hostCplTimeout.trans h.hostCplTimeout,
   k.hostAerUR.trans h.hostAerUR,
   k.hostVecLast.trans h.hostVecLast,
   k.hostVecWait.trans h.hostVecWait,
   k.tiersBg.trans h.tiersBg,
   k.tiersBl.trans h.tiersBl,
   k.tiersFills.trans h.tiersFills,
   k.tiersFrozen.trans h.tiersFrozen,
   k.tiersSwapReq.trans h.tiersSwapReq,
   k.relRepairMap.trans h.relRepairMap,
   k.relScrubG.trans h.relScrubG,
   k.relScrubL.trans h.relScrubL,
   k.relSurvey.trans h.relSurvey,
   k.relPass.trans h.relPass,
   k.relSpared.trans h.relSpared,
   k.relBridgeFailed.trans h.relBridgeFailed,
   k.relSoftRepair.trans h.relSoftRepair,
   k.merQueues.trans h.merQueues,
   k.merStreams.trans h.merStreams,
   k.merNextTask.trans h.merNextTask,
   k.merRung.trans h.merRung,
   k.merWeights.trans h.merWeights,
   k.merWeightsNext.trans h.merWeightsNext,
   k.merDeficit.trans h.merDeficit,
   k.merHeard.trans h.merHeard,
   k.merRunning.trans h.merRunning,
   k.merCharged.trans h.merCharged,
   k.merActive.trans h.merActive,
   k.merLends.trans h.merLends,
   k.merPark.trans h.merPark,
   k.merMoves.trans h.merMoves,
   k.merBoundary.trans h.merBoundary,
   k.fabPorts.trans h.fabPorts,
   k.fabId.trans h.fabId,
   k.fabComms.trans h.fabComms,
   k.fabColls.trans h.fabColls,
   k.fabFenced.trans h.fabFenced⟩

theorem Wrote.foldl {α : Type} (f : State → α → State) (h : ∀ s a, Wrote s (f s a)) :
    ∀ (l : List α) (s : State), Wrote s (l.foldl f s)
  | [], s => Wrote.refl s
  | a :: l, s => (h s a).trans (Wrote.foldl f h l (f s a))

/-- Between `s` and `t` Almanac wrote event records and Shutter queued or sent outbound records, and nothing else. -/
structure Settled (s t : State) : Prop where
  pending : t.pending = s.pending
  free : t.free = s.free
  sems : t.sems = s.sems
  mer : t.mer = s.mer
  prog : t.prog = s.prog
  strm : t.strm = s.strm
  time : t.time = s.time
  sens : t.sens = s.sens
  boot : t.boot = s.boot
  pow : t.pow = s.pow
  fab : t.fab = s.fab
  num : t.num = s.num
  stash : t.stash = s.stash
  phot : t.phot = s.phot
  spec : t.spec = s.spec
  ephem : t.ephem = s.ephem
  store : t.store = s.store
  wf : s.mem.wf = true → t.mem.wf = true
  almMbx : t.alm.mbx = s.alm.mbx
  almRing : t.alm.ring = s.alm.ring
  almEvtHead : t.alm.evtHead = s.alm.evtHead
  almEvtFloor : t.alm.evtFloor = s.alm.evtFloor
  almShortQ : t.alm.shortQ = s.alm.shortQ
  almFailed : t.alm.failed = s.alm.failed
  almBells : t.alm.bells = s.alm.bells
  almHeartbeat : t.alm.heartbeat = s.alm.heartbeat
  almMbxMissed : t.alm.mbxMissed = s.alm.mbxMissed
  almErrMissed : t.alm.errMissed = s.alm.errMissed
  hostBar2Log : t.host.bar2Log = s.host.bar2Log
  hostWinBase : t.host.winBase = s.host.winBase
  hostMsix : t.host.msix = s.host.msix
  hostMsixEnable : t.host.msixEnable = s.host.msixEnable
  hostMsixFnMask : t.host.msixFnMask = s.host.msixFnMask
  hostReads : t.host.reads = s.host.reads
  hostReadQ : t.host.readQ = s.host.readQ
  hostCfg : t.host.cfg = s.host.cfg
  hostCplTimeout : t.host.cplTimeout = s.host.cplTimeout
  hostAerUR : t.host.aerUR = s.host.aerUR
  hostVecLast : t.host.vecLast = s.host.vecLast
  hostVecWait : t.host.vecWait = s.host.vecWait
  tiersBg : t.tiers.bg = s.tiers.bg
  tiersBl : t.tiers.bl = s.tiers.bl
  tiersFills : t.tiers.fills = s.tiers.fills
  tiersFrozen : t.tiers.frozen = s.tiers.frozen
  tiersSwapReq : t.tiers.swapReq = s.tiers.swapReq
  relRepairMap : t.rel.repairMap = s.rel.repairMap
  relScrubG : t.rel.scrubG = s.rel.scrubG
  relScrubL : t.rel.scrubL = s.rel.scrubL
  relSurvey : t.rel.survey = s.rel.survey
  relPass : t.rel.pass = s.rel.pass
  relSpared : t.rel.spared = s.rel.spared
  relBridgeFailed : t.rel.bridgeFailed = s.rel.bridgeFailed
  relSoftRepair : t.rel.softRepair = s.rel.softRepair
  secMode : t.sec.mode = s.sec.mode
  secTdisp : t.sec.tdisp = s.sec.tdisp
  secScrub : t.sec.scrub = s.sec.scrub
  secSessions : t.sec.sessions = s.sec.sessions
  secOpenScope : t.sec.openScope = s.sec.openScope
  secOwner : t.sec.owner = s.sec.owner
  secMembership : t.sec.membership = s.sec.membership
  secKeys : t.sec.keys = s.sec.keys
  secBounceKeys : t.sec.bounceKeys = s.sec.bounceKeys
  secIde : t.sec.ide = s.sec.ide
  secPeers : t.sec.peers = s.sec.peers
  secDramKeys : t.sec.dramKeys = s.sec.dramKeys
  secEpoch : t.sec.epoch = s.sec.epoch
  secJtagNow : t.sec.jtagNow = s.sec.jtagNow
  secJtagEver : t.sec.jtagEver = s.sec.jtagEver
  secImporting : t.sec.importing = s.sec.importing
  bounceInBase : t.sec.bounce.inBase = s.sec.bounce.inBase
  bounceInLog : t.sec.bounce.inLog = s.sec.bounce.inLog
  bounceOutBase : t.sec.bounce.outBase = s.sec.bounce.outBase
  bounceOutLog : t.sec.bounce.outLog = s.sec.bounce.outLog
  bounceInHeadWord : t.sec.bounce.inHeadWord = s.sec.bounce.inHeadWord
  bounceOutTailWord : t.sec.bounce.outTailWord = s.sec.bounce.outTailWord
  bounceInTail : t.sec.bounce.inTail = s.sec.bounce.inTail
  bounceOutHead : t.sec.bounce.outHead = s.sec.bounce.outHead
  bounceInHead : t.sec.bounce.inHead = s.sec.bounce.inHead
  bounceSeqIn : t.sec.bounce.seqIn = s.sec.bounce.seqIn

@[refl] theorem Settled.refl (s : State) : Settled s s :=
  ⟨rfl, rfl, rfl, rfl, rfl, rfl, rfl, rfl, rfl, rfl, rfl, rfl, rfl, rfl, rfl, rfl, rfl, id, rfl, rfl, rfl, rfl, rfl, rfl, rfl, rfl, rfl, rfl, rfl, rfl, rfl, rfl, rfl, rfl, rfl, rfl, rfl, rfl, rfl, rfl, rfl, rfl, rfl, rfl, rfl, rfl, rfl, rfl, rfl, rfl, rfl, rfl, rfl, rfl, rfl, rfl, rfl, rfl, rfl, rfl, rfl, rfl, rfl, rfl, rfl, rfl, rfl, rfl, rfl, rfl, rfl, rfl, rfl, rfl, rfl, rfl, rfl, rfl, rfl⟩

theorem Settled.trans {s t u : State} (h : Settled s t) (k : Settled t u) : Settled s u :=
  ⟨k.pending.trans h.pending,
   k.free.trans h.free,
   k.sems.trans h.sems,
   k.mer.trans h.mer,
   k.prog.trans h.prog,
   k.strm.trans h.strm,
   k.time.trans h.time,
   k.sens.trans h.sens,
   k.boot.trans h.boot,
   k.pow.trans h.pow,
   k.fab.trans h.fab,
   k.num.trans h.num,
   k.stash.trans h.stash,
   k.phot.trans h.phot,
   k.spec.trans h.spec,
   k.ephem.trans h.ephem,
   k.store.trans h.store,
   fun w => k.wf (h.wf w),
   k.almMbx.trans h.almMbx,
   k.almRing.trans h.almRing,
   k.almEvtHead.trans h.almEvtHead,
   k.almEvtFloor.trans h.almEvtFloor,
   k.almShortQ.trans h.almShortQ,
   k.almFailed.trans h.almFailed,
   k.almBells.trans h.almBells,
   k.almHeartbeat.trans h.almHeartbeat,
   k.almMbxMissed.trans h.almMbxMissed,
   k.almErrMissed.trans h.almErrMissed,
   k.hostBar2Log.trans h.hostBar2Log,
   k.hostWinBase.trans h.hostWinBase,
   k.hostMsix.trans h.hostMsix,
   k.hostMsixEnable.trans h.hostMsixEnable,
   k.hostMsixFnMask.trans h.hostMsixFnMask,
   k.hostReads.trans h.hostReads,
   k.hostReadQ.trans h.hostReadQ,
   k.hostCfg.trans h.hostCfg,
   k.hostCplTimeout.trans h.hostCplTimeout,
   k.hostAerUR.trans h.hostAerUR,
   k.hostVecLast.trans h.hostVecLast,
   k.hostVecWait.trans h.hostVecWait,
   k.tiersBg.trans h.tiersBg,
   k.tiersBl.trans h.tiersBl,
   k.tiersFills.trans h.tiersFills,
   k.tiersFrozen.trans h.tiersFrozen,
   k.tiersSwapReq.trans h.tiersSwapReq,
   k.relRepairMap.trans h.relRepairMap,
   k.relScrubG.trans h.relScrubG,
   k.relScrubL.trans h.relScrubL,
   k.relSurvey.trans h.relSurvey,
   k.relPass.trans h.relPass,
   k.relSpared.trans h.relSpared,
   k.relBridgeFailed.trans h.relBridgeFailed,
   k.relSoftRepair.trans h.relSoftRepair,
   k.secMode.trans h.secMode,
   k.secTdisp.trans h.secTdisp,
   k.secScrub.trans h.secScrub,
   k.secSessions.trans h.secSessions,
   k.secOpenScope.trans h.secOpenScope,
   k.secOwner.trans h.secOwner,
   k.secMembership.trans h.secMembership,
   k.secKeys.trans h.secKeys,
   k.secBounceKeys.trans h.secBounceKeys,
   k.secIde.trans h.secIde,
   k.secPeers.trans h.secPeers,
   k.secDramKeys.trans h.secDramKeys,
   k.secEpoch.trans h.secEpoch,
   k.secJtagNow.trans h.secJtagNow,
   k.secJtagEver.trans h.secJtagEver,
   k.secImporting.trans h.secImporting,
   k.bounceInBase.trans h.bounceInBase,
   k.bounceInLog.trans h.bounceInLog,
   k.bounceOutBase.trans h.bounceOutBase,
   k.bounceOutLog.trans h.bounceOutLog,
   k.bounceInHeadWord.trans h.bounceInHeadWord,
   k.bounceOutTailWord.trans h.bounceOutTailWord,
   k.bounceInTail.trans h.bounceInTail,
   k.bounceOutHead.trans h.bounceOutHead,
   k.bounceInHead.trans h.bounceInHead,
   k.bounceSeqIn.trans h.bounceSeqIn⟩

theorem Settled.foldl {α : Type} (f : State → α → State) (h : ∀ s a, Settled s (f s a)) :
    ∀ (l : List α) (s : State), Settled s (l.foldl f s)
  | [], s => Settled.refl s
  | a :: l, s => (h s a).trans (Settled.foldl f h l (f s a))

theorem Posted.dram {s t : State} (h : Posted s t) : Dram s t := by
  cases h; constructor <;> simp_all

theorem Dram.wrote {s t : State} (h : Dram s t) : Wrote s t := by
  cases h; constructor <;> simp_all

theorem Posted.ite {s a b : State} {c : Prop} [Decidable c] (h : Posted s a) (k : Posted s b) :
    Posted s (if c then a else b) := by split <;> assumption

theorem Dram.ite {s a b : State} {c : Prop} [Decidable c] (h : Dram s a) (k : Dram s b) :
    Dram s (if c then a else b) := by split <;> assumption

theorem Wrote.ite {s a b : State} {c : Prop} [Decidable c] (h : Wrote s a) (k : Wrote s b) :
    Wrote s (if c then a else b) := by split <;> assumption

theorem Dram.rel_set {s u : State} {r : Rel} (h : Dram s u)
    (h0 : r.repairMap = u.rel.repairMap := by rfl) (h1 : r.scrubG = u.rel.scrubG := by rfl) (h2 : r.scrubL =
    u.rel.scrubL := by rfl) (h3 : r.survey = u.rel.survey := by rfl) (h4 : r.pass = u.rel.pass := by rfl) (h5 :
    r.spared = u.rel.spared := by rfl) (h6 : r.bridgeFailed = u.rel.bridgeFailed := by rfl) (h7 : r.softRepair =
    u.rel.softRepair := by rfl) :
    Dram s { u with rel := r } :=
  Dram.trans h (by constructor <;> first | assumption | rfl | exact id)

theorem Dram.tiers_set {s u : State} {r : Tiers} (h : Dram s u)
    (h0 : r.bg = u.tiers.bg := by rfl) (h1 : r.bl = u.tiers.bl := by rfl) (h2 : r.fills = u.tiers.fills := by rfl)
    (h3 : r.frozen = u.tiers.frozen := by rfl) (h4 : r.swapReq = u.tiers.swapReq := by rfl) :
    Dram s { u with tiers := r } :=
  Dram.trans h (by constructor <;> first | assumption | rfl | exact id)

theorem Wrote.rel_set {s u : State} {r : Rel} (h : Wrote s u)
    (h0 : r.repairMap = u.rel.repairMap := by rfl) (h1 : r.scrubG = u.rel.scrubG := by rfl) (h2 : r.scrubL =
    u.rel.scrubL := by rfl) (h3 : r.survey = u.rel.survey := by rfl) (h4 : r.pass = u.rel.pass := by rfl) (h5 :
    r.spared = u.rel.spared := by rfl) (h6 : r.bridgeFailed = u.rel.bridgeFailed := by rfl) (h7 : r.softRepair =
    u.rel.softRepair := by rfl) :
    Wrote s { u with rel := r } :=
  Wrote.trans h (by constructor <;> first | assumption | rfl | exact id)

theorem Wrote.tiers_set {s u : State} {r : Tiers} (h : Wrote s u)
    (h0 : r.bg = u.tiers.bg := by rfl) (h1 : r.bl = u.tiers.bl := by rfl) (h2 : r.fills = u.tiers.fills := by rfl)
    (h3 : r.frozen = u.tiers.frozen := by rfl) (h4 : r.swapReq = u.tiers.swapReq := by rfl) :
    Wrote s { u with tiers := r } :=
  Wrote.trans h (by constructor <;> first | assumption | rfl | exact id)

/-! Outputs, flags and events. -/

theorem emit_posted {s u : State} (o : Out) (h : Posted s u) : Posted s (emit o u) :=
  h.trans (by constructor <;> rfl)

theorem msixSignal_posted {s u : State} (v : Nat) (h : Posted s u) : Posted s (msixSignal v u) := by
  unfold msixSignal
  split
  · exact h
  · split
    · exact h.trans (by constructor <;> rfl)
    · exact emit_posted _ h

theorem setErr_posted {s u : State} (i : Nat) (h : Posted s u) : Posted s (setErr i u) :=
  msixSignal_posted 17 (h.trans (by constructor <;> rfl))

theorem setMbxDone_posted {s u : State} (m : Nat) (h : Posted s u) : Posted s (setMbxDone m u) :=
  h.trans (by constructor <;> rfl)

theorem post_posted {s u : State} (code : Nat) (ws : List Nat) (h : Posted s u) : Posted s (post code ws u) := by
  unfold post
  split
  · exact h
  · refine h.trans ?_
    dsimp only
    split <;> split <;>
      first
      | (refine setErr_posted 0 ?_; constructor <;> rfl)
      | (constructor <;> rfl)

theorem postFatal_posted {s u : State} (code : Nat) (ws : List Nat) (h : Posted s u) :
    Posted s (postFatal code ws u) := by
  unfold postFatal
  split
  · exact setErr_posted 4 (post_posted code ws h)
  · exact h

/-! DRAM: records, codes and bytes. -/

theorem count_dram {s u : State} (c : Counter) (i n : Nat) (h : Dram s u) : Dram s (count c i n u) :=
  h.trans (by constructor <;> first | rfl | exact id)

theorem post_dram {s u : State} (code : Nat) (ws : List Nat) (h : Dram s u) : Dram s (post code ws u) :=
  h.trans (post_posted code ws (.refl u)).dram

theorem postFatal_dram {s u : State} (code : Nat) (ws : List Nat) (h : Dram s u) : Dram s (postFatal code ws u) :=
  h.trans (postFatal_posted code ws (.refl u)).dram

theorem logErr_dram {s u : State} (e : ErrRec) (h : Dram s u) : Dram s (logErr e u) :=
  h.trans (by constructor <;> first | rfl | exact id)

theorem setFrame_dram {s u : State} (k : Nat) (f : FrameRec) (h : Dram s u) : Dram s (setFrame k f u) :=
  h.trans (by constructor <;> first | rfl | exact id)

theorem retireFrame_dram {s u : State} (l : Loc) (cause : Nat) (h : Dram s u) : Dram s (retireFrame l cause u) :=
  Dram.ite h (logErr_dram _ (post_dram _ _ (count_dram _ _ _ (Dram.rel_set (setFrame_dram _ _ h)))))

theorem frameCe_dram {s u : State} (l : Loc) (syn : Nat) (h : Dram s u) : Dram s (frameCe l syn u) := by
  unfold frameCe
  extract_lets f ce watch v w x
  have hw : Dram s w := count_dram _ _ _ (setFrame_dram _ _ h)
  have hx : Dram s x := Dram.ite hw (logErr_dram _ hw)
  exact Dram.ite (logErr_dram _ (post_dram _ _ hx)) hx

theorem frameSe_dram {s u : State} (l : Loc) (h : Dram s u) : Dram s (frameSe l u) := by
  unfold frameSe
  extract_lets f se v
  have hv : Dram s v := count_dram _ _ _ (setFrame_dram _ _ h)
  exact Dram.ite (retireFrame_dram _ _ hv) hv

theorem failChannel_dram {s u : State} (chan cause : Nat) (h : Dram s u) : Dram s (failChannel chan cause u) :=
  Dram.ite h (logErr_dram _ (postFatal_dram _ _ (Dram.rel_set h)))

theorem noteStrongFail_dram {s u : State} (chan : Nat) (h : Dram s u) : Dram s (noteStrongFail chan u) :=
  Dram.ite (failChannel_dram _ _ (Dram.rel_set h)) (Dram.rel_set h)

theorem noteRepair_dram {s u : State} (page : Nat) (h : Dram s u) : Dram s (noteRepair page u) := by
  unfold noteRepair
  refine Dram.ite h ?_
  split
  · exact h
  · exact Dram.rel_set h

theorem poisonPage_dram {s u : State} (l : Loc) (mask : Nat) (h : Dram s u) : Dram s (poisonPage l mask u) :=
  count_dram _ _ _ (setFrame_dram _ _ h)

theorem tagFails_dram {s u : State} (l : Loc) (ks : List Nat) (h : Dram s u) :
    Dram s (ks.foldl (fun s i => post Ev.dramTagFail [l.tier, l.ch, l.raw + 256 * i] (count .tagFail l.cidx 1 s)) u) :=
  h.trans (Dram.foldl _ (fun v _ => post_dram _ _ (count_dram _ _ _ (.refl v))) ks u)

theorem foundPoison_dram {s u : State} (page : Nat) (h : Dram s u) : Dram s (foundPoison page u) :=
  Dram.ite h (noteRepair_dram _ h)

theorem strongDecision_dram {s u : State} (a : Nat) (h : Dram s u) : Dram s (strongDecision a u) := by
  unfold strongDecision
  extract_lets page l lost gone errsOf t src bad tagBad s1 fresh s2 s3 s4 s5 s6 s7
  split
  · exact frameSe_dram _ (Dram.rel_set h)
  · have h1 : Dram s s1 := tagFails_dram l tagBad h
    have h5 : Dram s s5 := logErr_dram _ (post_dram _ _ (count_dram _ _ _ (poisonPage_dram _ _ h1)))
    have h6 : Dram s s6 := Dram.ite h5 (retireFrame_dram _ _ h5)
    have h7 : Dram s s7 := noteStrongFail_dram _ h6
    exact Dram.ite (noteRepair_dram _ h7) h7

theorem metaLine_dram {s u : State} (l : Loc) (i : Nat) (h : Dram s u) : Dram s (metaLine l i u).2 := by
  unfold metaLine
  dsimp only
  split
  · exact h
  · split
    · exact count_dram _ _ _ (Dram.rel_set h)
    · exact h

theorem loseFrame_dram {s u : State} (l : Loc) (h : Dram s u) : Dram s (loseFrame l u) := by
  unfold loseFrame
  extract_lets f src v w x
  have hx : Dram s x := count_dram _ _ _ (retireFrame_dram _ _ (setFrame_dram _ _ (Dram.rel_set h)))
  exact hx.trans (Dram.foldl _ (fun v _ => Dram.ite (.refl v) (noteRepair_dram _ (.refl v))) _ x)

theorem unpoison_dram {s u : State} (a : Nat) (l : Loc) (f : FrameRec) (h : Dram s u) : Dram s (unpoison a l f u) :=
  Dram.ite (setFrame_dram _ _ h) (Dram.rel_set (setFrame_dram _ _ h))

theorem sectorRead_dram {s u : State} (a : Nat) (h : Dram s u) : Dram s (sectorRead a u) := by
  unfold sectorRead
  extract_lets l e
  split
  · exact foundPoison_dram _ h
  · have hm := metaLine_dram l (l.sector / 4) h
    revert hm
    generalize metaLine l (l.sector / 4) u = r
    obtain ⟨ok, v⟩ := r
    intro hm
    dsimp only at hm ⊢
    split
    · exact strongDecision_dram _ hm
    · split
      · exact hm
      · split
        · exact strongDecision_dram _ hm
        · exact Dram.ite hm (strongDecision_dram _ hm)
        · exact Dram.ite (frameCe_dram _ _ hm) (strongDecision_dram _ (frameCe_dram _ _ hm))

theorem channelReads_dram {s u : State} (a n : Nat) (h : Dram s u) : Dram s (channelReads a n u) :=
  Dram.ite h (h.trans (Dram.foldl _ (fun v x => sectorRead_dram x (.refl v)) _ u))

theorem sramLost_dram {s u : State} (w i n a : Nat) (f : Bool) (h : Dram s u) : Dram s (sramLost w i n a f u) :=
  logErr_dram _ (Dram.ite (postFatal_dram _ _ h) (post_dram _ _ h))

theorem sramMeet_dram {s u : State} (w : Nat) (b : Bool) (h : Dram s u) : Dram s (sramMeet w b u) := by
  have h2 : Dram s { u with rel := { u.rel with sramErrs := kvDel w u.rel.sramErrs } } := Dram.rel_set h
  exact Dram.ite (count_dram _ _ _ h2) (Dram.ite h2 (sramLost_dram _ _ _ _ _ (count_dram _ _ _ (Dram.rel_set h2))))

/-- Words of SRAM that are read: corrections, poison. -/
theorem sramReads_dram {s u : State} (a n : Nat) (h : Dram s u) : Dram s (sramReads a n u) :=
  Dram.ite h (h.trans (Dram.foldl _ (fun v (x : Nat × Bool) => sramMeet_dram x.1 x.2 (.refl v)) _ u))

theorem countRead_dram {s : State} : ∀ (fuel a n : Nat) {u : State}, Dram s u → Dram s (countRead fuel a n u)
  | 0, _, _, _, h => h
  | fuel + 1, _, _, _, h => Dram.ite h (countRead_dram fuel _ _ (count_dram _ _ _ (count_dram _ _ _ h)))

theorem countWrite_dram {s : State} : ∀ (fuel a n : Nat) {u : State}, Dram s u → Dram s (countWrite fuel a n u)
  | 0, _, _, _, h => h
  | fuel + 1, _, _, _, h =>
    Dram.ite h (countWrite_dram fuel _ _ (count_dram _ _ _ h))

theorem drainQueue_dram {s : State} : ∀ (fuel chan cidx n : Nat) {u : State}, Dram s u →
    Dram s (drainQueue fuel chan cidx n u)
  | 0, _, _, _, _, h => h
  | fuel + 1, chan, cidx, n, u, h => by
    unfold drainQueue
    split
    · exact h
    · split
      · exact h
      · exact drainQueue_dram fuel _ _ _ (count_dram _ _ _ (count_dram _ _ _ (Dram.tiers_set h)))

theorem queueLines_dram {s : State} : ∀ (fuel a n : Nat) {u : State}, Dram s u → Dram s (queueLines fuel a n u)
  | 0, _, _, _, h => h
  | fuel + 1, _, _, _, h =>
    Dram.ite h (queueLines_dram fuel _ _
      (Dram.ite (drainQueue_dram _ _ _ _ (count_dram _ _ _ (Dram.tiers_set h))) (Dram.tiers_set h)))

theorem markDirty_dram {s u : State} (a n : Nat) (h : Dram s u) : Dram s (markDirty a n u) :=
  Dram.ite h (Dram.tiers_set h)

theorem holdMeta_dram {s u : State} (l : Loc) (h : Dram s u) : Dram s (holdMeta l u) := Dram.tiers_set h

theorem applyFlip_dram {s u : State} (a : Nat) (h : Dram s u) : Dram s (applyFlip a u) := by
  unfold applyFlip
  dsimp only
  split
  · exact h
  · exact logErr_dram _ (post_dram _ _ (count_dram _ _ _ (Dram.ite (Dram.rel_set (Dram.rel_set h))
      (Dram.rel_set (Dram.rel_set h)))))

theorem mem_set_dram {s u : State} (a : Nat) (bs : List Byte) (h : Dram s u) :
    Dram s { u with mem := u.mem.write a bs } :=
  h.trans (by constructor <;> first | rfl | exact fun w => Memory.wf_write bs a w)

theorem sectorWrite_dram {s u : State} (a : Nat) (bs : List Byte) (h : Dram s u) : Dram s (sectorWrite a bs u).2 := by
  unfold sectorWrite
  extract_lets l whole v
  have hv : Dram s v := Dram.ite h (channelReads_dram _ _ h)
  split
  · exact h
  · split
    · exact hv
    · dsimp only
      have := unpoison_dram (s := s) a l { v.frame l.frameKey with
        poison := (v.frame l.frameKey).poison &&& ((2 ^ 232 - 1) ^^^ (2 ^ l.sector)) } hv
      exact Dram.rel_set (mem_set_dram a bs (Dram.ite hv this))

theorem sectorWrites_dram {s : State} : ∀ (fuel a : Nat) (bs : List Byte) {r : Bool × State}, Dram s r.2 →
    Dram s (sectorWrites fuel a bs r).2
  | 0, _, _, _, h => h
  | _ + 1, _, [], (_, _), h => h
  | fuel + 1, _, _ :: _, (_, _), h => sectorWrites_dram fuel _ _ (r := (_, _)) (sectorWrite_dram _ _ h)

theorem wholePages_dram {s u : State} (a n : Nat) (h : Dram s u) : Dram s (wholePages a n u) :=
  Dram.ite h (h.trans (Dram.foldl _ (fun v _ => Dram.rel_set (.refl v)) _ u))

theorem eachPage_dram {s : State} : ∀ (fuel a n : Nat) {u : State}, Dram s u → Dram s (eachPage fuel a n u)
  | 0, _, _, _, h => h
  | fuel + 1, _, _, _, h => Dram.ite h (eachPage_dram fuel _ _ (applyFlip_dram _ (holdMeta_dram _ h)))

/-- A write of DRAM: what it can do, whatever the bytes. -/
theorem dramWrite_dram {s u : State} (a : Nat) (bs : List Byte) (h : Dram s u) : Dram s (dramWrite a bs u).2 := by
  unfold dramWrite
  extract_lets n
  split
  · exact h
  · have hw := sectorWrites_dram (n / 256 + 2) a bs (r := (false, u)) h
    revert hw
    generalize sectorWrites (n / 256 + 2) a bs (false, u) = r
    obtain ⟨bad, v⟩ := r
    intro hw
    exact eachPage_dram _ _ _ (queueLines_dram _ _ _ (countWrite_dram _ _ _ (markDirty_dram _ _
      (wholePages_dram _ _ hw))))

/-! Any region. -/

theorem count_wrote {s u : State} (c : Counter) (i n : Nat) (h : Wrote s u) : Wrote s (count c i n u) :=
  h.trans (by constructor <;> first | rfl | exact id)

theorem post_wrote {s u : State} (code : Nat) (ws : List Nat) (h : Wrote s u) : Wrote s (post code ws u) :=
  h.trans (post_posted code ws (.refl u)).dram.wrote

theorem mem_set_wrote {s u : State} (a : Nat) (bs : List Byte) (h : Wrote s u) :
    Wrote s { u with mem := u.mem.write a bs } := h.trans (mem_set_dram a bs (.refl u)).wrote

theorem foldl_wf (f : Memory → Nat × Byte → Memory) (hf : ∀ m p, m.wf = true → (f m p).wf = true) :
    ∀ (l : List (Nat × Byte)) (m : Memory), m.wf = true → (l.foldl f m).wf = true
  | [], _, h => h
  | p :: l, m, h => foldl_wf f hf l _ (hf m p h)

theorem sramOver_dram {s u : State} (a n : Nat) (h : Dram s u) : Dram s (sramOver a n u) := by
  unfold sramOver
  split
  · exact h
  · have h2 : Dram s (if a % 8 = 0 then u else sramReads a 1 u) := Dram.ite h (sramReads_dram _ _ h)
    exact Dram.rel_set (Dram.ite h2 (sramReads_dram _ _ h2))

theorem sramWrite_wrote {s u : State} (a : Nat) (bs : List Byte) (h : Wrote s u) : Wrote s (sramWrite a bs u).2 := by
  unfold sramWrite
  extract_lets n v hit part keep m
  have h' : Wrote s v := h.trans (sramOver_dram a n (.refl u)).wrote
  split
  · exact mem_set_wrote a bs h'
  · refine h'.trans ?_
    have hm : v.mem.wf = true → m.wf = true := fun w => foldl_wf _ (fun m p k => by
      split
      · exact k
      · exact Memory.wf_set _ _ k) _ _ w
    constructor <;> first | rfl | exact hm

theorem putSem_wrote {s u : State} (i : Nat) (x : Sem) (h : Wrote s u) : Wrote s (putSem i x u) := by
  refine h.trans ?_
  unfold putSem resolveWaits answerWatches
  dsimp only
  split <;> (constructor <;> first | rfl | exact id)

theorem semCycle_wrote {s u : State} (i : Nat) (sets : List W32) (adds : List Nat) (h : Wrote s u) :
    Wrote s (semCycle i sets adds u).2 := by
  unfold semCycle
  dsimp only
  split <;> exact putSem_wrote _ _ h

theorem semAdd_wrote {s u : State} (i n : Nat) (h : Wrote s u) : Wrote s (semAdd i n u).2 := semCycle_wrote _ _ _ h

theorem semSet_wrote {s u : State} (i : Nat) (v : W32) (h : Wrote s u) : Wrote s (semSet i v u) := semCycle_wrote _ _ _ h

theorem semWrite_wrote {s u : State} (a : Nat) (bs : List Byte) (h : Wrote s u) : Wrote s (semWrite a bs u) := by
  unfold semWrite
  dsimp only
  refine Wrote.ite h (h.trans (Wrote.foldl _ (fun v _ => ?_) _ u))
  exact Wrote.ite (semSet_wrote _ _ (.refl v)) (.refl v)

/-- A write by the device: what it can do, wherever it goes. -/
theorem devWrite_wrote {s u : State} (a : Nat) (bs : List Byte) (h : Wrote s u) : Wrote s (devWrite a bs u).2 := by
  unfold devWrite
  split
  · exact h.trans (dramWrite_dram a bs (.refl u)).wrote
  · exact h.trans (dramWrite_dram a bs (.refl u)).wrote
  · exact sramWrite_wrote a bs h
  · exact sramWrite_wrote a bs h
  · exact semWrite_wrote a bs h
  · exact count_wrote _ _ _ (mem_set_wrote a bs h)
  · exact mem_set_wrote a bs h
  · exact h

theorem devPut_wrote {s u : State} (a : Nat) (bs : List Byte) (h : Wrote s u) : Wrote s (devPut a bs u) :=
  devWrite_wrote a bs h

/-- A write by the device to DRAM or the host window touches no semaphore, watch or task. -/
theorem devPut_dram {s u : State} (a : Nat) (bs : List Byte)
    (ha : regionOf a = some .gddr7 ∨ regionOf a = some .lpddr ∨ regionOf a = some .hostWin) (h : Dram s u) :
    Dram s (devPut a bs u) := by
  unfold devPut devWrite
  rcases ha with e | e | e <;> rw [e]
  · exact dramWrite_dram a bs h
  · exact dramWrite_dram a bs h
  · exact count_dram _ _ _ (mem_set_dram a bs h)

/-- A read by the device: corrections, poison found, counters. -/
theorem devRead_dram {s u : State} (a n : Nat) (h : Dram s u) : Dram s (devRead a n u).2.2 := by
  unfold devRead
  split
  · exact countRead_dram _ _ _ (channelReads_dram _ _ h)
  · exact countRead_dram _ _ _ (channelReads_dram _ _ h)
  · exact h
  · exact count_dram _ _ _ h
  · exact sramReads_dram a n h

theorem poisonRange_wrote {s u : State} (a n : Nat) (h : Wrote s u) : Wrote s (poisonRange a n u) := by
  have fold : ∀ l : List Nat, Wrote s (l.foldl (fun s x => let l := s.loc x; poisonPage l (2 ^ (l.sector % 8)) s) u) :=
    fun l => h.trans (Dram.foldl _ (fun v x => poisonPage_dram _ _ (.refl v)) l u).wrote
  unfold poisonRange
  refine Wrote.ite h ?_
  split
  · exact fold _
  · exact fold _
  · exact Wrote.rel_set h
  · exact Wrote.rel_set h
  · exact h

theorem fillTier_wf (t : Nat) {s : State} (h : s.mem.wf = true) : (fillTier t s).mem.wf = true := Memory.wf_clear _ _ h

/-! What follows a command's effect. -/

theorem Dram.settled {s t : State} (h : Dram s t) : Settled s t := by
  cases h; constructor <;> simp_all

theorem Settled.ite {s a b : State} {c : Prop} [Decidable c] (h : Settled s a) (k : Settled s b) :
    Settled s (if c then a else b) := by split <;> assumption

theorem regionOf_in {a : Nat} {r : Region} (h : r.lo ≤ a) (k : a < r.hi) : regionOf a = some r := by
  have d : ∀ q : Region, (decide (q.lo ≤ a) && decide (a < q.hi)) = decide (q = r) := by
    intro q
    rw [Bool.eq_iff_iff]
    simp only [Bool.and_eq_true, decide_eq_true_eq]
    constructor
    · rintro ⟨h1, h2⟩
      cases q <;> cases r <;> simp only [Region.lo, Region.hi] at h k h1 h2 <;> first | rfl | omega
    · rintro rfl
      exact ⟨h, k⟩
  unfold regionOf
  simp only [d]
  cases r <;> rfl

theorem mem_set_settled {s u : State} (a : Nat) (bs : List Byte) (h : Settled s u) :
    Settled s { u with mem := u.mem.write a bs } := h.trans (mem_set_dram a bs (.refl u)).settled

theorem bounceSend_settled {s u : State} (r : BounceRec) (h : Settled s u) : Settled s (bounceSend r u) := by
  unfold bounceSend
  split
  · exact h.trans (by constructor <;> first | rfl | exact id)
  · exact h

theorem bounceEmit_settled {r : BounceRec} {u v : State} (h : bounceEmit r u = some v) : Settled u v := by
  unfold bounceEmit at h
  extract_lets b len off size skip w start clear sealed tail se x at h
  split at h
  · cases h
  · cases h
    have hw : Settled u w := Settled.ite (.refl u) (mem_set_settled _ _ (.refl u))
    have hs : w.sec = u.sec := by
      show (if skip = 0 then u else _).sec = _
      split <;> rfl
    have hx : Settled w x := by
      constructor <;> first
        | rfl
        | (simp only [hs, x, b]; done)
        | exact fun k => Memory.wf_write _ _ (Memory.wf_write _ _ k)
    exact (hw.trans hx).trans (count_dram _ _ _ (count_dram _ _ _ (.refl x))).settled

theorem bounceFlushN_settled : ∀ (n : Nat) (u : State), Settled u (bounceFlushN n u)
  | 0, u => .refl u
  | n + 1, u => by
    unfold bounceFlushN
    split
    · rfl
    · split
      · rfl
      · rename_i v hv
        exact ((bounceEmit_settled hv).trans (by constructor <;> first | rfl | exact id)).trans
          (bounceFlushN_settled n _)

theorem bounceFlush_settled (u : State) : Settled u (bounceFlush u) := bounceFlushN_settled _ u

/-- A slot of the event ring lies in a DRAM tier or the host window. -/
theorem ringOk_slot {u : State} (h : u.ringOk) {base n : Nat} (hr : u.alm.ring = some (base, n)) (i : Nat) :
    regionOf (base + 64 * (i % 2 ^ n)) = some .gddr7 ∨ regionOf (base + 64 * (i % 2 ^ n)) = some .lpddr ∨
    regionOf (base + 64 * (i % 2 ^ n)) = some .hostWin := by
  unfold State.ringOk at h
  rw [hr] at h
  obtain ⟨-, -, -, r, hr3, hlo, hhi⟩ := h
  have : i % 2 ^ n < 2 ^ n := Nat.mod_lt _ (by positivity)
  have e := regionOf_in (a := base + 64 * (i % 2 ^ n)) (r := r) (by omega) (by omega)
  rcases hr3 with rfl | rfl | rfl <;> simp [e]

theorem writeEvent_settled {u v : State} (h : u.ringOk) (hw : writeEvent u = some v) : Settled u v := by
  unfold writeEvent at hw
  split at hw
  · rename_i base n e t hr he
    split at hw
    · cases hw
    · split at hw
      · extract_lets bs a1 u1 u2 a3 u3 at hw
        cases hw
        have h1 : Settled u u1 := by constructor <;> first | rfl | exact id
        have h2 : Settled u1 u2 := (devPut_dram _ _ (ringOk_slot (u := u1) h hr _) (.refl u1)).settled
        have h3 : Settled u2 u3 := by constructor <;> first | rfl | exact id
        exact bounceSend_settled _ (((h1.trans h2).trans h3).trans (msixSignal_posted 0 (.refl u3)).dram.settled)
      · cases hw
  · cases hw

theorem postLost_settled (u : State) : Settled u (postLost u) := by
  unfold postLost
  split
  · constructor <;> first | rfl | exact id
  · rfl

theorem Settled.ringOk {s t : State} (h : Settled s t) (k : s.ringOk) : t.ringOk := by
  unfold State.ringOk; rw [h.almRing]; exact k

theorem drainEvents_settled : ∀ (n : Nat) (u : State), u.ringOk → Settled u (drainEvents n u)
  | 0, u, _ => .refl u
  | n + 1, u, h => by
    unfold drainEvents
    split
    · rename_i v hv
      have h1 := (writeEvent_settled h hv).trans (postLost_settled v)
      exact h1.trans (drainEvents_settled n _ (h1.ringOk h))
    · rfl

/-- What `settle` can do, where the event ring lies where it may. -/
theorem settle_settled (s : State) (h : s.ringOk) : Settled s (settle s) :=
  (drainEvents_settled _ s h).trans (bounceFlush_settled _)

/-- `settle` keeps the invariant. -/
theorem settle_inv {s : State} (h : Inv s) : Inv (settle s) := by
  have k := settle_settled s h.ring
  refine ⟨k.wf h.mem, ?_, k.ringOk h.ring⟩
  unfold State.windowOk
  rw [k.hostBar2Log, k.hostWinBase]
  exact h.window

/-! Mailboxes. -/

theorem setMbx_other (m k : Fin 16) (f : Mailbox → Mailbox) (s : State) (h : k ≠ m) :
    (setMbx m f s).mailbox k = s.mailbox k := by
  have : m.val ≠ k.val := fun e => h (Fin.ext e.symm)
  simp [setMbx, State.mailbox, this]

theorem setMbx_same (m : Fin 16) (f : Mailbox → Mailbox) (s : State) : (setMbx m f s).mailbox m = f (s.mailbox m) := by
  simp [setMbx, State.mailbox]

end Sys2Proof.Machine
end

