-- ==== Sys2Proof/Tests/Slice0.lean ====
section
/-!
SUPPORT. The author's tests: the checks of WellFormed refuse an ill-formed command each; every statement with
hypotheses has a concrete state and operands that meet them, clause by clause; a few results taken from the worked
examples of the spec.
-/

namespace Sys2Proof.Tests

open Sys2Proof.Machine

/-! Small states. -/

/-- A powered module that has declared itself ready. -/
def up : State := {
  pow := { auxUp := true, mainMv := 54000, rails := .on, pwrGood := true, perst := false }
  boot := { phase := 4, ready := true } }

/-- That module with the command `op` in mailbox 0, accepted and due. -/
def ask (op : Nat) (args : List Nat) (s : State := up) : State :=
  { s with alm := { s.alm with
    mbx := s.alm.mbx.set 0 { st := .busy, accOp := op, accArgs := Vector.ofFn fun i => BitVec.ofNat 64 (args.getD i.val 0) }
    shortQ := [0] } }

/-- That module with a secured session 7. -/
def talk (s : State := up) : State := { s with sec := { s.sec with sessions := [{ id := 7, secured := true }] } }

/-- Session 7 is the owner's, attested. -/
def owned (s : State := up) : State :=
  { s with sec := { s.sec with sessions := [{ id := 7, secured := true, attested := true }], owner := some 7 } }

/-- In TENANT_BOUNCE, with rings of 2^20 bytes and 128 bytes waiting inbound. -/
def bounced (s : State := owned) : State :=
  { s with sec := { s.sec with
    mode := .tenantBounce
    bounceKeys := some 0
    bounce := { inLog := 20, outLog := 20, outBase := 0x100000, inHeadWord := 0x200000, outTailWord := 0x200008
                inTail := 128 } } }

/-! WellFormed: one ill-formed command for each check. -/

theorem test_wf_register_width : Instr.wf (.registerWrite 0x200 2 0 ⟨false, false, false⟩) = false := by decide
theorem test_wf_register_aligned : Instr.wf (.registerWrite 0x204 8 0 ⟨false, false, false⟩) = false := by decide
theorem test_wf_register_bar0 : Instr.wf (.registerWrite 0x80000 4 0 ⟨false, false, false⟩) = false := by decide
theorem test_wf_register : Instr.wf (.registerWrite 0x7FFFC 4 0 ⟨false, false, false⟩) = true := by decide
theorem test_wf_aperture_read : Instr.wf (.apertureRead 0xFC0 128 ⟨false, false, false⟩) = false := by decide
theorem test_wf_aperture_write : Instr.wf (.apertureWrite 0 [] ⟨false, false, false⟩) = false := by decide
theorem test_wf_chunk : Instr.wf (.importChunkDone true [1, 2, 3]) = false := by decide
theorem test_wf_chunk_failed : Instr.wf (.importChunkDone false [1, 2, 3]) = true := by decide

/-! Witnesses, in the order of the statements. -/

theorem wit_StepRunsQueue : up.pending = [] ∧ up.powered = true ∧ up.rel.unitErrs = [] ∧ State.reset.pending = [] ∧
    State.reset.powered = false := by decide

theorem wit_IllFormedCompletes : Instr.wf (.apertureRead 0 0 ⟨false, false, false⟩) = false := by decide

theorem wit_WellFormedCompletes :
    Instr.wf (.apertureRead (2 ^ 41 - 4096) 4096 ⟨false, false, false⟩) = true ∧ 2 ^ 41 - 4096 + 4096 ≤ 2 ^ up.host.bar2Log ∧
    Instr.wf (.apertureWrite (2 ^ 41 - 1) [1] ⟨false, false, false⟩) = true ∧ Instr.wf (.nop 0) = true := by decide

theorem wit_InvariantKept : Inv up ∧ ∃ t, step up = .next t :=
  ⟨⟨rfl, by unfold State.windowOk; decide, trivial⟩, _, rfl⟩

theorem wit_SettleFrame : ({ up with alm := { up.alm with ring := some (0x1000, 6) } } : State).ringOk :=
  ⟨by decide, by decide, by decide, .gddr7, .inl rfl, by decide, by decide⟩

theorem wit_SettleQuiet : up.alm.ring = none ∧ up.sec.bounce.waiting = [] := by decide

theorem wit_MailboxRefusal : let s := ask 0x0101 [2 ^ 63]
    mbxRow (.createQueue 0) = some (0x0101, anyArgs, 0) ∧ s.store.mounting = false ∧ mbxDue 0x0101 anyArgs 0 s = true ∧
    ∃ k, cmdSpec 0x0101 = some k ∧ mbxChecks 0x0101 k 0 s = some St.argReserved :=
  ⟨rfl, by decide, by decide, _, rfl, by decide⟩

theorem wit_DoorbellAccepts :
    let s := { up with alm := { up.alm with mbx := up.alm.mbx.set 2 { cmd := 0x70002, doneSeq := 6 } } }
    s.almanacUp = true ∧ s.hostServes false = true ∧ ¬ ((2 : Fin 16) = 15 ∧ s.pow.mpOwner = true) ∧
    (s.mailbox 2).st ≠ .busy ∧ (BitVec.ofNat 16 7).toNat = (s.mailbox 2).cmd.toNat / 65536 % 65536 ∧
    BitVec.ofNat 16 7 ≠ (s.mailbox 2).doneSeq ∧ (cmdSpec ((s.mailbox 2).cmd.toNat % 65536)).isSome = true ∧
    BitVec.ofNat 16 6 = (s.mailbox 2).doneSeq ∧
    (let s := { up with alm := { up.alm with mbx := up.alm.mbx.set 2 { cmd := 0x7FFFF, doneSeq := 6 } } }
     (s.mailbox 2).st ≠ .busy ∧ (BitVec.ofNat 16 7).toNat = (s.mailbox 2).cmd.toNat / 65536 % 65536 ∧
     BitVec.ofNat 16 7 ≠ (s.mailbox 2).doneSeq ∧ cmdSpec ((s.mailbox 2).cmd.toNat % 65536) = none) := by decide

theorem wit_GeneralCommands :
    mbxTakes 0x0002 anyArgs 0 (ask 0x0002 [5]) = true ∧ mbxTakes 0x0001 anyArgs 0 (ask 0x0001 []) = true ∧
    (let s := ask 0x0003 [0x1000, 6]
     mbxTakes 0x0003 anyArgs 0 s = true ∧ 6 ≤ s.arg 0 1 ∧ bufCheck (s.arg 0 0) (64 * 2 ^ s.arg 0 1) 4096 s = none) ∧
    (let s := ask 0x0003 [0, 16]
     mbxTakes 0x0003 anyArgs 0 s = true ∧ s.arg 0 1 ≤ 16 ∧ bufCheck (s.arg 0 0) (64 * 2 ^ s.arg 0 1) 4096 s = none) ∧
    (∀ op ∈ [0x0F01, 0x0F02, 0x0F03, 0x0F04, 0x0F05, 0x0F06, 0x0F07, 0x0F08, 0x0F09, 0x0F0A, 0x0F0B, 0x0F0C],
      mbxTakes op anyArgs 0 (ask op [0, 2 ^ 24]) = true) := by decide

/-- The longest table fits a buffer of 16 MiB: the buffer check and the length hold for the smallest table here. -/
theorem wit_CounterTables : let s := ask 0x0F07 [0, 2 ^ 24]
    let w := tableWords .spectro s
    bufCheck (s.arg 0 0) (s.arg 0 1) 1 w.2 = none ∧ (wordBytes w.1).length ≤ s.arg 0 1 := by decide +kernel

/-- Queue 5 of 2^6 slots with 1 record not yet read, a stash table and a guard ring. -/
def queued (s : State := up) : State :=
  let q : Queue := { ring := 0x4000, log := 6, cpl := 0x8000, tailWord := 0xC000, stream := 0, bind := false
                     held := false, cplTail := 1 }
  let c : StashCtx :=
    { ring := 0x10000, log := 4, gBase := 0, gSize := 0, lBase := 0, lSize := 0, stream := 0, cluster := 0 }
  { s with
    mer := { s.mer with queues := [(5, q)] }
    stash := { s.stash with ctx := some c }
    num := { s.num with ctx := some ⟨0, 1, 0x20000, 4⟩ } }

theorem wit_QueueDoorbells : let s := queued
    s.powered = true ∧ s.hostServes false = true ∧
    (∃ x, kvFind 5 s.mer.queues = some x ∧
      0 < (BitVec.ofNat 32 1 - x.tail).toNat ∧ (BitVec.ofNat 32 64 - x.head).toNat ≤ 2 ^ x.log ∧
      ¬ (0 < (BitVec.ofNat 32 65 - x.tail).toNat ∧ (BitVec.ofNat 32 65 - x.head).toNat ≤ 2 ^ x.log) ∧
      (BitVec.ofNat 32 1 - x.cplHead).toNat ≤ (x.cplTail - x.cplHead).toNat ∧
      (x.cplTail - x.cplHead).toNat < (BitVec.ofNat 32 2 - x.cplHead).toNat) ∧
    (∃ c, s.stash.ctx = some c ∧ 0 < (BitVec.ofNat 32 16 - s.stash.tail).toNat ∧
      (BitVec.ofNat 32 16 - s.stash.oldest).toNat ≤ 2 ^ c.log) ∧
    (∃ c, s.num.ctx = some c ∧ 0 < (BitVec.ofNat 32 16 - s.num.tail).toNat ∧
      (BitVec.ofNat 32 16 - s.num.oldest).toNat ≤ 2 ^ c.log) ∧
    kvFind 6 s.mer.queues = none ∧ up.stash.ctx = none ∧ up.num.ctx = none ∧
    bounced.powered = true ∧ bounced.hostServes false = false :=
  ⟨by decide, by decide, ⟨_, rfl, by decide⟩, ⟨_, rfl, by decide⟩, ⟨_, rfl, by decide⟩, rfl, rfl, rfl, by decide⟩

theorem wit_HostRegisterWrites :
    let s := { up with host := { up.host with bar2Log := 28 }, alm := { up.alm with evtTail := 9, evtFloor := 4 } }
    s.powered = true ∧ s.hostServes false = true ∧ (s.mailbox 15).st ≠ .busy ∧
    ¬ ((15 : Fin 16) = 15 ∧ s.pow.mpOwner = true) ∧
    ((2 ^ 52 - 2 ^ 28) % 2 ^ 52) % 2 ^ s.host.bar2Log = 0 ∧ (0 % 2 ^ 52) % 2 ^ up.host.bar2Log = 0 ∧
    (2 ^ 27 % 2 ^ 52) % 2 ^ s.host.bar2Log ≠ 0 ∧
    (s.alm.evtTail - BitVec.ofNat 32 4).toNat ≤ (s.alm.evtTail - s.alm.evtFloor).toNat ∧
    (s.alm.evtTail - s.alm.evtFloor).toNat < (s.alm.evtTail - BitVec.ofNat 32 3).toNat ∧
    ((ask 2 [7]).mailbox 0).st = .busy ∧ (ask 2 [7]).hostServes false = true ∧
    regOk 0x2FFF8 8 = true ∧ regOk 0x40000 8 = true ∧ regOk 0x4FFFC 4 = true ∧ regOk 0x50000 4 = true ∧ regOk 0x7FFF8 8 = true ∧
    bounced.powered = true ∧ bounced.hostServes false = false := by decide

theorem wit_ApertureAccess : let s := up
    let a := s.host.winBase.toNat + 0x1000
    s.powered = true ∧ s.inBar2 0x1000 4096 = true ∧ s.hostServes false = true ∧ s.boot.ready = true ∧
    checkAccess .host a 4096 = none ∧ s.memBusy a 4096 = false ∧ (devRead a 64 s).1 = none ∧
    s.inBar2 0x3A00000000 64 = true ∧ checkAccess .host (s.host.winBase.toNat + 0x3A00000000) 64 ≠ none ∧
    s.inBar2 0x1000 0 = true ∧ checkAccess .host a (max 0 1) = none ∧
    s.inBar2 (2 ^ 41 - 1) 2 = false ∧ s.inBar2 (2 ^ 41) 0 = false := by decide

theorem wit_SpdmMessages :
    up.doeUp = true ∧ talk.sessionOpen (some 7) = true ∧ up.sessionOpen none = true ∧ up.sec.sessions.length < 4 ∧
    (let s := { up with sec := { up.sec with sessions := [⟨1, false, 1, false, 0, 0⟩, ⟨2, false, 1, false, 0, 0⟩,
        ⟨3, false, 1, false, 0, 0⟩, ⟨4, false, 1, false, 0, 0⟩] } }
     s.doeUp = true ∧ 4 ≤ s.sec.sessions.length ∧
     ∃ x, s.sec.sessions.find? (fun x => x.id == 4) = some x ∧ x.secured = false) ∧
    (talk.session 7).isSome = true ∧ (talk.session 8).isSome = false ∧
    (let s := { talk with time := { talk.time with tclk := 20000000000 } }
     s.powered = true ∧ ∃ x, s.sec.sessions.find? (fun x => x.id == 7) = some x ∧ x.last + 20000000000 ≤ s.cyc) ∧
    owned.isOwner (some 7) = true ∧ talk.sec.owner ≠ some 7 :=
  ⟨by decide, by decide, by decide, by decide, ⟨by decide, by decide, _, rfl, by decide⟩, by decide, by decide,
    ⟨by decide, _, rfl, by decide⟩, by decide, by decide⟩

theorem wit_VendorMessages :
    (let s := owned
     s.doeUp = true ∧ s.sec.scrub = none ∧ (s.session 7).isSome = true ∧ (touch 7 s).sec.owner = some 7 ∧
     ∃ x, (touch 7 s).session 7 = some x ∧ x.attested = true) ∧
    (List.replicate 32 (0 : Byte)).length = 32 ∧ (List.replicate 128 (0 : Byte)).length = 128 ∧
    (∃ c, (touch 7 { owned with sec := { owned.sec with membership := some [] } }).sec.membership = some c) ∧
    ringsOk { inBase := 2 ^ 51 - 2 ^ 30, inLog := 30, outBase := 0, outLog := 20, inHeadWord := 2 ^ 51 - 8, outTailWord := 0 } =
      true ∧
    (touch 7 talk).sec.mode = .openMode ∧ (touch 7 talk).boot.ready = true ∧ (touch 7 talk).sec.jtagNow = false ∧
    (touch 7 talk).pow.mpNow = false ∧ (touch 7 talk).sec.owner ≠ some 7 ∧
    (let s := { talk with sec := { talk.sec with owner := some 7 } }
     ∃ x, (touch 7 s).session 7 = some x ∧ x.attested = false) ∧
    bounced.sec.mode ≠ .openMode ∧ bounced.sec.scrub = none ∧
    (touch 7 talk).certOk (List.replicate 256 0) = false ∧
    (∃ x, ({ owned with sec := { owned.sec with scrub := some ⟨.exit, .openMode, .configUnlocked, none, []⟩ } } :
      State).sec.scrub = some x) :=
  ⟨⟨by decide, by decide, by decide, by decide, _, rfl, by decide⟩, by decide, by decide, ⟨_, rfl⟩, by decide, by decide,
    by decide, by decide, by decide, by decide, ⟨_, rfl, by decide⟩, by decide, by decide, rfl, _, rfl⟩

theorem leBytes_length : ∀ n x, (leBytes n x).length = n
  | 0, _ => rfl
  | n + 1, x => congrArg (· + 1) (leBytes_length n (x / 256))

theorem ofLE_leBytes : ∀ n x, x < 256 ^ n → ofLE (leBytes n x) = x
  | 0, x, h => by simp at h; subst h; rfl
  | n + 1, x, h => by
    have k : x / 256 < 256 ^ n := by rw [Nat.pow_succ] at h; omega
    simp [leBytes, ofLE, ofLE_leBytes n _ k]; omega

/-- A certificate that matches the module: magic, length, serial and state digest where R362 puts them. -/
def goodCert (s : State) : List Byte :=
  leBytes 4 0x4D575A5A ++ (leBytes 4 256 ++ (List.replicate 16 0 ++ (leBytes 8 Config.serial.toNat ++ (s.digest ++
    List.replicate 176 0))))

theorem digest_length (s : State) : s.digest.length = 48 := by
  unfold State.digest State.measure digestBytes
  exact leBytes_length _ _

theorem wit_certOk (s : State) : (goodCert s).length = 256 ∧ s.certOk (goodCert s) = true := by
  have h := digest_length s
  refine ⟨?_, ?_⟩
  · simp only [goodCert, List.length_append, leBytes_length, h, List.length_replicate]
  · have d4 := List.drop_left' (l₂ := leBytes 4 256 ++ (List.replicate 16 0 ++ (leBytes 8 Config.serial.toNat ++ (s.digest ++
        List.replicate 176 0)))) (leBytes_length 4 0x4D575A5A)
    have d8 := List.drop_left' (l₂ := List.replicate 16 0 ++ (leBytes 8 Config.serial.toNat ++ (s.digest ++
        List.replicate 176 0))) (leBytes_length 4 256)
    have d24 := List.drop_left' (l₂ := leBytes 8 Config.serial.toNat ++ (s.digest ++
        List.replicate 176 0)) (show (List.replicate 16 (0 : Byte)).length = 16 from rfl)
    have d32 := List.drop_left' (l₂ := s.digest ++ List.replicate 176 0) (leBytes_length 8 Config.serial.toNat)
    have e8 : (goodCert s).drop 24 = leBytes 8 Config.serial.toNat ++ (s.digest ++ List.replicate 176 0) := by
      rw [← d24, ← d8, ← d4, List.drop_drop, List.drop_drop]; rfl
    have e32 : (goodCert s).drop 32 = s.digest ++ List.replicate 176 0 := by rw [← d32, ← e8, List.drop_drop]
    have e4 : (goodCert s).drop 4 = _ := d4
    unfold State.certOk
    have e136 : (goodCert s).drop 136 = List.replicate 120 0 := by
      have x : (goodCert s).drop 80 = List.replicate 176 0 := by
        rw [← List.drop_left' (l₂ := List.replicate 176 (0 : Byte)) h, ← e32, List.drop_drop]
      rw [show 136 = 80 + 56 from rfl, ← List.drop_drop, x, List.drop_replicate]
    rw [e4, e8, e32, e136, List.take_replicate, List.take_left' (leBytes_length 4 256), List.take_left' (leBytes_length 8 _), List.take_left' h,
      show (goodCert s).take 4 = _ from List.take_left' (leBytes_length 4 0x4D575A5A),
      ofLE_leBytes 4 _ (by decide), ofLE_leBytes 4 _ (by decide), ofLE_leBytes 8 _ (Config.serial.isLt)]
    simp; decide

theorem wit_TdispMessages :
    (let s := { talk with sec := { talk.sec with ide := [(0, { go := [0, 1, 2, 3, 4, 5], prog := [], secure := true })] } }
     s.doeUp = true ∧ s.sec.scrub = none ∧ (s.session 7).isSome = true ∧ s.sec.tdisp = .configUnlocked ∧
     s.sec.mode = .openMode ∧ s.boot.ready = true ∧ s.sec.ide.any (fun p => p.2.secure) = true ∧
     s.mer.streams.all (fun p => p.2.halted) = true ∧ s.sec.jtagNow = false ∧ s.pow.mpNow = false) ∧
    (∀ t ∈ [Tdisp.configLocked, .run, .error], let s := { talk with sec := { talk.sec with tdisp := t } }
     s.doeUp = true ∧ (s.session 7).isSome = true ∧ s.sec.tdisp ≠ .configUnlocked ∧
     (t = .error → ¬ (s.sec.tdisp = .configLocked ∨ s.sec.tdisp = .run)) ∧
     (t ≠ .error → s.sec.tdisp = .configLocked ∨ s.sec.tdisp = .run)) := by decide

/-- A host read of task 9 that waits under identifier 3. -/
def reading (s : State := up) : State :=
  { s with host := { s.host with reads := [(3, { task := 9, addr := 0x8000000000000, len := 64, since := 0, dst := 0 })] } }

theorem wit_TenantScrub :
    up.sec.scrub = none ∧
    (∀ tg ∈ [Mode.openMode, .tenantBounce],
      let x : Scrub := ⟨.exit, tg, .configUnlocked, none, []⟩
      let s := { owned with sec := { owned.sec with scrub := some x } }
      s.sec.scrub = some x ∧ s.boot.reset = none ∧ s.tiers.fills.any (fun p => p.2 == .tenant) = false ∧
      s.host.reads = [] ∧ (reading s).sec.scrub = some x ∧ (reading s).host.reads ≠ [] ∧
      (tg = .openMode ∨ x.target ≠ .openMode)) := by decide

theorem wit_IdeAndBounce :
    (∃ k, ideKey 0 0 0 = some k) ∧ talk.doeUp = true ∧ (talk.session 7).isSome = true ∧
    (let s := { up with sec := { up.sec with ide := [(1, { go := [0, 1, 2, 3, 4, 5], prog := [0], secure := true })] } }
     (s.ideStream 1).prog.contains 0 = true ∧ (s.ideStream 1).secure = true ∧ ({} : IdeStream).secure = false) ∧
    (let s := bounced
     let u := bounceTake 64 s
     s.powered = true ∧ s.sec.mode = .tenantBounce ∧ s.sec.scrub = none ∧ payloadOk 0 = true ∧
     s.sec.bounce.inSkip 64 + 64 ≤ ringUsed s.sec.bounce.inHead s.sec.bounce.inTail s.sec.bounce.inLog ∧
     (bounceTake 128 s).bounceReach 0x1000 64 = true ∧ payloadOk 64 = true ∧
     s.sec.bounce.inSkip 128 + 128 ≤ ringUsed s.sec.bounce.inHead s.sec.bounce.inTail s.sec.bounce.inLog ∧
     (bounceTake 128 s).bounceReach 0x38000000000 64 = false ∧ u.bounceReach 0 64 = true ∧ (devRead 0 64 u).1 = none ∧
     s.bounceHas 64 = true ∧ 5 ≠ s.sec.bounce.seqIn) :=
  ⟨⟨_, rfl⟩, by decide⟩

theorem wit_PcieCommands :
    ({ up with boot := { up.boot with phase := 0 } } : State).powered = true ∧
    ({ up with boot := { up.boot with phase := 0 } } : State).cfgRetry = true ∧ up.cfgRetry = false ∧
    CfgReg.locked (.bar 0) = true ∧ up.sec.tdisp = .configUnlocked ∧
    up.shutterUp = true ∧ up.sec.scrub = none ∧ up.sec.mode = .openMode ∧
    bounced.shutterUp = true ∧ bounced.sec.scrub = none ∧ bounced.sec.mode ≠ .openMode ∧
    (let s := { owned with sec := { owned.sec with scrub := some ⟨.exit, .openMode, .configUnlocked, none, []⟩ } }
     s.powered = true ∧ s.shutterUp = true ∧ s.sec.scrub ≠ none) ∧
    (let s := { up with sec := { up.sec with tdisp := .run } }
     s.powered = true ∧ s.cfgRetry = false ∧ s.sec.tdisp = .run) ∧
    (let s := reading { up with time := { up.time with tclk := 50000000 } }
     s.powered = true ∧ ∃ r, kvFind 3 s.host.reads = some r ∧ r.since + s.host.cplTimeout ≤ s.cyc) ∧
    (∀ k : Task, let s := reading { up with mer := { up.mer with tasks := [(9, k)] } }
     ∃ r, kvFind 3 s.host.reads = some r ∧ s.task r.task = some k) :=
  ⟨by decide, by decide, by decide, by decide, by decide, by decide, by decide, by decide, by decide, by decide, by decide,
    by decide, by decide, ⟨by decide, _, rfl, by decide⟩, fun _ => ⟨_, rfl, rfl⟩⟩

/-- A container of 64 bytes for key slot 0, at address 0, to be imported in a tenant mode. -/
def container (len : Nat) : State :=
  let s := ask 0x0601 [0, 0, 0x10000] { owned with sec := { owned.sec with
    mode := .tenantIde, tdisp := .run, keys := [(0, ⟨false, 5, []⟩)] } }
  { s with mem := s.mem.write 0 (wordBytes [0x0402_5357575A, sealedChunks len * 2 ^ 32 + 5, 0, len]) }

theorem wit_WeightImport :
    (∀ n ∈ [0, 64], let s := container n
     let r := devRead 0 64 s
     mbxTakes 0x0601 anyArgs 0 s = true ∧ containerCheck (s.arg 0 1) 64 s = none ∧ destCheck (s.arg 0 2) s = none ∧
     r.1 = none ∧ (bytesWords r.2.1).getD 3 0 = n ∧ importHeader 0 0 0x10000 (bytesWords r.2.1) r.2.2 = none ∧
     containerCheck 0 (containerBytes n) r.2.2 = none ∧
     importHeader 9 0 0x10000 (bytesWords r.2.1) r.2.2 = some St.importKeyMismatch) ∧
    (let s := { container 64 with sec := { (container 64).sec with importing := some ⟨0, 0, 0x10000, 0, 64, 1, 0⟩ } }
     s.almanacUp = true ∧ chunkBytes 64 0 = 64 ∧ s.memBusy 0x10000 64 = false ∧ (devRead 64 80 s).1 = none ∧
     chunkOk (List.replicate 64 0) = true ∧ (List.replicate 64 (0 : Byte)).length = 64) := by decide +kernel

theorem wit_AlmanacTimers :
    (let s := { ask 0x0901 [] with time := { up.time with tclk := 10 ^ 9 } }
     s.almanacUp = true ∧ (s.mailbox 0).st = .busy ∧ (s.mailbox 0).started = false ∧
     ((setMbx 0 (fun x => { x with started := true }) s).mailbox 0).started = true ∧
     ∃ c, cmdSpec (s.mailbox 0).accOp = some c ∧ (s.mailbox 0).accAt + 1000 * c.t ≤ s.cyc) ∧
    kvGet false 20 ({ up with host := { up.host with vecWait := [(20, true)] } } : State).host.vecWait = true ∧
    kvFind 20 up.host.vecLast = none ∧
    (let s := { up with host := { up.host with vecLast := [(20, 0)] } }
     ∃ t0, kvFind 20 s.host.vecLast = some t0 ∧ s.cyc < t0 + 1 * 1000) :=
  ⟨⟨by decide, by decide, by decide, by decide, _, rfl, by decide⟩, by decide, by decide, _, rfl, by decide⟩

theorem wit_PowerCommands :
    State.reset.pow.auxUp = false ∧ (37999 : Nat) < 38000 ∧ inRange 46000 = true ∧ inRange 59000 = true ∧
    (let s := { State.reset with pow := { State.reset.pow with auxUp := true, mainMv := 54000, pwrEn := false } }
     s.pow.rails = .standby ∧ s.pow.commanded = false ∧ s.pow.active = false ∧ inRange s.pow.mainMv = true) ∧
    (let s := { up with pow := { up.pow with rails := .up } }
     s.pow.rails = .up) ∧
    up.pow.rails = .on ∧ up.pow.shutAt = none ∧
    (let s := { up with pow := { up.pow with rails := .down } }
     s.pow.shutAt = none ∧ s.pow.rails = .down) ∧
    (let s := { up with pow := { up.pow with shutAt := some 0 }, time := { up.time with tclk := 100000 } }
     ∃ t, s.pow.shutAt = some t ∧ t + 100000 ≤ s.cyc) ∧
    up.pow.auxUp = true ∧
    (let s := ask 0x0A06 [1200, 2050]
     mbxTakes 0x0A06 anyArgs 0 s = true ∧ 1200 ≤ s.arg 0 0 ∧ s.arg 0 0 ≤ 2600 ∧ 900 ≤ s.arg 0 1 ∧ s.arg 0 1 ≤ 2050 ∧
     s.arg 0 1 % 25 = 0) ∧
    (let s := ask 0x0A06 [1199, 2050]
     mbxTakes 0x0A06 anyArgs 0 s = true ∧ ¬ 1200 ≤ s.arg 0 0) ∧
    (let x : Power := up.pow
     x.good < 9 ∧ ¬ x.target < x.ceil ∧ 9 ≤ ({ x with good := 9, target := 2025 } : Power).good ∧
     ({ x with good := 9, target := 2025 } : Power).target < x.ceil) ∧
    (let s := { up with sens := { up.sens with sensors := [(512, { value := 2600000, valid := true })] } }
     s.powered = true ∧ s.boot.ready = true ∧ (kvGet ({} : Sensor) 512 s.sens.sensors).valid = true) :=
  ⟨by decide, by decide, by decide, by decide, by decide, by decide, by decide, by decide, by decide, ⟨_, rfl, by decide⟩,
    by decide, by decide, by decide, by decide, by decide⟩

theorem wit_ManagementPort :
    up.pow.auxUp = true ∧ (up.mailbox 15).st ≠ .busy ∧ up.powered = true ∧ up.debugShut = false ∧ up.pow.rails = .on ∧
    ({ up with pow := { up.pow with mpOwner := true } } : State).pow.mpOwner = true ∧
    (0x0FF8 % 8 = 0 ∧ 0x0F48 % 8 = 0) ∧ (2 ^ 24 - 1024) % 1024 = 0 ∧
    ({ up with pow := { up.pow with mpNow := true } } : State).pow.mpNow = true ∧
    mpReach false 0x39FFFFFFC0 = true ∧ mpReach true 0x3000001FFC0 = true := by decide

theorem wit_TimeAndMonitors :
    (let s := ask 0x0A01 [0, 5]
     mbxTakes 0x0A01 (fun a => a.n 0 % 2 == 0) 0 s = true ∧ s.arg 0 0 = 0) ∧
    (let s := ask 0x0A01 [1, 0]
     mbxTakes 0x0A01 (fun a => a.n 0 % 2 == 1) 0 s = true ∧ s.arg 0 1 = 0 ∧ s.time.st = .free) ∧
    (let s := ask 0x0A01 [3, 0] { up with time := { up.time with st := .locked } }
     mbxTakes 0x0A01 (fun a => a.n 0 % 2 == 1) 0 s = true ∧ s.arg 0 1 = 0 ∧ s.time.st ≠ .free) ∧
    up.time.st = .free ∧ mbxTakes 0x0A02 anyArgs 0 (ask 0x0A02 []) = true ∧
    (let s := { up with time := { up.time with st := .locked, past := true, lastStamp := some 0, tclk := 1000050000 } }
     s.powered = true ∧ s.time.st ≠ .free ∧ s.time.past = true ∧ s.time.lastStamp = some 0 ∧
     onTime 0 (16 * s.time.tclk + 0) = true ∧ onTime 0 (16 * s.time.tclk + 1) = false) ∧
    (let s := { up with time := { up.time with st := .acquiring, stamps := [16000000000, 0], tclk := 1999950000 } }
     s.time.st ≠ .free ∧ s.time.past = false ∧ s.time.stamps = 16000000000 :: 0 :: [] ∧
     onTime 16000000000 (16 * s.time.tclk) = true) ∧
    (let s := { up with time := { up.time with st := .locked, past := true, lastStamp := some 0, tclk := 2000000000 } }
     s.time.lastStamp = some 0 ∧ s.time.past = true ∧ s.time.st = .locked ∧ 0 + 32000000000 ≤ 16 * s.time.tclk) ∧
    sensorOk 2 0 = true ∧ sensorOk 9 0 = false ∧
    (∀ w ∈ [1 * 2 ^ 16 + 0x36 * 2 ^ 8 + 15, 2 * 2 ^ 16 + 0x11 * 2 ^ 8, 3], let s := ask 0x0A03 [w, 0]
     mbxTakes 0x0A03 anyArgs 0 s = true ∧ s.inTenant = false ∧ s.arg 0 1 = 0 ∧
     let mode := bits (s.arg 0 0) 17 16
     let src := bits (s.arg 0 0) 15 8
     (mode = 1 ∧ sourceOk src = true ∨ mode = 2 ∧ sourceOk src = true ∧ eventSource src = true ∨ mode = 0 ∧ src = 0)) ∧
    (let s := ask 0x0A04 [3, 0, 2 ^ 20]
     mbxTakes 0x0A04 anyArgs 0 s = true ∧ s.inTenant = false ∧
     (∀ x ∈ [({} : Monitor), { mode := 1, source := 6 }], let s := { s with sens := { s.sens with monitors := [(3, x)] } }
      let r := seeMonitor (s.arg 0 0) s
      kvGet ({} : Monitor) (s.arg 0 0) s.sens.monitors = x ∧ (x.mode = 0 ∨ 5 < x.source) ∧
      bufCheck (s.arg 0 1) (s.arg 0 2) 1 r.2 = none ∧ (monitorRecord (s.arg 0 0) r.1 s.now).length ≤ s.arg 0 2)) := by decide +kernel

/-- A module in bring-up, in the given phase. -/
def booting (ph : Nat) (r : BootRun := { t0 := 0 }) : State :=
  { up with boot := { up.boot with phase := ph, ready := false, run := some r } }

theorem wit_BringupEvents :
    (let s := { up with boot := { up.boot with phase := 0, ready := false } }
     s.powered = true ∧ s.pow.pwrGood = true ∧ s.boot.run = none ∧ s.boot.phase = 0) ∧
    (booting 1).boot.run.isSome = true ∧ (booting 1).boot.phase < 2 ∧ (booting 2).boot.phase = 2 ∧
    (∀ r ∈ [none, some 5], let m : Measured :=
        { badRail := r, badTemp := none, ids := [], badDevs := [], badLp := none, badNand := [], tG := 0, tL := 0, portsSame := 0 }
      m.badRail = r ∧ m.badTemp = none ∧ m.badLp = none) ∧
    (∀ a ∈ [(0, 3), (1, 20)], ∀ b ∈ [(0, 3), (1, 20)], a.1 = b.1 → a.2 = b.2) ∧
    (((15, 0) : Nat × Nat) ∈ [(15, 0), (15, 20)] ∧ ((15, 20) : Nat × Nat) ∈ [(15, 0), (15, 20)] ∧ twoLanes [(15, 0), (15, 20)] = some 15) ∧
    (∀ c ∈ [false, true], let x : BootRun := { t0 := 0, saved := some ⟨0, 0, 0, 0, 0, 0, 25, 25, 0, 0, 0⟩, coldL := c }
      (booting 3 x).boot.run = some x ∧ (x.saved.isSome && !x.coldL) = !c) ∧
    (booting 3).training = true ∧ (∃ x, (booting 3).boot.run = some x ∧ 5 ∉ x.badNand ∧
      7 ∈ ({ x with badNand := [7] } : BootRun).badNand) ∧
    (let r : BootRun := { t0 := 0, bridge := true, chansDone := List.range 320, nandDone := List.range 8
                          index := true, window := true, filled := [0, 1] }
     (booting 3 r).training = true ∧ r.complete = true) ∧
    (let s := { up with boot := { up.boot with saveDue := true } }
     s.almanacUp = true ∧ s.boot.ready = true ∧ s.boot.saveDue = true) ∧
    mbxTakes 0x0902 anyArgs 0 (ask 0x0902 []) = true ∧
    mbxTakes 0x0906 anyArgs 0 (ask 0x0906 [0, 2 ^ 20]) = true ∧
    bufCheck 0 (2 ^ 20) 1 (ask 0x0906 [0, 2 ^ 20]) = none :=
  ⟨by decide, by decide, by decide, by decide, by decide, by decide, by decide, by decide, by decide,
    ⟨_, rfl, by decide, by decide⟩, by decide +kernel, by decide,
    by decide, by decide, by decide⟩

theorem wit_imageOk : imageOk (some ⟨0, Config.svn.toNat⟩) = some ⟨0, Config.svn.toNat⟩ ∧ imageOk none = none := by
  simp [imageOk]

theorem wit_Resets :
    (let s := ask 0x0901 [0]
     mbxTakes 0x0901 (fun a => a.n 0 % 4 == 0) 0 s = true ∧ s.arg 0 0 = 0) ∧
    (let s := ask 0x0901 [0x301]
     mbxTakes 0x0901 (fun a => a.n 0 % 2 == 1) 0 s = true ∧ s.arg 0 0 % 4 = 1 ∧ s.boot.ready = true ∧
     bits (s.arg 0 0) 20 16 = 0) ∧
    (let s := ask 0x0901 [31 * 2 ^ 16 + 2]
     mbxTakes 0x0901 (fun a => a.n 0 % 4 == 2) 0 s = true ∧ bits (s.arg 0 0) 9 8 = 0 ∧
     s.boot.ready = true ∧ s.boot.retired.getLsbD (bits (s.arg 0 0) 20 16) = false ∧
     s.boot.slice.any (fun x => x.cluster == 31) = false ∧ specApplying 31 s = false) ∧
    (let s := ask 0x0901 [31 * 2 ^ 16 + 2] { up with boot := { up.boot with slice := some ⟨31, .drain, 2, none⟩ } }
     s.boot.slice.any (fun x => x.cluster == bits (s.arg 0 0) 20 16) = true) ∧
    (let s := { up with boot := { up.boot with reset := some ⟨1, 0, none, 0, 0, 0, false⟩ } }
     s.boot.reset.any (fun r => r.scope == 1) = true ∧ s.tiers.fills.any (fun p => p.2 == .compute) = false) ∧
    (let s := { up with boot := { up.boot with reset := some ⟨2, 31, none, 0, 0, 0, false⟩ } }
     ∃ r, s.boot.reset = some r ∧ r.scope = 2 ∧ r.waiting = false ∧ r.mbx = none) :=
  ⟨by decide, by decide, by decide, by decide, by decide, _, rfl, by decide, by decide, by decide⟩

theorem wit_CollimationAndFieldTests :
    mbxTakes 0x0905 anyArgs 0 (ask 0x0905 [0, 0, 0]) = true ∧
    (let s := ask 0x0905 [1, 10, 1000]
     mbxTakes 0x0905 anyArgs 0 s = true ∧ s.arg 0 0 ≠ 0 ∧ 10 ≤ s.arg 0 1 ∧ s.arg 0 1 ≤ 86400 ∧ 31 ≤ s.arg 0 2 ∧ s.arg 0 2 ≤ 1000) ∧
    (∀ p ∈ [ColPhase.drain, .clear, .march, .logic 2, .restore],
      (⟨3, p, 2, none⟩ : Slice).phase = p ∧ (⟨3, p, 2, none⟩ : Slice).blocks ≠ 0 ∧ (⟨3, p, 2, none⟩ : Slice).retire = none ∧
      ({ up with boot := { up.boot with slice := some ⟨3, p, 2, none⟩ } } : State).boot.slice = some ⟨3, p, 2, none⟩) ∧
    (let s := { up with boot := { up.boot with slice := some ⟨3, .drain, 2, none⟩ } }
     let k : Task := { desc := [7 * 2 ^ 60], queue := 5, stream := 0, cls := 0, phase := .running, loc := 3 }
     clusterBusy 3 s = false ∧ clusterBusy 3 { s with mer := { s.mer with tasks := [(9, k)] } } = true ∧
     s.cyc < s.boot.colLast + 2000000 ∧
     s.boot.colLast + 2000000 ≤ ({ s with time := { s.time with tclk := 2000000 } } : State).cyc) ∧
    (let s := ask 0x0903 [3 * 2 ^ 16 + 255, 60000]
     mbxTakes 0x0903 anyArgs 0 s = true ∧ bits (s.arg 0 0) 19 16 < 4 ∧ bits (s.arg 0 0) 8 8 = 0 ∧ 1 ≤ s.arg 0 1 ∧
     s.arg 0 1 ≤ 60000 ∧ kvHas (2 + (256 * 0 + 255) / 256) s.tiers.fills = false) ∧
    (∀ e ∈ [0, 2 ^ 64 - 1],
      let t : FieldTest := ⟨0, false, 255, 3, 0, 0⟩
      let s := setMbx 0 (fun x => { x with started := true }) (ask 0x0903 [])
      let a := { s with boot := { s.boot with test := some t } }
      let b := { a with tiers := { a.tiers with fills := [(2, .traffic 0 e 5)] } }
      a.boot.test = some t ∧ t.margin = false ∧ e < 2 ^ 64 ∧ kvHas (2 + t.chan / 256) a.tiers.fills = false ∧
      b.boot.test = some t ∧ kvFind 0 b.tiers.fills = none ∧ kvFind (2 + 0) b.tiers.fills = some (.traffic 0 e 5)) ∧
    (let s := ask 0x0904 [256 + 63, 0, 320]
     mbxTakes 0x0904 anyArgs 0 s = true ∧ bits (s.arg 0 0) 8 8 = 1 ∧ ¬ 64 ≤ bits (s.arg 0 0) 7 0 ∧ bits (s.arg 0 0) 7 0 = 63 ∧
     bufCheck (s.arg 0 1) (s.arg 0 2) 1 s = none ∧ 320 ≤ s.arg 0 2) ∧
    (let s := setMbx 0 (fun x => { x with started := true }) (ask 0x0904 [])
     let t : FieldTest := ⟨0, true, 0, 0, 0, 192⟩
     ({ s with boot := { s.boot with test := some t } } : State).boot.test = some t ∧ t.margin = true ∧ mbxRuns 0x0904 0 s = true) ∧
    mbxRuns 0x0903 0 (setMbx 0 (fun x => { x with started := true }) (ask 0x0903 [])) = true := by decide

theorem wit_QueueCommands :
    (let s := ask 0x0102 [5] queued
     mbxTakes 0x0102 anyArgs 0 s = true ∧ s.arg 0 0 = 5 ∧ (kvFind 5 s.mer.queues).isSome = true ∧
     (s.stream 0).halted = true ∧ s.mer.tasks.any (fun p => p.2.queue == 5 && p.2.phase != .head) = false) ∧
    (({ queued with mer := { queued.mer with streams := [(0, { halted := false })] } } : State).stream 0).halted = false ∧
    (let w := 0xFF * 2 ^ 40 + 16 * 2 ^ 32 + 2 ^ 28 + 9
     let s := ask 0x0101 [w, 0x100000, 0x400000, 0x800000]
     mbxTakes 0x0101 anyArgs 0 s = true ∧ bit w 28 = true ∧ bits w 36 32 = 16 ∧ bits w 47 40 = 0xFF ∧
     inDram 0x100000 = true ∧ inDram (0x100000 + 64 * 2 ^ 16 - 1) = true ∧ tierOf 0x100000 = tierOf 0x4FFFFF ∧
     inDram 0x400000 = true ∧ inDram (0x400000 + 64 * 2 ^ 16 - 1) = true ∧ regionOf 0x800000 = regionOf 0x400000 ∧
     regionOf 0x800007 = regionOf 0x400000 ∧ s.sec.mode ≠ .tenantBounce ∧ kvHas 9 s.mer.queues = false ∧
     (s.stream 0).cls = none ∧ kvHas 5 queued.mer.queues = true) ∧
    mbxTakes 0x0103 anyArgs 0 (ask 0x0103 [255]) = true ∧ mbxTakes 0x0104 anyArgs 0 (ask 0x0104 [0]) = true ∧
    mbxTakes 0x0105 anyArgs 0 (ask 0x0105 [0]) = true ∧ mbxTakes 0x0106 anyArgs 0 (ask 0x0106 [1, 2]) = true := by decide

/-- A layer program of one template (a STEP_MARK) and one stage, its CRC32C in place. -/
def image : List Byte :=
  let x := wordBytes ([0x00090402_504C575A, 136, 1, 1, 64 + 64 * 2 ^ 32, 128 + 64 * 2 ^ 32, 64, 0] ++
    [0xC * 2 ^ 60, 0, 7, 0, 0, 0, 0, 0] ++ [2 * 2 ^ 48 + 3 * 2 ^ 44])
  x.take 12 ++ leBytes 4 (crc32c x).toNat ++ x.drop 16

/-- That image in memory, to be loaded; and an image with a bad magic number. -/
def loading (bs : List Byte) : State := let s := ask 0x0107 [0, 4096]
  { s with mem := s.mem.write 0 bs }

theorem wit_ProgramCommands :
    (let s := loading image
     let r := devRead 0 64 s
     let size := (LpImage.mk r.2.1).size
     let q := devRead 0 size r.2.2
     mbxTakes 0x0107 anyArgs 0 s = true ∧ bufCheck 0 4096 1 s = none ∧ r.1 = none ∧ r.2.1.length = 64 ∧ size = 136 ∧
     q.1 = none ∧ LpImage.refusal ⟨q.2.1 ++ List.replicate (64 - q.2.1.length) 0⟩ 4096 q.2.2 = none) ∧
    (let s := loading (wordBytes [0, 136])
     let q := devRead 0 136 (devRead 0 64 s).2.2
     (LpImage.mk (devRead 0 64 s).2.1).size = 136 ∧
     LpImage.refusal ⟨q.2.1 ++ List.replicate (64 - q.2.1.length) 0⟩ 4096 q.2.2 = some (St.lpBadMagic, [])) ∧
    (let s := ask 0x0108 [3]
     let g : Program := ⟨0, 136, 0, 0, [⟨2, 3, 0, 0, 0⟩]⟩
     let u := { s with prog := [(3, g)] }
     mbxTakes 0x0108 anyArgs 0 s = true ∧ kvFind (s.arg 0 0) s.prog = none ∧ kvFind (u.arg 0 0) u.prog = some g ∧
     g.stages.any (fun x => !(u.stream x.stream).halted) = false ∧
     g.stages.any (fun x => !(({ u with mer := { u.mer with streams := [(2, { halted := false })] } } : State).stream
       x.stream).halted) = true) ∧
    (let s := ask 0x0109 [8 * 256 + 31]
     mbxTakes 0x0109 anyArgs 0 s = true ∧ bits (s.arg 0 0) 11 8 = 8 ∧ bits (s.arg 0 0) 5 0 = 31 ∧
     512 * 8 + s.sgKib 31 ≤ 8192) := by
  set_option maxRecDepth 20000 in decide +kernel

/-- Stream 0 runs, with these tasks. -/
def tasks (l : List (Nat × Task)) (s : State := queued) : State :=
  { s with mer := { s.mer with tasks := l, nextTask := 100, streams := [(0, { halted := false })] } }

/-- A task with these descriptor words. -/
def task (d : Desc) (p : Phase) : Task := { desc := d, queue := 5, stream := 0, cls := 0, phase := p }

/-- One descriptor not yet fetched, these words at its slot. -/
def slot (d : Desc) : State := let s := tasks []
  { s with
    mer := { s.mer with queues := s.mer.queues.map fun p => (p.1, { p.2 with tail := 1, cplHead := 1 }) }
    mem := s.mem.write 0x4000 (wordBytes d) }

theorem wit_FetchAndAdmit :
    (∀ d ∈ [[0xC * 2 ^ 60, 0, 7, 0, 0, 0, 0, 0], [0xF * 2 ^ 60, 0, 0, 0, 0, 0, 0, 0]], let s := slot d
      ∃ x, kvFind 5 s.mer.queues = some x ∧ s.mayFetch x = true ∧ x.hasSlot = true ∧ x.cplSince = none ∧
        x.head ∉ x.exhausted ∧ (devRead (x.ring + 64 * (x.head.toNat % 2 ^ x.log)) 64 s).1 = none ∧
        bytesWords (devRead (x.ring + 64 * (x.head.toNat % 2 ^ x.log)) 64 s).2.1 = d ∧
        (checkDesc s 0 0 [] 0 d).isSome = (d.getD 0 0 == 0xF * 2 ^ 60)) ∧
    (let s := { slot [] with rel := { up.rel with frames := [((up.loc 0x4000).frameKey, { poison := 2 ^ 64 - 1 })] } }
     (devRead 0x4000 64 s).1 = some 0x4000) ∧
    (let u := noteWaits (chargeAll (tasks [(9, task [0, 2 ^ 15 + 2 ^ 7] .head)]))
     let r0 := (u.tasksWhere fun k => k.phase == .head && k.desc.die == 1 && decide (k.desc.type ≤ 0x8)).filter
       fun p => (u.admissible p.1 p.2).1
     u.bestClass 1 (r0.map fun p => p.2.cls) = some 0 ∧ r0.map (fun p => p.1) = [9] ∧
     nextRound (kvFind 0 u.mer.lastStream) [0] = some 0 ∧ nextRound (kvFind 0 u.mer.lastQueue) [5] = some 5) ∧
    (let s := tasks [(9, task [] .finished)]
     (∃ k, s.task 9 = some k ∧ k.phase = .finished) ∧ s.fab.inject.any (fun x => x.task == some 9) = false) := by
  refine ⟨?_, by decide +kernel, by decide +kernel, ⟨_, rfl, rfl⟩, rfl⟩
  intro d hd
  rcases List.mem_cons.1 hd with rfl | hd
  · exact ⟨_, rfl, by decide +kernel⟩
  · rcases List.mem_singleton.1 hd with rfl
    exact ⟨_, rfl, by decide +kernel⟩

/-- A MATRIX task of core 511 over a staging place of its own. -/
def staged (place : Nat) : Task := { task [0, 511 * 2 ^ 7, 0, 0, 0, 0, place * 256] .admitted with loc := 511 }

theorem wit_SelectStealLend :
    (∀ l ∈ [[], [(9, staged 0)], [(9, staged 0), (10, staged 1)]],
      let u := chargeAll (tasks l)
      let kind := (u.runQueue 511).filter fun p => p.2.desc.engine != false
      let mine := kind.filter fun p => u.startable p.1 p.2
      let put := fun (t place : Nat) (s : State) =>
        setTask t (fun k => { k with place := place, phase := if place = 0 then .admitted else .selected }) s
      let v := kind.foldl (fun s p => put p.1 0 s) u
      u.clusterUp (511 / 16) = true ∧ (v.choose (511 / 256) mine).isSome = !l.isEmpty ∧
      ∀ p ∈ (v.choose (511 / 256) mine).toList,
        let clash := (v.runQueue 511).filter fun q => q.1 != p.1 && q.2.bound && stageClash p.2 q.2
        let w := put p.1 1 (clash.foldl (fun s q => unstage q.1 s) v)
        let rest := mine.filter fun q => q.1 != p.1 && !stageClash q.2 p.2 && !stageClash p.2 q.2
        (w.choose (511 / 256) rest).isSome = (l.length == 2)) ∧
    (chargeAll { tasks [] with boot := { up.boot with retired := 2 ^ 31 } }).clusterUp 31 = false ∧
    (let q (a l : Nat) : Task := { task [0, l * 128] .admitted with loc := l, age := a }
     let s := tasks [(8, q 1 1), (9, q 2 1)]
     (s.runQueue 0).any (fun p => s.startable p.1 p.2) = false ∧ s.clusterUp 0 = true ∧ s.inCompute = false ∧
     s.mer.moves.any (fun m => m.thief == 0) = false ∧
     (([1, 2, 3].findSome? fun l => (mostOf (s.victims 0 l)).map fun v => (l, v)).any fun p => p.1 == 1 && p.2.1 == 1) = true) ∧
    (let h : Task := { task [2 ^ 56 + 7 * 2 ^ 28] .admitted with cls := 1 }
     let w : Task := task [0x9 * 2 ^ 60, 0, 0x30000000000 + 56] .parked
     let s := tasks [(3, w), (4, h)]
     let u := chargeAll { s with mer := { s.mer with heard := s.mer.heard.set 0 5 } }
     u.task 3 = some w ∧ u.waiterOn 3 w = some (.sem 7) ∧
       oldest (u.tasksWhere fun h => h.desc.sigEn && h.desc.sigSem == 7 && h.cls != w.payer && decide (h.desc.type ≤ 0x8) &&
         (h.phase == .admitted || h.phase == .selected || h.phase == .moving)) = some (4, h) ∧ h.lent = none ∧
       u.mer.lends.any (fun l => l.waiter == 3) = false ∧
       ((u.mer.lends.find? fun l => l.holder == 3).map Lend.depth).getD 0 + 1 ≤ 4 ∧
       u.effective h.dieOf h.cls < u.effective h.dieOf w.payer ∧
       u.mer.lends.countP (fun l => l.die == h.dieOf) < 64) := by
  set_option maxRecDepth 20000 in decide +kernel

theorem wit_DeficitBounds : up.bestClass 0 [3, 1] = some 1 ∧ nextRound (some 3) [1, 3] = some 1 ∧
    nextRound (some 0) [1, 3] = some 1 ∧ clampD (-1024000001) = -1024000000 ∧ clampD 1024000000 = 1024000000 := by decide

/-- Task 9 with descriptor `d` at the head of its queue, as the rows of Meridian's own tasks find it. -/
def headed (d : Desc) (f : Task → State → Bool) : Bool :=
  let v := noteWaits (chargeAll (tasks [(9, task d .head)]))
  (v.atHead 9 (Desc.f d 0 63 60)).any fun k => f k (admitTask 9 k.desc.die (tookTurn k v))

theorem wit_MeridianTasks :
    (∀ p ∈ [([0x9 * 2 ^ 60, 0, 0x30000000000 + 8, 0, 0], false, true),
        ([0x9 * 2 ^ 60, 0, 0x30000000000, 2 ^ 32, 5], false, false),
        ([0x9 * 2 ^ 60, 0, 2 ^ 52 + 0x30000000000, 2 ^ 32, 5], true, false)],
      headed p.1 (fun k a =>
        let d := k.desc
        let u := setTask 9 (fun k => { k with deadline := if d.f 4 63 0 = 0 then 0 else a.now + d.f 4 63 0 }) a
        let c := (u.sem ((gaAddr (d.f 2 63 0) - 0x30000000000) / 8)).count.toNat
        u.remote (d.f 2 63 0) == p.2.1 && decide (d.f 3 63 32 ≤ c) == p.2.2) = true) ∧
    (∀ p ∈ [([0xA * 2 ^ 60, 0, 0x30000000000, 2 ^ 62 + 0xFFFFFFFF], false), ([0xA * 2 ^ 60, 0, 0x30000000008, 1], false),
        ([0xA * 2 ^ 60, 0, 2 ^ 52 + 0x30000000000, 1], true)],
      headed p.1 (fun k a => (setTask 9 (fun k => { k with phase := .finished }) a).remote (k.desc.f 2 63 0) == p.2) = true) ∧
    (semAdd 5 1 { up with sems := kvSet 5 { count := 0xFFFFFFFF } up.sems }).1 = true ∧ (semAdd 5 1 up).1 = false ∧
    headed [0xB * 2 ^ 60] (fun _ _ => true) = true ∧ headed [0xC * 2 ^ 60] (fun _ _ => true) = true ∧
    (∀ w ∈ [0, 1], let s := tasks [(9, task [0xB * 2 ^ 60, 0, 0, w] .admitted)]
     ∃ k, s.task 9 = some k ∧ k.desc.type = 0xB ∧ k.phase = .admitted ∧ k.desc.b 3 0 = (w == 1) ∧
       (if k.desc.b 3 0 then k.deadline ≤ s.cyc else k.deadline ≤ s.now)) ∧
    (∀ p ∈ [(Phase.parked, 0), (.admitted, 2)], let k : Task := { task [0x9 * 2 ^ 60] p.1 with deadline := 4, waitWhy := p.2 }
     let s := tasks [(9, k)] { queued with time := { up.time with c := 4 * 2 ^ 32 } }
     s.task 9 = some k ∧ k.desc.type = 0x9 ∧ (k.phase = .parked ∨ k.phase = .admitted ∧ k.waitWhy = 2) ∧
     k.deadline ≠ 0 ∧ k.deadline ≤ s.now ∧
     ¬ (k.deadline = s.now ∧ s.fab.inbox.any (fun x => k.watchedBy x.2 && x.2.op == 0 && x.2.status == 0) = true)) ∧
    (let k : Task := { task [0x9 * 2 ^ 60] .parked with busySince := some 0, token := some 4097 }
     let s := tasks [(9, k)] { queued with time := { up.time with tclk := 1000 } }
     s.task 9 = some k ∧ k.busySince = some 0 ∧ k.token = some 4097 ∧ k.phase = .parked ∧ 0 + 1000 ≤ s.cyc) ∧
    (let k : Task := { task [0x9 * 2 ^ 60] .admitted with waitWhy := 2 }
     (tasks [(9, k)]).task 9 = some k ∧ k.desc.type = 0x9 ∧ k.phase = .admitted ∧ k.waitWhy = 2) := by
  refine ⟨by decide +kernel, by decide +kernel, by decide +kernel, by decide +kernel, by decide +kernel, by decide +kernel,
    ?_, by decide +kernel, by decide +kernel, by decide +kernel⟩
  intro w hw
  refine ⟨_, rfl, ?_⟩
  revert w
  decide +kernel

/-- A MATRIX or STATS descriptor of one block: its type, rows valid, K-blocks and word 4. -/
def tile (ty rows kb : Nat) (o : Nat := 0) : Desc :=
  [ty * 2 ^ 60, 0, 2 ^ 58 + 4096, 2 ^ 58 + 8192, o, 2 ^ 18 + 2 ^ 4,
   2 ^ 47 + 2 ^ 44 + kb * 2 ^ 36 + 2 ^ 31 + rows * 2 ^ 18 + 32 * 2 ^ 10, 32 * kb * 2 ^ 51]

/-- A running tile of two K-blocks whose first slice has been issued. -/
def streaming (f : State → State := id) : State := f (tasks [(9, { task (tile 0 32 2) .running with place := 1 })])

theorem wit_CoreTasks :
    (∀ ty ∈ [0, 1], ∀ rows ∈ [0, 32], ∀ ai ∈ [0, 2 ^ 29], let d := (tile ty rows 1).set 6 ((tile ty rows 1).getD 6 0 + ai)
      let k : Task := { task d .selected with landed := [(2, 0), (3, 0)], place := 1 }
      let s := tasks [(9, k)]
      s.task 9 = some k ∧ k.desc.type = ty ∧ s.mayStart 9 k = true ∧ s.enginesFree k.loc 9 = true ∧
      (∀ w ∈ [2, 3], k.desc.slices = 0 ∨ k.desc.res w = true ∨ (w, 0) ∈ k.landed) ∧
      k.desc.tileValid = (rows == 32) ∧ (k.desc.accInit = 1 ↔ ai ≠ 0) ∧
      (let u (s : State) := setTask 9 (fun k => { k with acc := accStart k s }) (startTask 9 s)
       let p (s : State) := ((List.range k.desc.mb).map fun bi =>
        (coreBase k.desc.home + k.desc.pOff + 4 * bi * 4096, k.desc.nb * 4096)).findSome?
          fun r => (sramReads r.1 r.2 (u s)).firstPoison r.1 r.2
       p s = none ∧ (p { s with rel := { s.rel with sramErrs := [(coreBase 0 / 8, true)] } }).isSome = true)) ∧
    (let s := streaming
     let v := issueAll 0 s
     let d := tile 0 32 2
     ∃ r, (kvGet [] (coelOf 0) v.strm.issued).find? (fun r => r.task == 9 && r.w == 2 && r.i == 0) = some r ∧
     (let runs := (d.sliceRuns 2 0).map fun r => (r.1, r.2.1)
      let at_ := fun (s : State) => (taskReads 0 runs (issueAll 0 s)).1
      ((kvGet [] 0 v.strm.mcast).find? fun x => x.key == d.sliceKey 2 0 && decide (0 < x.issued)) = none ∧
      ((match at_ s with | .ok _ => true | _ => false) = true) ∧
      ((match at_ { s with rel := { s.rel with frames := [((up.loc 4096).frameKey, { poison := 2 ^ 64 - 1 })] } } with
        | .poison a => a == 4096 | _ => false) = true) ∧
      ((match at_ { s with rel := { s.rel with repairs :=
          [{ page := 4096, entry := 0, ent := ⟨0, false, 0, 0, 1, 0, 0, 0⟩, since := 0, running := true }] } } with
        | .held p => p == 4096 | _ => false) = true))) ∧
    (let s := streaming fun s => { s with strm := { s.strm with mcast := [(0, [⟨(tile 0 32 2).sliceKey 2 0, [], 1⟩])] } }
     ((kvGet [] 0 (issueAll 0 s).strm.mcast).find? fun x => x.key == (tile 0 32 2).sliceKey 2 0 && decide (0 < x.issued)).isSome = true) ∧
    (∀ p ∈ [(0, 2 ^ 62), (0, 0), (1, 0)], let k := { task (tile p.1 32 1 p.2) .running with prog := 1 }
      (tasks [(9, k)]).task 9 = some k ∧ k.desc.engine = true ∧ k.desc.slices ≤ k.prog ∧ 0 < k.desc.mb * k.desc.nb ∧
      0 ∉ k.drained ∧ k.desc.res 4 = (p.2 == 2 ^ 62) ∧ k.desc.type = p.1) ∧
    (∀ ty ∈ [0, 1], let k := { task (tile ty 32 1) .running with drained := [0], prog := 1 }
     ((issueAll 0 (tasks [(9, k)])).task 9).any (fun x => x.desc.type == ty && x.desc.writesBack && x.phase == .running &&
       decide (x.desc.nb ≤ x.wbCols.length)) = true) ∧
    (∀ n ∈ [0, 32], let k := { task [2 * 2 ^ 60, 0, 0, 0, 0, 0, 0, 2 ^ 54 + n * 2 ^ 20] .selected with place := 1 }
      let s := tasks [(9, k)]
      s.task 9 = some k ∧ k.desc.type = 2 ∧ s.mayStart 9 k = true ∧ k.desc.vcount = n ∧
      s.mer.tasks.any (fun p => p.2.desc.type == 2 && p.2.loc == k.loc &&
        (p.2.phase == .running || p.2.phase == .finished)) = false) := by
  refine ⟨by decide +kernel, ⟨_, rfl, by decide +kernel⟩, by decide +kernel, by decide +kernel, by decide +kernel, by decide +kernel⟩

/-- A GATHER, SCATTER or TRANSFER of cluster 0, admitted. -/
def unit (d : Desc) : Task := task d .admitted

/-- A page under a replica repair. -/
def mending (page : Nat) (s : State) : State := { s with rel := { s.rel with repairs :=
  [{ page := page, entry := 0, ent := ⟨0, false, 0, 0, 1, 0, 0, 0⟩, since := 0, running := true }] } }

/-- A stash copy that waits for the coelostats of cluster 0. -/
def copying : State := { queued with stash := { queued.stash with
  entries := [(0, { count := 0, words := [], copy := some { out := true, src := 0, dst := 2 ^ 38 } })] } }

theorem wit_MoveTasks :
    (chargeAll copying).unitPick 0 0 [3, 4, 7] 8 = some (.copy 0) ∧
    (∀ ty ∈ [3, 4], let d : Desc := [ty * 2 ^ 60, 0, 0x8 * 2 ^ 58, 65536, 131072, 1 * 2 ^ 40 + 2 ^ 39 + 64 * 2 ^ 21, 2 ^ 32, 0]
      let s := tasks [(9, unit d)]
      let u := chargeAll s
      u.unitPick 0 0 [3, 4, 7] 8 = some (.task 9 (unit d)) ∧ (unit d).desc.type = ty ∧ ((startUnit 9 u).task 9).isSome = true ∧
      (let v := startUnit 9 u
       let m := fun (v : State) => gatherRows 9 0 d ((List.range (ceilDiv d.gcount (4096 / Nat.max 1 (esizeOf (d.fmt 2))))).foldl
         (movePiece 9 0 (v.rng (unit d)) d) { s := v })
       (m v).held = none ∧ (m (mending 0 v)).held = some 0)) ∧
    (let d : Desc := [7 * 2 ^ 60, 0, 4096, 8192, 0, 64 * 2 ^ 32]
     let u := chargeAll (tasks [(9, unit d)])
     let w := fun (s : State) => setTask 9 (fun k => { k with result := b2n (s.tfinder d) }) (startUnit 9 s)
     u.unitPick 0 0 [3, 4, 7] 8 = some (.task 9 (unit d)) ∧ (u.freeToken 0).isSome = true ∧ u.needsToken d = false ∧
     (w u).remote (d.f 2 63 0) = false ∧ regionOf (gaAddr (d.f 2 63 0)) ≠ some .hostWin ∧ (w u).remote (d.f 3 63 0) = false ∧
     (transferLocal 9 0 d (w u)).held = none ∧ (transferLocal 9 0 d (w (mending 4096 u))).held = some 4096) ∧
    (∀ ack ∈ [false, true], let d : Desc := [7 * 2 ^ 60, 0, 4096, 3 * 2 ^ 52 + 8192, 0, 64 * 2 ^ 32 + b2n ack * 2 ^ 31]
     let u := chargeAll (tasks [(9, unit d)])
     let r := if (u.needsToken d && true) = true then takeToken 9 0 (endWait 9 u) else some (0, u)
     u.needsToken d = ack ∧ d.b 5 31 = ack ∧
     r.any (fun p =>
       let w := setTask 9 (fun k => { k with result := b2n (p.2.tfinder d) }) (startUnit 9 p.2)
       let m := transferOut 9 0 p.1 ack d w
       w.remote (d.f 3 63 0) && !(w.remote (d.f 2 63 0)) && m.held == none && decide (0 < m.moved)) = true) ∧
    (let d : Desc := [7 * 2 ^ 60, 0, 0x8000000000000, 8192, 0, 64 * 2 ^ 32]
     let u := chargeAll (tasks [(9, unit d)])
     u.unitPick 0 0 [3, 4, 7] 8 = some (.task 9 (unit d)) ∧
     regionOf (gaAddr (d.f 2 63 0)) = some .hostWin ∧ u.needsToken d = false ∧ (startUnit 9 u).remote (d.f 2 63 0) = false) ∧
    (let d : Desc := [7 * 2 ^ 60, 0, 3 * 2 ^ 52 + 4096, 8192, 0, 64 * 2 ^ 32]
     let u := chargeAll (tasks [(9, unit d)])
     u.unitPick 0 0 [3, 4, 7] 8 = some (.task 9 (unit d)) ∧ u.needsToken d = true ∧
     (takeToken 9 0 (endWait 9 u)).any (fun p => (startUnit 9 p.2).remote (d.f 2 63 0)) = true) := by
  set_option maxRecDepth 20000 in decide +kernel

/-- A packet waits for its unit. -/
def inbox (k : Packet) (s : State := up) : State := { s with fab := { s.fab with inbox := [(0, k)] } }

/-- Task 9 is parked with token 0. -/
def parked (d : Desc) (k : Packet) (f : Task → Task := id) : State :=
  let s := tasks [(9, f { task d .parked with token := some 0, remaining := 1, ackWait := true })] (inbox k)
  { s with mer := { s.mer with park := [(0, 9)] } }

theorem wit_FabricAnswers :
    (let k : Packet := { typ := .readRsp, dst := 0, src := 3, addr := 4096, data := List.replicate 64 0 }
     let d : Desc := [7 * 2 ^ 60, 0, 3 * 2 ^ 52 + 4096, 8192, 0, 2 ^ 32]
     (∀ st ∈ [0, 1, 4], (takeIn (fun k => k.typ == .readRsp) (parked d { k with status := st })).any (fun x =>
       ((tripDone x.1 x.2.1 x.2.2).byToken x.2.1).any fun y =>
       y.2.desc.type == 7 && y.2.phase == .parked && gaModule (y.2.desc.f 2 63 0) == x.2.1.src &&
       decide (gaAddr (y.2.desc.f 2 63 0) ≤ x.2.1.addr) && decide (x.2.1.addr - gaAddr (y.2.desc.f 2 63 0) < d.tbytes) &&
       x.2.1.status == st) = true) ∧
     (takeIn (fun k => k.typ == .readRsp) (inbox k)).any (fun x => (tripDone x.1 x.2.1 x.2.2).byToken x.2.1 == none &&
       (repairRsp x.2.1 (tripDone x.1 x.2.1 x.2.2)).isNone) = true ∧
     (let s := inbox { k with addr := 0x30000000000 }
      let r : Repair :=
        { page := 0, entry := 0, ent := ⟨0, false, 0, 0, 1, 3 * 2 ^ 52, 0, 0⟩, since := 0, running := true, stage := 1 }
      let u := { s with rel := { s.rel with repairs := [{ r with stage := 0 }] } }
      (repairRsp { k with addr := gaAddr r.semGa } u).isSome = true)) ∧
    (let k : Packet := { typ := .writeAck, dst := 0, src := 3, addr := 4096 }
     let d : Desc := [7 * 2 ^ 60, 0, 8192, 3 * 2 ^ 52 + 4096, 0, 2 ^ 32]
     (takeIn (fun k => k.typ == .writeAck) (parked d k)).any (fun x => x.2.1.flow != 0xFF && (x.2.2.byToken x.2.1).any fun y =>
       y.2.desc.type == 7 && y.2.phase == .parked && x.2.2.remote (y.2.desc.f 3 63 0) &&
       gaModule (y.2.desc.f 3 63 0) == x.2.1.src && decide (gaAddr (y.2.desc.f 3 63 0) ≤ x.2.1.addr) &&
       decide (x.2.1.addr - gaAddr (y.2.desc.f 3 63 0) < d.tbytes)) = true ∧
     (takeIn (fun k => k.typ == .writeAck) (inbox k)).any (fun x => x.2.2.byToken x.2.1 == none && x.2.1.flow != 0xFD) = true ∧
     (takeIn (fun k => k.typ == .writeAck) (inbox { k with addr := 0x30000000000, flow := 0xFD })).any (fun x =>
       x.2.2.byToken x.2.1 == none && regionOf x.2.1.addr == some .sems && x.2.1.flow == 0xFD) = true) ∧
    (let k : Packet := { typ := .watchRsp, dst := 0, src := 3, operand := 1 }
     let d : Desc := [9 * 2 ^ 60, 0, 3 * 2 ^ 52 + 0x30000000000, 2 ^ 32]
     ∀ op ∈ [0, 1, 2], (takeIn (fun k => k.typ == .watchRsp) (parked d { k with op := op })).any (fun x =>
       (x.2.2.byToken x.2.1).any fun y => y.2.watchedBy x.2.1 && !(y.2.expired x.2.2.now) && x.2.1.op == op &&
         x.2.1.status == 0 && decide (y.2.desc.f 3 63 32 ≤ x.2.1.operand)) = true ∧
      (takeIn (fun k => k.typ == .watchRsp) (parked d { k with op := op, src := 4 })).any (fun x =>
       (x.2.2.byToken x.2.1).any fun y => !(y.2.watchedBy x.2.1)) = true) ∧
    (∀ ty ∈ [7, 9], let s := parked [ty * 2 ^ 60, 0, 3 * 2 ^ 52] { typ := .mgmt, dst := 0, src := 0 }
      let u := { s with time := { s.time with tclk := 10000000 } }
      (u.task 9).any (fun k => k.phase == .parked && k.desc.type == ty && k.ackWait && k.token.isSome &&
        decide (0 < k.remaining) && decide (k.prog + u.fab.timeoutUs * 1000 ≤ u.cyc)) = true) := by
  set_option maxRecDepth 20000 in decide +kernel

/-- A module with an id in a fabric of two groups. -/
def placed (s : State := up) : State := { s with fab := { s.fab with id := some 3, groups := some 2 } }

/-- Port 0 of a placed module, towards module 4, without credits and with this queue. -/
def crowded (L : List OutPkt) (s : State := placed) : State :=
  { s with fab := { s.fab with ports := [(0, { st := .active, lanes := 3, txq := L, stall := some 0 })] } }

theorem crowded_keeps (L : List OutPkt) (s : State) : ∀ n, drainPort n 0 (crowded L s) = crowded L s := by
  have h : ((crowded L s).port 0).pick = none := by
    have fit : ∀ k : Packet, ((crowded L s).port 0).fits k = false := by
      intro k
      show decide (1 + k.nflits ≤ ((Vector.replicate 8 0)[k.vc]?.getD 0) + 0) = false
      have : ((Vector.replicate 8 0)[k.vc]?.getD 0) = 0 := by
        rw [Vector.getElem?_replicate]; split <;> rfl
      rw [this]; simp
    have able : ((heads ((crowded L s).port 0).txq).filter fun x => ((crowded L s).port 0).fits x.2.pkt) = [] := by
      simp [fit]
    unfold Port.pick
    rw [able]
    rfl
  intro n
  cases n with
  | zero => rfl
  | succ n => unfold drainPort; rw [h]; simp

/-- The packet of a TRANSFER of task 3 towards module 4. -/
def asking : Inject := { pkt := { typ := .readReq, cls := 2, dst := 4, src := 3 }, die := 0, task := some 3 }

/-- Task 3 waits for credits towards module 4; task 4, of another class, has packets in the queue and more to send. -/
def sender (c : Nat) : Task := { task [7 * 2 ^ 60, 0, 4 * 2 ^ 52, 0, 0, 64 * 2 ^ 32] .parked with cls := c }
def lenders : State :=
  let s := tasks [(3, sender 0), (4, sender 1)] (queued placed)
  { s with
    mer := { s.mer with heard := s.mer.heard.set 0 5 }
    fab := { s.fab with inject := [asking, { asking with task := some 4 }] } }

/-- As many packets of task 4 in the queue as there are credits for, and one. -/
def full : List OutPkt := List.replicate (Config.injSlots + 1) ⟨asking.pkt, false, some 4⟩

theorem crowded_service (L : List OutPkt) (u : State) (hi : u.fab.id.isSome = true) (hg : u.fab.groups.isSome = true) :
    servePort 0 (crowded (L ++ [⟨asking.pkt, false, some 3⟩]) u) = crowded (L ++ [⟨asking.pkt, false, some 3⟩]) u := by
  unfold servePort
  rw [crowded_keeps]
  show noteStall 0 (crowded (L ++ [⟨asking.pkt, false, some 3⟩]) u) = _
  have e1 : (crowded (L ++ [⟨asking.pkt, false, some 3⟩]) u).inService 0 = true := by
    simp [State.inService, crowded, State.port, kvGet, kvFind, hi, hg]
  have e2 : ((crowded (L ++ [⟨asking.pkt, false, some 3⟩]) u).port 0).txq.isEmpty = false := by
    show (L ++ [_]).isEmpty = false
    cases L <;> rfl
  have e3 : ((crowded (L ++ [⟨asking.pkt, false, some 3⟩]) u).port 0).stall = some 0 := rfl
  unfold noteStall
  simp only [e1, e2, e3, Bool.not_false, Bool.and_self]

theorem crowded_inject (L : List OutPkt) : injectPkt asking (crowded L (chargeAll lenders)) =
    crowded (L ++ [⟨asking.pkt, false, some 3⟩]) (count .injectedPackets 0 1 (chargeAll lenders)) := by
  have key : injectPkt asking (crowded L (chargeAll lenders)) =
      servePort 0 (crowded (L ++ [⟨asking.pkt, false, some 3⟩]) (count .injectedPackets 0 1 (chargeAll lenders))) := by
    have a : injectPkt asking (crowded L (chargeAll lenders)) = toMember 4 0 ⟨asking.pkt, false, some 3⟩ (crowded L (count .injectedPackets 0 1 (chargeAll lenders))) := rfl
    have b : (crowded L (count .injectedPackets 0 1 (chargeAll lenders))).inService 0 = true := rfl
    rw [a]
    unfold toMember
    have o : (crowded L (count .injectedPackets 0 1 (chargeAll lenders))).ownId = 3 := rfl
    have c : memberPort (3 % 8) 4 0 = 0 := by decide
    rw [o]
    simp only [c, b, if_true]
    rfl
  rw [key, crowded_service L _ rfl rfl]

theorem crowded_at (L : List OutPkt) : (crowded L (chargeAll lenders)).injectAt asking = some (0, 6) := by
  unfold State.injectAt
  rw [crowded_inject]
  have a : ((crowded L (chargeAll lenders)).port 0).txq = L := rfl
  have b : ((crowded (L ++ [⟨asking.pkt, false, some 3⟩]) (count .injectedPackets 0 1 (chargeAll lenders))).port 0).txq =
    L ++ [⟨asking.pkt, false, some 3⟩] := rfl
  have c : ((crowded L (chargeAll lenders)).port 0).grants = 0 := rfl
  have d : ((crowded (L ++ [⟨asking.pkt, false, some 3⟩]) (count .injectedPackets 0 1 (chargeAll lenders))).port 0).grants = 0 := rfl
  dsimp only
  rw [show List.range 30 = 0 :: List.range' 1 29 by decide, List.find?_cons_of_pos (by simp [a, b, c, d])]
  simp only [Option.map_some, b, List.getLast?_concat]
  rfl

/-- The witness of SelectStealLend's case of credits: whatever number of packets a port queue takes. -/
theorem crowded_chargeTask (t : Nat) (L : List OutPkt) (s : State) :
    chargeTask t (crowded L s) = crowded L (chargeTask t s) := by
  unfold chargeTask
  rw [show (crowded L s).task t = s.task t from rfl]
  split
  · rfl
  · split
    · rfl
    · dsimp only
      split
      · split <;> rfl
      · split <;> rfl

theorem crowded_charge (L : List OutPkt) : chargeAll (crowded L lenders) = crowded L (chargeAll lenders) := by
  have a : (crowded L lenders).mer.tasks = [(3, sender 0), (4, sender 1)] := rfl
  have b : lenders.mer.tasks = [(3, sender 0), (4, sender 1)] := rfl
  unfold chargeAll
  simp only [a, b, List.foldl_cons, List.foldl_nil, crowded_chargeTask]
  have c : (chargeTask 4 (chargeTask 3 lenders)).copies = [] := by decide
  have d : (chargeTask 4 (chargeTask 3 lenders)).mer.lends = [] := by decide
  generalize chargeTask 4 (chargeTask 3 lenders) = x at c d
  rw [show (crowded L x).copies = x.copies from rfl, c]
  simp only [List.foldl_nil, endCreditLends, show (crowded L x).mer.lends = x.mer.lends from rfl, d, List.filter_nil]
  rfl

theorem full_room : (crowded full (chargeAll lenders)).injectRoom asking = false := by
  unfold State.injectRoom
  rw [crowded_at]
  have a : ((crowded full (chargeAll lenders)).port 0).txq = full := rfl
  have b : (full.countP fun y => !y.transit && y.pkt.vc == 6) = Config.injSlots + 1 := by
    unfold full
    rw [List.countP_replicate, if_pos (by decide)]
  simp [a, b]

theorem full_held : (crowded full (chargeAll lenders)).holdsCredit 4 0 6 = true := by
  have a : ((crowded full (chargeAll lenders)).port 0).txq = full := rfl
  unfold State.holdsCredit
  rw [a, full, List.replicate_succ, List.any_cons]
  simp [asking, Packet.vc]

/-- The witness of SelectStealLend's case of credits: whatever number of packets a port queue takes. -/
theorem wit_SelectStealLend_credit : let u := chargeAll (crowded full lenders)
    u.task 3 = some (sender 0) ∧ u.waiterOn 3 (sender 0) = some (.credit 0 6) ∧
    oldest (u.mer.tasks.filter fun h => h.2.cls != (sender 0).payer && (h.2.desc.type == 7 || h.2.desc.type == 8) &&
      u.holdsCredit h.1 0 6 && u.unsent h.1) = some (4, sender 1) ∧
    u.mer.lends.any (fun l => l.waiter == 3) = false ∧ (sender 1).lent = none ∧
    u.effective (sender 1).dieOf (sender 1).cls < u.effective (sender 1).dieOf (sender 0).payer ∧
    u.mer.lends.countP (fun l => l.die == (sender 1).dieOf) < 64 := by
  rw [crowded_charge]
  dsimp only
  have first : (crowded full (chargeAll lenders)).fab.inject.find? (fun x => x.task == some 3) = some asking := rfl
  have two : (crowded full (chargeAll lenders)).mer.tasks = [(3, sender 0), (4, sender 1)] := by decide
  refine ⟨by decide, ?_, ?_, by decide, by decide, by decide, by decide⟩
  · unfold State.waiterOn
    rw [if_neg (by decide), if_neg (by decide), if_pos (by decide)]
    simp only [first, full_room, crowded_at]
    rfl
  · have un : (crowded full (chargeAll lenders)).unsent 4 = true := by decide
    rw [two]
    simp [sender, task, Task.payer, full_held, un, oldest, Desc.type, Desc.f, bits]

theorem wit_PortCommands :
    (let s := ask 0x0501 [0]
     mbxTakes 0x0501 anyArgs 0 s = true ∧ bufCheck 0 960 1 s = none ∧
     (wordBytes ((List.range 30).flatMap fun i => portRecord (s.port i))).length = 960) ∧
    mbxTakes 0x0502 anyArgs 0 (ask 0x0502 [0, 0]) = true ∧ mbxTakes 0x0502 anyArgs 0 (ask 0x0502 [2 ^ 29 + 1, 1]) = true ∧
    (∀ w ∈ [13, 29, 64 * 256 + 29], mbxTakes 0x0503 anyArgs 0 (ask 0x0503 [w, 0x10000, 2 ^ 36]) = true) ∧
    (let s := ask 0x0503 [64 * 256 + 29, 0x10000, 2 ^ 30]
     bits (s.arg 0 0) 4 0 = 29 ∧ bits (s.arg 0 0) 15 8 = 64 ∧ bufCheck (s.arg 0 1) (64 * 2 ^ 20) 65536 s = none ∧
     bufCheck (s.arg 0 2) (64 * 2 ^ 20) 65536 s = none ∧ regionOf (s.arg 0 1) = some .gddr7 ∧
     regionOf (s.arg 0 2) = some .gddr7) ∧
    (∀ n ∈ [0, 1, 128, 129], mbxTakes 0x0504 anyArgs 0 (ask 0x0504 [n]) = true) ∧
    (ask 0x0504 [1]).fab.id = none ∧ (ask 0x0504 [1] placed).fab.id = some 3 ∧
    (ask 0x0505 [0]).fab.groups = none ∧ (ask 0x0502 [2 ^ 29 + 1, 1]).arg 0 0 ≠ 0 ∧
    (∀ x ∈ [(2 ^ 24, true, 0), (256, false, 1), (2 * 256, false, 2)], let s := ask 0x0505 [x.1] placed
      s.fab.groups = some 2 ∧ bit (s.arg 0 0) 24 = x.2.1 ∧ bits (s.arg 0 0) 14 8 = x.2.2) ∧
    (∀ w ∈ [2 ^ 24, 256, 2 * 256], mbxTakes 0x0505 anyArgs 0 (ask 0x0505 [w] placed) = true) ∧
    (∀ t ∈ [99, 100, 10000000, 10000001], mbxTakes 0x0506 anyArgs 0 (ask 0x0506 [512, t]) = true) := by
  set_option maxRecDepth 20000 in decide +kernel

/-- Port 14 in a state. -/
def port (p : Port) (s : State := placed) : State := { s with fab := { s.fab with ports := [(14, p)] } }

/-- A capability record of this model, its CRC in place. -/
def capsRecord : List Nat :=
  let bare := [0x0402_0009_0000_0000, 0, 0x100010 * 65536, 0, 0, 0, 0, 0]
  bare.take 7 ++ [(crc32c (wordBytes bare)).toNat]

theorem wit_PortTraining :
    (port { st := .detect }).mayTrain 14 = true ∧ up.mayTrain 0 = true ∧ (up.port 0).st = .down ∧
    (∀ st ∈ [PortSt.train, .length, .caps, .active], ((port { st := st }).port 14).st = st) ∧
    (∀ x ∈ [(15, false, 3), (15, true, 1), (12, false, 2), (3, false, 1), (1, false, 0)],
      let p := (port { st := .train, degrading := x.2.1 }).port 14
      let lo := x.1 % 4 == 3 && (p.usable == 3 || p.usable == 1)
      let hi := x.1 / 4 % 4 == 3 && (p.usable == 3 || p.usable == 2)
      (if (lo && hi) = true then (if p.degrading = true then 1 else 3) else if lo = true then 1 else if hi = true then 2 else 0) = x.2.2) ∧
    ((port { st := .train, warm := true }).port 14).warm = true ∧ ((port { st := .train }).port 14).warm = false ∧
    (List.replicate 64 (8, 4)).length = 64 ∧
    (let bare := (List.range 8).map fun k => if k = 7 then 0 else capsRecord.getD k 0
     bits (capsRecord.getD 7 0) 31 0 = (crc32c (wordBytes bare)).toNat ∧ bits (capsRecord.getD 7 0) 63 32 = 0 ∧
     capsRecord.getD 3 0 = 0 ∧ capsRecord.getD 4 0 = 0 ∧ capsRecord.getD 5 0 = 0 ∧ capsRecord.getD 6 0 = 0 ∧
     bits (capsRecord.getD 1 0) 31 0 = 0 ∧ bits (capsRecord.getD 0 0) 10 0 = 0) ∧
    (crc32c (wordBytes [0, 0, 0, 0, 0, 0, 0, 0])).toNat ≠ 0 ∧
    ((port { st := .caps, capsTries := 7 }).port 14).capsTries < 8 ∧
    8 ≤ ((port { st := .caps, capsTries := 8 }).port 14).capsTries ∧
    ((port { st := .active, lanes := 3 }).port 14).lanes = 3 ∧ ((port { st := .active, lanes := 1 }).port 14).lanes ≠ 3 := by
  set_option maxRecDepth 20000 in decide +kernel

theorem wit_LinkAndRouter :
    ((port { st := .active }).port 14).st = .active ∧ (9 < 0xA) ∧ (5 : BitVec 8) = (5 : BitVec 24).setWidth 8 ∧
    (let p := (port { st := .active, nakked := true, rxSeq := 5 }).port 14
     p.nakked = true ∧ (6 : BitVec 8) ≠ p.rxSeq.setWidth 8 ∧ (5 : BitVec 8) = p.rxSeq.setWidth 8) ∧
    ((port { st := .active }).port 14).nakked = false ∧
    (∀ x ∈ [0, 1, 2], linkFlitOk (fun k => [2 ^ 40 + x, 0, 0, 1].getD k 0) = true ∧ (2 ^ 40 + x) % 4 = x) ∧
    (∀ st ∈ [1, 2, 3, 4], [2, 0, 0, st].getD 3 0 = st ∧ linkFlitOk (fun k => [2, 0, 0, st].getD k 0) = true) ∧
    linkFlitOk (fun k => [0, 0, 1].getD k 0) = false ∧ [3].getD 0 0 % 4 = 3 ∧
    ((port { st := .active, lanes := 3 }).port 14).lanes = 3 ∧
    (∀ n ∈ [7, 8], let p := (port { st := .active, nakCount := n, nakSeq := 5 }).port 14
     0 < p.nakCount ∧ p.nakSeq = BitVec.ofNat 24 (bits (5 * 2 ^ 16 + 1) 39 16) ∧ (8 < p.nakCount + 1 ↔ n = 8)) ∧
    (let p := (port { st := .active, ackOwed := true }).port 14
     (p.ackOwed || decide (0 < p.sharedOwed) || p.vcOwed.toList.any (fun x => decide (0 < x))) = true) ∧
    (∀ x ∈ [(3, 0, true), (4, 0, true), (4, 3, false)],
      let k : Packet := { typ := .mgmt, cls := 1, dst := x.1, src := 9, level := x.2.1 }
      let s := port { st := .active, lanes := 3, rx := [k] }
      s.nextRx 14 = some k ∧ s.inService 14 = true ∧ s.ownId = 3 ∧ x.1 / 8 = s.ownId / 8 ∧ k.val = false ∧
      levelOk { k with level := k.level + 1 } = x.2.2) ∧
    (∀ t ∈ [none, some 5], let x : Inject := { pkt := { typ := .mgmt, dst := 0, src := 3 }, die := 0, task := t }
     (collExpire (chargeAll { up with fab := { up.fab with inject := [x] } })).nextInject = some x) ∧
    placed.fab.id.isSome = true ∧ placed.fab.groups.isSome = true ∧
    (let k : Packet := { typ := .mgmt, dst := 3, src := 4, mgmt := [2 ^ 56 + 5, 0, 0] }
     (takeIn (fun k => k.typ == .mgmt && k.kind == 1) (inbox k placed)).any
       (fun x => x.2.1.src / 8 == x.2.2.ownId / 8) = true) ∧
    (let s := placed { up with time := { up.time with tclk := 300000 } }
     kvFind 7 ({ s.fab with peers := [(7, (5, 0))] } : Fabric).peers = some (5, 0) ∧ 0 + 300000 ≤ s.cyc) := by
  set_option maxRecDepth 20000 in decide +kernel

theorem wit_InboundRequests :
    (let k : Packet := { typ := .write, dst := 0, src := 3, addr := 4096, ack := true, data := List.replicate 64 0 }
     (takeIn (fun k => k.typ == .write) (inbox k)).any (fun x => inboundStatus x.2.1 64 x.2.2 == 0 && x.2.1.ack) = true ∧
     (takeIn (fun k => k.typ == .write) (inbox { k with addr := 0x38000000000 })).any
       (fun x => inboundStatus x.2.1 64 x.2.2 != 0) = true) ∧
    (let k : Packet := { typ := .readReq, dst := 0, src := 3, addr := 4096, lenM1 := 2047 }
     (takeIn (fun k => k.typ == .readReq) (inbox k)).any (fun x => inboundStatus x.2.1 2048 x.2.2 == 0 &&
       (devRead x.2.1.addr 2048 x.2.2).1 == none) = true ∧
     (takeIn (fun k => k.typ == .readReq) (inbox { k with addr := 0x38000000000 })).any
       (fun x => inboundStatus x.2.1 2048 x.2.2 != 0 && !x.2.2.boot.reset.any (fun r => r.scope == 1)) = true) ∧
    (let k : Packet := { typ := .readReq, dst := 0, src := 3, addr := 0x30000000000, lenM1 := 7 }
     let s := { up with boot := { up.boot with reset := some ⟨1, 0, none, 0, 0, 0, false⟩ } }
     (takeIn (fun k => k.typ == .readReq) (inbox k s)).any (fun x => inboundStatus x.2.1 8 x.2.2 == 0 &&
       regionOf x.2.1.addr == some .sems && x.2.2.boot.reset.any (fun r => r.scope == 1)) = true ∧
     (takeIn (fun k => k.typ == .readReq) (inbox k)).any (fun x => inboundStatus x.2.1 8 x.2.2 == 0 &&
       !(x.2.2.boot.reset.any (fun r => r.scope == 1)) && (devRead x.2.1.addr 8 x.2.2).1 == none) = true ∧
     (takeIn (fun k => k.typ == .readReq) (inbox { k with addr := 4096 }
       { up with rel := { up.rel with frames := [((up.loc 4096).frameKey, { poison := 2 ^ 64 - 1 })] } })).any
       (fun x => inboundStatus x.2.1 8 x.2.2 == 0 && (devRead x.2.1.addr 8 x.2.2).1 == some 4096) = true) ∧
    (let k : Packet := { typ := .write, dst := 0, src := 3, addr := 0x30000000000, data := List.replicate 8 0 }
     (takeIn (fun k => k.typ == .write) (inbox k)).any (fun x => regionOf x.2.1.addr == some .sems && !x.2.1.ack) = true) ∧
    (∀ op ∈ [0, 1], let k : Packet := { typ := .semOp, dst := 0, src := 3, addr := 0x3000001FFF8, op := op, operand := 1 }
      (takeIn (fun k => k.typ == .semOp) (inbox k)).any (fun x => semStatus x.2.1 x.2.2 == 0 &&
        semIndex x.2.1.addr == some 16383 && x.2.1.op == op) = true ∧
      (takeIn (fun k => k.typ == .semOp) (inbox { k with addr := 4096 })).any (fun x => semStatus x.2.1 x.2.2 != 0) = true) ∧
    (∀ n ∈ [0, 1], let k : Packet := { typ := .semWatch, dst := 0, src := 3, addr := 0x30000000000, operand := n }
      (takeIn (fun k => k.typ == .semWatch) (inbox k)).any (fun x => semStatus x.2.1 x.2.2 == 0 &&
        semIndex x.2.1.addr == some 0 && decide (x.2.1.operand ≤ (x.2.2.sem 0).count.toNat) == (n == 0) &&
        decide (x.2.2.mer.watches.countP (fun x => x.die == semDie 0) < 4096)) = true) ∧
    (List.replicate 4096 (⟨0, 3, 0, 0, 1⟩ : Watch)).countP (fun x => x.die == semDie 0) = 4096 ∧
    (takeIn (fun k => k.typ == .watchCancel) (inbox { typ := .watchCancel, dst := 0, src := 3 })).isSome = true := by
  set_option maxRecDepth 20000 in decide +kernel

/-- Communicator 1 of two ranks, this module's the first, and a collective's packet of its rank 1. -/
def comm : Comm := { ranks := [3 * 2 ^ 54 + 0x100000, 4 * 2 ^ 54 + 0x100000], own := 0, epoch := 5, timeoutUs := 1, slot64k := 1 }
def comms (s : State := placed) : State := { s with fab := { s.fab with comms := [(1, comm)] } }
def collPkt (typ : PType) (kind : Nat := 0) : Packet :=
  { typ := typ, dst := 3, src := 4, coll := 1 * 2 ^ 52 + 5 * 2 ^ 36 + 1 * 2 ^ 8, addr := 0x100000
    mgmt := [kind * 2 ^ 56, 0, 0], data := List.replicate 64 0 }
/-- A communicator record at address 0 and its rank table at 64. -/
def record (epoch : Nat) (s : State := placed) : State :=
  { s with mem := s.mem.write 0 (wordBytes ([1 * 2 ^ 52 + 2 * 2 ^ 40 + epoch * 2 ^ 13, 64, 2 ^ 32 + 1, 0, 0, 0, 0, 0] ++ comm.ranks)) }

theorem wit_Collectives :
    mbxTakes 0x0507 anyArgs 0 (ask 0x0507 [1023]) = true ∧ mbxTakes 0x0507 anyArgs 0 (ask 0x0507 [1] placed) = true ∧
    (let s := ask 0x0508 [0] (record 5)
     mbxTakes 0x0508 anyArgs 0 s = true ∧
     (match readComm 0 (fun id s => !kvHas id s.fab.comms && decide (s.fab.comms.length < 256)) s with
      | .inl r => r.2.1 == comm | .inr _ => false) = true) ∧
    (match readComm 0 (fun id s => !kvHas id s.fab.comms && decide (s.fab.comms.length < 256)) (ask 0x0508 [0]) with
      | .inl _ => false | .inr _ => true) = true ∧
    (∀ s ∈ [ask 0x0509 [1] placed, ask 0x0509 [1] comms], mbxTakes 0x0509 anyArgs 0 s = true ∧ s.collOpen 1 = false) ∧
    ({ comms with fab := { comms.fab with colls := [{ task := 9, comm := 1, die := 0, num := 0, segs := [] }] } } :
      State).collOpen 1 = true ∧
    (∀ e ∈ [5, 6], let s := ask 0x050A [e * 2 ^ 16 + 1, 0] (record e comms)
      mbxTakes 0x050A anyArgs 0 s = true ∧ kvFind 1 s.fab.comms = some comm ∧
      (match readComm 0 (fun i _ => i == 1) s with | .inl r => r.1 == 1 && !r.2.2.collOpen 1 | .inr _ => false) = true) ∧
    (let s := ask 0x050A [6 * 2 ^ 16 + 1, 0] (record 6 comms)
     let c := { comm with owed := [(1, 0)] }
     kvFind 1 ({ s with fab := { s.fab with comms := [(1, c)] } } : State).fab.comms = some c ∧ c.stale = false ∧ c.owed ≠ [] ∧
     ({ c with stale := true } : Comm).stale = true ∧ comm.owed = [] ∧ 6 = (comm.epoch + 1) % 65536) ∧
    ({ up with boot := { up.boot with reset := some ⟨1, 0, none, 0, 0, 0, false⟩ } } : State).inCompute = true ∧
    (∀ g ∈ [1, 2], let d : Desc := [8 * 2 ^ 60, 0, 0, 0, 0, g * 2 ^ 48 + 5 * 2 ^ 32]
     let s := tasks [(9, task d .admitted)] (queued comms)
     let u := collPumpAll (fun x => x.die == 0) (collExpire (chargeAll s))
     let mine := u.mer.tasks.filter fun p =>
       p.2.desc.type == 8 && p.2.loc == 0 && p.2.phase == .admitted && !u.awaitsSwitch p.2
     let ready := mine.filter fun p =>
       !(mine.any fun q => q.2.desc.cgroup == p.2.desc.cgroup && decide (q.2.age < p.2.age))
     u.inCompute = false ∧ u.fab.colls.countP (fun x => (u.task x.task).any Task.busy) < 16 ∧
     (u.unitChoose 66 ready).any (fun p => match kvFind p.2.desc.cgroup u.fab.comms with
       | none => g == 2
       | some c => g == 1 && !c.stale && p.2.desc.cepoch == c.epoch && (collAdmit p.1 0 p.2 c u).isSome) = true) ∧
    (takeIn (fun k => k.typ == .collData) (collExpire (chargeAll (inbox (collPkt .collData) comms)))).any (fun x =>
      (collFilter x.1 x.2.1 x.2.2).1.any fun c => checkAccess .remote x.2.1.addr x.2.1.data.length == none &&
        c.slotAt c.own 0 == x.2.1.addr && decide (bits x.2.1.coll 18 8 < c.ranks.length) && bits x.2.1.coll 18 8 != c.own) = true ∧
    (takeIn (fun k => k.typ == .collCtrl && k.kind == 0x10) (collExpire (chargeAll (inbox (collPkt .collCtrl 0x10) comms)))).any
      (fun x => (collFilter x.1 x.2.1 x.2.2).1.isSome) = true ∧
    (let s := inbox (collPkt .collCtrl 0x11) comms
     let u := { s with fab := { s.fab with colls := [{ task := 9, comm := 1, die := 0, num := 0, segs := [] }] } }
     (takeIn (fun k => k.typ == .collCtrl && k.kind == 0x11) u).any (fun x =>
       (collFilter x.1 x.2.1 x.2.2).1.isSome &&
       (collFilter x.1 x.2.1 x.2.2).2.fab.colls.any fun y => y.comm == 1 && y.num % 65536 == bits x.2.1.coll 35 20) = true ∧
     (let v := tasks [(9, task [8 * 2 ^ 60] .parked)] { u with time := { u.time with tclk := 1000 } }
      v.collOver 9 false = true ∧ ((chargeAll v).coll 9).isSome = true ∧
      (v.collOver 9 true = true ∨ v.collArrives 9 = false ∨ v.collLacks 9 = none))) := by
  set_option maxRecDepth 20000 in decide +kernel

/-- A management packet of a kind from module 4, and a module whose buddy is 4. -/
def note (kind : Nat) (s : State := placed) : State :=
  inbox { typ := .mgmt, dst := 3, src := 4, mgmt := [kind * 2 ^ 56 + 1, 0, 0] } s
def buddied (s : State := placed) : State := { s with
  fab := { s.fab with buddy := some 4, siteEn := true, ringBase := 2 ^ 30, ringBytes := 2 ^ 26, credit := 2 ^ 26 } }

theorem wit_SitesAndBuddy :
    mbxTakes 0x050B anyArgs 0 (ask 0x050B [2 ^ 64 - 1, 5, 1]) = true ∧ mbxTakes 0x050C anyArgs 0 (ask 0x050C []) = true ∧
    up.fab.fenced = none ∧
    (let s := comms buddied
     let u := { s with fab := { s.fab with fenced := some 0 } }
     u.fab.fenced.isSome = true ∧ u.fab.comms.any (fun p => u.spans p.2) = false ∧
     (let v := { u with fab := { u.fab with siteMap := #v[2, 0], comms := [(1, { comm with ranks := [0, 8 * 2 ^ 54] })] } }
      v.fab.comms.any (fun p => v.spans p.2) = true)) ∧
    buddied.fab.siteEn = true ∧ buddied.fab.id.isSome = true ∧ buddied.fab.groups.isSome = true ∧
    (takeIn (fun k => k.typ == .mgmt && k.kind == 2) (note 2 buddied)).any (fun x => x.2.2.fab.siteEn) = true ∧
    (∀ n ∈ [2 ^ 26 - 65536, 2 ^ 26], mbxTakes 0x050D anyArgs 0 (ask 0x050D [1024 + 4, 2 ^ 30, n]) = true) ∧
    regionOf (2 ^ 30) = some .gddr7 ∧ regionOf (2 ^ 30 + 2 ^ 26 - 1) = some .gddr7 ∧
    (∀ k ∈ [3, 4], (takeIn (fun x => x.typ == .mgmt && x.kind == k) (note k buddied)).any
      (fun x => x.2.2.fab.buddy == some x.2.1.src) = true) ∧
    (let s := { buddied with time := { up.time with tclk := 5000000 } }
     s.fab.buddyLost = false ∧ s.fab.beatAt + 5000000 ≤ s.cyc) := by
  set_option maxRecDepth 20000 in decide +kernel

/-- What makes a manifest readable, and what reading it gives. -/
theorem manifest_reads {a : Nat} {stage : Bool} {s : State}
    (h : bufCheck a 64 1 s = none ∧ (devRead a 64 s).1 = none ∧
      (let w := bytesWords (devRead a 64 s).2.1
       let u := (devRead a 64 s).2.2
       let n := bits (w.getD 0 0) 31 16
       ¬ (n = 0 ∨ n > 4096 ∨ (!aligned a 64) = true) ∧ bufCheck (a + 64) (16 * n) 1 u = none ∧
       (devRead (a + 64) (16 * n) u).1 = none ∧
       (let rs := manifestRegions (bytesWords (devRead (a + 64) (16 * n) u).2.1)
        (headerOk w rs stage && regionsOk 0 rs) = true))) :
    ∃ w rs v, (∀ k, readManifest a stage s k = k w rs v) ∧
      v = (devRead (a + 64) (16 * bits ((bytesWords (devRead a 64 s).2.1).getD 0 0) 31 16) (devRead a 64 s).2.2).2.2 ∧
      rs = (manifestRegions (bytesWords (devRead (a + 64) (16 * bits ((bytesWords (devRead a 64 s).2.1).getD 0 0) 31 16)
        (devRead a 64 s).2.2).2.1)).map fun r => (r.1, r.2.1) := by
  obtain ⟨h1, h2, h3, h4, h5, h6⟩ := h
  simp only at h6
  refine ⟨bytesWords (devRead a 64 s).2.1, _, _, fun k => ?_, rfl, rfl⟩
  simp only [readManifest, readBuffer, h1, h2, if_neg h3, h4, h5, h6, if_true]

/-- A manifest of one granule at 0x10000, staged at 2^30, in memory at address 0. -/
def manifest (s : State) : State := { s with
  mem := s.mem.write 0 (wordBytes [0x4D43575A_00010000, 0, 2 ^ 30, 1024 * 2 ^ 32, 0, 0, 0, 0, 0x10000, 1]) }

/-- A generation of that granule. -/
def gen (id parent : Nat) : Generation := { id := id, parent := parent, regions := [(0x10000, 1)] }

/-- Reading that manifest leaves a state in which the checkpoint command goes on as `P` says. -/
theorem wit_manifest_write : ∃ w rs v, (∀ k, readManifest 0 true (manifest (ask 0x0801 [0xFF01, 0, 7])) k = k w rs v) ∧
    ckptRefused true 0xFF 7 false rs v = none ∧ ckptRefused true 0xFF 0 false rs v = some St.ckptIdInUse := by
  obtain ⟨w, rs, v, h, hv, hr⟩ := manifest_reads (a := 0) (stage := true) (s := manifest (ask 0x0801 [0xFF01, 0, 7]))
    (by set_option maxRecDepth 20000 in decide +kernel)
  subst hv hr
  exact ⟨w, _, _, h, by decide +kernel, by decide +kernel⟩

theorem wit_manifest_restore : ∃ w rs v,
    (∀ k, readManifest 0 false (manifest { ask 0x0802 [0, 0, 7] with store := { gens := [gen 7 0] } }) k = k w rs v) ∧
    v.store.failed = false ∧ v.store.gens.find? (fun g => g.id == 8) = none ∧
    v.store.gens.find? (fun g => g.id == 7) = some (gen 7 0) ∧ v.mayRead (gen 7 0) = true ∧
    (gen 7 0).regions.map Prod.snd = rs.map Prod.snd ∧ v.mayRead { gen 7 0 with keyId := 5 } = false ∧
    ({ gen 7 0 with regions := [] } : Generation).regions.map Prod.snd ≠ rs.map Prod.snd ∧ v.fab.buddy = none := by
  obtain ⟨w, rs, v, h, hv, hr⟩ := manifest_reads (a := 0) (stage := false)
    (s := manifest { ask 0x0802 [0, 0, 7] with store := { gens := [gen 7 0] } })
    (by set_option maxRecDepth 20000 in decide +kernel)
  subst hv hr
  exact ⟨w, _, _, h, by decide +kernel⟩

theorem wit_CheckpointStore :
    mbxTakes 0x0801 (fun a => bit (a.n 0) 0 == true) 0 (manifest (ask 0x0801 [0xFF01, 0, 7])) = true ∧
    mbxTakes 0x0801 (fun a => bit (a.n 0) 0 == false) 0 (manifest (ask 0x0801 [0xFF00, 0, 7])) = true ∧
    mbxTakes 0x0802 (fun a => !bit (a.n 0) 0) 0 (ask 0x0802 [0, 0, 7]) = true ∧ up.store.mounting = false ∧
    (let x : StoredGran := { addr := 0x10000 }
     let w : CkptWrite := { mbx := 0, gen := gen 7 0, since := 0, stage := 2 ^ 30, room := 1024, captured := true, todo := [x] }
     (w.todo.find? fun x => x.addr == (0x10000 + 65535) / granBytes * granBytes) = some x ∧ w.staged.length < w.room ∧
     ({ w with todo := [] } : CkptWrite).captured = true ∧ ({ w with todo := [] } : CkptWrite).staged = [] ∧ w.mbx < 16) ∧
    (let r : CkptRestore := { mbx := 0, gen := 7, regions := [], buddy := false, todo := [({ addr := 0 }, 0)] }
     r.buddy = false ∧ r.todo.length ≤ 1 ∧ 0 < r.todo.length) ∧
    (let s := ask 0x0803 [0, 1024] { up with store := { gens := [gen 7 0] } }
     mbxTakes 0x0803 anyArgs 0 s = true ∧ bufCheck 0 1024 1 s = none ∧
     (s.store.gens.flatMap Generation.record).length ≤ 1024) ∧
    (∀ l ∈ [[gen 7 0], [gen 7 0, gen 8 7]], let s := ask 0x0804 [7] { up with store := { gens := l } }
      mbxTakes 0x0804 anyArgs 0 s = true ∧ s.store.failed = false ∧ s.store.gens.find? (fun g => g.id == 7) = some (gen 7 0) ∧
      s.store.gens.any (fun x => x.parent == 7) = (l.length == 2) ∧ (gen 7 0).keyId = 0xFFFFFFFF) ∧
    (let s := ask 0x0805 [0, 2 ^ 22]
     mbxTakes 0x0805 anyArgs 0 s = true ∧ bufCheck 0 (2 ^ 22) 1 s = none) := by
  set_option maxRecDepth 20000 in decide +kernel

/-- A mirror record at the front of the ring. -/
def ring (typ gen parent : Nat) (payload : List Nat := []) (f : Store → Store := id) : State := let s := buddied
  { s with
    store := f s.store
    mem := s.mem.write (2 ^ 30) (wordBytes ([typ + 4 * 2 ^ 22 + 0x4D42575A * 2 ^ 32, 0, (if typ = 2 then 65536 else 8 * payload.length) * 2 ^ 32, gen, parent,
      0, 0, 0] ++ payload)) }

/-- The description of a generation of module 4 with one region. -/
def genWords : List Nat := [4 * 2 ^ 54, 0xFFFFFFFF * 2 ^ 32 + 1, 0, 0, 0, 0, 0, 65536, 0x10000, 1]

/-- A restore from the buddy that waits for generation 7. -/
def waiting (h : Option Generation) : CkptRestore := { mbx := 0, gen := 7, regions := [(0x20000, 1)], buddy := true, head := h }

theorem wit_MirrorRecords :
    (∀ p ∈ [(7, 0, true, true), (6, 0, false, true), (7, 5, true, false), (7, 6, true, true)],
      (ringTake 1 (ring 1 p.1 p.2.1 genWords fun x => { x with gens := [gen 6 0] })).any fun x =>
        (x.2.2.restoreOf (beginGen x.1 x.2.1).id).isNone && x.2.2.fab.buddy == some (mrModule x.1) && (beginGen x.1 x.2.1).id == p.1 &&
        !x.2.2.store.failed && (x.2.2.store.gens.any fun g => g.id == p.1) == !p.2.2.1 &&
        (p.2.1 == 0 || x.2.2.store.gens.any fun g => g.id == p.2.1) == p.2.2.2 &&
        decide ((bytesWords (x.2.1.take 64)).getD 7 0 ≤ x.2.2.store.free)) ∧
    (ringTake 1 (ring 1 7 0 genWords fun x => { x with failed := true })).any (fun x =>
      (x.2.2.restoreOf (beginGen x.1 x.2.1).id).isNone && x.2.2.store.failed) = true ∧
    (ringTake 1 { ring 1 7 0 genWords with fab := { (ring 1 7 0).fab with buddy := some 5 } }).any (fun x =>
      (x.2.2.restoreOf (beginGen x.1 x.2.1).id).isNone && x.2.2.fab.buddy != some (mrModule x.1)) = true ∧
    (ringTake 1 (ring 1 7 0 (genWords.set 1 (5 * 2 ^ 32 + 1)) fun x => { x with restore := some (waiting none) })).any (fun x =>
      x.2.2.restoreOf (beginGen x.1 x.2.1).id == some (waiting none) && !x.2.2.mayRead (beginGen x.1 x.2.1)) = true ∧
    (ringTake 1 (ring 1 7 0 genWords fun x => { x with restore := some (waiting none) })).any (fun x =>
      x.2.2.restoreOf (beginGen x.1 x.2.1).id == some (waiting none) && x.2.2.mayRead (beginGen x.1 x.2.1) &&
      (beginGen x.1 x.2.1).regions.map Prod.snd == [1]) = true ∧
    (ringTake 2 (ring 2 7 0 [5] fun x => { x with incoming := some (gen 7 0) })).any (fun x =>
      x.2.2.store.incoming == some (gen 7 0) && mrGen x.1 == 7) = true ∧
    (ringTake 2 (ring 2 7 0 [5] fun x => { x with restore := some (waiting (some { gen 7 0 with regions := [(0, 1)] })) })).any
      (fun x => ((x.2.2.restoreGranOf (mrGen x.1)).bind fun r => r.head.bind fun h => r.dest h (mrArg x.1)).isSome) = true ∧
    (ringTake 3 (ring 3 7 0 [] fun x => { x with incoming := some (gen 7 0) })).any (fun x => (x.2.2.restoreOf (mrGen x.1)).isNone && mrGen x.1 == 7) = true ∧
    (ringTake 3 (ring 3 7 0 [] fun x => { x with restore := some (waiting (some (gen 7 0))) })).any (fun x =>
      (x.2.2.restoreOf (mrGen x.1)).any fun r => r.head.isSome) = true ∧
    (ringTake 4 (ring 4 7 0 [] fun x => { x with restore := some (waiting none) })).any (fun x =>
      (x.2.2.restoreOf (mrGen x.1)).isSome) = true ∧
    (∀ t ∈ [4, 5], (ringTake t (ring t 7 0 [] fun x => { x with mirroring := some 7 })).any (fun x =>
      (x.2.2.restoreOf (mrGen x.1)).isNone && x.2.2.store.mirroring == some (mrGen x.1)) = true) ∧
    (∀ src ∈ [3, 4], (ringTake 6 (ring 6 7 0 [] fun x => { x with gens := [{ gen 7 0 with source := src }] })).any (fun x =>
      x.2.2.fab.buddy == some (mrModule x.1) && x.2.2.store.gens.any fun g => g.id == mrGen x.1 && g.source == src) = true) ∧
    ({ up.store with freed := 65536 } : Store).freed / 65536 ≠ 0 ∧ buddied.fab.buddy = some 4 ∧ buddied.mirrorDown = false ∧
    ({ buddied with fab := { buddied.fab with buddyLost := true } } : State).mirrorDown = true ∧
    mbxTakes 0x0802 (fun a => bit (a.n 0) 0) 0 (ask 0x0802 [1, 0, 7]) = true := by
  set_option maxRecDepth 20000 in decide +kernel

theorem wit_TiersAndMedia :
    (∀ a ∈ [1, 232 + 464 * 2 ^ 16], mbxTakes 0x0201 anyArgs 0 (ask 0x0201 [a]) = true) ∧
    up.tiers.bg = 232 ∧ up.tiers.bl = 464 ∧ bits (232 + 464 * 2 ^ 16) 15 0 = 232 ∧ bits (232 + 464 * 2 ^ 16) 31 16 = 464 ∧
    mbxTakes 0x0201 anyArgs 0 (ask 0x0201 [0]) = true ∧
    (∀ why ∈ [FillWhy.compute, .tenant, .interleave 0],
      let s := setMbx 0 (fun x => { x with started := true }) (ask 0x0201 [0])
      let u := { s with tiers := { s.tiers with fills := [(1, why)] } }
      kvFind 1 u.tiers.fills = some why ∧ kvDel 1 u.tiers.fills = [] ∧ mbxRuns 0x0201 0 s = true) ∧
    ([(2, FillWhy.traffic 1 0 0)].all fun p => decide (2 ≤ p.1)) = true ∧
    (∀ a ∈ [3, 0x300], mbxTakes 0x0202 (fun a => a.n 0 % 4 == 0 || a.n 0 % 4 == 3) 0 (ask 0x0202 [a]) = true) ∧
    mbxTakes 0x0202 (fun a => a.n 0 % 4 == 1) 0 (ask 0x0202 [0x301]) = true ∧
    mbxTakes 0x0202 (fun a => a.n 0 % 4 == 2) 0 (ask 0x0202 [2]) = true ∧
    (∀ x ∈ [[0, 0, 475136], [1, 0, 950272]], let s := ask 0x0203 x
      mbxTakes 0x0203 anyArgs 0 s = true ∧ bufCheck (s.arg 0 1) (s.arg 0 2) 1 s = none ∧
      (if s.arg 0 0 = 0 then 3801088 else 7602176) / 8 = s.arg 0 2) ∧
    (let rd := fun (c : ReadCls) (w : Nat) => (⟨c, 0x173FFFFFFFF, 1, w⟩ : ChanRead)
     let chan := (up.loc 0x173FFFFFFFF).chan
     (∀ r ∈ [rd .lc 0, rd .bulk 0, rd .bulk 3999, rd .bulk 4000, rd .bg 19999, rd .bg 20000], readFits r chan up = true) ∧
     (let first := fun (rs : List ChanRead) (c : ReadCls) => (rs.filter fun r => readFits r chan up).find? fun r => readServed r == c
      first [rd .lc 0] .lc = some (rd .lc 0) ∧ first [rd .lc 0] .bulk = none ∧
      first [rd .bg 20000, rd .bulk 0] .lc = some (rd .bg 20000) ∧ first [rd .bg 20000, rd .bulk 0] .bulk = some (rd .bulk 0) ∧
      first [rd .bulk 4000] .lc = some (rd .bulk 4000) ∧ (rd .bulk 4000).cls ≠ .lc ∧
      first [rd .bulk 3999] .lc = none ∧ first [rd .bulk 3999] .bulk = some (rd .bulk 3999) ∧
      first [rd .bg 19999] .lc = none ∧ first [rd .bg 19999] .bulk = none ∧ first [rd .bg 19999] .bg = some (rd .bg 19999)) ∧
     kvGet 0 chan up.tiers.lcRun < 16 ∧ 16 ≤ kvGet 0 chan ({ up.tiers with lcRun := [(chan, 16)] } : Tiers).lcRun) ∧
    [(⟨0, 0, [⟨[], 0⟩]⟩ : NandPage)].all (fun p => !p.levels.isEmpty) = true ∧
    inDram 4096 = true ∧ 4096 % 2048 + (List.replicate 2048 (0 : Byte)).length ≤ 2048 ∧
    kvGet [] 319 ({ up.tiers with wq := [(319, [(5, 255)])] } : Tiers).wq = [(5, 255)] ∧
    ({ up.store with gens := [gen 7 0] } : Store).gens.any (fun g => g.id == 7) = true ∧
    ({ up.store with due := [262143] } : Store).due.contains 262143 = true ∧ 262143 ∉ up.store.bad ∧ up.store.failed = false ∧
    (let s := { up with store := { up.store with bad := List.range 60 } }
     s.store.reserve 0 = 8 ∧ s.store.badOf 0 ≤ reserveOf 0) := by
  set_option maxRecDepth 20000 in decide +kernel

theorem wit_SramErrors :
    (∀ b ∈ [false, true], ∀ a ∈ [(coreBase 511 + 0x100000 - 64, 0), (coreBase 0, 31)],
      let w := if a.2 = 0 then a.1 / 8 else a.1 / 8 + 7
      let s := { up with rel := { up.rel with sramErrs := [(w, b)] } }
      (devRead a.1 64 s).1 = (if b then some a.1 else none) ∧ (devRead a.1 64 s).2.2.ctr = (sramMeet w b s).ctr) ∧
    (let e := fun (u : SramUnit) => (⟨u, 0, true⟩ : UnitErr)
     let s := fun (u : SramUnit) => { up with rel := { up.rel with unitErrs := [e u] } }
     (s .almanac).pending = [] ∧ (s .almanac).powered = true ∧ (s .almanac).boot.phase ≠ 0 ∧
     (idle (s .almanac)).almanacUp = false ∧ (idle (s .shutter)).sec.dramKeys = 1 ∧
     (idle { s .shutter with sec := { up.sec with mode := .tenantIde } }).sec.scrub.isSome = true ∧
     ((s .tables).rel.unitErrs = [e .tables])) ∧
    (let x : FactorSlot := ⟨1, 0, 0, 0, 0, 0, 0, 1, false, 0, 0, 0, {}, {}, 0, 0, 0, 0, 0⟩
     let s := { up with phot := { up.phot with slots := [(0, x)], todo := [0, 1] } }
     kvFind 0 s.phot.slots = some x ∧ 0 ∈ s.phot.todo ∧ (kvFind 0 (abandonFold 0 s).phot.slots).isSome = true ∧
     (abandonFold 0 s).phot.todo = [1]) ∧
    (let s := tasks [(9, task [7 * 2 ^ 60] .running)]
     (s.mer.tasks.map Prod.fst).count 9 = 1 ∧ (discardTask 9 s).mer.tasks = []) ∧
    (let p : Packet := { typ := .mgmt, dst := 0, src := 0 }
     ({ up with fab := { up.fab with ports := [(0, { rx := [p] })] } } : State).port 0 = { rx := [p] }) := by
  set_option maxRecDepth 20000 in decide +kernel

/-- A replica repair of page 0. -/
def repair : Repair :=
  { page := 0, entry := 0, ent := ⟨0, true, 0, 0, 1, 3 * 2 ^ 52 + 0x30000000000, 0, 7⟩, since := 0, running := true }

theorem wit_ErrorsAndRepairs :
    (∀ n ∈ [0, 3599, 3600, 2592000, 2592001], mbxTakes 0x0701 anyArgs 0 (ask 0x0701 [3 * 2 ^ 32 + n]) = true) ∧
    (∀ x ∈ [[4 * 512, 1], [256 + 64, 0], [3 * 512 + 256 + 63, 5]], mbxTakes 0x0702 anyArgs 0 (ask 0x0702 x) = true) ∧
    (let s := ask 0x0703 [0, 0, 64]
     mbxTakes 0x0703 anyArgs 0 s = true ∧ bufCheck 0 64 1 s = none ∧ s.rel.log = []) ∧
    (∀ x ∈ [[0, 4097], [32, 1], [0, 1], [0, 0]], mbxTakes 0x0704 anyArgs 0 (ask 0x0704 x) = true) ∧
    (let s := ask 0x0704 [0, 1]
     let u := { s with mem := s.mem.write 0 (wordBytes [0x100000, 2 ^ 32, 0x30000000000, 0, 0, 0, 0, 0]) }
     bufCheck 0 64 1 s = none ∧ regionOf 0 = some .gddr7 ∧ (devRead 0 64 s).1 = none ∧
     repairEntry (bytesWords (devRead 0 64 s).2.1) = none ∧ (repairEntry (bytesWords (devRead 0 64 u).2.1)).isSome = true ∧
     (devRead 0 64 u).1 = none ∧ repairOrdered ((repairEntry (bytesWords (devRead 0 64 u).2.1)).toList) = true ∧
     (devRead 0 64 { s with rel := { s.rel with frames := [((s.loc 0).frameKey, { poison := 1 })] } }).1.isSome = true) ∧
    (let l := up.loc 0
     let e := [(0, 1), (1, 1), (2, 1)]
     let s := { up with rel := { up.rel with errs := [(l.sectorKey, e)] } }
     let due := fun (s : State) => !s.lostTags l == [] || (List.range 8).any fun i =>
       !bit (s.frame l.frameKey).poison (8 * l.page + i) && !lightServes (kvGet [] (l.sectorKey + i) s.rel.errs)
     s.loc 0 = l ∧ s.rel.failed.contains l.chan = false ∧ due up = false ∧ due s = true ∧
     due { up with rel := { up.rel with metaBad := [(l.frameKey, [0, 2])] } } = true) ∧
    kvFind (256 + 149) up.rel.spared = none ∧ kvFind (256 + 149) [(256 + 149, 3)] = some 3 ∧ up.rel.bridgeFailed = false ∧
    (let p := kvGet ({} : SurveyPos) 319 up.rel.survey
     up.rel.scrubL ≠ 0 ∧ 319 ∉ up.rel.failed ∧ up.boot.ready = true ∧ kvHas 1 up.tiers.fills = false ∧ p.page < 28 ∧
     319 / 256 = 1) ∧
    (let r := { repair with running := false }
     let s := { up with rel := { up.rel with repairs := [r] } }
     s.rel.repairs.find? (fun r => !r.running) = some r ∧ s.rel.repairs.countP (fun r => r.running) < 16 ∧
     s.inCompute = false ∧ s.rel.failed.contains (s.loc 0).chan = false ∧
     (s.fab.fenced.isSome && s.otherSite (gaModule r.ent.peer)) = false) ∧
    (let s := { up with rel := { up.rel with repairs := [repair] }, time := { up.time with tclk := 100000 } }
     s.rel.repairs.find? (fun r => r.page == 0) = some repair ∧ repair.sentAt + 100000 ≤ s.cyc ∧ repair.running = true ∧
     repair.superseded = false ∧ s.storePage repair.ent.gen 0 = none ∧
     ∀ st ∈ [3, 4, 5, 6, 7], ({ repair with stage := st } : Repair).stage = st ∧ ({ repair with superseded := true } : Repair).superseded = true) := by
  set_option maxRecDepth 20000 in decide +kernel

/-- The bytes a repair takes from the store. -/
theorem wit_storePage : (({ up with store := { up.store with gens := [{ gen 7 0 with
    regions := [(0, 1)], grans := [{ addr := 0 }] }] } } : State).storePage 7 0).isSome = true := by
  set_option maxRecDepth 20000 in decide +kernel

/-- Semaphore 1 has triggered. -/
def fired (s : State := queued) : State := { s with sems := [(1, { count := 1 })] }

/-- A stash entry of one granule at slot 0 whose semaphores are 1 s_bind, 2 s_fwd_done, 3 s_bwd_need, 4 s_free and
5 s_rc_done; those of `on` have triggered. -/
def stashed (on : List Nat) (f : StashEntry → StashEntry := id) : State :=
  { queued with
    sems := on.map fun i => (i, { count := 1 })
    stash := { queued.stash with entries := [(0, f { count := 0, words :=
      [0, 2 ^ 50 + 2 * 2 ^ 36 + 3 * 2 ^ 22 + 4 * 2 ^ 8, 5 * 2 ^ 50 + 2 ^ 34, 1, 1, 1, 0, 0] })] } }

/-- The entry of slot 0 once the triggers of `before` have been acted on. -/
def stashSeen (before : List StashTrig) (s : State) : Option (StashEntry × State) :=
  (s.stashAt 0).bind fun p => let u := actTrigs p.1 [.bind] [] (actTrigs p.1 before (s.stash.entries.map Prod.fst) s)
    (kvFind 0 u.stash.entries).map fun e => (e, u)

theorem wit_StashManager :
    (∀ x ∈ [[0, 3, 0, 0, 0x10000000000, 0], [0x10000, 14 + 255 * 2 ^ 24, 0x20000, 0x10000, 0x10000000000, 0x10000]],
      mbxTakes 0x0204 anyArgs 0 (ask 0x0204 x) = true) ∧
    (14 : Nat) = bits (14 + 255 * 2 ^ 24) 3 0 ∧ 0x10000 + 64 * 2 ^ 14 ≤ Region.gddr7.hi ∧ Region.lpddr.lo ≤ 0x10000000000 ∧
    (∀ p ∈ [0, 2], (stashSeen [.free, .need, .fwdDone] (stashed [1] fun e => { e with words := e.words.set 0 (p * 2 ^ 62) })).any
      (fun x => !x.1.bindTrig && x.2.triggered x.1.sBind && x.1.policy == p && !x.2.stash.rcFlags.contains x.1.inst) = true) ∧
    (stashSeen [.free, .need, .fwdDone] { stashed [1] fun e => { e with words := e.words.set 0 (2 ^ 60) } with
      stash := { (stashed [1] fun e => { e with words := e.words.set 0 (2 ^ 60) }).stash with rcFlags := [0] } }).any
      (fun x => x.2.stash.rcFlags.contains x.1.inst && x.1.rcOk) = true ∧
    (∀ p ∈ [0, 1], (stashSeen [.free, .need] (stashed [2] fun e => { e with words := e.words.set 0 (p * 2 ^ 62), fwdRel := some 0 })).any
      (fun x => x.1.fwdRel == some 0 && !x.1.fwdDone && x.2.triggered x.1.sFwdDone && x.1.policy == p && !x.1.bwdTrig &&
        !x.2.triggered x.1.sBwdNeed) = true) ∧
    (∀ x ∈ [(Place.none, none), (.rc 0, none), (.off 0, none), (.pool 0, none),
        (.pool 0, some { out := true, src := 0, dst := 0x10000000000 })],
      (stashSeen [.free] (stashed [3] fun e => { e with fwdReq := true, place := x.1, copy := x.2 })).any
        (fun y => !y.1.bwdTrig && y.1.fwdReq && y.2.triggered y.1.sBwdNeed && y.1.place == x.1 && y.1.copy == x.2) = true) ∧
    (let s := stashed [5] fun e => { e with recompute := true, rcReq := true, bwdTrig := true }
     (s.stashAt 0).any (fun p => p.2.recompute && p.2.rcReq && p.2.bwdTrig && !p.2.bwdReq && s.triggered p.2.sRcDone) = true) ∧
    (∀ c ∈ [none, some { out := true, src := 0, dst := 0x10000000000 }],
      (stashSeen [] (stashed [4] fun e => { e with copy := c })).any
        (fun y => y.2.triggered y.1.sFree && y.1.copy == c) = true) ∧
    (∀ out ∈ [true, false], let s := stashed [] fun e => { e with copy := some { out := out, src := 0, dst := 0x10000000000, run := some 0 } }
      (s.stashAt 0).any (fun p => p.2.copy.any fun x => x.run == some 0 && x.out == out &&
        (s.heldPage x.src (65536 * p.2.size)).isNone) = true) := by
  set_option maxRecDepth 20000 in decide +kernel

/-- A guard at slot 0 whose trigger is semaphore 1, with a record that is not malformed. -/
def guarded (cur : Option Nat) (amax : Nat := 0) (w : Nat := 2 ^ 30) : State := let s := fired
  { s with
    num := { s.num with guards := [(0, { count := 0, words := [0, 2 ^ 50, 0, 0, 1, 0, 0, 0], cur := cur, amax := amax,
                                          counted := 1 })] }
    mem := s.mem.write 0 (wordBytes [w, 0, 0, 0, 0, 0, 0, 0]) }

theorem wit_NumericsControl :
    (∀ x ∈ [[0, 0, 0, 4], [64, 65536, 0x1000000, 12]], mbxTakes 0x0301 anyArgs 0 (ask 0x0301 x) = true) ∧
    mbxTakes 0x0302 anyArgs 0 (ask 0x0302 [2 ^ 64 - 1]) = true ∧
    (∀ x ∈ [[0, 0, 0], [16383, 2, 0], [16383, 1, 0]], mbxTakes 0x0303 anyArgs 0 (ask 0x0303 x) = true) ∧
    bufCheck 0 32 1 up = none ∧ (up.watchEntry 16383).bytes.length = 32 ∧
    (∀ x ∈ [[2 ^ 16 + 16383, 0xBF800000, 0], [2 ^ 16 + 16383, 0x3D800000, 0]], mbxTakes 0x0304 anyArgs 0 (ask 0x0304 x) = true) ∧
    bandBad 0xBF800000 = true ∧ bandBad 0x3D800000 = false ∧ fgt 0x3D800000 0x3D800000 = false ∧
    (∀ cur ∈ [none, some 0, some 1], let s := guarded cur 0x3F800000
      s.inCompute = false ∧ s.powered = true ∧ (s.num.ctx.any fun c => (kvFind 0 s.num.guards).any fun g =>
        g.cur == cur && s.triggered g.sTrig && decide (g.n (cur.getD 0) ≤ g.counted) && !recRefused (readRec c g.recNo s).1 &&
        (readRec c g.recNo s).1.any (fun r => !r.malformed) && fpos g.amax && !fisInf g.amax) = true) ∧
    (∀ a ∈ [0, 0x7F800000], fpos a = false ∨ fisInf a = true) ∧
    ((guarded (some 0) 0 0).num.ctx.any fun c => recRefused (readRec c 0 (guarded (some 0) 0 0)).1) = true := by
  set_option maxRecDepth 20000 in decide +kernel

/-- Factor slot 3 of one block, its epoch bit closed. -/
def slotted (f : FactorSlot → FactorSlot := id) : State := { queued with
  phot := { queued.phot with
    slots := [(3, f { nb := 1, es := 0, acc := 0x100000, buf0 := 0x110000, buf1 := 0x120000, beta := 0, fcore := 0, gen := 1,
                      cur := false, nLast := 0, folds := 0, skips := 0 })]
    todo := [3] } }

/-- A Spectrograph job of cluster 0 for task 9. -/
def job (st : SpStage) (f : SpJob → SpJob := id) : SpJob :=
  f { task := 9, cluster := 0, stage := st, rec_ := [3 * 2 ^ 40, 2 ^ 20], entry := 0 }
def solving (j : SpJob) (s : State := slotted) : State := let u := tasks [(9, task [5 * 2 ^ 60, 0, 0, 0, 100] .running)] s
  { u with spec := { u.spec with
      jobs := [(9, j)]
      tables := [(0, { entries := 0x200000, count := 1, gen := 1, halt := false, haltStream := 0, staleLimit := 0
                       ageLimit := 0, done := [], staleRun := 0, staleTotal := 0, commits := 0 })] } }

theorem wit_Photometer :
    (∀ x ∈ [[0, 0, 0, 0, 0], [0, 65537, 0, 0, 0], [0, 1, 0, 1, 0], [0, 1, 0, 0, 0]],
      mbxTakes 0x0401 anyArgs 0 (ask 0x0401 x) = true) ∧
    (let s := ask 0x0401 [0, 1, 0, 0, 0]
     let bad := fun (s : State) =>
       let valid := ((List.range 1).zip (records 8 1 (bytesWords (bufBytes 0 64 s)))).filter fun r => bit (r.2.getD 0 0) 30
       let all := (valid.flatMap fun r => (slotRegions r.2).map fun g => (r.1, g)) ++ [(1, (0, 64, 0))]
       valid.findSome? fun r => (slotBad all r.1 r.2).map fun b => (r.1, b)
     regionOf (s.arg 0 0) = some .gddr7 ∧ bufReadable 0 64 64 s = true ∧ bad s = none ∧
     (bad { s with mem := s.mem.write 0 (wordBytes [2 ^ 30]) }).isSome = true) ∧
    (let s := { up with phot := { up.phot with swaps := [⟨0, 5, true⟩] } }
     s.phot.swaps = ⟨0, 5, true⟩ :: [] ∧ s.inCompute = false ∧ s.phot.todo = []) ∧
    (∀ h ∈ [0, 65535], let s := slotted fun x => { x with hold1 := h }
     (kvFind 3 s.phot.slots).any (fun x => (x.holds (!x.cur) == 0) == (h == 0) && s.foldCore x.fcore == some 0 &&
       (s.phot.todo.all fun j => decide (3 ≤ j) || ((kvFind j s.phot.slots).all fun y => s.foldCore y.fcore != s.foldCore x.fcore)) &&
       !s.phot.started.any (fun q => some q.2 == s.foldCore x.fcore)) = true ∧
     3 ∈ s.phot.todo ∧ kvHas 3 s.phot.started = false ∧ s.inCompute = false ∧
     s.mer.tasks.any (fun t => t.2.desc.type == 1 && t.2.epoch == !s.phot.epoch && t.2.phase != .head) = false ∧
     kvFind 3 s.phot.waits = none) ∧
    (∀ h ∈ [({ nan := true } : PhotoHalf), {}, { tokens := 1 }],
      let s := slotted fun x => { x with half1 := h }
      let u := { s with phot := { s.phot with started := [(3, 0)] } }
      kvFind 3 u.phot.started = some 0 ∧ u.inCompute = false ∧
      (kvFind 3 u.phot.slots).any (fun x => let y := x.half (!u.phot.epoch)
        y == h && y.tainted == h.nan && (y.tokens == 0) == (h.tokens == 0)) = true) ∧
    (∀ f ∈ [id, fun (x : FactorSlot) => { x with gen := 0 }, fun x => { x with hold0 := 65535 }],
      ∀ h ∈ [none, some (3, false)],
      let s := solving (job .hold fun j => { j with held := h }) (slotted f)
      (s.jobIn 0 [.hold]).any (fun j => (s.task j.task).any (fun k => decide (s.now ≤ k.desc.sdeadline) &&
        (kvFind k.desc.stable s.spec.tables).isSome) && j.f 0 55 40 == 3 && j.held == h) = true ∧
      (kvFind 3 s.phot.slots).any (fun x => x == f x && (x.gen == 0 || decide (65535 ≤ x.holds x.cur) || decide (x.holds x.cur < 65535))) =
        true) ∧
    (let s := solving (job .hold) { slotted with time := { up.time with c := 101 * 2 ^ 32 } }
     (s.jobIn 0 [.hold]).any (fun j => (s.task j.task).any fun k => decide (k.desc.sdeadline < s.now)) = true) ∧
    kvFind 3 up.phot.slots = none ∧
    (let s := solving (job .ready fun j => { j with held := some (3, false) })
     (s.spec.jobs.find? fun p => p.2.cluster == 0 && p.2.held.isSome && p.2.stage != .passes).isSome = true) := by
  set_option maxRecDepth 20000 in decide +kernel

theorem wit_Spectrograph :
    (∀ x ∈ [[0, 0, 0], [0, 0, 4096 * 2 ^ 16 + 64 + 63], [0, 0, 4096 * 2 ^ 16 + 64 + 32]],
      mbxTakes 0x0402 anyArgs 0 (ask 0x0402 x) = true) ∧
    (∀ c ∈ List.range 32, kvGet 2048 c up.strm.mcastKib + 4096 ≤ 8192) ∧
    (let u := chargeAll (tasks [(9, task [5 * 2 ^ 60] .admitted)])
     (match u.unitPick 0 32 [5] 64 with | some (.task t _) => t == 9 | _ => false) = true ∧ u.clusterUp 0 = true ∧ u.jobIn 0 [.hold, .passes, .ready] = none ∧
     u.mer.tasks.any (fun p => p.2.desc.type == 5 && p.2.loc == 0 && p.2.phase == .running && p.2.heldBy.isSome) = false) ∧
    (∀ k ∈ [0, 2, 3], let s := solving (job .passes fun j => { j with rec_ := [k * 2 ^ 60, 2 ^ 20] })
      (s.jobIn 0 [.passes]).any (fun j => (s.task j.task).any (fun k => decide (s.now ≤ k.desc.sdeadline)) && j.kindSrc == k) = true ∧
      (let late := { s with time := { s.time with c := 101 * 2 ^ 32 } }
       (late.jobIn 0 [.passes]).any (fun j => (late.task j.task).any fun k => decide (k.desc.sdeadline < late.now)) = true)) ∧
    (∀ st ∈ [SpStage.array, .ready], let s := solving (job st)
      (s.jobIn 0 [st]).any (fun j => (s.task j.task).any fun k => decide (s.now ≤ k.desc.sdeadline)) = true ∧
      (st = .ready → s.jobIn 0 [.array] = none ∧ s.jobIn 0 [.applying, .draining, .out] = none)) ∧
    (let s := solving (job .array) { slotted with time := { up.time with c := 101 * 2 ^ 32 } }
     (s.task 9).any (fun k => decide (k.desc.sdeadline < s.now)) = true) ∧
    (∀ st ∈ [SpStage.applying, .draining], let s := solving (job st fun j => { j with work := .oper [0, 0, 0, 0] [] })
      (s.jobIn 0 [.applying, .draining]).any (fun j => j.stage == st && j.work == .oper [0, 0, 0, 0] [] &&
        decide (j.apps ≤ (s.sem 0).count.toNat) && j.waitFrom == none) = true) ∧
    (let s := solving (job .out fun j => { j with outcome := 2 })
     (s.jobIn 0 [.out]).any (fun j => (s.task j.task).any fun k => (kvFind k.desc.stable s.spec.tables).any fun t =>
       !t.pinned) = true ∧
     ((kvFind 0 s.spec.tables).any fun t => ({ t with holds := [(7, 1)] } : PTable).pinned) = true) ∧
    (let e : OpenRec := { die := 1, record := 0, table := 0, age := 1 }
     let s := solving (job .ready)
     let u := { s with ephem := { s.ephem with openRecs := [e], accepted := [(4, 0)] }, mer := { s.mer with
       tasks := [(4, { task [6 * 2 ^ 60] .running with loc := 1 })] } }
     u.ephem.openRecs.find? (fun e => e.die == 1 && e.hold.isNone) = some e ∧ (tableHold 0 u).1 = some (some 1) ∧
     (((tableHold 0 u).2.acceptedOn 1).find? fun p => p.2.phase == .running && p.2.desc.ostate == 0).isSome = true ∧
     (let t := { s with spec := { s.spec with tables := s.spec.tables.map fun p => (p.1, { p.2 with holds := [(1, 65535)] }) } }
      (tableHold 0 t).1 = none)) ∧
    ({ up.ephem with releases := [(0, 1)] } : Ephem).releases = (0, 1) :: [] := by
  set_option maxRecDepth 20000 in decide +kernel

theorem wit_EphemerisAndSteps :
    (∀ x ∈ [[0, 0], [0, 4097], [0, 1], [0, 4096]], mbxTakes 0x0403 anyArgs 0 (ask 0x0403 x) = true) ∧
    bufReadable 0 (64 * 4096) 64 (ask 0x0403 [0, 4096]) = true ∧ (hyperBad [0, 0, 0, 0, 0, 0, 0, 0]).isSome = true ∧
    hyperBad [0, 0x3F800000 * 2 ^ 32, 0x3F800000 * 2 ^ 32, 0, 0, 0, 0, 0] = none ∧
    (∀ p ∈ [Phase.admitted, .running],
      let s := { tasks [(4, { task [6 * 2 ^ 60, 2 ^ 15] p with
        loc := 1, heldBy := if p = .running then some 0 else none })] with ephem := { up.ephem with accepted := [(4, 0)] } }
      let u := acceptMore 64 1 (chargeAll { s with ephem := { s.ephem with
        accepted := s.ephem.accepted.filter fun p => kvHas p.1 s.mer.tasks } })
      let mine := u.acceptedOn 1
      let held := mine.find? fun p => p.2.phase == .running &&
        (match p.2.heldBy with | some g => (u.heldPage g 1).isNone | none => false)
      let ready := mine.filter fun p => p.2.phase == .admitted &&
        (mine.find? fun q => q.2.desc.ostate == p.2.desc.ostate).map Prod.fst == some p.1
      u.inCompute = false ∧ held.isSome = (p == .running) ∧ mine.countP (fun p => p.2.phase != .admitted) < 8 ∧
      ready.filter (fun p => u.noEntry 1 p.2.desc) = [] ∧ ready.length = (if p = .running then 0 else 1) ∧
      ready.all (fun p => p.2.waitWhy != 4) = true) ∧
    (let k : Task := task [0xC * 2 ^ 60, 0, 0, 1] .running
     let s := tasks [(9, k)]
     s.task 9 = some k ∧ k.desc.type = 0xC ∧ k.desc.b 3 0 = true ∧ k.phase = .running ∧
     s.mer.tasks.any (fun p => p.2.desc.type == 6 && decide (p.2.age ≠ 0) && decide (p.2.age < k.age)) = false ∧
     s.ephem.openRecs.any (fun e => decide (e.age ≠ 0) && decide (e.age < k.age)) = false) := by
  set_option maxRecDepth 20000 in decide +kernel

theorem wit_GeneratorAlgorithm : ((0, 0) : W64 × W64) ≠ (0, 1) ∧ mbxTakes 0x0302 anyArgs 0 (ask 0x0302 [0]) = true := by decide

theorem wit_PowerLimitRule : ∀ x ∈ [[1200, 900], [2600, 2050], [1199, 900], [2601, 900], [1200, 875], [1200, 2075], [1200, 901]],
    mbxTakes 0x0A06 anyArgs 0 (ask 0x0A06 x) = true := by decide

theorem wit_ScrubRateRule :
    (let s := ask 0x0701 [2 ^ 33 + 3600]
     mbxTakes 0x0701 anyArgs 0 s = true ∧ bits (s.arg 0 0) 31 0 = 3600) ∧
    ({ up.rel with scrubG := 0, scrubL := 0 } : Rel).scrubG = 0 ∧
    (let s := { up with rel := { up.rel with
       survey := [(319, ⟨framesOf 1 - 1, 28, 0⟩)], failed := (List.range 63).map (256 + ·) } }
     let p := kvGet ({} : SurveyPos) 319 s.rel.survey
     s.rel.scrubL ≠ 0 ∧ 319 ∉ s.rel.failed ∧ s.boot.ready = true ∧ kvHas 1 s.tiers.fills = false ∧ 28 ≤ p.page ∧
     framesOf 1 ≤ p.frame + 1) := by
  set_option maxRecDepth 20000 in decide +kernel

theorem wit_ResetModuleRule :
    mbxTakes 0x0901 (fun a => a.n 0 % 4 == 0) 0 (ask 0x0901 [2 ^ 20]) = true ∧
    mbxTakes 0x0901 (fun a => a.n 0 % 4 == 0) 0 (ask 0x0901 [0]) = true ∧
    mbxTakes 0x0901 (fun a => a.n 0 % 2 == 1) 0 (ask 0x0901 [3]) = true ∧
    mbxTakes 0x0901 (fun a => a.n 0 % 4 == 2) 0 (ask 0x0901 [256 + 2]) = true ∧
    (∀ scope ∈ [1, 2], let s := setMbx 0 (fun x => { x with started := true }) (ask 0x0901 [scope])
      let u := { s with boot := { s.boot with reset := some ⟨scope, 31, some 0, 0, 0, 0, false⟩ } }
      u.boot.reset.any (fun r => r.scope == scope && r.mbx == some 0 && !r.waiting) = true ∧ mbxRuns 0x0901 0 u = true ∧
      u.tiers.fills = []) := by decide

/-- The worked example of R172: an address of tier 0 in the sliced area with b_g = 232 GiB. -/
theorem wit_DramInterleave : let l := dramDecode 232 0 0x40320000
    232 % 8 = 0 ∧ 464 % 16 = 0 ∧ 0x40320000 < 232 * 2 ^ 30 ∧ 0x40320000 < 232 * 2 ^ 30 ∧
    l = ⟨0, 0x4E, 0x00403000⟩ ∧ l.frame = 70 ∧ l.sector = 192 ∧ l.page = 24 ∧ l.raw = 0x0046C000 ∧
    dramEncode 232 0 l = 0x40320000 := by decide +kernel

/-! Worked examples of the spec. -/

/-- Table 2-3. -/
theorem test_encodings : ∀ r ∈ [
    (0x3F800000, 0x3F80, 0x38, 0x3C), (0xC0200000, 0xC020, 0xC2, 0xC1), (0x3DCCCCCD, 0x3DCD, 0x1D, 0x2E),
    (0x43960000, 0x4396, 0x79, 0x5D), (0x447A0000, 0x447A, 0x7E, 0x64), (0x3A800000, 0x3A80, 0x00, 0x14)],
    (fconv ffp32 fbf16 .rne true r.1).1 = r.2.1 ∧ (fconv ffp32 fe4m3 .rne true r.1).1 = r.2.2.1 ∧
    (fconv ffp32 fe5m2 .rne true r.1).1 = r.2.2.2 := by decide +kernel

theorem test_encoding_flags : (fconv ffp32 fe4m3 .rne true 0x447A0000).2.sat = true ∧
    (fconv ffp32 fe4m3 .rne true 0x3A800000).2.flush = true ∧ (fconv ffp32 fe4m3 .rne true 0x43960000).2 = {} := by
  decide +kernel

/-- Table 2-6. -/
theorem test_fixed_point : f32ToQ 0 0x3DCCCCCD = (0x0CCCCCD0, {}) ∧ (f32ToQ 0 0x3F800000).1 = 0x7FFFFFFF ∧
    (f32ToQ 0 0x3F800000).2.sat = true ∧ (f32ToQ 1 0x3F800000).1 = 0x40000000 ∧ (f32ToQ 0 0xBF800000).1 = -2 ^ 31 ∧
    (q48Mac 0 0x40000000 0x40000000).1 = 0x0000400000000000 := by decide +kernel

/-- The split-master table of chapter 02. -/
theorem test_split : ∀ r ∈ [(0x3F800000, 0x3F80, (0 : Int)), (0x3F808000, 0x3F81, -32768), (0x3F7FC000, 0x3F80, -16384),
    (0xC0490FDB, 0xC049, -4059), (0xBF808000, 0xBF80, -32768)],
    (splitPair r.1).1 = r.2.1 ∧ (splitPair r.1).2.1 = r.2.2 ∧ joinPair r.2.1 r.2.2 = some r.1 := by decide +kernel

/-- The M1 and M2 examples of chapter 02. -/
theorem test_moment_codes :
    (m1Encode (fun _ => .rne) [0xBF000000, 0x3E800000, 0x3DCCCCCD, 0x3A83126F]).1 = [-127, 64, 25, 0] ∧
    (m2Encode (fun _ => .rne) [0x39800000, 0x38800000, 0x35800000, 0]).1 = [255, 128, 16, 0] := by decide +kernel

/-- Table 9-7. -/
theorem test_generator : rng 0x2A 1 0x030002A350000000 = (0xB64ED8E8A6FD5E22, 0xEE1B25DF28146404) ∧
    (List.range 8).map (rngBits 0x2A 1 3 0x2A35) = [0x6404, 0x2814, 0x25DF, 0xEE1B, 0x5E22, 0xA6FD, 0xD8E8, 0xB64E] := by
  decide +kernel

/-- The stochastic roundings below Table 9-7. -/
theorem test_stochastic : (fconv ffp32 fbf16 (.sr 0x25DF) true 0x3F808000).1 = 0x3F80 ∧
    (fconv ffp32 fbf16 (.sr 0xEE1B) true 0x3F808000).1 = 0x3F81 ∧ (fconv ffp32 fe4m3 (.sr 0x5E22) true 0x43960000).1 = 0x79 ∧
    (fconv ffp32 fe4m3 (.sr 0xA6FD) true 0x43960000).1 = 0x7A := by decide +kernel

/-- The descriptor example of chapter 04: it passes its checks, and its stall-free length is 16,425. -/
theorem test_descriptor : let d : Desc := [0x0B01900650002A35, 0x0000000101029A00, 0x0C00000040320000, 0x8800000020520000,
      0x040000006030A000, 0x3E00000004001000, 0x0202480426020000, 0x8002000000000000]
    checkDesc up 308 0 [] 0 d = none ∧ d.length = 16425 ∧ d.home = 308 ∧ d.pOff = 256 * 1024 ∧ d.kValid = 4096 ∧
    d.sliceOff 3 0 = 64 * 1024 ∧ d.outOff = 128 * 1024 ∧ d.outBytes = 32 * 1024 := by decide +kernel

/-- The deficits of the example of chapter 05, period 1: classes 0, 1 and 2. -/
theorem test_deficits : deficitStep 2048000 8 4 1024000 true 0 = 0 ∧ deficitStep 2048000 8 2 1024000 true 0 = -512000 ∧
    deficitStep 2048000 8 2 0 true 0 = 512000 := by decide

/-- The packed index of chapter 10's example. -/
theorem test_packed_index : packedIndex 128 5 9 = 634 ∧ packedCount 128 = 8256 := by decide

/-- The bounds of chapter 11's example: K is 24 with σ = 4 for INV_4RT, 22 with σ = 2 for INV. -/
theorem test_bound : (match boundOf 4 0x35C49BA6 0x40600000, boundOf 2 0x35C49BA6 0x40600000 with
    | .ok a, .ok b => a.2 == (4, 24) && b.2 == (2, 22)
    | _, _ => false) = true := by decide +kernel

/-- The ADAMW example of chapter 12. -/
theorem test_adamw :
    let k := optK [0x3F600000_3F780000, 0x35800000_3D800000, 0, 0] 4 0x3A800000 f1 0
    let g := elK 0x3F000000
    let m := optM k g (elK 0)
    let v := optV k g (elK 0)
    m.1 = 0x3D800000 ∧ v.1 = 0x3C000000 ∧ (optD k g (elK 0) m v).1 = 0x3F7FFFE0 ∧
    (optMaster k (optD k g (elK 0) m v) (elK 0x3F800000)).1 = 0x3F7FBC00 := by decide +kernel

/-- The example of chapter 16: after CREATE_QUEUE with seq 7, MBX_STATE of mailbox 2 reads 0x0000_0007_0007_0002. -/
theorem test_mailbox_state : let s := setMbx 2 (fun x => { x with cmd := 0x70101, accOp := 0x0101, st := .busy, runSeq := 7
                                                                  doneSeq := 6, started := true }) up
    (mbxComplete 2 St.ok [] s).page0 0x0250 = 0x0000000700070002 := by decide +kernel

/-- The histogram edges of chapter 20's example. -/
theorem test_bins : binOf defaultEdges 300 = 25 ∧ binOf defaultEdges 255 = 24 ∧ binOf defaultEdges 320 = 26 := by decide

/-- The addresses of chapter 01's example. -/
theorem test_addresses : coreBase 308 = 0x0200_1340_0000 ∧ clusterOf 0x02002980_0000 = 19 ∧ clusterOf 0x020029FF_FFFF = 19 ∧
    clusterOf 0x02002A00_0000 = 20 ∧ gaModule 0x2650000000041000 = 613 ∧ gaAddr 0x2650000000041000 = 0x41000 := by decide

end Sys2Proof.Tests
end

section
/-!
PROOF. The DRAM interleave (07, R169–R172). In a region of the window that is spread over 2^w channels, the channel of a
granule is its number xored with the fold of its row, and that xor is its own inverse: each row of 2^w granules is
permuted over the channels. A tier's window is a module region over all its channels followed by two die-local halves,
each over half of them.
-/

namespace Sys2Proof.Machine

/-! The fold and the permutation of one row of granules. -/

/-- The fold of R172's loop is that of `foldBits`, from any start value. -/
theorem foldl_range_eq_foldBits (w n : Nat) : ∀ x acc : Nat,
    (List.range n).foldl (fun f i => f ^^^ (x / 2 ^ (w * (i + 1)) % 2 ^ w)) acc = acc ^^^ foldBits w n (x / 2 ^ w) := by
  induction n with
  | zero => simp [foldBits]
  | succ n ih =>
    intro x acc
    have shift (i : Nat) : x / 2 ^ (w * (i + 1 + 1)) = x / 2 ^ w / 2 ^ (w * (i + 1)) := by
      rw [Nat.div_div_eq_div_mul, ← pow_add]
      congr 2
      ring
    rw [List.range_succ_eq_map, List.foldl_cons, List.foldl_map]
    simp only [shift, ih, foldBits, zero_add, mul_one, Nat.xor_assoc]

/-- The channel that the granule with low bits `c` of row `y` reaches, among 2^w channels. -/
def lane (w y c : Nat) : Nat := (c ^^^ foldBits w 8 y) % 2 ^ w

theorem lane_lt (w y c : Nat) : lane w y c < 2 ^ w := Nat.mod_lt _ (Nat.two_pow_pos w)

/-- The xor with the row's fold is its own inverse. -/
theorem lane_lane (w y c : Nat) : lane w y (lane w y c) = c % 2 ^ w := by
  simp only [lane, Nat.xor_mod_two_pow, Nat.mod_mod, Nat.xor_assoc, Nat.xor_self, Nat.xor_zero]

theorem lane_mod (w y c : Nat) : lane w y (c % 2 ^ w) = lane w y c := by
  simp only [lane, Nat.xor_mod_two_pow, Nat.mod_mod]

/-! One region: byte position `p` of a region spread over 2^w channels. -/

/-- The channel of byte `p`, counted from the region's first channel. -/
def regionChan (w p : Nat) : Nat := lane w (p / 2 ^ 11 / 2 ^ w) (p / 2 ^ 11)

/-- The channel offset of byte `p`, counted from the region's lowest offset. -/
def regionOff (w p : Nat) : Nat := p / 2 ^ 11 / 2 ^ w * 2 ^ 11 + p % 2 ^ 11

/-- The byte of a region at offset `q` of channel `c`. -/
def regionByte (w c q : Nat) : Nat := (q / 2 ^ 11 * 2 ^ w + lane w (q / 2 ^ 11) c) * 2 ^ 11 + q % 2 ^ 11

theorem regionChan_lt (w p : Nat) : regionChan w p < 2 ^ w := lane_lt _ _ _

theorem regionOff_lt {w rows p : Nat} (h : p < rows * 2 ^ w * 2 ^ 11) : regionOff w p < rows * 2 ^ 11 := by
  have granule : p / 2 ^ 11 < rows * 2 ^ w := Nat.div_lt_of_lt_mul (by omega)
  have row : p / 2 ^ 11 / 2 ^ w < rows := Nat.div_lt_of_lt_mul (by rwa [mul_comm])
  unfold regionOff
  omega

theorem regionByte_lt {w rows q : Nat} (c : Nat) (h : q < rows * 2 ^ 11) :
    regionByte w c q < rows * 2 ^ w * 2 ^ 11 := by
  have granule : (q / 2 ^ 11 + 1) * 2 ^ w ≤ rows * 2 ^ w := Nat.mul_le_mul_right _ (by omega)
  have := lane_lt w (q / 2 ^ 11) c
  unfold regionByte
  rw [add_mul, one_mul] at granule
  omega

theorem regionByte_granule (w c q : Nat) :
    regionByte w c q / 2 ^ 11 = 2 ^ w * (q / 2 ^ 11) + lane w (q / 2 ^ 11) c := by
  unfold regionByte
  rw [mul_comm (2 ^ w)]
  omega

theorem regionByte_row (w c q : Nat) : regionByte w c q / 2 ^ 11 / 2 ^ w = q / 2 ^ 11 := by
  rw [regionByte_granule, Nat.mul_add_div (Nat.two_pow_pos w), Nat.div_eq_of_lt (lane_lt _ _ _), add_zero]

theorem regionByte_low (w c q : Nat) : regionByte w c q % 2 ^ 11 = q % 2 ^ 11 := by
  unfold regionByte
  omega

theorem regionChan_regionByte {w c : Nat} (q : Nat) (h : c < 2 ^ w) : regionChan w (regionByte w c q) = c := by
  rw [regionChan, regionByte_row, ← lane_mod, regionByte_granule, Nat.mul_add_mod, lane_mod, lane_lane,
    Nat.mod_eq_of_lt h]

theorem regionOff_regionByte (w c q : Nat) : regionOff w (regionByte w c q) = q := by
  rw [regionOff, regionByte_row, regionByte_low]
  omega

theorem regionByte_regionChan (w p : Nat) : regionByte w (regionChan w p) (regionOff w p) = p := by
  have row : regionOff w p / 2 ^ 11 = p / 2 ^ 11 / 2 ^ w := by unfold regionOff; omega
  have low : regionOff w p % 2 ^ 11 = p % 2 ^ 11 := by unfold regionOff; omega
  have granule : p / 2 ^ 11 / 2 ^ w * 2 ^ w + p / 2 ^ 11 % 2 ^ w = p / 2 ^ 11 := by
    rw [mul_comm]; exact Nat.div_add_mod _ _
  rw [regionByte, row, low, regionChan, lane_lane, granule]
  omega

/-! One tier: a module region and two die-local halves (R171). -/

/-- The interleave of a tier with 2^w channels on each die, `modRows` rows of granules in the module region and
`dieRows` in each die-local half. -/
structure Interleave where
  w : Nat
  modRows : Nat
  dieRows : Nat

namespace Interleave

variable (T : Interleave)

/-- The boundary: the bytes of the module region. -/
def bnd : Nat := T.modRows * 2 ^ (T.w + 1) * 2 ^ 11
/-- The bytes of one die-local half. -/
def half : Nat := T.dieRows * 2 ^ T.w * 2 ^ 11
/-- The bytes of the window. -/
def cap : Nat := T.bnd + 2 * T.half
/-- The lowest channel offset of the die-local regions. -/
def lo : Nat := T.modRows * 2 ^ 11
/-- The usable capacity of a channel. -/
def chanCap : Nat := (T.modRows + T.dieRows) * 2 ^ 11

/-- The die of a tier offset at or above the boundary. -/
def die (o : Nat) : Nat := if T.bnd + T.half ≤ o then 1 else 0

/-- The position of a tier offset in its die-local half. -/
def diePos (o : Nat) : Nat := o - T.bnd - T.die o * T.half

/-- The channel of a tier offset. -/
def chan (o : Nat) : Nat :=
  if o < T.bnd then regionChan (T.w + 1) o else T.die o * 2 ^ T.w + regionChan T.w (T.diePos o)

/-- The channel offset of a tier offset. -/
def off (o : Nat) : Nat :=
  if o < T.bnd then regionOff (T.w + 1) o else T.lo + regionOff T.w (T.diePos o)

/-- The tier offset of a channel offset. -/
def addr (ch q : Nat) : Nat :=
  if q < T.lo then regionByte (T.w + 1) ch q
  else T.bnd + ch / 2 ^ T.w * T.half + regionByte T.w (ch - ch / 2 ^ T.w * 2 ^ T.w) (q - T.lo)

theorem chanCap_eq : T.chanCap = T.lo + T.dieRows * 2 ^ 11 := add_mul ..

variable {T}

theorem die_le_one (o : Nat) : T.die o ≤ 1 := by unfold die; split <;> omega

/-- A tier offset above the boundary is its die's half and a position inside that half. -/
theorem bnd_add_diePos {o : Nat} (h : T.bnd ≤ o) : T.bnd + T.die o * T.half + T.diePos o = o := by
  unfold diePos die
  split <;> omega

theorem diePos_lt {o : Nat} (hb : T.bnd ≤ o) (h : o < T.cap) : T.diePos o < T.half := by
  unfold cap at h
  unfold diePos die
  split <;> omega

/-- A position inside die `d`'s half lies on that die, at that position. -/
theorem die_diePos_of_pos {d p : Nat} (hd : d ≤ 1) (hp : p < T.half) :
    T.die (T.bnd + d * T.half + p) = d ∧ T.diePos (T.bnd + d * T.half + p) = p := by
  unfold diePos die
  obtain rfl | rfl : d = 0 ∨ d = 1 := by omega
  · rw [if_neg (by omega)]; omega
  · rw [if_pos (by omega)]; omega

theorem chan_lt (o : Nat) : T.chan o < 2 ^ (T.w + 1) := by
  unfold chan
  split
  · exact regionChan_lt _ _
  · have := regionChan_lt T.w (T.diePos o)
    have := Nat.mul_le_mul_right (2 ^ T.w) (T.die_le_one o)
    rw [pow_succ]
    omega

theorem off_lt_lo {o : Nat} (h : o < T.bnd) : T.off o < T.lo := by
  rw [off, if_pos h]
  exact regionOff_lt h

theorem off_lt {o : Nat} (h : o < T.cap) : T.off o < T.chanCap := by
  have cap := T.chanCap_eq
  by_cases hm : o < T.bnd
  · have := off_lt_lo hm
    omega
  · have := regionOff_lt (diePos_lt (by omega) h)
    rw [off, if_neg hm]
    omega

theorem addr_chan_off (o : Nat) : T.addr (T.chan o) (T.off o) = o := by
  by_cases hm : o < T.bnd
  · rw [addr, if_pos (off_lt_lo hm), chan, if_pos hm, off, if_pos hm, regionByte_regionChan]
  · have die : (T.die o * 2 ^ T.w + regionChan T.w (T.diePos o)) / 2 ^ T.w = T.die o := by
      rw [mul_comm, Nat.mul_add_div (Nat.two_pow_pos _), Nat.div_eq_of_lt (regionChan_lt _ _), add_zero]
    rw [addr, chan, if_neg hm, off, if_neg hm, if_neg (by omega), die, Nat.add_sub_cancel_left,
      Nat.add_sub_cancel_left, regionByte_regionChan, bnd_add_diePos (by omega)]

theorem addr_lt_bnd {q : Nat} (ch : Nat) (h : q < T.lo) : T.addr ch q < T.bnd := by
  rw [addr, if_pos h]
  exact regionByte_lt ch h

theorem chan_div_le_one {ch : Nat} (h : ch < 2 ^ (T.w + 1)) : ch / 2 ^ T.w ≤ 1 :=
  Nat.le_of_lt_succ (Nat.div_lt_of_lt_mul h)

theorem regionByte_lt_half {q : Nat} (c : Nat) (hq : q < T.chanCap) (hl : T.lo ≤ q) :
    regionByte T.w c (q - T.lo) < T.half := by
  have cap := T.chanCap_eq
  exact regionByte_lt c (by omega)

theorem addr_lt {ch q : Nat} (hc : ch < 2 ^ (T.w + 1)) (hq : q < T.chanCap) : T.addr ch q < T.cap := by
  by_cases hl : q < T.lo
  · have := addr_lt_bnd ch hl
    unfold cap
    omega
  · have := regionByte_lt_half (ch - ch / 2 ^ T.w * 2 ^ T.w) hq (by omega)
    have := Nat.mul_le_mul_right T.half (chan_div_le_one hc)
    rw [addr, if_neg hl, cap]
    omega

theorem chan_off_addr {ch q : Nat} (hc : ch < 2 ^ (T.w + 1)) (hq : q < T.chanCap) :
    T.chan (T.addr ch q) = ch ∧ T.off (T.addr ch q) = q := by
  by_cases hl : q < T.lo
  · have hm := addr_lt_bnd ch hl
    rw [chan, if_pos hm, off, if_pos hm, addr, if_pos hl]
    exact ⟨regionChan_regionByte q hc, regionOff_regionByte _ _ _⟩
  · have pos := regionByte_lt_half (ch - ch / 2 ^ T.w * 2 ^ T.w) hq (by omega)
    obtain ⟨die, diePos⟩ := die_diePos_of_pos (chan_div_le_one hc) pos
    have low : ch - ch / 2 ^ T.w * 2 ^ T.w = ch % 2 ^ T.w := by rw [mul_comm, Nat.mod_eq_sub]
    have lt : ch - ch / 2 ^ T.w * 2 ^ T.w < 2 ^ T.w := low ▸ Nat.mod_lt _ (Nat.two_pow_pos _)
    rw [addr, if_neg hl, chan, if_neg (by omega), off, if_neg (by omega), die, diePos,
      regionChan_regionByte _ lt, regionOff_regionByte]
    have := Nat.div_mul_le_self ch (2 ^ T.w)
    omega

end Interleave

/-! R172 with the constants of a tier given: the tier, its base and capacity, its `n` channels with numbers of `wb` bits,
and its boundary. The model's functions are these at the constants of either tier. -/

/-- R172's algorithm at the constants of one tier. -/
def tierDecode (tier base cap n wb bnd a : Nat) : Loc :=
  let o := a - base
  let half := (cap - bnd) / 2
  let d := if bnd + half ≤ o then 1 else 0
  let p := o - bnd - d * half
  if o < bnd then ⟨tier, regionChan wb o, regionOff wb o⟩
  else ⟨tier, d * (n / 2) + regionChan (wb - 1) p, bnd / n + p / 2 ^ 11 / 2 ^ (wb - 1) * 2 ^ 11 + o % 2 ^ 11⟩

/-- Its inverse at the constants of one tier. -/
def tierEncode (base cap n wb bnd ch q : Nat) : Nat :=
  let d := ch / (n / 2)
  let row := (q - bnd / n) / 2 ^ 11
  if q < bnd / n then base + regionByte wb ch q
  else base + (bnd + d * ((cap - bnd) / 2)) +
    (row * 2 ^ (wb - 1) + lane (wb - 1) row (ch - d * (n / 2))) * 2 ^ 11 + q % 2 ^ 11

theorem dramDecode_gddr7 (bg bl : Nat) {a : Nat} (h : a < 0x10000000000) :
    dramDecode bg bl a = tierDecode 0 0 (232 * 2 ^ 30) 256 8 (bg * 2 ^ 30) a := by
  by_cases hm : a < bg * 2 ^ 30 <;> simp [-Nat.reducePow, dramDecode, tierDecode, regionChan, regionOff, lane, h, hm]

theorem dramDecode_lpddr (bg bl : Nat) {a : Nat} (h : 0x10000000000 ≤ a) :
    dramDecode bg bl a = tierDecode 1 0x10000000000 (464 * 2 ^ 30) 64 6 (bl * 2 ^ 30) a := by
  have tier : ¬ a < 0x10000000000 := Nat.not_lt.mpr h
  by_cases hm : a - 0x10000000000 < bl * 2 ^ 30 <;>
    simp [-Nat.reducePow, dramDecode, tierDecode, regionChan, regionOff, lane, tier, hm]

theorem dramEncode_gddr7 (bg bl ch q : Nat) :
    dramEncode bg bl ⟨0, ch, q⟩ = tierEncode 0 (232 * 2 ^ 30) 256 8 (bg * 2 ^ 30) ch q := by
  by_cases hm : q < bg * 2 ^ 30 / 256 <;> simp [-Nat.reducePow, dramEncode, tierEncode, regionByte, lane, hm]

theorem dramEncode_lpddr (bg bl ch q : Nat) :
    dramEncode bg bl ⟨1, ch, q⟩ = tierEncode 0x10000000000 (464 * 2 ^ 30) 64 6 (bl * 2 ^ 30) ch q := by
  by_cases hm : q < bl * 2 ^ 30 / 64 <;> simp [-Nat.reducePow, dramEncode, tierEncode, regionByte, lane, hm, add_assoc]

namespace Interleave

variable (T : Interleave)

theorem two_pow_half : 2 ^ (T.w + 1) / 2 = 2 ^ T.w := by rw [pow_succ]; omega

theorem bnd_div : T.bnd / 2 ^ (T.w + 1) = T.lo := by
  rw [bnd, mul_right_comm]
  exact Nat.mul_div_cancel _ (Nat.two_pow_pos _)

theorem cap_sub_bnd_half : (T.cap - T.bnd) / 2 = T.half := by unfold cap; omega

theorem cap_div : T.cap / 2 ^ (T.w + 1) = T.chanCap := by
  have rows : T.cap = T.chanCap * 2 ^ (T.w + 1) := by
    unfold cap bnd half chanCap
    ring
  rw [rows]
  exact Nat.mul_div_cancel _ (Nat.two_pow_pos _)

/-- Each die-local half starts at a granule of the window. -/
theorem diePos_mod {o : Nat} (h : T.bnd ≤ o) : T.diePos o % 2 ^ 11 = o % 2 ^ 11 := by
  have sum := bnd_add_diePos h
  have start : T.bnd + T.die o * T.half =
      2 ^ 11 * (T.modRows * 2 ^ (T.w + 1) + T.die o * (T.dieRows * 2 ^ T.w)) := by
    unfold bnd half
    ring
  rw [start] at sum
  omega

/-- The die-local regions start at a granule of the channel. -/
theorem sub_lo_mod {q : Nat} (h : T.lo ≤ q) : (q - T.lo) % 2 ^ 11 = q % 2 ^ 11 := by
  unfold lo at *
  omega

theorem tierDecode_eq (tier base a : Nat) :
    tierDecode tier base T.cap (2 ^ (T.w + 1)) (T.w + 1) T.bnd a = ⟨tier, T.chan (a - base), T.off (a - base)⟩ := by
  simp only [tierDecode, two_pow_half, bnd_div, cap_sub_bnd_half, Nat.add_sub_cancel]
  by_cases hm : a - base < T.bnd
  · simp only [if_pos hm, chan, off]
  · simp only [if_neg hm, chan, off, regionOff, T.diePos_mod (Nat.not_lt.mp hm), add_assoc]
    rfl

theorem tierEncode_eq (base ch q : Nat) :
    tierEncode base T.cap (2 ^ (T.w + 1)) (T.w + 1) T.bnd ch q = base + T.addr ch q := by
  simp only [tierEncode, two_pow_half, bnd_div, cap_sub_bnd_half, Nat.add_sub_cancel, addr]
  by_cases hl : q < T.lo
  · simp only [if_pos hl]
  · simp only [if_neg hl, regionByte, T.sub_lo_mod (Nat.not_lt.mp hl), add_assoc]

end Interleave

/-- GDDR7 with its boundary at `bg` GiB: 128 channels on each die. -/
def gddr7Interleave (bg : Nat) : Interleave := ⟨7, bg * 2 ^ 11, (232 - bg) * 2 ^ 11⟩

/-- LPDDR5X with its boundary at `bl` GiB: 32 channels on each die. -/
def lpddrInterleave (bl : Nat) : Interleave := ⟨5, bl * 2 ^ 13, (464 - bl) * 2 ^ 13⟩

/-- `T` is the interleave of a tier with the given constants, which the model's decode and encode follow. -/
structure IsTier (bg bl tier base cap n wb bnd : Nat) (T : Interleave) : Prop where
  wb_eq : wb = T.w + 1
  n_eq : n = 2 ^ (T.w + 1)
  bnd_eq : bnd = T.bnd
  cap_eq : cap = T.cap
  decode : ∀ a, base ≤ a → a < base + cap → dramDecode bg bl a = tierDecode tier base cap n wb bnd a
  encode : ∀ ch q, dramEncode bg bl ⟨tier, ch, q⟩ = tierEncode base cap n wb bnd ch q

theorem gddr7_isTier {bg : Nat} (bl : Nat) (h : bg ≤ 232) :
    IsTier bg bl 0 0 (232 * 2 ^ 30) 256 8 (bg * 2 ^ 30) (gddr7Interleave bg) where
  wb_eq := rfl
  n_eq := rfl
  bnd_eq := by simp only [Interleave.bnd, gddr7Interleave]; omega
  cap_eq := by simp only [Interleave.cap, Interleave.bnd, Interleave.half, gddr7Interleave]; omega
  decode _ _ ha := dramDecode_gddr7 bg bl (by omega)
  encode := dramEncode_gddr7 bg bl

theorem lpddr_isTier {bl : Nat} (bg : Nat) (h : bl ≤ 464) :
    IsTier bg bl 1 0x10000000000 (464 * 2 ^ 30) 64 6 (bl * 2 ^ 30) (lpddrInterleave bl) where
  wb_eq := rfl
  n_eq := rfl
  bnd_eq := by simp only [Interleave.bnd, lpddrInterleave]; omega
  cap_eq := by simp only [Interleave.cap, Interleave.bnd, Interleave.half, lpddrInterleave]; omega
  decode _ ha _ := dramDecode_lpddr bg bl ha
  encode := dramEncode_lpddr bg bl

namespace IsTier

variable {bg bl tier base cap n wb bnd : Nat} {T : Interleave}

/-- Encode is a right inverse of decode on the window, and decode stays within the usable channel offsets. -/
theorem encode_decode (t : IsTier bg bl tier base cap n wb bnd T) {a : Nat} (hb : base ≤ a) (ha : a < base + cap) :
    (dramDecode bg bl a).ch < n ∧ (dramDecode bg bl a).off < cap / n ∧ dramEncode bg bl (dramDecode bg bl a) = a := by
  obtain ⟨rfl, rfl, rfl, rfl, decode, encode⟩ := t
  have ho : a - base < T.cap := by omega
  rw [decode a hb ha, T.tierDecode_eq, encode, T.tierEncode_eq, T.cap_div, Interleave.addr_chan_off]
  exact ⟨Interleave.chan_lt _, Interleave.off_lt ho, by omega⟩

/-- Decode is a left inverse of encode on the usable channel offsets, and encode stays within the window. -/
theorem decode_encode (t : IsTier bg bl tier base cap n wb bnd T) {ch q : Nat} (hc : ch < n) (hq : q < cap / n) :
    base ≤ dramEncode bg bl ⟨tier, ch, q⟩ ∧ dramEncode bg bl ⟨tier, ch, q⟩ < base + cap ∧
      dramDecode bg bl (dramEncode bg bl ⟨tier, ch, q⟩) = ⟨tier, ch, q⟩ := by
  obtain ⟨rfl, rfl, rfl, rfl, decode, encode⟩ := t
  rw [T.cap_div] at hq
  obtain ⟨chan, off⟩ := Interleave.chan_off_addr hc hq
  have lt := Interleave.addr_lt hc hq
  have lower := Nat.le_add_right base (T.addr ch q)
  have upper := Nat.add_lt_add_left lt base
  rw [encode, T.tierEncode_eq, decode _ lower upper, T.tierDecode_eq, Nat.add_sub_cancel_left, chan, off]
  exact ⟨lower, upper, rfl⟩

end IsTier

/-- R172's channel with the fold as a loop over the eight groups of bits. -/
theorem regionChan_eq_foldl (w p : Nat) : regionChan w p = (p / 2 ^ 11 ^^^
    (List.range 8).foldl (fun f i => f ^^^ (p / 2 ^ 11 / 2 ^ (w * (i + 1)) % 2 ^ w)) 0) % 2 ^ w := by
  rw [foldl_range_eq_foldBits, Nat.zero_xor]
  rfl

/-- A granule of a channel starts at a page and stays inside it: 59,392 is 29 pages of 2,048 (R169). -/
theorem granule_one_page (l : Loc) (h : l.off % 2048 = 0) : l.off % 59392 % 2048 = 0 ∧
    ∀ i, i < 2048 → ({ l with off := l.off + i } : Loc).frame = l.frame ∧
      ({ l with off := l.off + i } : Loc).page = l.page := by
  refine ⟨by omega, fun i hi => ?_⟩
  unfold Loc.frame Loc.page
  dsimp only
  omega

/-- Settles O59: each tier is a module region and two die-local halves, in each of which every row of granules is
permuted over the region's channels by a xor. -/
theorem dramInterleave : Obligations.DramInterleave := by
  unfold Obligations.DramInterleave
  refine ⟨fun bg bl a _ hbg _ hbl tier base cap n wb bnd htier => ?_,
    fun l => ⟨rfl, rfl, rfl, rfl, granule_one_page l⟩⟩
  obtain ⟨T, t⟩ : ∃ T, IsTier bg bl tier base cap n wb bnd T := by
    obtain h | h := htier <;> cases h
    · exact ⟨_, gddr7_isTier bl hbg⟩
    · exact ⟨_, lpddr_isTier bg hbl⟩
  refine ⟨fun hb ha => ?_, fun ch off hc ho => t.decode_encode hc ho⟩
  have inverse := t.encode_decode hb ha
  refine ⟨?_, fun hm => ?_, fun d hm hd => ?_, inverse⟩
  · rw [t.decode a hb ha, tierDecode]
    split <;> rfl
  · rw [t.decode a hb ha, tierDecode, if_pos hm]
    exact ⟨regionChan_eq_foldl _ _, rfl⟩
  · rw [t.decode a hb ha, tierDecode, if_neg (Nat.not_lt.mpr hm), ← hd]
    exact ⟨congrArg (d * (n / 2) + ·) (regionChan_eq_foldl _ _), rfl⟩

end Sys2Proof.Machine
end

section
/-!
PROOF. The random generator (09, R219). A round is undone by the two equations of R219, so each round, and with it the
ten rounds, maps distinct counters to distinct outputs. The seed lies in the numerics part of the state, which no step
of a COMPUTE reset touches but `numReset`, and that keeps the seed.
-/

namespace Sys2Proof.Machine

/-! Rotations of a word. -/

/-- Bit `i` of the right rotation is bit `i + r`, wrapped, of the word, and the left rotation puts it back. -/
theorem rotateRight_rotateLeft {w : Nat} (x : BitVec w) (r : Nat) : (x.rotateLeft r).rotateRight r = x := by
  ext i hi
  have hr : r % w < w := Nat.mod_lt r (by omega)
  rw [BitVec.getElem_rotateRight hi]
  split <;> rw [BitVec.getElem_rotateLeft]
  · rw [dif_neg (by omega)]
    congr 1
    omega
  · rw [dif_pos (by omega)]
    congr 1
    omega

/-- On words, which are finitely many, an inverse on one side is one on the other. -/
theorem rotateLeft_rotateRight {w : Nat} (x : BitVec w) (r : Nat) : (x.rotateRight r).rotateLeft r = x :=
  have left : Function.LeftInverse (fun x : BitVec w => x.rotateRight r) (fun x => x.rotateLeft r) :=
    fun x => rotateRight_rotateLeft x r
  left.rightInverse_of_surjective (Finite.surjective_of_injective left.injective) x

/-! The rounds. -/

/-- The round constant. -/
def rngConst (seed : W64) (r : Nat) : W64 := seed ^^^ (BitVec.ofNat 64 (r + 1) * 0x0101010101010101)

theorem rngRound_eq (seed x y : W64) (r : Nat) : rngRound seed (x, y) r =
    ((x.rotateRight 8 + y) ^^^ rngConst seed r,
      y.rotateLeft 12 ^^^ ((x.rotateRight 8 + y) ^^^ rngConst seed r)) := rfl

/-- R219: y = rotr(y′ xor x′, 12). -/
theorem rngRound_input_y (seed x y : W64) (r : Nat) :
    ((rngRound seed (x, y) r).2 ^^^ (rngRound seed (x, y) r).1).rotateRight 12 = y := by
  rw [rngRound_eq, BitVec.xor_assoc, BitVec.xor_self, BitVec.xor_zero, rotateRight_rotateLeft]

/-- R219: x = rotl((x′ xor k) − y, 8). -/
theorem rngRound_input_x (seed x y : W64) (r : Nat) :
    (((rngRound seed (x, y) r).1 ^^^ rngConst seed r) - y).rotateLeft 8 = x := by
  rw [rngRound_eq, BitVec.xor_assoc, BitVec.xor_self, BitVec.xor_zero, BitVec.add_sub_cancel, rotateLeft_rotateRight]

theorem rngRound_injective (seed : W64) (r : Nat) : Function.Injective fun p => rngRound seed p r := by
  rintro ⟨x, y⟩ ⟨x2, y2⟩ (same : rngRound seed (x, y) r = rngRound seed (x2, y2) r)
  have hy : y = y2 := by rw [← rngRound_input_y seed x y r, same, rngRound_input_y]
  have hx : x = x2 := by rw [← rngRound_input_x seed x y r, same, hy, rngRound_input_x]
  rw [hx, hy]

/-- Any run of rounds maps distinct counters to distinct outputs. -/
theorem foldl_rngRound_injective (seed : W64) : ∀ rs : List Nat, Function.Injective fun p => rs.foldl (rngRound seed) p
  | [] => Function.injective_id
  | r :: rs => (foldl_rngRound_injective seed rs).comp (rngRound_injective seed r)

theorem rng_eq_foldl (seed x y : W64) :
    rng seed x y = [0, 1, 2, 3, 4, 5, 6, 7, 8, 9].foldl (rngRound seed) (x, y) := rfl

theorem rng_injective (seed : W64) : Function.Injective fun p : W64 × W64 => rng seed p.1 p.2 :=
  foldl_rngRound_injective seed (List.range 10)

/-! A mailbox command that is taken. -/

/-- A command that is due and passes steps 2 to 5 of R385 does its own part. -/
theorem mbxCommand_of_mbxTakes {op : Nat} {sel : Args → Bool} {m : Fin 16} {s : State} (body : Args → State → Reply)
    (h : mbxTakes op sel m s = true) :
    mbxCommand op sel m body s = finish ((body (s.mailbox m).accArgs s).settle m) := by
  obtain ⟨due, c, spec, checks⟩ : mbxDue op sel m s = true ∧ ∃ c, cmdSpec op = some c ∧ mbxChecks op c m s = none := by
    simpa [mbxTakes, Option.any_eq_true] using h
  simp only [mbxCommand, due, spec, checks, if_true]

/-- SET_RNG_SEED, taken (R219). -/
theorem exec_setRngSeed {m : Fin 16} {s : State} (h : mbxTakes 0x0302 anyArgs m s = true) :
    exec (.setRngSeed m) s = .next (settle (mbxComplete m St.ok []
      { s with num := { s.num with seed := BitVec.ofNat 64 (s.arg m 0) } })) := by
  change execSetRngSeed m s = _
  rw [execSetRngSeed, mbxCommand_of_mbxTakes _ h]
  rfl

/-! What leaves the numerics part as it is. -/

theorem foldl_num {α : Type} {f : State → α → State} (h : ∀ s a, (f s a).num = s.num) (l : List α) (s : State) :
    (l.foldl f s).num = s.num :=
  List.foldlRecOn l f (motive := fun t => t.num = s.num) rfl fun t ht a _ => (h t a).trans ht

@[simp] theorem msixSignal_num (v : Nat) (s : State) : (msixSignal v s).num = s.num :=
  (msixSignal_posted v (.refl s)).num

@[simp] theorem post_num (code : Nat) (ws : List Nat) (s : State) : (post code ws s).num = s.num :=
  (post_posted code ws (.refl s)).num

@[simp] theorem bounceSend_num (r : BounceRec) (s : State) : (bounceSend r s).num = s.num :=
  (bounceSend_settled r (.refl s)).num

@[simp] theorem mbxComplete_num (m : Fin 16) (st : Nat) (res : List Nat) (s : State) :
    (mbxComplete m st res s).num = s.num := by
  simp [mbxComplete]

@[simp] theorem mbxEndAll_num (st : Nat) (keep : Option Nat) (s : State) : (mbxEndAll st keep s).num = s.num :=
  foldl_num (fun t m => by split <;> simp) _ s

@[simp] theorem abandonSlice_num (s : State) : (abandonSlice s).num = s.num := by
  unfold abandonSlice
  split
  · rfl
  · split <;> simp

@[simp] theorem linkState_num (i v : Nat) (s : State) : (linkState i v s).num = s.num := rfl

@[simp] theorem peerSay_num (v : Nat) (s : State) : (peerSay v s).num = s.num :=
  foldl_num (fun t i => by split <;> simp) _ s

/-! Copies of the stash manager that are abandoned. -/

@[simp] theorem devRead_num (a n : Nat) (s : State) : (devRead a n s).2.2.num = s.num :=
  (devRead_dram a n (.refl s)).num

@[simp] theorem devPut_num (a : Nat) (bs : List Byte) (s : State) : (devPut a bs s).num = s.num :=
  (devPut_wrote a bs (.refl s)).num

@[simp] theorem poisonOut_num (a n : Nat) (s : State) : (poisonOut a n s).num = s.num := by
  have range := (poisonRange_wrote a n (.refl s)).num
  unfold poisonOut
  split
  · exact (markDirty_dram a n (.refl _)).num.trans range
  · exact range

theorem bridgeCount_num : ∀ (fuel die : Nat) (wr : Bool) (a n : Nat) (s : State),
    (bridgeCount fuel die wr a n s).num = s.num
  | 0, _, _, _, _, _ => rfl
  | fuel + 1, die, wr, a, n, s => by
    unfold bridgeCount
    split
    · rfl
    · dsimp only
      rw [bridgeCount_num fuel]
      split <;> rfl

@[simp] theorem dieRead_num (die a n : Nat) (s : State) : (dieRead die a n s).2.2.num = s.num :=
  (devRead_num a n _).trans (bridgeCount_num _ _ _ _ _ s)

@[simp] theorem diePut_num (die a : Nat) (bs : List Byte) (s : State) : (diePut die a bs s).num = s.num :=
  (devPut_num a bs _).trans (bridgeCount_num _ _ _ _ _ s)

@[simp] theorem copyRun_num (die src dst n : Nat) (s : State) : (copyRun die src dst n s).num = s.num := by
  unfold copyRun
  split
  · rfl
  · split
    · simp
    · dsimp only
      split
      · simp
      · exact (foldl_num (fun t i => by split <;> simp) _ _).trans (dieRead_num die src n s)

@[simp] theorem copyBytes_num (die : Nat) (x : StashCopy) (g n : Nat) (s : State) :
    (copyBytes die x g n s).num = s.num :=
  foldl_num (fun _ _ => copyRun_num _ _ _ _ _) _ s

@[simp] theorem copyPartly_num (unit : Nat) (x : StashCopy) (size : Nat) (s : State) :
    (copyPartly unit x size s).num = s.num := by
  unfold copyPartly
  split
  · rfl
  · exact foldl_num (fun t p => copyBytes_num _ _ _ _ (draw t).2) _ s

@[simp] theorem stashAbandon_num (s : State) : (stashAbandon s).num = s.num :=
  foldl_num (fun t p => by split <;> simp) _ s

/-! Tasks, collectives and the checkpoint store. -/

@[simp] theorem sendPkts_num (l : List Inject) (s : State) : (sendPkts l s).num = s.num := rfl

@[simp] theorem cancelWatch_num (k : Task) (s : State) : (cancelWatch k s).num = s.num := by
  unfold cancelWatch
  split
  · split <;> rfl
  · rfl

@[simp] theorem collAbort_num (t st : Nat) (s : State) : (collAbort t st s).num = s.num := by
  unfold collAbort
  split
  · rfl
  · dsimp only
    split <;> split <;> rfl

@[simp] theorem leaveOthers_num (s : State) : (leaveOthers s).num = s.num :=
  (foldl_num (fun t _ => collAbort_num _ _ t) _ _).trans (foldl_num (fun t _ => cancelWatch_num _ t) _ _)

@[simp] theorem ckptDrop_num (s : State) : (ckptDrop s).num = s.num := by
  unfold ckptDrop
  split <;> rfl

@[simp] theorem mirrorAbandon_num (cause : Nat) (s : State) : (mirrorAbandon cause s).num = s.num := by
  unfold mirrorAbandon
  dsimp only
  split <;> split <;> simp

@[simp] theorem storeReset_num (s : State) : (storeReset s).num = s.num := by
  simp [storeReset]

/-! The COMPUTE reset (19, Table 19-7). -/

/-- Of the numerics part a COMPUTE reset discards what `numReset` does, and nothing else (R228). -/
theorem computeDiscard_num (s : State) : (computeDiscard s).num = (numReset s).num := by
  have merged : (merReset (leaveOthers (stashAbandon s))).num = s.num :=
    (leaveOthers_num _).trans (stashAbandon_num s)
  have numbers : (numReset (stashReset (merReset (leaveOthers (stashAbandon s))))).num = (numReset s).num :=
    congrArg (fun n : Numerics => { n with guards := [], sstep := 0 }) merged
  exact (storeReset_num _).trans numbers

theorem computeStart_seed (mbx : Option Nat) (fills : Nat) (s : State) :
    (computeStart mbx fills s).num.seed = s.num.seed := by
  unfold computeStart
  split
  · rfl
  · dsimp only
    split <;> split <;> simp [computeDiscard_num, numReset, peerResetting]

@[simp] theorem zeroClusters_num (cs : List Nat) (s : State) :
    (cs.foldl (fun s c => zeroCluster c s) s).num = s.num :=
  foldl_num (f := fun s c => zeroCluster c s) (fun _ _ => rfl) cs s

@[simp] theorem computeClear_num (s : State) : (computeClear s).num = s.num := rfl

@[simp] theorem peerResetDone_num (s : State) : (peerResetDone s).num = s.num := peerSay_num 4 s

theorem computeFinish_num (s : State) : (computeFinish s).num = s.num := by
  unfold computeFinish
  split
  · rfl
  · dsimp only
    split
    · simp
    · split
      · split <;> simp
      · simp

/-- Settles O55: R219's equations undo a round, so the ten rounds are injective; of the numerics part a COMPUTE reset
discards only the guards and the scale step. -/
theorem generatorAlgorithm : Obligations.GeneratorAlgorithm := by
  unfold Obligations.GeneratorAlgorithm
  exact ⟨rng_eq_foldl,
    fun seed x y r => ⟨(rngRound_input_y seed x y r).symm, (rngRound_input_x seed x y r).symm⟩,
    fun seed x y x2 y2 distinct same => distinct (rng_injective seed same),
    fun s => ⟨fun _ h => exec_setRngSeed h, rfl, fun mbx fills => computeStart_seed mbx fills s,
      congrArg Numerics.seed (computeFinish_num s)⟩⟩

end Sys2Proof.Machine
end

section
/-!
PROOF. The rate and the walk of Survey (17, R409). A visit touches neither clock, so that SCRUB_PASS_DONE carries the time
of the visit. Of what a COMPUTE reset does, only the copies that it abandons, the repairs and flips that it discards and
the SRAM that it zeroes reach the reliability part of the state, and none of them reaches the rates and the walk.
-/

namespace Sys2Proof.Machine

/-- What R409 is about: the rates of the two tiers and the place of every channel. -/
def Rel.scrubbing (r : Rel) : Nat × Nat × KV SurveyPos := (r.scrubG, r.scrubL, r.survey)

theorem Rel.scrubbing_eq_iff (r q : Rel) : r.scrubbing = q.scrubbing ↔
    r.scrubG = q.scrubG ∧ r.scrubL = q.scrubL ∧ r.survey = q.survey := by
  simp [Rel.scrubbing]

theorem Wrote.scrubbing {s t : State} (h : Wrote s t) : t.rel.scrubbing = s.rel.scrubbing :=
  (Rel.scrubbing_eq_iff _ _).mpr ⟨h.relScrubG, h.relScrubL, h.relSurvey⟩

/-- What every step of a fold leaves as it is, the fold does. -/
theorem foldl_view {α β : Type} {f : State → α → State} {view : State → β} (h : ∀ s a, view (f s a) = view s)
    (l : List α) (s : State) : view (l.foldl f s) = view s :=
  List.foldlRecOn l f (motive := fun t => view t = view s) rfl fun t ht a _ => (h t a).trans ht

/-! What leaves the reliability part as it is. -/

@[simp] theorem msixSignal_rel (v : Nat) (s : State) : (msixSignal v s).rel = s.rel :=
  (msixSignal_posted v (.refl s)).rel

@[simp] theorem post_rel (code : Nat) (ws : List Nat) (s : State) : (post code ws s).rel = s.rel :=
  (post_posted code ws (.refl s)).rel

@[simp] theorem bounceSend_rel (r : BounceRec) (s : State) : (bounceSend r s).rel = s.rel := by
  unfold bounceSend
  split <;> rfl

@[simp] theorem mbxComplete_rel (m : Fin 16) (st : Nat) (res : List Nat) (s : State) :
    (mbxComplete m st res s).rel = s.rel := by
  simp [mbxComplete]

@[simp] theorem mbxEndAll_rel (st : Nat) (keep : Option Nat) (s : State) : (mbxEndAll st keep s).rel = s.rel :=
  foldl_view (fun t m => by split <;> simp) _ s

@[simp] theorem abandonSlice_rel (s : State) : (abandonSlice s).rel = s.rel := by
  unfold abandonSlice
  split
  · rfl
  · split <;> simp

@[simp] theorem linkState_rel (i v : Nat) (s : State) : (linkState i v s).rel = s.rel := rfl

@[simp] theorem peerSay_rel (v : Nat) (s : State) : (peerSay v s).rel = s.rel :=
  foldl_view (fun t i => by split <;> simp) _ s

@[simp] theorem cancelWatch_rel (k : Task) (s : State) : (cancelWatch k s).rel = s.rel := by
  unfold cancelWatch
  split
  · split <;> rfl
  · rfl

@[simp] theorem collAbort_rel (t st : Nat) (s : State) : (collAbort t st s).rel = s.rel := by
  unfold collAbort
  split
  · rfl
  · dsimp only
    split <;> split <;> rfl

@[simp] theorem leaveOthers_rel (s : State) : (leaveOthers s).rel = s.rel :=
  (foldl_view (fun t _ => collAbort_rel _ _ t) _ _).trans (foldl_view (fun t _ => cancelWatch_rel _ t) _ _)

@[simp] theorem ckptDrop_rel (s : State) : (ckptDrop s).rel = s.rel := by
  unfold ckptDrop
  split <;> rfl

@[simp] theorem mirrorAbandon_rel (cause : Nat) (s : State) : (mirrorAbandon cause s).rel = s.rel := by
  unfold mirrorAbandon
  dsimp only
  split <;> split <;> simp

@[simp] theorem storeReset_rel (s : State) : (storeReset s).rel = s.rel := by
  simp [storeReset]

/-! Copies of the stash manager that are abandoned: what a copy can do. -/

theorem bridgeCount_dram {s : State} : ∀ (fuel die : Nat) (wr : Bool) (a n : Nat) {u : State}, Dram s u →
    Dram s (bridgeCount fuel die wr a n u)
  | 0, _, _, _, _, _, h => h
  | fuel + 1, _, _, _, _, _, h =>
    Dram.ite h (bridgeCount_dram fuel _ _ _ _ (Dram.ite h (count_dram _ _ _ h)))

theorem dieRead_wrote {s u : State} (die a n : Nat) (h : Wrote s u) : Wrote s (dieRead die a n u).2.2 :=
  h.trans (devRead_dram a n (bridgeCount_dram _ _ _ _ _ (.refl u))).wrote

theorem diePut_wrote {s u : State} (die a : Nat) (bs : List Byte) (h : Wrote s u) : Wrote s (diePut die a bs u) :=
  devPut_wrote a bs (h.trans (bridgeCount_dram _ _ _ _ _ (.refl u)).wrote)

theorem poisonOut_wrote {s u : State} (a n : Nat) (h : Wrote s u) : Wrote s (poisonOut a n u) :=
  have poisoned := poisonRange_wrote a n h
  Wrote.ite (poisoned.trans (markDirty_dram a n (.refl _)).wrote) poisoned

theorem copyRun_wrote {s u : State} (die src dst n : Nat) (h : Wrote s u) : Wrote s (copyRun die src dst n u) := by
  have read := dieRead_wrote die src n h
  unfold copyRun
  revert read
  generalize dieRead die src n u = r
  obtain ⟨bad, bs, v⟩ := r
  intro read
  dsimp only
  refine Wrote.ite h (Wrote.ite (poisonOut_wrote dst n h) (Wrote.ite (diePut_wrote die dst bs read) ?_))
  refine read.trans (Wrote.foldl _ (fun t i => ?_) _ v)
  exact Wrote.ite (poisonOut_wrote _ _ (.refl t)) (diePut_wrote _ _ _ (.refl t))

theorem copyBytes_wrote (die : Nat) (x : StashCopy) (g n : Nat) (s : State) : Wrote s (copyBytes die x g n s) :=
  Wrote.foldl _ (fun t _ => copyRun_wrote _ _ _ _ (.refl t)) _ s

theorem copyPartly_scrubbing (unit : Nat) (x : StashCopy) (size : Nat) (s : State) :
    (copyPartly unit x size s).rel.scrubbing = s.rel.scrubbing := by
  unfold copyPartly
  split
  · rfl
  · refine foldl_view (view := fun t => t.rel.scrubbing) (fun t p => ?_) _ s
    exact (copyBytes_wrote _ x p.1 _ (draw t).2).scrubbing

theorem stashAbandon_scrubbing (s : State) : (stashAbandon s).rel.scrubbing = s.rel.scrubbing :=
  foldl_view (view := fun t => t.rel.scrubbing) (fun t p => by
    split
    · exact copyPartly_scrubbing _ _ _ t
    · rfl) _ s

/-! The COMPUTE reset (19, Table 19-7). -/

theorem computeDiscard_rel (s : State) :
    (computeDiscard s).rel = { (stashAbandon s).rel with repairs := [], flips := [] } := by
  simp [computeDiscard, ephemReset, spectroReset, photoReset, numReset, stashReset, merReset]

@[simp] theorem computeDiscard_scrubbing (s : State) : (computeDiscard s).rel.scrubbing = s.rel.scrubbing := by
  rw [computeDiscard_rel]
  exact stashAbandon_scrubbing s

theorem computeStart_scrubbing (mbx : Option Nat) (fills : Nat) (s : State) :
    (computeStart mbx fills s).rel.scrubbing = s.rel.scrubbing := by
  unfold computeStart
  split
  · rfl
  · dsimp only
    split <;> split <;> simp [peerResetting]

@[simp] theorem zeroClusters_scrubbing (cs : List Nat) (s : State) :
    (cs.foldl (fun s c => zeroCluster c s) s).rel.scrubbing = s.rel.scrubbing :=
  foldl_view (f := fun s c => zeroCluster c s) (view := fun t => t.rel.scrubbing) (fun _ _ => rfl) cs s

@[simp] theorem computeClear_rel (s : State) : (computeClear s).rel = s.rel := rfl

@[simp] theorem peerResetDone_rel (s : State) : (peerResetDone s).rel = s.rel := peerSay_rel 4 s

theorem computeFinish_scrubbing (s : State) : (computeFinish s).rel.scrubbing = s.rel.scrubbing := by
  unfold computeFinish
  split
  · rfl
  · dsimp only
    split
    · simp
    · split
      · split <;> simp
      · simp

/-! SET_SCRUB_RATE. -/

/-- SET_SCRUB_RATE, taken. -/
theorem exec_setScrubRate {m : Fin 16} {s : State} (h : mbxTakes 0x0701 anyArgs m s = true) :
    exec (.setScrubRate m) s = finish (
      let n := bits (s.arg m 0) 31 0
      if n ≠ 0 ∧ (n < 3600 ∨ n > 2592000) then mbxComplete m St.argInvalid [] s
      else mbxComplete m St.ok [] { s with rel := { s.rel with
        scrubG := if bit (s.arg m 0) 32 then n else s.rel.scrubG
        scrubL := if bit (s.arg m 0) 33 then n else s.rel.scrubL } }) := by
  change execSetScrubRate m s = _
  rw [execSetScrubRate, mbxCommand_of_mbxTakes _ h]
  dsimp only
  rw [apply_ite (Reply.settle m)]
  rfl

/-! What the visit of a page can do. -/

theorem loseParity_dram {s u : State} (l : Loc) (a : Nat) (h : Dram s u) : Dram s (loseParity l a u) := by
  unfold loseParity
  extract_lets errsOf src v src2 bad fresh w
  have hv : Dram s v := Dram.rel_set h
  have hw : Dram s w := retireFrame_dram _ _ (poisonPage_dram _ _ hv)
  exact Dram.ite (Dram.rel_set hv) (Dram.ite (noteRepair_dram _ hw) hw)

/-- What is done with the answer of a check and the state after it. -/
theorem Dram.pair {s : State} {r : Bool × State} {k : Bool → State → State} (h : Dram s r.2)
    (hk : ∀ ok v, Dram s v → Dram s (k ok v)) : Dram s (match r with | (ok, v) => k ok v) :=
  hk _ _ h

theorem surveyMeta_dram {s u : State} (l : Loc) (a : Nat) (h : Dram s u) : Dram s (surveyMeta l a u) := by
  unfold surveyMeta
  extract_lets tagLine v w
  have tagged : ∀ (i : Nat) {x : State}, Dram s x → Dram s (tagLine i x) := fun i x hx =>
    Dram.pair (metaLine_dram l i hx) fun _ _ hy => .ite hy (strongDecision_dram a hy)
  have hw : Dram s w := tagged _ (tagged _ h)
  exact Dram.pair (metaLine_dram l (58 + l.page) hw) fun _ _ hx =>
    Dram.pair (metaLine_dram l 87 (.ite hx (loseParity_dram l a hx))) fun _ _ hy => .ite hy (loseFrame_dram l hy)

theorem surveyPage_time (a : Nat) (s : State) : (surveyPage a s).time = s.time := by
  unfold surveyPage
  extract_lets l keys old v w now mend dirty x p src y src2
  have hw : Dram s w :=
    (surveyMeta_dram l a (.refl s)).trans (Dram.foldl _ (fun t i => sectorRead_dram (a + 256 * i) (.refl t)) _ v)
  clear_value w
  split <;> exact hw.time

theorem surveyPage_cyc (a : Nat) (s : State) : (surveyPage a s).cyc = s.cyc := by
  rw [State.cyc, surveyPage_time, State.cyc]

theorem surveyPage_now (a : Nat) (s : State) : (surveyPage a s).now = s.now := by
  rw [State.now, surveyPage_time, State.now]

/-! The visits of Survey (R408). -/

theorem exec_surveyPageVisit_of_rate_zero {chan : Nat} {s : State}
    (h : (if chan / 256 = 0 then s.rel.scrubG else s.rel.scrubL) = 0) :
    exec (.surveyPageVisit chan) s = finish s :=
  if_pos (.inr (.inl h))

/-- Every channel of the tier that has not failed has completed `n` passes. -/
def passDone (tier n : Nat) (s : State) : Bool :=
  ((List.range (chansOf tier)).filter fun c => !s.rel.failed.contains (256 * tier + c)).all fun c =>
    decide ((kvGet ({} : SurveyPos) (256 * tier + c) s.rel.survey).passes ≥ n)

theorem passDone_iff (tier n : Nat) (s : State) : passDone tier n s = true ↔
    ∀ c, c < chansOf tier → 256 * tier + c ∉ s.rel.failed →
      n ≤ (kvGet ({} : SurveyPos) (256 * tier + c) s.rel.survey).passes := by
  simp [passDone, or_iff_not_imp_left]

/-- The pass of a tier ends at the given clock readings, and its report is posted. -/
def endPass (tier n cyc now : Nat) (s : State) : State :=
  let g := kvGet ({} : ScrubPass) tier s.rel.pass
  post Ev.scrubPassDone [tier, (cyc - g.start) / 1000000000, g.corrections, g.uncorrectable]
    (logErr ⟨now, 0, Ev.scrubPassDone, tier, tier, 0, 0, 0⟩
      { s with rel := { s.rel with pass := kvSet tier { start := cyc, passes := n } s.rel.pass } })

/-- The page that a channel's walk stands at. -/
def surveyAddr (chan : Nat) (s : State) : Nat :=
  let p := kvGet ({} : SurveyPos) chan s.rel.survey
  dramEncode s.tiers.bg s.tiers.bl ⟨chan / 256, chan % 256, p.frame * 59392 + p.page * 2048⟩

/-- With the page at `a` visited, the last of the channel's last frame, the walk of the channel starts again. -/
def restartWalk (chan n a : Nat) (s : State) : State :=
  let u := surveyFrameEnd (s.loc a) s
  { u with rel := { u.rel with survey := kvSet chan ⟨0, 0, n⟩ u.rel.survey } }

/-- Survey comes to the last page of the last frame of a channel that it may visit. -/
theorem exec_surveyPageVisit_of_last {chan a : Nat} {s : State} {p : SurveyPos}
    (hs : kvGet ({} : SurveyPos) chan s.rel.survey = p) (ha : surveyAddr chan s = a) (hc : chan < 320)
    (hr : (if chan / 256 = 0 then s.rel.scrubG else s.rel.scrubL) ≠ 0) (hl : chan ∉ s.rel.failed)
    (hb : s.boot.ready = true) (hf : kvHas (chan / 256) s.tiers.fills = false)
    (hp : 28 ≤ p.page) (hw : framesOf (chan / 256) ≤ p.frame + 1) :
    let v := restartWalk chan (p.passes + 1) a (surveyPage a s)
    exec (.surveyPageVisit chan) s =
      if passDone (chan / 256) (p.passes + 1) v then finish (endPass (chan / 256) (p.passes + 1) s.cyc s.now v)
      else finish v := by
  have live : ¬ (chan ≥ 320 ∨ (if chan / 256 = 0 then s.rel.scrubG else s.rel.scrubL) = 0 ∨
      s.rel.failed.contains chan = true ∨ (!s.boot.ready) = true ∨ kvHas (chan / 256) s.tiers.fills = true) := by
    rintro (h | h | h | h | h)
    · omega
    · exact hr h
    · exact hl (List.contains_iff_mem.mp h)
    · simp [hb] at h
    · simp [hf] at h
  subst hs ha
  rw [← surveyPage_cyc (surveyAddr chan s) s, ← surveyPage_now (surveyAddr chan s) s]
  change execSurveyPageVisit chan s = _
  unfold execSurveyPageVisit surveyAddr
  dsimp only
  rw [if_neg live, if_neg (Nat.not_lt.mpr hp), if_neg (Nat.not_lt.mpr hw)]
  -- What the page's checks did is of no matter to the rest.
  generalize surveyPage _ s = t
  rfl

/-- Settles O57: SET_SCRUB_RATE and the visits of Survey by their branches, and a COMPUTE reset by what it leaves of the
reliability part. -/
theorem scrubRateRule : Obligations.ScrubRateRule := by
  unfold Obligations.ScrubRateRule
  refine fun s => ⟨fun m h => ?_, fun chan => ⟨fun hc h0 => ?_, fun hc h0 => ?_⟩, rfl, rfl, fun _ => rfl,
    fun mbx fills => (Rel.scrubbing_eq_iff _ _).mp (computeStart_scrubbing mbx fills s),
    (Rel.scrubbing_eq_iff _ _).mp (computeFinish_scrubbing s), fun chan => ?_⟩
  · rw [exec_setScrubRate h]
    exact ⟨fun h0 hn => congrArg finish (if_pos ⟨h0, hn⟩), fun hn => congrArg finish (if_neg (by omega))⟩
  · exact exec_surveyPageVisit_of_rate_zero (by rw [if_pos (by omega), h0])
  · exact exec_surveyPageVisit_of_rate_zero (by rw [if_neg (by omega), h0])
  · intro tier p a hc hr hl hb hf hp hw
    have visit := exec_surveyPageVisit_of_last (p := p) (a := a) rfl rfl hc hr hl hb hf hp hw
    generalize surveyPage a s = t at visit ⊢
    intro u v all g
    have complete := passDone_iff tier (p.passes + 1) v
    exact ⟨fun h => visit.trans (if_pos (complete.mpr h)), fun h => visit.trans (if_neg (mt complete.mp h))⟩

end Sys2Proof.Machine
end

section
/-!
PROOF. RESET_MODULE (19, R466). A refusal is a branch of the command's own part. A COMPUTE or CLUSTER reset completes its
command because nothing that it does as it ends reaches the mailboxes or stops Almanac, so that the command still runs.
-/

namespace Sys2Proof.Machine

/-! A taken command that completes at once. -/

theorem mbxCommand_of_done {op : Nat} {sel : Args → Bool} {m : Fin 16} {s t : State} {body : Args → State → Reply}
    {st : Nat} {res : List Nat} (h : mbxTakes op sel m s = true) (done : body (s.mailbox m).accArgs s = .done st res t) :
    mbxCommand op sel m body s = .next (settle (mbxComplete m st res t)) := by
  rw [mbxCommand_of_mbxTakes body h, done]
  rfl

/-! RESET_MODULE, taken: refused, or a FULL reset. -/

theorem ne_zero_of_bits {x hi lo : Nat} (h : bits x hi lo ≠ 0) : x ≠ 0 := by
  rintro rfl
  simp [bits] at h

theorem exec_resetModuleFull_refused {m : Fin 16} {s : State}
    (h : mbxTakes 0x0901 (fun a => a.n 0 % 4 == 0) m s = true) (bad : s.arg m 0 ≠ 0) :
    exec (.resetModuleFull m) s = .next (settle (mbxComplete m St.argInvalid [] s)) := by
  change execResetModuleFull m s = _
  rw [execResetModuleFull, mbxCommand_of_done h (if_pos bad)]

theorem exec_resetModuleFull_of_zero {m : Fin 16} {s : State}
    (h : mbxTakes 0x0901 (fun a => a.n 0 % 4 == 0) m s = true) (zero : s.arg m 0 = 0) :
    exec (.resetModuleFull m) s = .next (settle (bootStart (fullReset s))) := by
  change execResetModuleFull m s = _
  rw [execResetModuleFull, mbxCommand_of_mbxTakes _ h]
  exact congrArg (fun r => finish (Reply.settle m r)) (if_neg (not_not.mpr zero))

theorem exec_resetModuleCompute_refused {m : Fin 16} {s : State}
    (h : mbxTakes 0x0901 (fun a => a.n 0 % 2 == 1) m s = true)
    (bad : s.arg m 0 % 4 = 3 ∨ s.boot.ready = false ∨ bits (s.arg m 0) 20 16 ≠ 0) :
    exec (.resetModuleCompute m) s = .next (settle (mbxComplete m St.argInvalid [] s)) := by
  rw [← Bool.not_eq_true'] at bad
  change execResetModuleCompute m s = _
  rw [execResetModuleCompute, mbxCommand_of_done h (if_pos bad)]

theorem exec_resetModuleCluster_refused {m : Fin 16} {s : State}
    (h : mbxTakes 0x0901 (fun a => a.n 0 % 4 == 2) m s = true)
    (bad : s.boot.ready = false ∨ s.boot.retired.getLsbD (bits (s.arg m 0) 20 16) = true ∨ bits (s.arg m 0) 9 8 ≠ 0) :
    exec (.resetModuleCluster m) s = .next (settle (mbxComplete m St.argInvalid [] s)) := by
  rw [← Bool.not_eq_true'] at bad
  change execResetModuleCluster m s = _
  rw [execResetModuleCluster, mbxCommand_of_done h (if_pos (bad.imp_right Or.symm))]

/-- The event ring is gone with a FULL reset, so that what `settle` does cannot reach the mailboxes. -/
theorem mailbox_settle_bootStart_fullReset (s : State) (k : Fin 16) :
    (settle (bootStart (fullReset s))).mailbox k = {} := by
  have ring : (bootStart (fullReset s)).ringOk := trivial
  rw [State.mailbox, (settle_settled _ ring).almMbx]
  exact Vector.getElem_replicate _

/-! What leaves a running command running. -/

section
variable (op : Nat) (m : Fin 16)

@[simp] theorem mbxRuns_msixSignal (v : Nat) (s : State) : mbxRuns op m (msixSignal v s) = mbxRuns op m s := by
  unfold msixSignal
  split
  · rfl
  · split <;> rfl

@[simp] theorem mbxRuns_setErr (i : Nat) (s : State) : mbxRuns op m (setErr i s) = mbxRuns op m s :=
  mbxRuns_msixSignal op m 17 _

@[simp] theorem mbxRuns_post (code : Nat) (ws : List Nat) (s : State) :
    mbxRuns op m (post code ws s) = mbxRuns op m s := by
  unfold post
  split
  · rfl
  · extract_lets a b
    have kept : mbxRuns op m { s with alm := b } = mbxRuns op m s := by
      unfold b
      split <;> rfl
    split
    · exact kept
    · exact (mbxRuns_setErr op m 0 _).trans kept

@[simp] theorem mbxRuns_peerResetDone (s : State) : mbxRuns op m (peerResetDone s) = mbxRuns op m s :=
  foldl_view (view := mbxRuns op m) (fun _ _ => by split <;> rfl) _ s

@[simp] theorem mbxRuns_zeroClusters (cs : List Nat) (s : State) :
    mbxRuns op m (cs.foldl (fun s c => zeroCluster c s) s) = mbxRuns op m s :=
  foldl_view (f := fun s c => zeroCluster c s) (view := mbxRuns op m) (fun _ _ => rfl) cs s

end

/-! The end of a COMPUTE reset. -/

/-- With the SRAM of every cluster zeroed, the module is released from a COMPUTE reset. -/
def computeRelease (s : State) : State :=
  let u := computeClear s
  { u with
    boot := { u.boot with reset := none }
    host := { u.host with retry := u.host.retry && u.sec.scrub.isSome } }

@[simp] theorem mbxRuns_computeRelease (op : Nat) (m : Fin 16) (s : State) :
    mbxRuns op m (computeRelease s) = mbxRuns op m s := rfl

theorem computeFinish_of_mbxRuns {m : Fin 16} {r : ResetRun} {s : State} (hr : s.boot.reset = some r)
    (hm : r.mbx = some m.val) (runs : mbxRuns 0x0901 m s = true) :
    let v := computeRelease ((List.range 32).foldl (fun s c => zeroCluster c s) s)
    computeFinish s =
      mbxComplete m St.ok [] (post Ev.resetDone [1, 0, v.cyc - r.since] (peerResetDone v)) := by
  intro v
  have still : mbxRuns 0x0901 m (post Ev.resetDone [1, 0, v.cyc - r.since] (peerResetDone v)) = true := by
    simpa [v] using runs
  unfold computeFinish
  rw [hr]
  dsimp only
  rw [hm]
  exact (dif_pos m.isLt).trans (if_pos still)

theorem exec_computeResetDone {r : ResetRun} {s : State} (hr : s.boot.reset = some r) (hs : r.scope = 1)
    (filled : s.tiers.fills.any (fun p => p.2 == .compute) = false) :
    exec .computeResetDone s = .next (settle (computeFinish s)) := by
  change execComputeResetDone s = _
  rw [execComputeResetDone, if_pos (by simp [hr, hs, filled])]
  rfl

/-! The end of a CLUSTER reset. -/

/-- Cluster `c` returns to service, its SRAM zeroed. -/
def clusterRelease (c : Nat) (s : State) : State :=
  let u := zeroCluster c s
  { u with
    boot := { u.boot with reset := none }
    strm := { u.strm with mcast := kvDel c u.strm.mcast } }

@[simp] theorem mbxRuns_clusterRelease (op : Nat) (m : Fin 16) (c : Nat) (s : State) :
    mbxRuns op m (clusterRelease c s) = mbxRuns op m s := rfl

theorem exec_clusterResetDone_of_mbxRuns {m : Fin 16} {r : ResetRun} {s : State} (hr : s.boot.reset = some r)
    (hm : r.mbx = some m.val) (runs : mbxRuns 0x0901 m s = true) (hs : r.scope = 2) (applied : r.waiting = false) :
    let v := clusterRelease r.cluster s
    exec .clusterResetDone s =
      .next (settle (mbxComplete m St.ok [] (post Ev.resetDone [2, r.cluster, v.cyc - r.since] v))) := by
  intro v
  have still : mbxRuns 0x0901 m (post Ev.resetDone [2, r.cluster, v.cyc - r.since] v) = true := by
    simpa [v] using runs
  change execClusterResetDone s = _
  rw [execClusterResetDone, hr]
  dsimp only
  rw [if_pos ⟨hs, applied⟩, hm]
  exact (dif_pos m.isLt).trans (congrArg finish (if_pos still))

/-- Settles O58: each refusal is a branch of the command's own part, and the command of a COMPUTE or CLUSTER reset still
runs when the reset has ended. -/
theorem resetModuleRule : Obligations.ResetModuleRule := by
  unfold Obligations.ResetModuleRule
  exact fun m s => ⟨
    fun h => ⟨fun bad => exec_resetModuleFull_refused h (bad.elim ne_zero_of_bits ne_zero_of_bits),
      exec_resetModuleFull_of_zero h⟩,
    mailbox_settle_bootStart_fullReset s, exec_resetModuleCompute_refused, exec_resetModuleCluster_refused,
    fun r hr hm runs => ⟨
      fun hs filled => (exec_computeResetDone hr hs filled).trans
        (congrArg finish (computeFinish_of_mbxRuns hr hm runs)),
      exec_clusterResetDone_of_mbxRuns hr hm runs⟩⟩

end Sys2Proof.Machine
end

section
/-!
PROOF. The power limit and the CCLK ceiling (21, R516). The command's own part has one branch for a refusal and one for
the two values. No step of a COMPUTE reset or of a tenant scrub touches the module hardware part of the state at all.
-/

namespace Sys2Proof.Machine

/-! SET_POWER_LIMIT, taken. -/

theorem exec_setPowerLimit_of_range {m : Fin 16} {s : State} (h : mbxTakes 0x0A06 anyArgs m s = true)
    (hl : 1200 ≤ s.arg m 0 ∧ s.arg m 0 ≤ 2600) (hc : 900 ≤ s.arg m 1 ∧ s.arg m 1 ≤ 2050 ∧ s.arg m 1 % 25 = 0) :
    exec (.setPowerLimit m) s = .next (settle (mbxComplete m St.ok []
      { s with pow := { s.pow with limit := s.arg m 0, ceil := s.arg m 1 } })) := by
  have inside : ¬ (s.arg m 0 < 1200 ∨ s.arg m 0 > 2600 ∨ s.arg m 1 < 900 ∨ s.arg m 1 > 2050 ∨ s.arg m 1 % 25 ≠ 0) := by
    omega
  change execSetPowerLimit m s = _
  rw [execSetPowerLimit, mbxCommand_of_done h (if_neg inside)]
  rfl

theorem exec_setPowerLimit_refused {m : Fin 16} {s : State} (h : mbxTakes 0x0A06 anyArgs m s = true)
    (outside : s.arg m 0 < 1200 ∨ 2600 < s.arg m 0 ∨ s.arg m 1 < 900 ∨ 2050 < s.arg m 1 ∨ s.arg m 1 % 25 ≠ 0) :
    exec (.setPowerLimit m) s = .next (settle (mbxComplete m St.argInvalid [] s)) := by
  change execSetPowerLimit m s = _
  rw [execSetPowerLimit, mbxCommand_of_done h (if_pos outside)]

/-! What leaves the module hardware as it is: events, mailboxes, links and slices. -/

@[simp] theorem post_pow (code : Nat) (ws : List Nat) (s : State) : (post code ws s).pow = s.pow :=
  (post_posted code ws (.refl s)).pow

@[simp] theorem mbxComplete_pow (m : Fin 16) (st : Nat) (res : List Nat) (s : State) :
    (mbxComplete m st res s).pow = s.pow :=
  (bounceSend_settled _ (.refl _)).pow.trans (msixSignal_posted _ (.refl _)).pow

@[simp] theorem mbxEndAll_pow (st : Nat) (keep : Option Nat) (s : State) : (mbxEndAll st keep s).pow = s.pow :=
  foldl_view (view := State.pow) (fun t m => by split <;> simp) _ s

@[simp] theorem abandonSlice_pow (s : State) : (abandonSlice s).pow = s.pow := by
  unfold abandonSlice
  split
  · rfl
  · split <;> simp

@[simp] theorem peerSay_pow (v : Nat) (s : State) : (peerSay v s).pow = s.pow :=
  foldl_view (view := State.pow) (fun t i => by split <;> rfl) _ s

/-! Tasks, collectives, stash copies and the checkpoint store. -/

theorem cancelWatch_pow (k : Task) (s : State) : (cancelWatch k s).pow = s.pow := by
  unfold cancelWatch
  split
  · split <;> rfl
  · rfl

@[simp] theorem sendPkts_pow (l : List Inject) (s : State) : (sendPkts l s).pow = s.pow := rfl

theorem collAbort_pow (t st : Nat) (s : State) : (collAbort t st s).pow = s.pow := by
  unfold collAbort
  split
  · rfl
  · dsimp only
    split <;> split <;> simp

@[simp] theorem leaveOthers_pow (s : State) : (leaveOthers s).pow = s.pow :=
  (foldl_view (view := State.pow) (fun t _ => collAbort_pow _ _ t) _ _).trans
    (foldl_view (view := State.pow) (fun t _ => cancelWatch_pow _ t) _ _)

theorem copyPartly_pow (unit : Nat) (x : StashCopy) (size : Nat) (s : State) : (copyPartly unit x size s).pow = s.pow := by
  unfold copyPartly
  split
  · rfl
  · refine foldl_view (view := State.pow) (fun t p => ?_) _ s
    exact (copyBytes_wrote _ x p.1 _ (draw t).2).pow

@[simp] theorem stashAbandon_pow (s : State) : (stashAbandon s).pow = s.pow :=
  foldl_view (view := State.pow) (fun t p => by
    split
    · exact copyPartly_pow _ _ _ t
    · rfl) _ s

@[simp] theorem ckptDrop_pow (s : State) : (ckptDrop s).pow = s.pow := by
  unfold ckptDrop
  split <;> rfl

@[simp] theorem mirrorAbandon_pow (cause : Nat) (s : State) : (mirrorAbandon cause s).pow = s.pow := by
  unfold mirrorAbandon
  dsimp only
  split <;> split <;> simp

/-! The COMPUTE reset (19, Table 19-7). -/

@[simp] theorem computeDiscard_pow (s : State) : (computeDiscard s).pow = s.pow := by
  simp [computeDiscard, storeReset, ephemReset, spectroReset, photoReset, numReset, stashReset, merReset]

@[simp] theorem computeStart_pow (mbx : Option Nat) (fills : Nat) (s : State) :
    (computeStart mbx fills s).pow = s.pow := by
  unfold computeStart
  split
  · rfl
  · dsimp only
    split <;> split <;> simp [peerResetting]

@[simp] theorem computeRelease_pow (s : State) : (computeRelease s).pow = s.pow := rfl

@[simp] theorem zeroClusters_pow (cs : List Nat) (s : State) :
    (cs.foldl (fun s c => zeroCluster c s) s).pow = s.pow :=
  foldl_view (f := fun s c => zeroCluster c s) (view := State.pow) (fun _ _ => rfl) cs s

/-- Completing the command of a mailbox that waits adds nothing to what the release leaves of the module hardware. -/
theorem computeFinish_pow (s : State) : (computeFinish s).pow = s.pow := by
  unfold computeFinish
  split
  · rfl
  next r _ =>
    have done (since : Nat) : (post Ev.resetDone [1, 0, since] (peerResetDone (computeRelease
        ((List.range 32).foldl (fun s c => zeroCluster c s) s)))).pow = s.pow := by
      simp [peerResetDone]
    dsimp only
    split
    · exact done _
    · split
      · split
        · exact (mbxComplete_pow _ _ _ _).trans (done _)
        · exact done _
      · exact done _

/-! The tenant scrub (15, Table 15-15). -/

@[simp] theorem bounceFlush_pow (s : State) : (bounceFlush s).pow = s.pow := (bounceFlush_settled s).pow

theorem scrubStart_pow (trigger : ScrubTrigger) (target : Mode) (tdisp : Tdisp) (rings : Option Bounce) (s : State) :
    (scrubStart trigger target tdisp rings s).pow = s.pow := by
  unfold scrubStart
  split
  · rfl
  · simp

@[simp] theorem scrubClear_pow (s : State) : (scrubClear s).pow = s.pow := rfl

@[simp] theorem scrubCommit_pow (x : Scrub) (s : State) : (scrubCommit x s).pow = s.pow := by
  unfold scrubCommit
  dsimp only
  split
  · split <;> rfl
  · rfl

@[simp] theorem stopMonitors_pow (cause : Nat) (s : State) : (stopMonitors cause s).pow = s.pow :=
  post_pow _ _ _

@[simp] theorem scrubAnswer_pow (t : ScrubTrigger) (s : State) : (scrubAnswer t s).pow = s.pow := by
  cases t <;> rfl

theorem scrubEnd_pow (x : Scrub) (s : State) : (scrubEnd x s).pow = s.pow := by
  unfold scrubEnd
  dsimp only
  split <;> simp

/-- Settles O56: the command by its two branches; a COMPUTE reset and a tenant scrub keep the two values because they keep
the whole module hardware part. -/
theorem powerLimitRule : Obligations.PowerLimitRule := by
  unfold Obligations.PowerLimitRule
  have kept {s t : State} (h : t.pow = s.pow) : t.pow.limit = s.pow.limit ∧ t.pow.ceil = s.pow.ceil :=
    ⟨congrArg Power.limit h, congrArg Power.ceil h⟩
  intro s
  obtain ⟨finishLimit, finishCeil⟩ := kept (computeFinish_pow s)
  exact ⟨
    fun m h => ⟨fun ⟨hl, hc⟩ => exec_setPowerLimit_of_range h hl hc, exec_setPowerLimit_refused h⟩,
    rfl, rfl,
    fun mbx fills => kept (computeStart_pow mbx fills s),
    finishLimit, finishCeil,
    fun trigger target tdisp rings => kept (scrubStart_pow trigger target tdisp rings s),
    fun x => kept (scrubEnd_pow x s)⟩

end Sys2Proof.Machine
end
section
/-!
PROOF. The invariant of every step (O5), and that every command answers (O2 to O4). For each function over the state,
  one
lemma says that it keeps the invariant, in the shape of its definition: what a branch does is a chain of the lemmas
  about
the functions that it calls. For each command, `Answers` says that it ends in a settled state that keeps the invariant.
-/

namespace Sys2Proof.Machine

/-! How a definition is put together: branches, answers of a function, folds. -/

theorem Inv.ite {a b : State} {c : Prop} [Decidable c] (ha : Inv a) (hb : Inv b) : Inv (if c then a else b) := by
  split <;> assumption

/-- A step that is made where a condition holds. -/
theorem Inv.when {a b : State} {c : Prop} [Decidable c] (hb : Inv b) (ha : Inv b → Inv a) : Inv (if c then a else b) :=
  .ite (ha hb) hb

/-- A step that is made but where a condition holds. -/
theorem Inv.unless {a b : State} {c : Prop} [Decidable c] (ha : Inv a) (hb : Inv a → Inv b) : Inv (if c then a else b)
    :=
  .ite ha (hb ha)

theorem Inv.ite_snd {α : Type} {a b : α × State} {c : Prop} [Decidable c] (ha : Inv a.2) (hb : Inv b.2) :
    Inv (if c then a else b).2 := by
  split <;> assumption

theorem Inv.ite_snd_snd {α β : Type} {a b : α × β × State} {c : Prop} [Decidable c] (ha : Inv a.2.2) (hb : Inv b.2.2) :
    Inv (if c then a else b).2.2 := by
  split <;> assumption

theorem Inv.ite_moving {a b : Moving} {c : Prop} [Decidable c] (ha : Inv a.s) (hb : Inv b.s) :
    Inv (if c then a else b).s := by
  split <;> assumption

theorem Inv.ite_snd_moving {α : Type} {a b : α × Moving} {c : Prop} [Decidable c] (ha : Inv a.2.s) (hb : Inv b.2.s) :
    Inv (if c then a else b).2.s := by
  split <;> assumption

theorem Inv.ite_run {a b : OptRun} {c : Prop} [Decidable c] (ha : Inv a.mv.s) (hb : Inv b.mv.s) :
    Inv (if c then a else b).mv.s := by
  split <;> assumption

theorem Inv.ite_fst_run {α : Type} {a b : OptRun × α} {c : Prop} [Decidable c] (ha : Inv a.1.mv.s) (hb : Inv b.1.mv.s) :
    Inv (if c then a else b).1.mv.s := by
  split <;> assumption

theorem Inv.of_pair {α : Type} {r : α × State} {a : α} {u : State} (h : Inv r.2) (e : r = (a, u)) : Inv u := by
  subst e
  exact h

theorem Inv.dite {c : Prop} [Decidable c] {a : c → State} {b : ¬ c → State} (ha : ∀ x, Inv (a x))
    (hb : ∀ x, Inv (b x)) :
    Inv (if x : c then a x else b x) := by
  split
  · exact ha _
  · exact hb _

theorem foldl_inv {α : Type} {f : State → α → State} {l : List α} {s : State} (hf : ∀ u a, Inv u → Inv (f u a))
    (hs : Inv s) : Inv (l.foldl f s) :=
  List.foldlRecOn l f hs fun u hu a _ => hf u a hu

theorem foldl_snd_inv {α β : Type} {f : β × State → α → β × State} {l : List α} {p : β × State}
    (hf : ∀ q a, Inv q.2 → Inv (f q a).2) (hp : Inv p.2) : Inv (l.foldl f p).2 :=
  List.foldlRecOn l f (motive := fun q => Inv q.2) hp fun q hq a _ => hf q a hq

theorem foldl_snd_snd_inv {α β γ : Type} {f : β × γ × State → α → β × γ × State} {l : List α} {p : β × γ × State}
    (hf : ∀ q a, Inv q.2.2 → Inv (f q a).2.2) (hp : Inv p.2.2) : Inv (l.foldl f p).2.2 :=
  List.foldlRecOn l f (motive := fun q => Inv q.2.2) hp fun q hq a _ => hf q a hq

theorem foldl_fst_inv {α β : Type} {f : State × β → α → State × β} {l : List α} {p : State × β}
    (hf : ∀ q a, Inv q.1 → Inv (f q a).1) (hp : Inv p.1) : Inv (l.foldl f p).1 :=
  List.foldlRecOn l f (motive := fun q => Inv q.1) hp fun q hq a _ => hf q a hq

theorem foldl_moving_inv {α : Type} {f : Moving → α → Moving} {l : List α} {m : Moving}
    (hf : ∀ q a, Inv q.s → Inv (f q a).s) (hm : Inv m.s) : Inv (l.foldl f m).s :=
  List.foldlRecOn l f (motive := fun q => Inv q.s) hm fun q hq a _ => hf q a hq

theorem foldl_run_inv {α : Type} {f : OptRun → α → OptRun} {l : List α} {x : OptRun}
    (hf : ∀ q a, Inv q.mv.s → Inv (f q a).mv.s) (hx : Inv x.mv.s) : Inv (l.foldl f x).mv.s :=
  List.foldlRecOn l f (motive := fun q => Inv q.mv.s) hx fun q hq a _ => hf q a hq

/-! Updates of the state's parts. -/

theorem Inv.of_eq {s t : State} (hs : Inv s) (mem : t.mem.wf = true) (log : t.host.bar2Log = s.host.bar2Log)
    (base : t.host.winBase = s.host.winBase) (ring : t.alm.ring = s.alm.ring) : Inv t := by
  refine ⟨mem, ?_, ?_⟩
  · unfold State.windowOk
    rw [log, base]
    exact hs.window
  · unfold State.ringOk
    rw [ring]
    exact hs.ring

/-- Where the event ring is removed, nothing is asked of it. -/
theorem Inv.of_ring_none {s t : State} (hs : Inv s) (mem : t.mem = s.mem) (host : t.host = s.host)
    (ring : t.alm.ring = none) : Inv t := by
  refine ⟨mem ▸ hs.mem, ?_, ?_⟩
  · unfold State.windowOk
    rw [host]
    exact hs.window
  · unfold State.ringOk
    rw [ring]
    trivial

theorem Posted.inv {s t : State} (h : Posted s t) (hs : Inv s) : Inv t :=
  hs.of_eq (h.mem ▸ hs.mem) h.hostBar2Log h.hostWinBase h.almRing

theorem Dram.inv {s t : State} (h : Dram s t) (hs : Inv s) : Inv t :=
  hs.of_eq (h.wf hs.mem) h.hostBar2Log h.hostWinBase h.almRing

theorem Wrote.inv {s t : State} (h : Wrote s t) (hs : Inv s) : Inv t :=
  hs.of_eq (h.wf hs.mem) h.hostBar2Log h.hostWinBase h.almRing

theorem Settled.inv {s t : State} (h : Settled s t) (hs : Inv s) : Inv t :=
  hs.of_eq (h.wf hs.mem) h.hostBar2Log h.hostWinBase h.almRing

section
variable {s : State} {pending : List Instr} {sent : List Out} {free : Nat} {sems : KV Sem} {ctr : Ctrs} {sec : Sec}
  {mer : Meridian} {prog : KV Program} {strm : Streaming} {tiers : Tiers} {rel : Rel} {time : TimeS} {sens : Sens}
  {boot : Boot} {pow : Power} {fab : Fabric} {num : Numerics} {stash : Stash} {phot : Photo} {spec : Spectro}
  {ephem : Ephem} {store : Store}

/-- The parts of the state that the invariant does not speak of. -/
theorem Inv.set (hs : Inv s) : Inv ⟨pending, sent, free, s.mem, sems, ctr, s.alm, s.host, sec, mer, prog, strm, tiers,
    rel,
    time, sens, boot, pow, fab, num, stash, phot, spec, ephem, store⟩ :=
  hs.of_eq hs.mem rfl rfl rfl

/-- Almanac's part but for the event ring. -/
theorem Inv.setAlm {alm : Almanac} (hs : Inv s) (ring : alm.ring = s.alm.ring := by rfl) : Inv
    ⟨pending, sent, free, s.mem,
    sems, ctr, alm, s.host, sec, mer, prog, strm, tiers, rel, time, sens, boot, pow, fab, num, stash, phot, spec, ephem,
    store⟩ :=
  hs.of_eq hs.mem rfl rfl ring

/-- The host interface but for the aperture window. -/
theorem Inv.setHost {host : HostIf} (hs : Inv s) (log : host.bar2Log = s.host.bar2Log := by rfl)
    (base : host.winBase = s.host.winBase := by rfl) : Inv ⟨pending, sent, free, s.mem, sems, ctr, s.alm, host, sec,
      mer,
    prog, strm, tiers, rel, time, sens, boot, pow, fab, num, stash, phot, spec, ephem, store⟩ :=
  hs.of_eq hs.mem log base rfl

/-- Bytes of memory. -/
theorem Inv.write {a : Nat} {bs : List Byte} (hs : Inv s) : Inv ⟨pending, sent, free, s.mem.write a bs, sems, ctr,
    s.alm,
    s.host, sec, mer, prog, strm, tiers, rel, time, sens, boot, pow, fab, num, stash, phot, spec, ephem, store⟩ :=
  hs.of_eq (Memory.wf_write bs a hs.mem) rfl rfl rfl

end

/-! A command's own part, and the outcome of a command. -/

/-- The state in which a command's own part ends keeps the invariant. -/
def Reply.Inv : Reply → Prop
  | .done _ _ s => Machine.Inv s
  | .run s => Machine.Inv s
  | .gone s => Machine.Inv s

theorem Reply.Inv.done {st : Nat} {res : List Nat} {s : State} (hs : Machine.Inv s) : (Reply.done st res s).Inv := hs

theorem Reply.Inv.run {s : State} (hs : Machine.Inv s) : (Reply.run s).Inv := hs

theorem Reply.Inv.gone {s : State} (hs : Machine.Inv s) : (Reply.gone s).Inv := hs

theorem Reply.Inv.ite {a b : Reply} {c : Prop} [Decidable c] (ha : a.Inv) (hb : b.Inv) : (if c then a else b).Inv := by
  split <;> assumption

/-- What the read of a communicator's record leaves. -/
def CommRead : (Nat × Comm × State) ⊕ Reply → Prop
  | .inl (_, _, s) => Machine.Inv s
  | .inr r => r.Inv

/-- From `s` a command ends in a settled state, before whose settling the invariant held if it held in `s`. -/
def Answers (s : State) (o : Host.Outcome State Fault Refusal) : Prop := ∃ u, o = finish u ∧ (Inv s → Inv u)

namespace Answers

variable {s : State}

theorem finish {u : State} (hu : Inv s → Inv u) : Answers s (Machine.finish u) := ⟨u, rfl, hu⟩

theorem ite {a b : Host.Outcome State Fault Refusal} {c : Prop} [Decidable c] (ha : Answers s a) (hb : Answers s b) :
    Answers s (if c then a else b) := by
  split <;> assumption

theorem dite {c : Prop} [Decidable c] {a : c → Host.Outcome State Fault Refusal}
    {b : ¬ c → Host.Outcome State Fault Refusal} (ha : ∀ x, Answers s (a x)) (hb : ∀ x, Answers s (b x)) :
    Answers s (if x : c then a x else b x) := by
  split
  · exact ha _
  · exact hb _

end Answers

/-! The named operations over the state. -/

theorem emit_inv {o s} (hs : Inv s) : Inv (emit o s) :=
  (emit_posted _ (.refl s)).inv hs

theorem count_inv {c i n s} (hs : Inv s) : Inv (count c i n s) :=
  (count_dram _ _ _ (.refl s)).inv hs

theorem countHigh_inv {c i n s} (hs : Inv s) : Inv (countHigh c i n s) := .set hs

theorem draw_inv {s} (hs : Inv s) : Inv (draw s).2 := .set hs

theorem msixSignal_inv {v s} (hs : Inv s) : Inv (msixSignal v s) :=
  (msixSignal_posted _ (.refl s)).inv hs

theorem setErr_inv {i s} (hs : Inv s) : Inv (setErr i s) :=
  (setErr_posted _ (.refl s)).inv hs

theorem setMbxDone_inv {m s} (hs : Inv s) : Inv (setMbxDone m s) :=
  (setMbxDone_posted _ (.refl s)).inv hs

theorem post_inv {code ws s} (hs : Inv s) : Inv (post code ws s) :=
  (post_posted _ _ (.refl s)).inv hs

theorem postFatal_inv {code ws s} (hs : Inv s) : Inv (postFatal code ws s) :=
  (postFatal_posted _ _ (.refl s)).inv hs

theorem logErr_inv {e s} (hs : Inv s) : Inv (logErr e s) :=
  (logErr_dram _ (.refl s)).inv hs

theorem setFrame_inv {k f s} (hs : Inv s) : Inv (setFrame k f s) :=
  (setFrame_dram _ _ (.refl s)).inv hs

theorem failChannel_inv {chan cause s} (hs : Inv s) : Inv (failChannel chan cause s) :=
  (failChannel_dram _ _ (.refl s)).inv hs

theorem strongDecision_inv {a s} (hs : Inv s) : Inv (strongDecision a s) :=
  (strongDecision_dram _ (.refl s)).inv hs

theorem sectorRead_inv {a s} (hs : Inv s) : Inv (sectorRead a s) :=
  (sectorRead_dram _ (.refl s)).inv hs

theorem channelReads_inv {a n s} (hs : Inv s) : Inv (channelReads a n s) :=
  (channelReads_dram _ _ (.refl s)).inv hs

theorem drainQueue_inv {fuel chan cidx n s} (hs : Inv s) : Inv (drainQueue fuel chan cidx n s) :=
  (drainQueue_dram _ _ _ _ (.refl s)).inv hs

theorem sramLost_inv {w i n a f s} (hs : Inv s) : Inv (sramLost w i n a f s) :=
  (sramLost_dram _ _ _ _ _ (.refl s)).inv hs

theorem sramReads_inv {a n s} (hs : Inv s) : Inv (sramReads a n s) :=
  (sramReads_dram _ _ (.refl s)).inv hs

theorem semAdd_inv {i n s} (hs : Inv s) : Inv (semAdd i n s).2 :=
  (semAdd_wrote _ _ (.refl s)).inv hs

theorem semSet_inv {i v s} (hs : Inv s) : Inv (semSet i v s) :=
  (semSet_wrote _ _ (.refl s)).inv hs

theorem devWrite_inv {a bs s} (hs : Inv s) : Inv (devWrite a bs s).2 :=
  (devWrite_wrote _ _ (.refl s)).inv hs

theorem devPut_inv {a bs s} (hs : Inv s) : Inv (devPut a bs s) :=
  (devPut_wrote _ _ (.refl s)).inv hs

theorem devRead_inv {a n s} (hs : Inv s) : Inv (devRead a n s).2.2 :=
  (devRead_dram _ _ (.refl s)).inv hs

theorem poisonRange_inv {a n s} (hs : Inv s) : Inv (poisonRange a n s) :=
  (poisonRange_wrote _ _ (.refl s)).inv hs

theorem poisonOut_inv {a n s} (hs : Inv s) : Inv (poisonOut a n s) :=
  (poisonOut_wrote _ _ (.refl s)).inv hs

theorem fillTier_inv {t s} (hs : Inv s) : Inv (fillTier t s) :=
  hs.of_eq (fillTier_wf t hs.mem) rfl rfl rfl

theorem bounceFlush_inv {s} (hs : Inv s) : Inv (bounceFlush s) :=
  (bounceFlush_settled s).inv hs

theorem bounceSend_inv {r s} (hs : Inv s) : Inv (bounceSend r s) :=
  (bounceSend_settled _ (.refl s)).inv hs

/-! The mailbox protocol (16). -/

theorem setMbx_inv {m f s} (hs : Inv s) : Inv (setMbx m f s) :=
  .setAlm hs

theorem mbxComplete_inv {m status res s} (hs : Inv s) : Inv (mbxComplete m status res s) :=
  bounceSend_inv (msixSignal_inv (setMbxDone_inv (.setAlm (setMbx_inv hs))))

theorem Reply.settle_inv {m} {r : Reply} (hr : r.Inv) : Machine.Inv (r.settle m) := by
  cases r with
  | done st res s => exact mbxComplete_inv hr
  | run s =>
    unfold Reply.settle
    exact setMbx_inv hr
  | gone s => exact hr

theorem mbxCommand_answers {op sel m body s} (hb : ∀ a u, Inv u → (body a u).Inv) :
    Answers s (mbxCommand op sel m body s) := by
  unfold mbxCommand
  refine .ite ?_ (.finish id)
  split
  · exact .finish id
  · split
    · exact .finish fun hs => mbxComplete_inv hs
    · exact .finish fun hs => Reply.settle_inv (hb _ _ hs)

theorem setProgress_inv {m n s} (hs : Inv s) : Inv (setProgress m n s) :=
  Inv.dite (fun _ => setMbx_inv hs) (fun _ => hs)

theorem bufFault_inv {f s} (hs : Inv s) : (bufFault f s).Inv :=
  .done hs

theorem replyBytes_inv {a len align bs more s} (hs : Inv s) : (replyBytes a len align bs more s).Inv := by
  unfold replyBytes
  split
  · exact bufFault_inv hs
  · exact Reply.Inv.ite (.done hs) (.done (devPut_inv hs))

theorem readBuffer_inv {a n align s k} (hs : Inv s) (hk : ∀ bs u, Inv u → (k bs u).Inv) :
    (readBuffer a n align s k).Inv := by
  unfold readBuffer
  dsimp only
  split
  · exact bufFault_inv hs
  · split
    · exact .done (devRead_inv hs)
    · exact hk _ _ (devRead_inv hs)

theorem mbxRefuse_inv {m v s} (hs : Inv s) : Inv (mbxRefuse m v s) :=
  post_inv (setErr_inv hs)

theorem mbxDoorbell_inv {m v fromPort s} (hs : Inv s) : Inv (mbxDoorbell m v fromPort s) := by
  unfold mbxDoorbell
  dsimp only
  refine Inv.ite (Inv.ite (.setAlm hs) hs) (Inv.ite (mbxRefuse_inv hs) ?_)
  split
  · exact mbxComplete_inv (setMbx_inv hs)
  · exact Inv.ite (setMbx_inv hs) (.setAlm (setMbx_inv hs))

theorem mbxEndAll_inv {status keep s} (hs : Inv s) : Inv (mbxEndAll status keep s) :=
  foldl_inv (fun _ _ hu => Inv.ite (mbxComplete_inv hu) hu) hs

theorem mbxRegWrite_inv {m o width v s} (hs : Inv s) : Inv (mbxRegWrite m o width v s) :=
  Inv.ite hs (Inv.ite (setMbx_inv hs) (Inv.ite (setMbx_inv hs) hs))

/-! The general commands, the flag registers and the timers of Almanac (16). -/

theorem execGetDeviceInfo_answers {m s} : Answers s (execGetDeviceInfo m s) :=
  mbxCommand_answers fun _ _ hs => .done hs

theorem execNop_answers {m s} : Answers s (execNop m s) :=
  mbxCommand_answers fun _ _ hs => .done hs

theorem region_of_bufCheck {a n align : Nat} {s : State} (h : bufCheck a n align s = none) :
    a % align = 0 ∧ ∃ r, (r = Region.gddr7 ∨ r = Region.lpddr ∨ r = Region.hostWin) ∧ r.lo ≤ a ∧ a + n ≤ r.hi := by
  unfold bufCheck at h
  split at h
  · cases h
  next al =>
    refine ⟨by simpa [aligned] using al, ?_⟩
    cases e : firstReserved a (max n 1) with
    | some x => simp [e] at h
    | none =>
      cases at_ : regionOf a with
      | none => simp [e, at_] at h
      | some r =>
        have lo : r.lo ≤ a := by
          have := List.find?_some at_
          simp only [Bool.and_eq_true, decide_eq_true_eq] at this
          exact this.1
        refine ⟨r, ?_, lo, ?_⟩ <;> cases r <;> simp_all

theorem execSetEventRing_answers {m s} : Answers s (execSetEventRing m s) := by
  unfold execSetEventRing
  dsimp only
  refine mbxCommand_answers fun _ _ hs => ?_
  split
  · exact .done hs
  next size =>
    split
    · exact bufFault_inv hs
    next free =>
      obtain ⟨al, r, kind, lo, hi⟩ := region_of_bufCheck free
      exact .done ⟨hs.mem, hs.window, by omega, by omega, al, r, kind, lo, hi⟩

theorem counterWords_inv {c s} (hs : Inv s) : Inv (counterWords c s).2 := by
  unfold counterWords
  dsimp only
  exact foldl_snd_inv (fun _ _ hu => Inv.ite_snd (draw_inv hu) hu) hs

theorem tableWords_inv {t s} (hs : Inv s) : Inv (tableWords t s).2 := by
  unfold tableWords
  dsimp only
  exact foldl_snd_inv (fun _ _ hu => counterWords_inv hu) hs

theorem readCounters_inv {t a s} (hs : Inv s) : (readCounters t a s).Inv := by
  unfold readCounters
  dsimp only
  have wrote : (replyBytes (a.n 0) (a.n 1) 1 (wordBytes (tableWords t s).1) [] (tableWords t s).2).Inv :=
    replyBytes_inv (tableWords_inv hs)
  split
  next e => exact .done (.ite (show (Reply.done _ _ _).Inv from e ▸ wrote) hs)
  · exact wrote

theorem execReadSchedCounters_answers {m s} : Answers s (execReadSchedCounters m s) :=
  mbxCommand_answers fun _ _ hs => readCounters_inv hs

theorem execReadStreamCounters_answers {m s} : Answers s (execReadStreamCounters m s) :=
  mbxCommand_answers fun _ _ hs => readCounters_inv hs

theorem execReadMemoryCounters_answers {m s} : Answers s (execReadMemoryCounters m s) :=
  mbxCommand_answers fun _ _ hs => readCounters_inv hs

theorem execReadStashCounters_answers {m s} : Answers s (execReadStashCounters m s) :=
  mbxCommand_answers fun _ _ hs => readCounters_inv hs

theorem execReadNumericCounters_answers {m s} : Answers s (execReadNumericCounters m s) :=
  mbxCommand_answers fun _ _ hs => readCounters_inv hs

theorem execReadPhotometerCounters_answers {m s} : Answers s (execReadPhotometerCounters m s) :=
  mbxCommand_answers fun _ _ hs => readCounters_inv hs

theorem execReadSpectroCounters_answers {m s} : Answers s (execReadSpectroCounters m s) :=
  mbxCommand_answers fun _ _ hs => readCounters_inv hs

theorem execReadEphemerisCounters_answers {m s} : Answers s (execReadEphemerisCounters m s) :=
  mbxCommand_answers fun _ _ hs => readCounters_inv hs

theorem execReadFabricCounters_answers {m s} : Answers s (execReadFabricCounters m s) :=
  mbxCommand_answers fun _ _ hs => readCounters_inv hs

theorem execReadCollectiveCounters_answers {m s} : Answers s (execReadCollectiveCounters m s) :=
  mbxCommand_answers fun _ _ hs => readCounters_inv hs

theorem execReadHostCounters_answers {m s} : Answers s (execReadHostCounters m s) :=
  mbxCommand_answers fun _ _ hs => readCounters_inv hs

theorem execReadReliabilityCounters_answers {m s} : Answers s (execReadReliabilityCounters m s) :=
  mbxCommand_answers fun _ _ hs => readCounters_inv hs

theorem clearMbxDone_inv {v meets s} (hs : Inv s) : Inv (clearMbxDone v meets s) :=
  .setAlm hs

theorem clearErrSummary_inv {v meets s} (hs : Inv s) : Inv (clearErrSummary v meets s) :=
  .setAlm hs

theorem refuseWrite_inv {s} (hs : Inv s) : Inv (refuseWrite s) :=
  setErr_inv hs

theorem writeEvtHead_inv {v s} (hs : Inv s) : Inv (writeEvtHead v s) :=
  Inv.ite (.setAlm hs) (refuseWrite_inv hs)

theorem execAlmanacHeartbeatTick_answers {s} : Answers s (execAlmanacHeartbeatTick s) :=
  Answers.ite (.finish fun hs => .setAlm hs) (.finish fun hs => hs)

theorem execAlmanacFailed_answers {s} : Answers s (execAlmanacFailed s) :=
  Answers.ite (.finish fun hs => setErr_inv (.setAlm hs)) (.finish fun hs => hs)

theorem cplSignal_inv {vec moder s} (hs : Inv s) : Inv (cplSignal vec moder s) := by
  unfold cplSignal
  dsimp only
  refine Inv.ite hs ?_
  split
  · exact Inv.ite (.setHost hs) (msixSignal_inv (.setHost hs))
  · exact msixSignal_inv (.setHost hs)

theorem execMsixModerationExpiry_answers {vec s} : Answers s (execMsixModerationExpiry vec s) :=
  Answers.ite (.finish fun hs => msixSignal_inv (.setHost hs)) (.finish fun hs => hs)

/-! Packets on the wire (13). -/

theorem setPortAt_inv {i f s} (hs : Inv s) : Inv (setPortAt i f s) :=
  .set hs

theorem sendCodeword_inv {i lpos fs s} (hs : Inv s) : Inv (sendCodeword i lpos fs s) :=
  emit_inv (setPortAt_inv hs)

theorem sendCodewords_inv {n i} : ∀ {s}, Inv s → Inv (sendCodewords n i s) := by
  induction n with
  | zero => exact id
  | succ n ih =>
    intro s hs
    unfold sendCodewords
    split
    · exact hs
    · exact ih (sendCodeword_inv (setPortAt_inv hs))

theorem linkFlit_inv {i kind nak state s} (hs : Inv s) : Inv (linkFlit i kind nak state s) :=
  sendCodeword_inv (setPortAt_inv hs)

theorem linkState_inv {i v s} (hs : Inv s) : Inv (linkState i v s) :=
  linkFlit_inv hs

/-! The store's media (18). -/

theorem setStore_inv {f s} (hs : Inv s) : Inv (setStore f s) :=
  .set hs

theorem programmed_inv {n blocks s} (hs : Inv s) : Inv (programmed n blocks s) :=
  Inv.ite (post_inv (.set hs)) (.set hs)

theorem erased_inv {blocks s} (hs : Inv s) : Inv (erased blocks s) :=
  setStore_inv hs

theorem readNandPage_inv {gen p s} (hs : Inv s) : Inv (readNandPage gen p s).1 := by
  unfold readNandPage
  dsimp only
  exact Inv.ite hs (post_inv (setStore_inv hs))

theorem execNandFrameRead_answers {gen block frame s} : Answers s (execNandFrameRead gen block frame s) := by
  unfold execNandFrameRead
  dsimp only
  exact Answers.ite (.finish fun hs => hs) (.finish fun hs => setStore_inv
    (foldl_fst_inv (fun _ _ hu => readNandPage_inv hu) hs))

theorem execStoreBlockRefresh_answers {block into live s} : Answers s (execStoreBlockRefresh block into live s) :=
  Answers.ite (.finish fun hs => setStore_inv (erased_inv (programmed_inv hs))) (.finish fun hs => hs)

theorem execNandProgramFail_answers {block cause s} : Answers s (execNandProgramFail block cause s) :=
  Answers.ite (.finish fun hs => hs) (.finish fun hs => Inv.ite (post_inv (post_inv (setStore_inv hs)))
    (post_inv (setStore_inv hs)))

theorem execStoreDayTick_answers {s} : Answers s (execStoreDayTick s) :=
  Answers.ite (.finish fun hs => setStore_inv hs) (.finish fun hs => hs)

theorem execStoreReclaimDone_answers {blocks s} : Answers s (execStoreReclaimDone blocks s) :=
  Answers.ite (.finish fun hs => erased_inv (setStore_inv hs)) (.finish fun hs => hs)

/-! The reset scopes (19). -/

theorem storeFail_inv {s} (hs : Inv s) : Inv (storeFail s) :=
  setStore_inv hs

theorem storeMount_inv {s} (hs : Inv s) : Inv (storeMount s) :=
  setStore_inv hs

theorem peerSay_inv {v s} (hs : Inv s) : Inv (peerSay v s) :=
  foldl_inv (fun _ _ hu => Inv.ite (linkState_inv hu) hu) hs

theorem peerResetting_inv {s} (hs : Inv s) : Inv (peerResetting s) :=
  peerSay_inv hs

theorem peerResetDone_inv {s} (hs : Inv s) : Inv (peerResetDone s) :=
  peerSay_inv hs

theorem zeroCluster_inv {c s} (hs : Inv s) : Inv (zeroCluster c s) :=
  hs.of_eq (Memory.wf_clear _ _ (Memory.wf_clear _ _ hs.mem)) rfl rfl rfl

theorem startFill_inv {t why s} (hs : Inv s) : Inv (startFill t why s) :=
  .set hs

theorem alertPin_inv {was s} (hs : Inv s) : Inv (alertPin was s) :=
  Inv.ite hs (emit_inv hs)

theorem abandonSlice_inv {s} (hs : Inv s) : Inv (abandonSlice s) := by
  unfold abandonSlice
  dsimp only
  split
  · exact hs
  · exact post_inv (.set (Inv.ite (emit_inv hs) hs))

theorem fullReset_inv {s} (hs : Inv s) : Inv (fullReset s) :=
  have window : State.reset.windowOk := by unfold State.windowOk; decide
  ⟨Memory.wf_filter _ hs.mem, window, trivial⟩

theorem tryRails_inv {s} (hs : Inv s) : Inv (tryRails s) :=
  Inv.ite (.set hs) hs

theorem digestStep_inv {f s} (hs : Inv s) (hf : ∀ u, Inv u → Inv (f u)) : Inv (digestStep f s) :=
  .ite (post_inv (.set (hf _ hs))) (hf _ hs)

/-! The Chronograph, the sensors and the monitors (20). -/

theorem tclkCycle_inv {s} (hs : Inv s) : Inv (tclkCycle s) :=
  .set hs

theorem spoilIntervals_inv {before s} (hs : Inv s) : Inv (spoilIntervals before s) :=
  .set hs

theorem stepTo_inv {c delta cause s} (hs : Inv s) : Inv (stepTo c delta cause s) :=
  post_inv (spoilIntervals_inv (.set (.set hs)))

theorem execSetTimeSourceLoad_answers {m s} : Answers s (execSetTimeSourceLoad m s) :=
  mbxCommand_answers fun _ _ hs => Reply.Inv.ite (.done hs) (.done (.set (stepTo_inv hs)))

theorem execSetTimeSourcePps_answers {m s} : Answers s (execSetTimeSourcePps m s) :=
  mbxCommand_answers fun _ _ hs => Reply.Inv.ite (.done hs) (.done (Inv.ite (.set (.set hs)) (.set hs)))

theorem execReadTimeStatus_answers {m s} : Answers s (execReadTimeStatus m s) :=
  mbxCommand_answers fun _ _ hs => .done hs

theorem acceptEdge_inv {stamp o oRate s} (hs : Inv s) : Inv (acceptEdge stamp o oRate s) := by
  unfold acceptEdge
  dsimp only
  exact Inv.ite (.set (Inv.ite (post_inv (.set (Inv.ite (post_inv (.set hs)) (.set hs))))
    (Inv.ite (post_inv (.set hs)) (.set hs)))) (Inv.ite (post_inv (.set (Inv.ite (post_inv (.set hs)) (.set hs))))
    (Inv.ite (post_inv (.set hs)) (.set hs)))

theorem acquire_inv {stamp o s} (hs : Inv s) : Inv (acquire stamp o s) :=
  Inv.ite (acceptEdge_inv (post_inv (stepTo_inv (.set hs)))) (acceptEdge_inv (post_inv (.set hs)))

theorem execPpsEdge_answers {sub s} : Answers s (execPpsEdge sub s) := by
  unfold execPpsEdge
  dsimp only
  refine Answers.ite (.finish fun hs => hs) (Answers.ite ?_ ?_)
  · split
    · exact Answers.ite (.finish fun hs => acceptEdge_inv hs) (.finish fun hs => .set hs)
    · exact .finish fun hs => hs
  · split
    · exact Answers.ite (Answers.ite (.finish fun hs => acquire_inv hs) (.finish fun hs => .set hs))
        (.finish fun hs => .set hs)
    · exact .finish fun hs => .set hs

theorem execTimeHoldover_answers {s} : Answers s (execTimeHoldover s) := by
  unfold execTimeHoldover
  dsimp only
  split
  · exact Answers.ite (.finish fun hs => post_inv (.set hs)) (.finish fun hs => hs)
  · exact .finish fun hs => hs

theorem monSample_inv {src die x s} (hs : Inv s) : Inv (monSample src die x s) :=
  .set hs

theorem stopMonitors_inv {cause s} (hs : Inv s) : Inv (stopMonitors cause s) :=
  post_inv (.set hs)

theorem restartMonitors_inv {s} (hs : Inv s) : Inv (restartMonitors s) :=
  .set hs

theorem execConfigureMonitor_answers {m s} : Answers s (execConfigureMonitor m s) :=
  mbxCommand_answers fun _ _ hs => Reply.Inv.ite (.done hs) (Reply.Inv.ite (.done hs)
    (Reply.Inv.ite (.done (.set hs)) (Reply.Inv.ite (.done hs) (readBuffer_inv hs
    (fun _ _ hu => Reply.Inv.ite (.done (.set hu)) (.done hu))))))

theorem draws_inv {n} : ∀ {s}, Inv s → Inv (draws n s).2 := by
  induction n with
  | zero => exact id
  | succ n ih => exact fun hs => ih (draw_inv hs)

theorem seeMonitor_inv {k s} (hs : Inv s) : Inv (seeMonitor k s).2 := by
  unfold seeMonitor
  dsimp only
  exact Inv.ite_snd hs (draws_inv hs)

theorem execReadHistogram_answers {m s} : Answers s (execReadHistogram m s) := by
  unfold execReadHistogram
  dsimp only
  exact mbxCommand_answers fun _ _ hs => Reply.Inv.ite (.done (seeMonitor_inv hs)) (replyBytes_inv (seeMonitor_inv hs))

theorem execSensorSample_answers {kind index value set s} : Answers s (execSensorSample kind index value set s) := by
  unfold execSensorSample
  refine .ite (.finish id) ?_
  extract_lets k low x isOver newInterval done y₀ y put s₁ s₂ s₃ l
  have kept : Inv s → Inv s₁ := fun hs => .ite (post_inv (.set hs)) (.ite (post_inv (.set hs)) (.set hs))
  clear_value s₁ done
  have sampled (hs : Inv s) : Inv s₂ := by
    dsimp only [s₂]
    split
    · split
      · refine .ite ?_ (kept hs)
        split
        · exact monSample_inv (kept hs)
        · exact kept hs
      · exact kept hs
    · split
      · exact monSample_inv (kept hs)
      · exact kept hs
  exact .ite (.finish fun hs => tryRails_inv (.set (alertPin_inv (sampled hs))))
    (.finish fun hs => alertPin_inv (sampled hs))

theorem sensorRecord_inv {kind index s} (hs : Inv s) : Inv (sensorRecord kind index s).2 := by
  unfold sensorRecord
  dsimp only
  refine .ite_snd hs (.ite_snd hs ?_)
  split
  · exact hs
  · exact draw_inv hs

theorem execReadSensors_answers {m s} : Answers s (execReadSensors m s) := by
  unfold execReadSensors
  dsimp only
  exact mbxCommand_answers fun _ _ hs => replyBytes_inv (foldl_snd_inv (fun _ _ hu => sensorRecord_inv hu) hs)

/-! Queues and credits of the ports (13). -/

theorem sendOn_inv {i x s} (hs : Inv s) : Inv (sendOn i x s) :=
  count_inv (setPortAt_inv hs)

theorem drainPort_inv {n i} : ∀ {s}, Inv s → Inv (drainPort n i s) := by
  induction n with
  | zero => exact id
  | succ n ih =>
    intro s hs
    unfold drainPort
    refine .ite hs ?_
    split
    · exact hs
    · exact ih (sendOn_inv (setPortAt_inv hs))

theorem noteStall_inv {i s} (hs : Inv s) : Inv (noteStall i s) := by
  unfold noteStall
  dsimp only
  split
  · exact setPortAt_inv hs
  · exact count_inv (setPortAt_inv hs)
  · exact hs

theorem servePort_inv {i s} (hs : Inv s) : Inv (servePort i s) :=
  noteStall_inv (sendCodewords_inv (drainPort_inv hs))

theorem queueOn_inv {i x s} (hs : Inv s) : Inv (queueOn i x s) :=
  servePort_inv (setPortAt_inv hs)

theorem route_inv {p s} (hs : Inv s) : Inv (route p s).2 := by
  unfold route
  dsimp only
  refine Inv.ite_snd hs (Inv.ite_snd hs (Inv.ite_snd hs ?_))
  split
  · exact hs
  · refine Inv.ite_snd (draw_inv hs) ?_
    split
    · exact draw_inv hs
    · exact Inv.ite_snd (draw_inv hs) (draw_inv hs)

theorem unroutable_inv {die p s} (hs : Inv s) : Inv (unroutable die p s) := by
  unfold unroutable
  dsimp only
  split
  · exact Inv.ite (count_inv hs) (post_inv (.set (count_inv hs)))
  · exact post_inv (.set (count_inv hs))

theorem placeOn_inv {i die x s} (hs : Inv s) : Inv (placeOn i die x s) :=
  Inv.ite (queueOn_inv hs) (unroutable_inv hs)

theorem toMember_inv {q die x s} (hs : Inv s) : Inv (toMember q die x s) := by
  unfold toMember
  dsimp only
  refine Inv.ite (placeOn_inv hs) (Inv.ite (placeOn_inv hs) ?_)
  split
  · exact unroutable_inv hs
  · exact placeOn_inv (count_inv hs)

theorem toGlink_inv {die x s} (hs : Inv s) : Inv (toGlink die x s) := by
  unfold toGlink
  dsimp only
  refine Inv.ite (Inv.ite (placeOn_inv hs) ?_) (toMember_inv hs)
  split
  · exact unroutable_inv hs
  · exact Inv.ite (placeOn_inv hs) (toMember_inv (count_inv hs))

theorem injectPkt_inv {x s} (hs : Inv s) : Inv (injectPkt x s) := by
  unfold injectPkt
  dsimp only
  refine Inv.ite (count_inv hs) (Inv.ite (.set hs) ?_)
  split
  · rename_i u e
    exact toMember_inv (((route_inv (count_inv hs)).of_pair e))
  · rename_i u e
    exact unroutable_inv (((route_inv (count_inv hs)).of_pair e))
  · rename_i u e
    exact toGlink_inv (Inv.ite (count_inv (((route_inv (count_inv hs)).of_pair e)))
      (((route_inv (count_inv hs)).of_pair e)))

theorem sendPkts_inv {l s} (hs : Inv s) : Inv (sendPkts l s) :=
  .set hs

theorem sendCaps_inv {i s} (hs : Inv s) : Inv (sendCaps i s) :=
  emit_inv hs

theorem checkWiring_inv {i s} (hs : Inv s) : Inv (checkWiring i s) := by
  unfold checkWiring
  dsimp only
  exact Inv.ite hs (Inv.ite (post_inv (setPortAt_inv hs)) (Inv.ite (servePort_inv (setPortAt_inv hs))
    (setPortAt_inv hs)))

theorem checkAllWiring_inv {s} (hs : Inv s) : Inv (checkAllWiring s) :=
  foldl_inv (fun _ _ hu => checkWiring_inv hu) hs

/-! Held queues (08, 09). -/

theorem setQueue_inv {q f s} (hs : Inv s) : Inv (setQueue q f s) :=
  .set hs

theorem setEntry_inv {k f s} (hs : Inv s) : Inv (setEntry k f s) :=
  .set hs

theorem setGuard_inv {k f s} (hs : Inv s) : Inv (setGuard k f s) :=
  .set hs

theorem lineGuard_inv {slot i act s} (hs : Inv s) : Inv (lineGuard slot i act s) := by
  unfold lineGuard
  dsimp only
  split
  · exact hs
  · exact .set (setGuard_inv hs)

theorem endGuard_inv {slot s} (hs : Inv s) : Inv (endGuard slot s) := by
  unfold endGuard
  dsimp only
  split
  · exact hs
  · exact .set (foldl_inv (fun _ _ hu => lineGuard_inv hu) (.set hs))

theorem abandonGuard_inv {slot cause v s} (hs : Inv s) : Inv (abandonGuard slot cause v s) :=
  endGuard_inv (post_inv (count_inv hs))

theorem readRange_inv {q r s} (hs : Inv s) : Inv (readRange q r s).2 := by
  unfold readRange
  dsimp only
  exact foldl_snd_inv (fun _ _ hu => devRead_inv hu) hs

theorem writeRange_inv {ds f s} (hs : Inv s) : Inv (writeRange ds f s) :=
  foldl_inv (fun _ _ hu => Inv.ite hu (devPut_inv hu)) hs

theorem passRange_inv {r n skip s} (hs : Inv s) : Inv (passRange r n skip s) :=
  setQueue_inv hs

theorem actRange_inv {q r past s} (hs : Inv s) : Inv (actRange q r past s) := by
  unfold actRange
  dsimp only
  refine Inv.ite (Inv.ite (setEntry_inv (count_inv hs)) (count_inv hs)) ?_
  split
  · exact Inv.ite (setEntry_inv (passRange_inv (writeRange_inv (readRange_inv
      (count_inv (count_inv (count_inv (count_inv hs)))))))) (passRange_inv
      (writeRange_inv (readRange_inv (count_inv (count_inv (count_inv (count_inv hs)))))))
  · split
    · exact abandonGuard_inv (passRange_inv (readRange_inv (count_inv (count_inv (count_inv (count_inv hs))))))
    · exact passRange_inv (writeRange_inv (readRange_inv (count_inv (count_inv (count_inv (count_inv hs))))))
  · exact setQueue_inv (passRange_inv (count_inv hs))
  · exact passRange_inv (count_inv hs)

theorem drainRangesN_inv {n} : ∀ {s}, Inv s → Inv (drainRangesN n s) := by
  induction n with
  | zero => exact id
  | succ n ih =>
    intro s hs
    unfold drainRangesN
    dsimp only
    split
    · exact hs
    · split
      · exact .set hs
      · exact ih (actRange_inv (.set hs))

theorem drainRanges_inv {s} (hs : Inv s) : Inv (drainRanges s) :=
  drainRangesN_inv hs

theorem askRange_inv {slot kind act s} (hs : Inv s) : Inv (askRange slot kind act s) := by
  unfold askRange
  dsimp only
  split
  · exact hs
  · exact drainRanges_inv (.set (setEntry_inv hs))

theorem guardCount_inv {tag status sat amax amx halts s} (hs : Inv s) : Inv
    (guardCount tag status sat amax amx halts s) :=
  Inv.ite hs (drainRanges_inv (foldl_inv (fun _ _ hu => Inv.ite (abandonGuard_inv hu) (setGuard_inv hu)) hs))

/-! The shared operations on tasks. -/

theorem setTask_inv {t f s} (hs : Inv s) : Inv (setTask t f s) :=
  .set hs

theorem setStream_inv {i f s} (hs : Inv s) : Inv (setStream i f s) :=
  .set hs

theorem bridgeCount_inv {fuel die wr a n s} (hs : Inv s) : Inv (bridgeCount fuel die wr a n s) :=
  (bridgeCount_dram _ _ _ _ _ (.refl s)).inv hs

theorem bridge_inv {die wr a n s} (hs : Inv s) : Inv (bridge die wr a n s) :=
  bridgeCount_inv hs

theorem dieRead_inv {die a n s} (hs : Inv s) : Inv (dieRead die a n s).2.2 :=
  (dieRead_wrote _ _ _ (.refl s)).inv hs

theorem diePut_inv {die a bs s} (hs : Inv s) : Inv (diePut die a bs s) :=
  (diePut_wrote _ _ _ (.refl s)).inv hs

theorem taskRead_inv {die a n s} (hs : Inv s) : Inv (taskRead die a n s).2 := by
  unfold taskRead
  dsimp only
  split
  · exact devRead_inv hs
  · split
    · exact devRead_inv hs
    · exact Inv.ite_snd (devRead_inv hs) (bridge_inv (devRead_inv hs))

theorem taskReads_inv {die} : ∀ {l s}, Inv s → Inv (taskReads die l s).2 := by
  intro l
  induction l with
  | nil => exact id
  | cons r rest ih =>
    intro s hs
    unfold taskReads
    split
    next e =>
      have hu := (taskRead_inv hs).of_pair e
      split
      next e2 => exact (ih hu).of_pair e2
      · exact ih hu
    · exact taskRead_inv hs

theorem taskPoison_inv {t a s} (hs : Inv s) : Inv (taskPoison t a s) :=
  setTask_inv hs

theorem taskMeets_inv {t runs s} (hs : Inv s) : Inv (taskMeets t runs s) := by
  unfold taskMeets
  dsimp only
  split
  · exact taskPoison_inv (foldl_inv (fun _ _ hu => sramReads_inv hu) hs)
  · exact foldl_inv (fun _ _ hu => sramReads_inv hu) hs

theorem taskWrite_inv {t a bs s} (hs : Inv s) : Inv (taskWrite t a bs s) := by
  unfold taskWrite
  dsimp only
  split
  · exact hs
  · exact Inv.ite (poisonOut_inv hs) (Inv.ite (taskPoison_inv hs) (Inv.ite (taskPoison_inv (devWrite_inv hs))
      (bridge_inv (devWrite_inv hs))))

theorem chargeTask_inv {t s} (hs : Inv s) : Inv (chargeTask t s) := by
  unfold chargeTask
  dsimp only
  split
  · exact hs
  · exact Inv.ite hs (Inv.ite (Inv.ite (count_inv (count_inv (.set (setTask_inv hs))))
      (count_inv (.set (setTask_inv hs)))) (Inv.ite (.set (setTask_inv hs)) (setTask_inv hs)))

theorem endCreditLends_inv {s} (hs : Inv s) : Inv (endCreditLends s) :=
  .set (foldl_inv (fun _ _ hu => setTask_inv hu) hs)

theorem chargeCopy_inv {slot x s} (hs : Inv s) : Inv (chargeCopy slot x s) := by
  unfold chargeCopy
  dsimp only
  split
  · exact hs
  · exact setEntry_inv (.set hs)

theorem chargeAll_inv {s} (hs : Inv s) : Inv (chargeAll s) :=
  endCreditLends_inv (foldl_inv (fun _ _ hu => chargeCopy_inv hu) (foldl_inv (fun _ _ hu => chargeTask_inv hu) hs))

theorem releaseUnit_inv {t s} (hs : Inv s) : Inv (releaseUnit t s) := by
  unfold releaseUnit
  split
  · exact hs
  · exact Inv.ite (setTask_inv (chargeTask_inv hs)) hs

theorem occupyUnit_inv {t s} (hs : Inv s) : Inv (occupyUnit t s) := by
  unfold occupyUnit
  dsimp only
  split
  · exact hs
  · exact Inv.ite (setTask_inv (.set hs)) hs

theorem takeToken_inv {t die s tk u} (hs : Inv s) (e : takeToken t die s = some (tk, u)) : Inv u := by
  unfold takeToken at e
  dsimp only at e
  split at e
  · cases e
  · obtain ⟨-, rfl⟩ := Prod.mk.inj (Option.some.inj e)
    exact countHigh_inv (setTask_inv (.set hs))

theorem dropToken_inv {t s} (hs : Inv s) : Inv (dropToken t s) :=
  .set hs

theorem waitToken_inv {t s} (hs : Inv s) : Inv (waitToken t s) :=
  setTask_inv hs

theorem endWait_inv {t s} (hs : Inv s) : Inv (endWait t s) := by
  unfold endWait
  dsimp only
  split
  · exact hs
  · split
    · exact count_inv (setTask_inv hs)
    · exact count_inv (setTask_inv hs)
    · exact count_inv (setTask_inv hs)
    · exact setTask_inv hs

theorem markWait_inv {t why s} (hs : Inv s) : Inv (markWait t why s) := by
  unfold markWait
  split
  · exact hs
  · exact Inv.ite hs (setTask_inv (endWait_inv hs))

theorem haltStream_inv {st tag cause s} (hs : Inv s) : Inv (haltStream st tag cause s) :=
  post_inv (setStream_inv hs)

theorem writeRecord_inv {q die stream bs s} (hs : Inv s) : Inv (writeRecord q die stream bs s) := by
  unfold writeRecord
  dsimp only
  split
  · exact hs
  · exact cplSignal_inv (count_inv (count_inv (diePut_inv (setQueue_inv (diePut_inv hs)))))

theorem headerSignal_inv {d stream s} (hs : Inv s) : Inv (headerSignal d stream s) := by
  unfold headerSignal
  dsimp only
  exact Inv.ite (Inv.ite (haltStream_inv (semAdd_inv hs)) (semAdd_inv hs)) hs

theorem leaveHead_inv {t s} (hs : Inv s) : Inv (leaveHead t s) :=
  .set hs

theorem setComm_inv {id f s} (hs : Inv s) : Inv (setComm id f s) :=
  .set hs

theorem collAbort_inv {t st s} (hs : Inv s) : Inv (collAbort t st s) := by
  unfold collAbort
  dsimp only
  split
  · exact hs
  · split
    · split
      · exact count_inv (count_inv (.set hs))
      · exact count_inv (.set hs)
    · refine setComm_inv (sendPkts_inv ?_)
      split
      · exact count_inv (count_inv (.set hs))
      · exact count_inv (.set hs)

theorem dropIssued_inv {t s} (hs : Inv s) : Inv (dropIssued t s) :=
  .set hs

theorem endTask_inv {t rejected cycles stall s} (hs : Inv s) : Inv (endTask t rejected cycles stall s) := by
  unfold endTask
  split
  · exact hs
  · extract_lets s₁
    have charged : Inv s₁ := chargeTask_inv (endWait_inv hs)
    clear_value s₁
    split
    · exact charged
    · extract_lets s₂ s₃ s₄ s₅ bs s₆ s₇ mer s₈ halts s₉
      have left : Inv s₅ := setQueue_inv (dropIssued_inv (leaveHead_inv
        (.when (.unless charged collAbort_inv) count_inv)))
      have closed : Inv s₉ := guardCount_inv (.set (dropToken_inv (.when left writeRecord_inv)))
      exact .ite (haltStream_inv closed) (.unless closed headerSignal_inv)

theorem cancelWatch_inv {k s} (hs : Inv s) : Inv (cancelWatch k s) := by
  unfold cancelWatch
  dsimp only
  split
  · exact Inv.ite (sendPkts_inv hs) hs
  · exact hs

theorem abortTask_inv {t s} (hs : Inv s) : Inv (abortTask t s) := by
  unfold abortTask
  dsimp only
  split
  · exact hs
  · exact endTask_inv (setTask_inv (chargeTask_inv (Inv.ite_snd (draw_inv (.set (cancelWatch_inv hs)))
      (.set (cancelWatch_inv hs)))))

theorem rejectTask_inv {t st det s} (hs : Inv s) : Inv (rejectTask t st det s) :=
  endTask_inv (setTask_inv hs)

/-! Queues, streams and the scheduler (05). -/

theorem tqDoorbell_inv {v s} (hs : Inv s) : Inv (tqDoorbell v s) :=
  Inv.ite (setQueue_inv (.set hs)) (post_inv (refuseWrite_inv hs))

theorem tqCplHead_inv {v s} (hs : Inv s) : Inv (tqCplHead v s) := by
  unfold tqCplHead
  dsimp only
  split
  · exact refuseWrite_inv hs
  · exact Inv.ite (setQueue_inv hs) (refuseWrite_inv hs)

theorem unbindStream_inv {i s} (hs : Inv s) : Inv (unbindStream i s) :=
  Inv.ite hs (setStream_inv hs)

theorem execCreateQueue_answers {m s} : Answers s (execCreateQueue m s) :=
  mbxCommand_answers fun _ _ hs => Reply.Inv.ite (.done hs) (Reply.Inv.ite (.done hs)
    (Reply.Inv.ite (.done hs) (Reply.Inv.ite (.done hs) (.done (Inv.ite (setStream_inv (.set hs)) (.set hs))))))

theorem execDestroyQueue_answers {m s} : Answers s (execDestroyQueue m s) := by
  unfold execDestroyQueue
  dsimp only
  refine mbxCommand_answers fun _ _ hs => ?_
  split
  · exact .done hs
  · exact Reply.Inv.ite (.done hs) (.done (unbindStream_inv (.set hs)))

theorem execHaltStream_answers {m s} : Answers s (execHaltStream m s) :=
  mbxCommand_answers fun _ _ hs => .done (Inv.ite hs (haltStream_inv hs))

theorem execResumeStream_answers {m s} : Answers s (execResumeStream m s) :=
  mbxCommand_answers fun _ _ hs => .done (setStream_inv hs)

theorem dropGuards_inv {st s} (hs : Inv s) : Inv (dropGuards st s) :=
  drainRanges_inv (foldl_inv (fun _ _ hu => endGuard_inv hu) hs)

theorem resetStream_inv {st s} (hs : Inv s) : Inv (resetStream st s).2 := by
  unfold resetStream
  dsimp only
  refine foldl_inv (fun _ _ hu => abortTask_inv hu) (dropGuards_inv (.set
    (foldl_inv (fun _ _ hu => ?_) (Inv.ite hs (haltStream_inv hs)))))
  split
  · exact Inv.ite (count_inv hu) hu
  · exact hu

theorem execResetStream_answers {m s} : Answers s (execResetStream m s) := by
  unfold execResetStream
  dsimp only
  exact mbxCommand_answers fun _ _ hs => .done (resetStream_inv hs)

theorem execSetClassShares_answers {m s} : Answers s (execSetClassShares m s) :=
  mbxCommand_answers fun _ _ hs => .done (.set hs)

theorem noteWaits_inv {s} (hs : Inv s) : Inv (noteWaits s) :=
  foldl_inv (fun _ _ hu => Inv.ite (markWait_inv hu) hu) hs

theorem execDescriptorFetch_answers {q s} : Answers s (execDescriptorFetch q s) := by
  unfold execDescriptorFetch
  split
  · exact .finish id
  next x _ =>
    refine .ite (.finish id) (.ite (.finish fun hs => .ite hs (setQueue_inv hs)) ?_)
    extract_lets s₁
    have waited (hs : Inv s) : Inv s₁ := by
      dsimp only [s₁]
      split
      · exact count_inv hs
      · exact hs
    clear_value s₁
    dsimp only
    have fetched (hs : Inv s) := devRead_inv (a := x.ring + 64 * (x.head.toNat % 2 ^ x.log)) (n := 64) (waited hs)
    refine .ite (.finish fun hs => rejectTask_inv (count_inv (.set (bridge_inv (fetched hs))))) ?_
    split
    · exact .finish fun hs => rejectTask_inv (count_inv (.set (bridge_inv (fetched hs))))
    · split
      · exact .finish fun hs => rejectTask_inv (count_inv (.set (bridge_inv (fetched hs))))
      · exact .finish fun hs => noteWaits_inv (count_inv (.set (bridge_inv (fetched hs))))

theorem acceptMore_inv {n die} : ∀ {s}, Inv s → Inv (acceptMore n die s) := by
  induction n with
  | zero => exact id
  | succ n ih =>
    intro s hs
    unfold acceptMore
    dsimp only
    split
    · exact hs
    · exact ih (.set hs)

theorem admitTask_inv {t loc s} (hs : Inv s) : Inv (admitTask t loc s) := by
  unfold admitTask
  split
  · exact hs
  · dsimp only
    refine (fun {u} (hu : Inv u) => monSample_inv (count_inv (.ite (acceptMore_inv hu) hu))) (.ite (.set ?_) (.set ?_))
    · exact setTask_inv (leaveHead_inv (endWait_inv hs))
    · exact setTask_inv (leaveHead_inv (endWait_inv hs))

theorem tookTurn_inv {k s} (hs : Inv s) : Inv (tookTurn k s) :=
  .set hs

theorem putBack_inv {t s} (hs : Inv s) : Inv (putBack t s) :=
  setTask_inv (dropIssued_inv (.set hs))

theorem unstage_inv {t s} (hs : Inv s) : Inv (unstage t s) := by
  unfold unstage
  split
  · exact hs
  · exact count_inv (putBack_inv hs)

theorem coreSelect_inv {core vec s} (hs : Inv s) : Inv (coreSelect core vec s) := by
  unfold coreSelect
  dsimp only
  refine Inv.ite (chargeAll_inv hs) ?_
  split
  · exact foldl_inv (fun _ _ hu => setTask_inv hu) (chargeAll_inv hs)
  · split
    · exact setTask_inv (foldl_inv (fun _ _ hu => unstage_inv hu) (foldl_inv (fun _ _ hu => setTask_inv hu)
        (chargeAll_inv hs)))
    · exact setTask_inv (setTask_inv (foldl_inv (fun _ _ hu => unstage_inv hu)
        (foldl_inv (fun _ _ hu => setTask_inv hu) (chargeAll_inv hs))))

theorem stealTask_inv {thief victim level t s} (hs : Inv s) : Inv (stealTask thief victim level t s) := by
  unfold stealTask
  dsimp only
  split
  · exact hs
  · exact count_inv (.set (setTask_inv (Inv.ite (admitTask_inv hs) (count_inv hs))))

theorem execStealAttempt_answers {core idle s} : Answers s (execStealAttempt core idle s) := by
  unfold execStealAttempt
  dsimp only
  refine Answers.ite (.finish fun hs => hs) ?_
  split
  · exact .finish fun hs => hs
  · exact .finish fun hs => foldl_inv (fun _ _ hu => stealTask_inv hu) hs

theorem execStealDescriptorMoved_answers {core s} : Answers s (execStealDescriptorMoved core s) :=
  .finish fun hs => foldl_inv (fun _ _ hu => setTask_inv hu) (.set hs)

theorem execLendStart_answers {t s} : Answers s (execLendStart t s) := by
  unfold execLendStart
  dsimp only
  split
  · exact .finish fun hs => chargeAll_inv hs
  · split
    · exact .finish fun hs => chargeAll_inv hs
    · split
      · exact .finish fun hs => chargeAll_inv hs
      · exact Answers.ite (.finish fun hs => chargeAll_inv hs) (Answers.ite
          (.finish fun hs => count_inv (chargeAll_inv hs)) (.finish fun hs => setTask_inv (.set (chargeAll_inv hs))))

theorem execAccountingPeriodEnd_answers {s} : Answers s (execAccountingPeriodEnd s) :=
  .finish fun hs => Inv.ite (.set (chargeAll_inv hs)) (post_inv (.set (chargeAll_inv hs)))

theorem execDeficitBroadcast_answers {s} : Answers s (execDeficitBroadcast s) :=
  .finish fun hs => .set (chargeAll_inv hs)

theorem sendWatch_inv {k tk s} (hs : Inv s) : Inv (sendWatch k tk s) :=
  sendPkts_inv hs

theorem parkWait_inv {t s} (hs : Inv s) : Inv (parkWait t s) := by
  unfold parkWait
  split
  · exact hs
  · split
    · exact waitToken_inv hs
    · rename_i u e
      exact sendWatch_inv (setTask_inv (endWait_inv ((takeToken_inv hs e))))

theorem semWait_inv {t k s} (hs : Inv s) : Inv (semWait t k s) :=
  Inv.ite (parkWait_inv (setTask_inv (admitTask_inv hs))) (Inv.ite (setTask_inv (setTask_inv (admitTask_inv hs)))
    (setTask_inv (setTask_inv (admitTask_inv hs))))

theorem semSignal_inv {t k s} (hs : Inv s) : Inv (semSignal t k s) := by
  unfold semSignal
  dsimp only
  exact Inv.ite (sendPkts_inv (setTask_inv (admitTask_inv hs))) (Inv.ite (semSet_inv (setTask_inv (admitTask_inv hs)))
    (Inv.ite (setTask_inv (semAdd_inv (setTask_inv (admitTask_inv hs)))) (semAdd_inv (setTask_inv (admitTask_inv hs)))))

theorem timerTask_inv {t k s} (hs : Inv s) : Inv (timerTask t k s) :=
  setTask_inv (admitTask_inv hs)

theorem stepMark_inv {t k s} (hs : Inv s) : Inv (stepMark t k s) :=
  setTask_inv (setStream_inv (admitTask_inv hs))

theorem admitNow_inv {t k s} (hs : Inv s) : Inv (admitNow t k s) := by
  unfold admitNow
  dsimp only
  refine noteWaits_inv ?_
  split
  · exact semWait_inv (tookTurn_inv hs)
  · exact semSignal_inv (tookTurn_inv hs)
  · exact timerTask_inv (tookTurn_inv hs)
  · exact stepMark_inv (tookTurn_inv hs)
  · exact admitTask_inv (tookTurn_inv hs)

theorem execTaskAdmit_answers {die s} : Answers s (execTaskAdmit die s) := by
  unfold execTaskAdmit
  dsimp only
  split
  · exact .finish fun hs => noteWaits_inv (chargeAll_inv hs)
  · exact .finish fun hs => admitNow_inv (noteWaits_inv (chargeAll_inv hs))

theorem admitOwn_inv {t ty s} (hs : Inv s) : Inv (admitOwn t ty s) := by
  unfold admitOwn
  dsimp only
  split
  · exact noteWaits_inv (chargeAll_inv hs)
  · exact admitNow_inv (noteWaits_inv (chargeAll_inv hs))

theorem execSemWait_answers {t s} : Answers s (execSemWait t s) :=
  .finish fun hs => admitOwn_inv hs

theorem execSemSignal_answers {t s} : Answers s (execSemSignal t s) :=
  .finish fun hs => admitOwn_inv hs

theorem execTimerTask_answers {t s} : Answers s (execTimerTask t s) :=
  .finish fun hs => admitOwn_inv hs

theorem execStepMark_answers {t s} : Answers s (execStepMark t s) :=
  .finish fun hs => admitOwn_inv hs

theorem execTimerExpired_answers {t s} : Answers s (execTimerExpired t s) := by
  unfold execTimerExpired
  dsimp only
  split
  · exact .finish fun hs => hs
  · exact Answers.ite (.finish fun hs => setTask_inv hs) (.finish fun hs => hs)

theorem timeoutWait_inv {t s} (hs : Inv s) : Inv (timeoutWait t s) := by
  unfold timeoutWait
  dsimp only
  split
  · exact hs
  · exact dropToken_inv (setTask_inv (endWait_inv (cancelWatch_inv hs)))

theorem execSemWaitTimeout_answers {t s} : Answers s (execSemWaitTimeout t s) := by
  unfold execSemWaitTimeout
  dsimp only
  split
  · exact .finish fun hs => hs
  · exact Answers.ite (.finish fun hs => timeoutWait_inv hs) (.finish fun hs => hs)

theorem execWatchResend_answers {t s} : Answers s (execWatchResend t s) := by
  unfold execWatchResend
  split
  · exact .finish fun hs => hs
  · split
    · exact Answers.ite (.finish fun hs => count_inv (sendWatch_inv (setTask_inv hs))) (.finish fun hs => hs)
    · exact .finish fun hs => hs

theorem execParkTokenFree_answers {t s} : Answers s (execParkTokenFree t s) := by
  unfold execParkTokenFree
  split
  · exact .finish fun hs => hs
  · exact Answers.ite (.finish fun hs => parkWait_inv hs) (.finish fun hs => hs)

theorem execTaskComplete_answers {t cycles stall s} : Answers s (execTaskComplete t cycles stall s) := by
  unfold execTaskComplete
  dsimp only
  split
  · exact .finish fun hs => hs
  · exact Answers.ite (.finish fun hs => hs) (.finish fun hs => noteWaits_inv
      (Inv.ite (endTask_inv (setTask_inv hs)) (endTask_inv (setTask_inv hs))))

/-! The Photometer (10). -/

theorem setSlot_inv {i f s} (hs : Inv s) : Inv (setSlot i f s) :=
  .set hs

theorem addBlock_inv {es a one s} (hs : Inv s) : Inv (addBlock es a one s).2 := by
  unfold addBlock
  dsimp only
  exact Inv.ite (poisonOut_inv (devRead_inv hs)) (devPut_inv (devRead_inv hs))

theorem noteTarget_inv {k s} (hs : Inv s) : Inv (noteTarget k s) :=
  Inv.ite hs (post_inv (.set hs))

theorem statsBlock_inv {k bi bj one s} (hs : Inv s) : Inv (statsBlock k bi bj one s).2 := by
  unfold statsBlock
  dsimp only
  split
  · exact hs
  · exact Inv.ite_snd (noteTarget_inv (count_inv hs)) (Inv.ite_snd hs (bridge_inv
      (count_inv (count_inv (setSlot_inv (addBlock_inv hs))))))

theorem statsEnd_inv {k s} (hs : Inv s) : Inv (statsEnd k s) := by
  unfold statsEnd
  dsimp only
  split
  · exact noteTarget_inv (count_inv (count_inv hs))
  · exact Inv.ite (count_inv hs) (count_inv (setSlot_inv (count_inv hs)))

theorem drawSet_inv {t k x s} (hs : Inv s) : Inv (drawSet t k x s) :=
  semAdd_inv (count_inv (foldl_inv (fun _ _ hu => devPut_inv hu) hs))

theorem drawLists_inv {t s} (hs : Inv s) : Inv (drawLists t s) :=
  foldl_inv (fun _ _ hu => drawSet_inv hu) hs

theorem execConfigurePhotometer_answers {m s} : Answers s (execConfigurePhotometer m s) := by
  unfold execConfigurePhotometer
  dsimp only
  refine mbxCommand_answers fun _ _ hs => Reply.Inv.ite (.done hs) (readBuffer_inv hs
    (fun _ _ hu => Reply.Inv.ite ?_ (readBuffer_inv hu (fun _ _ hu => ?_))))
  · split
    · exact .done hu
    · split
      · exact .done hu
      · exact .done (drawLists_inv (.set hu))
  · split
    · exact .done hu
    · split
      · exact .done hu
      · exact .done (drawLists_inv (.set hu))

theorem askSwap_inv {step s} (hs : Inv s) : Inv (askSwap step s) :=
  .set hs

theorem execFoldSwap_answers {s} : Answers s (execFoldSwap s) := by
  unfold execFoldSwap
  dsimp only
  split
  · exact .finish fun hs => hs
  · exact Answers.ite (.finish fun hs => hs) (.finish fun hs => drawLists_inv
      (.set (Inv.ite (post_inv (count_inv hs)) hs)))

theorem execFoldStart_answers {i s} : Answers s (execFoldStart i s) := by
  unfold execFoldStart
  dsimp only
  split
  · exact .finish fun hs => hs
  · refine Answers.ite (.finish fun hs => hs) (Answers.ite (.finish fun hs => .set hs) ?_)
    split
    · exact .finish fun hs => hs
    · refine .finish fun hs => .set ?_
      split
      · exact count_inv hs
      · exact hs

theorem foldBlock_inv {die i x h inv omb s p} (hs : Inv s) : Inv (foldBlock die i x h inv omb s p) := by
  unfold foldBlock
  dsimp only
  exact diePut_inv (Inv.ite (poisonOut_inv (Inv.ite_snd_snd (dieRead_inv hs) (dieRead_inv (dieRead_inv hs))))
    (setSlot_inv (diePut_inv (Inv.ite_snd_snd (dieRead_inv hs) (dieRead_inv (dieRead_inv hs))))))

theorem clearHalf_inv {die x h s} (hs : Inv s) : Inv (clearHalf die x h s) :=
  foldl_inv (fun _ _ hu => diePut_inv hu) hs

theorem writeSlot_inv {i s} (hs : Inv s) : Inv (writeSlot i s) := by
  unfold writeSlot
  dsimp only
  split
  · exact devPut_inv (devRead_inv hs)
  · exact hs

theorem execFoldPublish_answers {i s} : Answers s (execFoldPublish i s) := by
  unfold execFoldPublish
  dsimp only
  split
  · exact Answers.ite (.finish fun hs => hs) (Answers.ite (.finish fun hs => Inv.ite
      (semAdd_inv (.set (count_inv (count_inv (writeSlot_inv (post_inv (setSlot_inv (clearHalf_inv hs))))))))
      (.set (count_inv (count_inv (writeSlot_inv (post_inv (setSlot_inv (clearHalf_inv hs))))))))
      (Answers.ite (.finish fun hs => Inv.ite (semAdd_inv (.set (count_inv hs))) (.set (count_inv hs)))
      (.finish fun hs => Inv.ite (semAdd_inv (.set (count_inv (count_inv
      (writeSlot_inv (setSlot_inv (foldl_inv (fun _ _ hu => foldBlock_inv hu) hs)))))))
      (.set (count_inv (count_inv (writeSlot_inv (setSlot_inv (foldl_inv (fun _ _ hu => foldBlock_inv hu) hs)))))))))
  · exact .finish fun hs => hs

theorem photoReset_inv {s} (hs : Inv s) : Inv (photoReset s) :=
  .set hs

theorem photoCluster_inv {c s} (hs : Inv s) : Inv (photoCluster c s) := by
  unfold photoCluster
  dsimp only
  refine foldl_inv (fun _ _ hu => .set ?_) hs
  split
  · exact clearHalf_inv hu
  · exact hu

/-! Core tasks (03, 06). -/

theorem placeSlice_inv {core d w i bs s} (hs : Inv s) : Inv (placeSlice core d w i bs s) :=
  foldl_snd_inv (fun _ _ hu => devPut_inv hu) hs

theorem keepSlice_inv {c key stamp bs s} (hs : Inv s) : Inv (keepSlice c key stamp bs s) :=
  Inv.ite hs (Inv.ite (count_inv hs) (.set hs))

theorem withdraw_inv {t page s} (hs : Inv s) : Inv (withdraw t page s) := by
  unfold withdraw
  refine setTask_inv (putBack_inv ?_)
  split
  · exact count_inv (chargeTask_inv hs)
  · exact hs

theorem runSlices_inv {t n} : ∀ {s}, Inv s → Inv (runSlices t n s) := by
  induction n with
  | zero => exact id
  | succ n ih =>
    intro s hs
    unfold runSlices
    dsimp only
    split
    · exact hs
    · exact .ite (ih (setTask_inv (taskMeets_inv hs))) hs

theorem tallyTask_inv {t sat flush nan s} (hs : Inv s) : Inv (tallyTask t sat flush nan s) :=
  setTask_inv hs

theorem writeBlock_inv {t bi bj s} (hs : Inv s) : Inv (writeBlock t bi bj s) := by
  unfold writeBlock
  dsimp only
  split
  · exact hs
  · exact Inv.ite (tallyTask_inv (statsBlock_inv hs)) (count_inv (taskWrite_inv (taskMeets_inv hs)))

theorem writeColumn_inv {t j s} (hs : Inv s) : Inv (writeColumn t j s) := by
  unfold writeColumn
  split
  · exact hs
  · exact setTask_inv (foldl_inv (fun _ _ hu => writeBlock_inv hu) hs)

theorem issueN_inv {n q} : ∀ {s}, Inv s → Inv (issueN n q s) := by
  induction n with
  | zero => exact id
  | succ n ih =>
    intro s hs
    unfold issueN
    dsimp only
    split
    · exact hs
    · exact .ite (ih (.set hs)) (.ite (ih (writeColumn_inv (.set hs))) (ih (.set (.set hs))))

theorem issueAll_inv {core s} (hs : Inv s) : Inv (issueAll core s) :=
  issueN_inv hs

theorem execCoreSelect_answers {core vec s} : Answers s (execCoreSelect core vec s) :=
  .finish fun hs => issueAll_inv (coreSelect_inv hs)

theorem execSliceLanded_answers {t op i s} : Answers s (execSliceLanded t op i s) := by
  unfold execSliceLanded
  dsimp only
  split
  · exact .finish fun hs => hs
  · split
    · exact .finish fun hs => issueAll_inv hs
    · split
      · exact .finish fun hs => issueAll_inv (runSlices_inv (setTask_inv
          (placeSlice_inv (count_inv (count_inv (.set (issueAll_inv hs)))))))
      · split
        · exact .finish fun hs => withdraw_inv (taskReads_inv (.set (issueAll_inv hs)))
        · exact .finish fun hs => issueAll_inv (runSlices_inv (setTask_inv
            (placeSlice_inv (count_inv (taskPoison_inv (taskReads_inv (.set (issueAll_inv hs))))))))
        · exact .finish fun hs => issueAll_inv (runSlices_inv (setTask_inv
            (placeSlice_inv (count_inv (keepSlice_inv (taskReads_inv (.set (issueAll_inv hs))))))))

theorem startTask_inv {t s} (hs : Inv s) : Inv (startTask t s) := by
  unfold startTask
  dsimp only
  split
  · exact hs
  · exact Inv.ite (monSample_inv (setTask_inv (.set hs))) (setTask_inv (.set hs))

theorem startTile_inv {t ty s} (hs : Inv s) : Inv (startTile t ty s) := by
  unfold startTile
  dsimp only
  split
  · exact hs
  · exact Inv.ite hs (Inv.ite (setTask_inv (Inv.ite (statsEnd_inv (startTask_inv hs)) (startTask_inv hs)))
      (issueAll_inv (runSlices_inv (Inv.ite (taskMeets_inv (setTask_inv (startTask_inv hs)))
      (setTask_inv (startTask_inv hs))))))

theorem execMatrixTaskStart_answers {t s} : Answers s (execMatrixTaskStart t s) :=
  .finish fun hs => startTile_inv hs

theorem execStatsTaskStart_answers {t s} : Answers s (execStatsTaskStart t s) :=
  .finish fun hs => startTile_inv hs

theorem execResultDrain_answers {t b s} : Answers s (execResultDrain t b s) := by
  unfold execResultDrain
  dsimp only
  split
  · exact .finish fun hs => hs
  · exact Answers.ite (.finish fun hs => hs) (.finish fun hs => issueAll_inv
      (Inv.ite (setTask_inv hs) (Inv.ite (taskWrite_inv (tallyTask_inv (setTask_inv hs)))
      (devPut_inv (tallyTask_inv (setTask_inv hs))))))

theorem execWritebackAccepted_answers {t s} : Answers s (execWritebackAccepted t s) := by
  unfold execWritebackAccepted
  dsimp only
  split
  · exact .finish fun hs => hs
  · split
    · exact .finish fun hs => issueAll_inv hs
    · exact Answers.ite (.finish fun hs => issueAll_inv hs) (.finish fun hs => setTask_inv
        (Inv.ite (statsEnd_inv (issueAll_inv hs)) (issueAll_inv hs)))

theorem execVectorTaskStart_answers {t s} : Answers s (execVectorTaskStart t s) := by
  unfold execVectorTaskStart
  dsimp only
  split
  · exact .finish fun hs => hs
  · exact Answers.ite (.finish fun hs => hs) (Answers.ite (.finish fun hs => setTask_inv (startTask_inv hs))
      (.finish fun hs => setTask_inv (setTask_inv (foldl_inv (fun _ _ hu => taskWrite_inv hu)
      (taskMeets_inv (startTask_inv hs))))))

theorem execSetCoelostatConfig_answers {m s} : Answers s (execSetCoelostatConfig m s) :=
  mbxCommand_answers fun _ _ hs => Reply.Inv.ite (.done hs) (.done (.set hs))

/-! Ports, links and the router (13). -/

theorem leaveService_inv {i st s} (hs : Inv s) : Inv (leaveService i st s) := by
  unfold leaveService
  dsimp only
  refine count_inv (foldl_inv (fun _ _ hu => Inv.ite (toMember_inv hu) (toGlink_inv hu)) ?_)
  split
  · exact count_inv (setPortAt_inv hs)
  · exact setPortAt_inv hs

theorem portFails_inv {i s} (hs : Inv s) : Inv (portFails i s) :=
  Inv.ite (post_inv (setPortAt_inv (leaveService_inv (Inv.ite (linkState_inv hs) hs))))
    (setPortAt_inv (leaveService_inv (Inv.ite (linkState_inv hs) hs)))

theorem retrain_inv {i warm st s} (hs : Inv s) : Inv (retrain i warm st s) :=
  setPortAt_inv (leaveService_inv hs)

theorem execReadPortStatus_answers {m s} : Answers s (execReadPortStatus m s) :=
  mbxCommand_answers fun _ _ hs => replyBytes_inv hs

theorem execRetrainPort_answers {m s} : Answers s (execRetrainPort m s) :=
  mbxCommand_answers fun _ _ hs => Reply.Inv.ite (.done hs) (.done (foldl_inv
    (fun _ _ hu => Inv.ite (setPortAt_inv (retrain_inv hu)) hu) hs))

theorem execSetPortConfig_answers {m s} : Answers s (execSetPortConfig m s) := by
  unfold execSetPortConfig
  dsimp only
  refine mbxCommand_answers fun _ _ hs => Reply.Inv.ite (.done hs) ?_
  split
  · exact bufFault_inv hs
  · exact Reply.Inv.ite (.done hs) (.done (Inv.ite (retrain_inv (setPortAt_inv hs)) (setPortAt_inv hs)))

theorem execSetTopology_answers {m s} : Answers s (execSetTopology m s) := by
  unfold execSetTopology
  dsimp only
  refine mbxCommand_answers fun _ _ hs => Reply.Inv.ite (.done hs) ?_
  split
  · exact .done hs
  · exact .done (checkAllWiring_inv (digestStep_inv hs (fun _ hu => .set hu)))

theorem execSetGlobalLink_answers {m s} : Answers s (execSetGlobalLink m s) := by
  unfold execSetGlobalLink
  dsimp only
  refine mbxCommand_answers fun _ _ hs => ?_
  split
  · exact .done hs
  · exact Reply.Inv.ite (.done hs) (.done (checkAllWiring_inv (.set hs)))

theorem execSetRouting_answers {m s} : Answers s (execSetRouting m s) :=
  mbxCommand_answers fun _ _ hs => Reply.Inv.ite (.done hs) (.done (.set hs))

theorem execPortSignalDetect_answers {i s} : Answers s (execPortSignalDetect i s) :=
  Answers.ite (.finish fun hs => setPortAt_inv hs) (.finish fun hs => hs)

theorem portFellBack_inv {i s} (hs : Inv s) : Inv (portFellBack i s) :=
  Inv.ite (.set (setPortAt_inv hs)) (setPortAt_inv hs)

theorem execPortTrainDone_answers {i good s} : Answers s (execPortTrainDone i good s) :=
  Answers.ite (.finish fun hs => hs) (Answers.ite (.finish fun hs => setPortAt_inv hs)
    (Answers.ite (.finish fun hs => portFellBack_inv hs) (.finish fun hs => setPortAt_inv hs)))

theorem execPortLengthDone_answers {i samples medium turn s} : Answers s (execPortLengthDone i samples medium turn s) :=
  Answers.ite (.finish fun hs => hs) (.finish fun hs => sendCaps_inv (setPortAt_inv hs))

theorem execCapsRecordReceived_answers {i words s} : Answers s (execCapsRecordReceived i words s) :=
  .ite (.finish id) (.ite (.ite (.finish leaveService_inv) (.finish fun hs => emit_inv (setPortAt_inv hs)))
    (.finish fun hs => checkWiring_inv (.unless (.when (.unless (.unless (setPortAt_inv hs) setPortAt_inv) .set)
      post_inv)
      post_inv)))

theorem execPortDegrade_answers {i lane otherGood s} : Answers s (execPortDegrade i lane otherGood s) :=
  Answers.ite (.finish fun hs => hs) (Answers.ite (.finish fun hs => setPortAt_inv (retrain_inv (linkState_inv hs)))
    (.finish fun hs => portFails_inv hs))

theorem execPortDown_answers {i s} : Answers s (execPortDown i s) :=
  Answers.ite (.finish fun hs => hs) (.finish fun hs => portFails_inv hs)

theorem ringPut_inv {i fs s} (hs : Inv s) : Inv (ringPut i fs s) :=
  count_inv (setPortAt_inv (foldl_inv (fun _ _ hu => devPut_inv hu) hs))

theorem packetIn_inv {i k s} (hs : Inv s) : Inv (packetIn i k s) :=
  count_inv (setPortAt_inv (Inv.ite hs (ringPut_inv hs)))

theorem flitsIn_inv {i flits s} (hs : Inv s) : Inv (flitsIn i flits s) :=
  foldl_inv (fun _ _ hu => Inv.ite (setPortAt_inv hu) (packetIn_inv (setPortAt_inv hu))) hs

theorem execCodewordReceived_answers {i ok seqLo lpos fec flits s} : Answers s
    (execCodewordReceived i ok seqLo lpos fec flits s) :=
  Answers.ite (.finish fun hs => hs) (Answers.ite (.finish fun hs => flitsIn_inv
    (setPortAt_inv (foldl_inv (fun _ _ hu => count_inv hu) hs))) (Answers.ite
    (.finish fun hs => foldl_inv (fun _ _ hu => count_inv hu) hs) (.finish fun hs => linkFlit_inv
    (count_inv (setPortAt_inv (foldl_inv (fun _ _ hu => count_inv hu) hs))))))

theorem creditBack_inv {i vcRet sharedRet s} (hs : Inv s) : Inv (creditBack i vcRet sharedRet s) :=
  servePort_inv (setPortAt_inv hs)

theorem execLinkFlitReceived_answers {i words s} : Answers s (execLinkFlitReceived i words s) := by
  unfold execLinkFlitReceived
  dsimp only
  refine Answers.ite (.finish fun hs => hs) (Answers.ite (.finish fun hs => hs)
    (Answers.ite (Answers.ite (.finish fun hs => portFails_inv (creditBack_inv (setPortAt_inv hs)))
    (.finish fun hs => foldl_inv (fun _ _ hu => emit_inv hu) (count_inv
    (setPortAt_inv (creditBack_inv (setPortAt_inv hs)))))) (Answers.ite ?_
    (.finish fun hs => creditBack_inv (setPortAt_inv hs)))))
  split
  · exact Answers.ite (.finish fun hs => setPortAt_inv (retrain_inv (creditBack_inv (setPortAt_inv hs))))
      (.finish fun hs => creditBack_inv (setPortAt_inv hs))
  · exact .finish fun hs => portFails_inv (creditBack_inv (setPortAt_inv hs))
  · exact .finish fun hs => setPortAt_inv (creditBack_inv (setPortAt_inv hs))
  · exact .finish fun hs => setPortAt_inv (creditBack_inv (setPortAt_inv hs))
  · exact .finish fun hs => creditBack_inv (setPortAt_inv hs)

theorem execLinkFlitDue_answers {i s} : Answers s (execLinkFlitDue i s) :=
  Answers.ite (.finish fun hs => hs) (.finish fun hs => linkFlit_inv hs)

theorem ringTakeBack_inv {i s} (hs : Inv s) : Inv (ringTakeBack i s) :=
  Inv.ite hs (count_inv (setPortAt_inv (foldl_inv (fun _ _ hu => devRead_inv hu) hs)))

theorem freeRx_inv {i k s} (hs : Inv s) : Inv (freeRx i k s) :=
  ringTakeBack_inv (setPortAt_inv hs)

theorem malformed_inv {i crc s} (hs : Inv s) : Inv (malformed i crc s) := by
  unfold malformed
  dsimp only
  split
  · exact Inv.ite (count_inv hs) (post_inv (.set (count_inv hs)))
  · exact post_inv (.set (count_inv hs))

theorem eject_inv {i k s} (hs : Inv s) : Inv (eject i k s) :=
  Inv.ite (malformed_inv (count_inv hs)) (Inv.ite (malformed_inv (count_inv hs))
    (Inv.ite (count_inv (count_inv hs)) (.set (count_inv hs))))

theorem execPacketForward_answers {i hop s} : Answers s (execPacketForward i hop s) := by
  unfold execPacketForward
  dsimp only
  split
  · exact .finish fun hs => hs
  · refine Answers.ite (.finish fun hs => hs) (Answers.ite (.finish fun hs => unroutable_inv
      (monSample_inv (freeRx_inv hs))) (Answers.ite (.finish fun hs => eject_inv (monSample_inv (freeRx_inv hs)))
      (Answers.ite (.finish fun hs => toMember_inv (count_inv (monSample_inv (freeRx_inv hs))))
      (Answers.ite ?_ (.finish fun hs => toGlink_inv (count_inv (monSample_inv (freeRx_inv hs))))))))
    split
    · exact .finish fun hs => unroutable_inv (count_inv (monSample_inv (freeRx_inv hs)))
    · exact .finish fun hs => toGlink_inv (count_inv (monSample_inv (freeRx_inv hs)))

theorem takeIn_inv {f s i k u} (hs : Inv s) (e : takeIn f s = some (i, k, u)) : Inv u := by
  unfold takeIn at e
  split at e
  · cases e
  · cases e
    exact .set hs

theorem respond_inv {i k typ status data s} (hs : Inv s) : Inv (respond i k typ status data s) :=
  sendPkts_inv hs

theorem execInboundWrite_answers {s} : Answers s (execInboundWrite s) := by
  unfold execInboundWrite
  dsimp only
  split
  · exact .finish fun hs => hs
  · rename_i u e
    exact .finish fun hs => Inv.ite (respond_inv (Inv.ite_snd (devWrite_inv
      (Inv.ite (count_inv ((takeIn_inv hs e))) ((takeIn_inv hs e)))) (Inv.ite (count_inv ((takeIn_inv hs e)))
      ((takeIn_inv hs e))))) (Inv.ite_snd (devWrite_inv (Inv.ite (count_inv ((takeIn_inv hs e))) ((takeIn_inv hs e))))
      (Inv.ite (count_inv ((takeIn_inv hs e))) ((takeIn_inv hs e))))

theorem execInboundReadReq_answers {s} : Answers s (execInboundReadReq s) := by
  unfold execInboundReadReq
  dsimp only
  split
  · exact .finish fun hs => hs
  · rename_i u e
    refine Answers.ite (.finish fun hs => respond_inv ((takeIn_inv hs e))) ?_
    split
    · exact .finish fun hs => respond_inv (devRead_inv (Inv.ite (count_inv ((takeIn_inv hs e))) ((takeIn_inv hs e))))
    · exact .finish fun hs => respond_inv (devRead_inv (Inv.ite (count_inv ((takeIn_inv hs e))) ((takeIn_inv hs e))))

theorem execInboundSemOp_answers {s} : Answers s (execInboundSemOp s) := by
  unfold execInboundSemOp
  dsimp only
  split
  · exact .finish fun hs => hs
  · rename_i u e
    split
    · exact Answers.ite (Answers.ite (.finish fun hs => semAdd_inv ((takeIn_inv hs e)))
        (.finish fun hs => semSet_inv ((takeIn_inv hs e)))) (.finish fun hs => respond_inv ((takeIn_inv hs e)))
    · exact .finish fun hs => respond_inv ((takeIn_inv hs e))

theorem execInboundSemWatch_answers {s} : Answers s (execInboundSemWatch s) := by
  unfold execInboundSemWatch
  dsimp only
  split
  · exact .finish fun hs => hs
  · rename_i u e
    split
    · exact Answers.ite (.finish fun hs => respond_inv ((takeIn_inv hs e)))
        (Answers.ite (.finish fun hs => sendPkts_inv ((takeIn_inv hs e)))
        (Answers.ite (.finish fun hs => sendPkts_inv ((takeIn_inv hs e)))
        (.finish fun hs => sendPkts_inv (.set ((takeIn_inv hs e))))))
    · exact .finish fun hs => respond_inv ((takeIn_inv hs e))

theorem execInboundWatchCancel_answers {s} : Answers s (execInboundWatchCancel s) := by
  unfold execInboundWatchCancel
  dsimp only
  split
  · exact .finish fun hs => hs
  · rename_i u e
    exact .finish fun hs => .set ((takeIn_inv hs e))

theorem execPortStatesSend_answers {s} : Answers s (execPortStatesSend s) :=
  Answers.ite (.finish fun hs => sendPkts_inv hs) (.finish fun hs => hs)

theorem execPortStatesReceived_answers {s} : Answers s (execPortStatesReceived s) := by
  unfold execPortStatesReceived
  dsimp only
  split
  · exact .finish fun hs => hs
  · rename_i u e
    exact Answers.ite (.finish fun hs => .set ((takeIn_inv hs e))) (.finish fun hs => (takeIn_inv hs e))

theorem execPeerReportStale_answers {member s} : Answers s (execPeerReportStale member s) := by
  unfold execPeerReportStale
  dsimp only
  split
  · exact Answers.ite (.finish fun hs => .set hs) (.finish fun hs => hs)
  · exact .finish fun hs => hs

/-! The checkpoint store (18). -/

theorem readManifest_inv {a stage s k} (hs : Inv s) (hk : ∀ w rs u, Inv u → (k w rs u).Inv) :
    (readManifest a stage s k).Inv :=
  readBuffer_inv hs fun _ _ hu => .ite (.done hu) (readBuffer_inv hu fun _ _ hv => .ite (hk _ _ _ hv) (.done hv))

theorem captureGran_inv {a s} (hs : Inv s) : Inv (captureGran a s).2 := by
  unfold captureGran
  dsimp only
  exact devRead_inv hs

theorem stageMore_inv {n} : ∀ {s}, Inv s → Inv (stageMore n s) := by
  induction n with
  | zero => exact id
  | succ n ih =>
    intro s hs
    unfold stageMore
    dsimp only
    split
    · exact hs
    · split
      · exact hs
      · exact .ite hs (ih (setStore_inv (devPut_inv (draw_inv hs))))

theorem capturePump_inv {s} (hs : Inv s) : Inv (capturePump s) := by
  unfold capturePump
  split
  · exact stageMore_inv hs
  · exact hs

theorem capture_inv {s} (hs : Inv s) : Inv (capture s) := by
  unfold capture
  dsimp only
  split
  · exact hs
  · exact Inv.ite hs (capturePump_inv (setStore_inv (foldl_snd_inv (fun _ _ hu => captureGran_inv hu) (.set hs))))

theorem ckptDrop_inv {s} (hs : Inv s) : Inv (ckptDrop s) := by
  unfold ckptDrop
  dsimp only
  split
  · exact hs
  · exact setStore_inv (.set hs)

theorem ckptEnd_inv {status s} (hs : Inv s) : Inv (ckptEnd status s) := by
  unfold ckptEnd
  dsimp only
  split
  · exact hs
  · exact Inv.dite (fun _ => mbxComplete_inv (ckptDrop_inv hs)) (fun _ => ckptDrop_inv hs)

theorem writeCheckpoint_answers {full m s} : Answers s (writeCheckpoint full m s) := by
  unfold writeCheckpoint
  dsimp only
  refine Answers.ite (.finish fun hs => hs) (mbxCommand_answers fun _ _ hs => readManifest_inv hs (fun _ _ _ hu => ?_))
  split
  · exact .done hu
  · exact .run (Inv.ite (capture_inv (setStore_inv hu)) (setStore_inv hu))

theorem execWriteCheckpointFull_answers {m s} : Answers s (execWriteCheckpointFull m s) :=
  writeCheckpoint_answers

theorem execWriteCheckpointIncremental_answers {m s} : Answers s (execWriteCheckpointIncremental m s) :=
  writeCheckpoint_answers

theorem execCaptureOnDemand_answers {a ns s} : Answers s (execCaptureOnDemand a ns s) := by
  unfold execCaptureOnDemand
  dsimp only
  split
  · exact .finish fun hs => hs
  · split
    · exact .finish fun hs => hs
    · exact Answers.ite (.finish fun hs => hs) (.finish fun hs => stageMore_inv (setStore_inv hs))

theorem execStagingDrain_answers {n blocks s} : Answers s (execStagingDrain n blocks s) := by
  unfold execStagingDrain
  dsimp only
  split
  · exact .finish fun hs => hs
  · exact .finish fun hs => Inv.ite (ckptEnd_inv (setProgress_inv (programmed_inv (setStore_inv hs))))
      (capturePump_inv (setProgress_inv (programmed_inv (setStore_inv hs))))

theorem restoreGran_inv {bs lost dst s} (hs : Inv s) : Inv (restoreGran bs lost dst s) :=
  foldl_inv (fun _ _ hu => poisonRange_inv hu) (.set (devPut_inv hs))

theorem restoreEnd_inv {status s} (hs : Inv s) : Inv (restoreEnd status s) := by
  unfold restoreEnd
  dsimp only
  split
  · exact hs
  · exact Inv.dite (fun _ => mbxComplete_inv (setStore_inv hs)) (fun _ => setStore_inv hs)

theorem execRestoreCheckpointLocal_answers {m s} : Answers s (execRestoreCheckpointLocal m s) := by
  unfold execRestoreCheckpointLocal
  dsimp only
  refine mbxCommand_answers fun _ _ hs => readManifest_inv hs (fun _ _ _ hu => Reply.Inv.ite (.done hu) ?_)
  split
  · exact .done hu
  · exact Reply.Inv.ite (.done hu) (Reply.Inv.ite (.done hu) (.run (setStore_inv hu)))

theorem execRestoreDone_answers {n s} : Answers s (execRestoreDone n s) := by
  unfold execRestoreDone
  split
  · exact .finish id
  · refine .ite (.finish id) ?_
    extract_lets chain
    split
    next u lost e =>
      have restored (hs : Inv s) : Inv u := by
        refine (congrArg (Inv ∘ Prod.fst) e).mp (foldl_fst_inv (fun _ _ hu => ?_) hs)
        split
        · exact hu
        · exact restoreGran_inv hu
      exact .finish fun hs => .ite (restoreEnd_inv (setProgress_inv (setStore_inv (restored hs))))
        (setProgress_inv (setStore_inv (restored hs)))

theorem execListCheckpoints_answers {m s} : Answers s (execListCheckpoints m s) :=
  mbxCommand_answers fun _ _ hs => replyBytes_inv hs

theorem execDeleteCheckpoint_answers {m s} : Answers s (execDeleteCheckpoint m s) := by
  unfold execDeleteCheckpoint
  refine Answers.ite (.finish fun hs => hs) (mbxCommand_answers fun _ _ hs => Reply.Inv.ite (.done hs) ?_)
  split
  · exact .done hs
  · exact Reply.Inv.ite (.done hs) (Reply.Inv.ite (.done hs) (.done (setStore_inv hs)))

theorem execReadStoreHealth_answers {m s} : Answers s (execReadStoreHealth m s) :=
  mbxCommand_answers fun _ _ hs => replyBytes_inv hs

/-! The buddy mirror (18). -/

theorem ringWrites_inv {dst off bs s} (hs : Inv s) : Inv (ringWrites dst off bs s) := by
  unfold ringWrites
  exact setStore_inv (sendPkts_inv hs)

theorem mirrorSend_inv {s u} (hs : Inv s) (e : mirrorSend s = some u) : Inv u := by
  unfold mirrorSend at e
  split at e
  · cases e
  · dsimp only at e
    obtain ⟨-, e⟩ := (Option.ite_none_left_eq_some).mp e
    rw [← Option.some.inj e]
    exact .set (ringWrites_inv (ringWrites_inv (.ite hs (ringWrites_inv hs))))

theorem mirrorSends_inv {n} : ∀ {s}, Inv s → Inv (mirrorSends n s) := by
  induction n with
  | zero => exact id
  | succ n ih =>
    intro s hs
    unfold mirrorSends
    split
    next e => exact ih (mirrorSend_inv hs e)
    · exact hs

theorem mirrorPump_inv {s} (hs : Inv s) : Inv (mirrorPump s) := by
  unfold mirrorPump
  dsimp only
  refine Inv.ite hs (mirrorSends_inv ?_)
  split
  · exact setStore_inv (draw_inv hs)
  · exact hs

theorem setMirror_inv {id v s} (hs : Inv s) : Inv (setMirror id v s) :=
  setStore_inv hs

theorem mirrorAgain_inv {s} (hs : Inv s) : Inv (mirrorAgain s) :=
  mirrorPump_inv (setStore_inv hs)

theorem mirrorAbandon_inv {cause s} (hs : Inv s) : Inv (mirrorAbandon cause s) := by
  unfold mirrorAbandon
  dsimp only
  split
  · refine post_inv ?_
    split
    · exact post_inv (setStore_inv hs)
    · exact setStore_inv hs
  · split
    · exact post_inv (setStore_inv hs)
    · exact setStore_inv hs

theorem mirrorLost_inv {s} (hs : Inv s) : Inv (mirrorLost s) := by
  unfold mirrorLost
  dsimp only
  split
  · exact Inv.ite (restoreEnd_inv (mirrorAbandon_inv hs)) (mirrorAbandon_inv hs)
  · exact mirrorAbandon_inv hs

theorem mirrorAck_inv {addr status s} (hs : Inv s) : Inv (mirrorAck addr status s) := by
  unfold mirrorAck
  dsimp only
  split
  · exact hs
  · exact Inv.ite (count_inv (setStore_inv hs)) (setStore_inv hs)

theorem execCheckpointCommit_answers {s} : Answers s (execCheckpointCommit s) := by
  unfold execCheckpointCommit
  dsimp only
  split
  · exact .finish fun hs => hs
  · exact Answers.ite (.finish fun hs => hs) (.finish fun hs => mirrorPump_inv
      (Inv.dite (fun _ => mbxComplete_inv (post_inv (setStore_inv hs))) (fun _ => post_inv (setStore_inv hs))))

theorem ringNext_inv {s w pb u} (hs : Inv s) (e : ringNext s = some (w, pb, u)) : Inv u := by
  unfold ringNext at e
  extract_lets n off skip off' at e
  obtain ⟨-, e⟩ := Option.ite_none_left_eq_some.mp e
  split at e
  next hb v read =>
  have hv : Inv v := by
    have := devRead_inv (a := s.fab.ringBase + off') (n := 64) hs
    rwa [read] at this
  extract_lets w len at e
  obtain ⟨-, e⟩ := Option.ite_none_left_eq_some.mp e
  split at e
  next pb' v' read' =>
  have hv' : Inv v' := by
    have := devRead_inv (a := v.fab.ringBase + off' + 64) (n := len) hv
    rwa [read'] at this
  obtain ⟨-, e⟩ := Prod.mk.inj (Option.some.inj e)
  obtain ⟨-, rfl⟩ := Prod.mk.inj e
  exact .set hv'

theorem ringTake_inv {typ s w pb u} (hs : Inv s) (e : ringTake typ s = some (w, pb, u)) : Inv u := by
  unfold ringTake at e
  split at e
  next next_ =>
    split at e
    · cases e
      exact ringNext_inv hs next_
    · cases e
  · cases e

theorem ringDrop_inv {s} (hs : Inv s) : Inv (ringDrop s) := by
  unfold ringDrop
  split
  · rename_i u e
    exact Inv.ite ((ringNext_inv hs e)) hs
  · exact hs

theorem mirrorPost_inv {r s} (hs : Inv s) : Inv (mirrorPost r s) :=
  mirrorPump_inv (setStore_inv hs)

theorem execMirrorBeginReceived_answers {s} : Answers s (execMirrorBeginReceived s) := by
  unfold execMirrorBeginReceived
  dsimp only
  split
  · exact .finish fun hs => ringDrop_inv hs
  · rename_i u e
    split
    · exact Answers.ite (Answers.ite (.finish fun hs => restoreEnd_inv ((ringTake_inv hs e)))
        (Answers.ite (.finish fun hs => restoreEnd_inv ((ringTake_inv hs e)))
        (.finish fun hs => setStore_inv ((ringTake_inv hs e))))) (.finish fun hs => (ringTake_inv hs e))
    · split
      · exact .finish fun hs => mirrorPost_inv ((ringTake_inv hs e))
      · exact .finish fun hs => setStore_inv ((ringTake_inv hs e))

theorem execMirrorGranuleReceived_answers {s} : Answers s (execMirrorGranuleReceived s) := by
  unfold execMirrorGranuleReceived
  dsimp only
  split
  · exact .finish fun hs => ringDrop_inv hs
  · rename_i u e
    split
    · split
      · exact .finish fun hs => (ringTake_inv hs e)
      · split
        · exact .finish fun hs => (ringTake_inv hs e)
        · exact .finish fun hs => setProgress_inv (setStore_inv (restoreGran_inv ((ringTake_inv hs e))))
    · split
      · exact .finish fun hs => (ringTake_inv hs e)
      · exact Answers.ite (.finish fun hs => (ringTake_inv hs e)) (.finish fun hs => programmed_inv
          (setStore_inv ((ringTake_inv hs e))))

theorem execMirrorCommitReceived_answers {s} : Answers s (execMirrorCommitReceived s) := by
  unfold execMirrorCommitReceived
  dsimp only
  split
  · exact .finish fun hs => ringDrop_inv hs
  · rename_i u e
    split
    · exact Answers.ite (.finish fun hs => restoreEnd_inv ((ringTake_inv hs e))) (.finish fun hs => (ringTake_inv hs e))
    · split
      · exact .finish fun hs => (ringTake_inv hs e)
      · exact Answers.ite (.finish fun hs => (ringTake_inv hs e)) (.finish fun hs => mirrorPost_inv
          (post_inv (setStore_inv ((ringTake_inv hs e)))))

theorem execMirrorAbortReceived_answers {s} : Answers s (execMirrorAbortReceived s) := by
  unfold execMirrorAbortReceived
  dsimp only
  split
  · exact .finish fun hs => ringDrop_inv hs
  · rename_i u e
    split
    · exact .finish fun hs => restoreEnd_inv ((ringTake_inv hs e))
    · exact Answers.ite (.finish fun hs => mirrorPump_inv (post_inv (setStore_inv
        (setMirror_inv ((ringTake_inv hs e)))))) (Answers.ite (.finish fun hs => post_inv
        (setStore_inv ((ringTake_inv hs e)))) (.finish fun hs => (ringTake_inv hs e)))

theorem execMirrorDoneReceived_answers {s} : Answers s (execMirrorDoneReceived s) := by
  unfold execMirrorDoneReceived
  dsimp only
  split
  · exact .finish fun hs => ringDrop_inv hs
  · rename_i u e
    exact Answers.ite (.finish fun hs => mirrorPump_inv (post_inv (setStore_inv
      (setMirror_inv ((ringTake_inv hs e)))))) (.finish fun hs => (ringTake_inv hs e))

theorem execRestoreReqReceived_answers {s} : Answers s (execRestoreReqReceived s) := by
  unfold execRestoreReqReceived
  dsimp only
  split
  · exact .finish fun hs => ringDrop_inv hs
  · rename_i u e
    split
    · exact .finish fun hs => mirrorPost_inv (draw_inv ((ringTake_inv hs e)))
    · exact Answers.ite (.finish fun hs => mirrorPost_inv ((ringTake_inv hs e)))
        (.finish fun hs => mirrorPump_inv (setStore_inv (draw_inv ((ringTake_inv hs e)))))

theorem execMirrorRingDrained_answers {s} : Answers s (execMirrorRingDrained s) := by
  unfold execMirrorRingDrained
  dsimp only
  split
  · exact .finish fun hs => hs
  · exact Answers.ite (.finish fun hs => hs) (.finish fun hs => sendPkts_inv (setStore_inv hs))

theorem execRestoreCheckpointBuddy_answers {m s} : Answers s (execRestoreCheckpointBuddy m s) := by
  unfold execRestoreCheckpointBuddy
  dsimp only
  refine mbxCommand_answers fun _ _ hs => readManifest_inv hs (fun _ _ _ hu => Reply.Inv.ite (.done hu) ?_)
  split
  · exact .done hu
  · exact Reply.Inv.ite (.done hu) (.run (mirrorPost_inv (setStore_inv hu)))

theorem storeReset_inv {s} (hs : Inv s) : Inv (storeReset s) :=
  mirrorAbandon_inv (setStore_inv (ckptDrop_inv hs))

/-! Index-driven moves and transfers (06). -/

theorem startCopy_inv {slot c s} (hs : Inv s) : Inv (startCopy slot c s) :=
  setEntry_inv hs

theorem startUnit_inv {t s} (hs : Inv s) : Inv (startUnit t s) := by
  unfold startUnit
  split
  · exact hs
  · exact Inv.ite (startTask_inv (setTask_inv hs)) (setTask_inv hs)

theorem Moving.tally_inv {m xs} (hs : Inv m.s) : Inv (Moving.tally m xs).s :=
  hs

theorem Moving.read_inv {m t die fd runs} (hs : Inv m.s) : Inv (Moving.read m t die fd runs).2.s := by
  unfold Moving.read
  dsimp only
  split
  · exact Inv.ite (count_inv (taskReads_inv hs)) (taskReads_inv hs)
  · exact taskPoison_inv (Inv.ite (count_inv (taskReads_inv hs)) (taskReads_inv hs))
  · exact Inv.ite (count_inv (taskReads_inv hs)) (taskReads_inv hs)

theorem Moving.write_inv {m t die fd runs bs} (hs : Inv m.s) : Inv (Moving.write m t die fd runs bs).s :=
  Inv.ite (count_inv (foldl_snd_inv (fun _ _ hu => taskWrite_inv hu) hs))
    (foldl_snd_inv (fun _ _ hu => taskWrite_inv hu) hs)

theorem gatherPad_inv {t die n d m} (hs : Inv m.s) : Inv (gatherPad t die n d m).s := by
  unfold gatherPad
  dsimp only
  refine Inv.ite_moving ?_ hs
  split
  · exact Moving.write_inv hs
  · exact hs

theorem gatherUnit_inv {t die g d n v m} (hs : Inv m.s) : Inv (gatherUnit t die g d n v m).s := by
  unfold gatherUnit
  dsimp only
  exact Inv.ite_moving hs (Inv.ite_moving (gatherPad_inv (Moving.write_inv hs))
    (Inv.ite_moving (Moving.read_inv hs) (gatherPad_inv (Moving.write_inv (Moving.tally_inv (Moving.read_inv hs))))))

theorem scatterUnit_inv {t die g d n v m} (hs : Inv m.s) : Inv (scatterUnit t die g d n v m).s := by
  unfold scatterUnit
  dsimp only
  exact Inv.ite_moving hs (Inv.ite_moving hs (Inv.ite_moving (Inv.ite_snd_moving
    (Moving.read_inv (Moving.read_inv hs)) (Moving.read_inv hs)) (Moving.write_inv
    (Moving.tally_inv (Inv.ite_snd_moving (Moving.read_inv (Moving.read_inv hs)) (Moving.read_inv hs))))))

theorem movePiece_inv {t die g d m j} (hs : Inv m.s) : Inv (movePiece t die g d m j).s := by
  unfold movePiece
  refine .ite_moving hs ?_
  extract_lets es per cnt m₁ before
  have read := Moving.read_inv (m := m₁) (t := t) (die := die) (fd := false) (runs := [(d.addr 2 + j * 4096, cnt * es)])
    (sramReads_inv hs)
  refine .ite_moving read (.ite_moving (.ite_moving ?_ read) (foldl_moving_inv (fun _ _ hu => ?_) read))
  · exact foldl_moving_inv (fun _ _ hu => Moving.write_inv hu) read
  · dsimp only
    split
    · exact gatherUnit_inv hu
    · exact scatterUnit_inv hu

theorem gatherRows_inv {t die d m} (hs : Inv m.s) : Inv (gatherRows t die d m).s :=
  Inv.ite_moving (foldl_moving_inv (fun _ _ hu => Moving.write_inv hu) hs) hs

theorem waitRepair_inv {t die page m s} (hs : Inv s) : Inv (waitRepair t die page m s) :=
  setTask_inv (taskReads_inv hs)

theorem moveTask_inv {c ty s} (hs : Inv s) : Inv (moveTask c ty s) := by
  unfold moveTask
  dsimp only
  split
  · exact chargeAll_inv hs
  · exact startCopy_inv (chargeAll_inv hs)
  · refine Inv.ite (chargeAll_inv hs) ?_
    split
    · exact startUnit_inv (chargeAll_inv hs)
    · split
      · exact waitRepair_inv (startUnit_inv (chargeAll_inv hs))
      · exact setTask_inv (count_inv (count_inv (gatherRows_inv (foldl_moving_inv (fun _ _ hu => movePiece_inv hu)
          (startUnit_inv (chargeAll_inv hs))))))

theorem execGatherTask_answers {c s} : Answers s (execGatherTask c s) :=
  .finish fun hs => moveTask_inv hs

theorem execScatterTask_answers {c s} : Answers s (execScatterTask c s) :=
  .finish fun hs => moveTask_inv hs

theorem movedUnits_inv {t n s} (hs : Inv s) : Inv (movedUnits t n s) :=
  setTask_inv hs

theorem transferLocal_inv {t die d s} (hs : Inv s) : Inv (transferLocal t die d s).s := by
  unfold transferLocal
  dsimp only
  exact foldl_moving_inv (fun _ _ hu => Inv.ite_moving hu (Inv.ite_moving (Moving.read_inv hu)
    (movedUnits_inv (Moving.write_inv (Moving.read_inv hu))))) hs

theorem transferOut_inv {t die tk ack d s} (hs : Inv s) : Inv (transferOut t die tk ack d s).s := by
  unfold transferOut
  dsimp only
  exact foldl_moving_inv (fun _ _ hu => Inv.ite_moving hu (Inv.ite_moving (Moving.read_inv hu)
    (sendPkts_inv (Inv.ite (Moving.read_inv hu) (movedUnits_inv (Moving.read_inv hu)))))) hs

theorem transferIn_inv {t die tk d s} (hs : Inv s) : Inv (transferIn t die tk d s) :=
  setTask_inv (sendPkts_inv hs)

theorem issueReads_inv {n s} (hs : Inv s) : Inv (issueReads n s) := by
  -- The list of the tags stays a name: to evaluate it is what the definition's own equations stop at.
  generalize h : issueReads = f
  delta issueReads issueReads._f at h
  generalize List.range 1024 = tags at h
  subst h
  induction n generalizing s with
  | zero => exact hs
  | succ n ih =>
    dsimp only
    split
    · exact hs
    · split
      · exact hs
      · exact ih (.setHost hs)

theorem transferHost_inv {t parks d s} (hs : Inv s) : Inv (transferHost t parks d s) :=
  issueReads_inv (setTask_inv (.setHost hs))

theorem transferCount_inv {c d s} (hs : Inv s) : Inv (transferCount c d s) :=
  Inv.ite (count_inv (count_inv hs)) (count_inv hs)

theorem execTransferTask_answers {c s} : Answers s (execTransferTask c s) := by
  unfold execTransferTask
  extract_lets s₁ c' die b₁ b₂ s₂
  have waited (hs : Inv s) : Inv s₂ := foldl_inv (fun _ _ hu => waitToken_inv hu) (chargeAll_inv hs)
  clear_value s₂
  split
  · exact .finish waited
  · exact .finish fun hs => startCopy_inv (waited hs)
  · extract_lets d go
    have going {tk v} (hs : Inv s) (e : go = some (tk, v)) : Inv v := by
      dsimp only [go] at e
      split at e
      · exact takeToken_inv (endWait_inv (waited hs)) e
      · obtain ⟨-, rfl⟩ := Prod.mk.inj (Option.some.inj e)
        exact waited hs
    clear_value go
    refine .ite (.finish waited) ?_
    split
    · exact .finish waited
    · extract_lets v₁ out m
      have took (hs : Inv s) : Inv v₁ := setTask_inv (startUnit_inv (going hs rfl))
      have moved (hs : Inv s) : Inv m.s := .ite_moving (transferOut_inv (took hs)) (transferLocal_inv (took hs))
      clear_value m v₁
      refine .ite (.finish fun hs => transferCount_inv (transferIn_inv (took hs)))
        (.ite (.finish fun hs => transferCount_inv (transferHost_inv (took hs))) ?_)
      split
      · exact .finish fun hs => waitRepair_inv (took hs)
      · exact .ite (.finish fun hs => setTask_inv (transferCount_inv (moved hs)))
          (.finish fun hs => setTask_inv (transferCount_inv (moved hs)))

theorem lateRsp_inv {i s} (hs : Inv s) : Inv (lateRsp i s) :=
  count_inv hs

theorem lateWatch_inv {i p s} (hs : Inv s) : Inv (lateWatch i p s) :=
  count_inv (lateRsp_inv hs)

theorem rspError_inv {t st ga s} (hs : Inv s) : Inv (rspError t st ga s) :=
  Inv.ite (taskPoison_inv hs) (setTask_inv hs)

theorem answered_inv {t s} (hs : Inv s) : Inv (answered t s) := by
  unfold answered
  split
  · exact hs
  · exact Inv.ite (dropToken_inv (setTask_inv hs)) (setTask_inv hs)

theorem landWith_inv {put t last s} (hs : Inv s) (hput : ∀ o bs u, Inv u → Inv (put o bs u)) :
    Inv (landWith put t last s) := by
  unfold landWith
  split
  · exact hs
  · extract_lets s₁
    have whole : Inv s₁ := by
      refine foldl_inv (fun _ _ hu => ?_) hs
      split
      · exact hu
      · split
        · exact hu
        · exact hput _ _ _ (setTask_inv hu)
    refine .ite ?_ whole
    split
    · exact whole
    · exact foldl_inv (fun _ _ hv => hput _ _ _ hv) (setTask_inv whole)

theorem landPieces_inv {t last s} (hs : Inv s) : Inv (landPieces t last s) := by
  unfold landPieces
  split
  · exact hs
  · exact landWith_inv hs (fun _ _ _ hu => taskWrite_inv hu)

theorem addPiece_inv {t o bs s} (hs : Inv s) : Inv (addPiece t o bs s) :=
  Inv.ite hs (setTask_inv hs)

theorem readRsp_inv {p s u} (hs : Inv s) (e : readRsp p s = some u) : Inv u := by
  unfold readRsp at e
  split at e
  · cases e
  · extract_lets d ga o mine n s₁ bs s₂ s₃ at e
    have came : Inv s₂ := addPiece_inv (.ite (rspError_inv hs) hs)
    obtain ⟨-, e⟩ := Option.ite_none_left_eq_some.mp e
    rw [← Option.some.inj e]
    exact answered_inv (landPieces_inv (.ite (movedUnits_inv came) came))

theorem execWriteAckReceived_answers {s} : Answers s (execWriteAckReceived s) := by
  unfold execWriteAckReceived
  dsimp only
  split
  · exact .finish fun hs => hs
  · rename_i u e
    refine Answers.ite (.finish fun hs => mirrorAck_inv ((takeIn_inv hs e))) ?_
    split
    · exact Answers.ite (.finish fun hs => answered_inv (Inv.ite (movedUnits_inv ((takeIn_inv hs e)))
        (rspError_inv ((takeIn_inv hs e))))) (.finish fun hs => Inv.ite (post_inv ((takeIn_inv hs e)))
        (lateRsp_inv ((takeIn_inv hs e))))
    · exact .finish fun hs => Inv.ite (post_inv ((takeIn_inv hs e))) (lateRsp_inv ((takeIn_inv hs e)))

theorem execWatchRspReceived_answers {s} : Answers s (execWatchRspReceived s) := by
  unfold execWatchRspReceived
  dsimp only
  split
  · exact .finish fun hs => hs
  · rename_i u e
    split
    · exact .finish fun hs => lateWatch_inv ((takeIn_inv hs e))
    · exact Answers.ite (.finish fun hs => lateWatch_inv ((takeIn_inv hs e)))
        (Answers.ite (.finish fun hs => lateWatch_inv (timeoutWait_inv ((takeIn_inv hs e))))
        (Answers.ite (.finish fun hs => dropToken_inv (setTask_inv (rspError_inv
        (cancelWatch_inv ((takeIn_inv hs e)))))) (Answers.ite (.finish fun hs => setTask_inv ((takeIn_inv hs e)))
        (Answers.ite (.finish fun hs => setTask_inv ((takeIn_inv hs e)))
        (Answers.ite (.finish fun hs => (takeIn_inv hs e)) (.finish fun hs => dropToken_inv
        (setTask_inv ((takeIn_inv hs e)))))))))

theorem execFabricTimeout_answers {t s} : Answers s (execFabricTimeout t s) := by
  unfold execFabricTimeout
  dsimp only
  split
  · exact .finish fun hs => hs
  · exact Answers.ite (.finish fun hs => count_inv (dropToken_inv (setTask_inv (Inv.ite (cancelWatch_inv hs) hs))))
      (.finish fun hs => hs)

/-! Layer programs (04). -/

theorem execLoadLayerProgram_answers {m s} : Answers s (execLoadLayerProgram m s) := by
  unfold execLoadLayerProgram
  dsimp only
  refine mbxCommand_answers fun _ _ hs => ?_
  split
  · exact bufFault_inv hs
  · refine Reply.Inv.ite (.done (Inv.ite_snd_snd (devRead_inv hs) (devRead_inv (devRead_inv hs)))) ?_
    split
    · exact .done (Inv.ite_snd_snd (devRead_inv hs) (devRead_inv (devRead_inv hs)))
    · exact .done (foldl_inv (fun _ _ hu => setStream_inv hu) (.set (Inv.ite_snd_snd (devRead_inv hs)
        (devRead_inv (devRead_inv hs)))))

theorem execUnloadLayerProgram_answers {m s} : Answers s (execUnloadLayerProgram m s) := by
  unfold execUnloadLayerProgram
  dsimp only
  refine mbxCommand_answers fun _ _ hs => ?_
  split
  · exact .done hs
  · exact Reply.Inv.ite (.done hs) (.done (foldl_inv (fun _ _ hu => unbindStream_inv hu) (.set hs)))

/-! The stash manager (08). -/

theorem execConfigureStash_answers {m s} : Answers s (execConfigureStash m s) :=
  mbxCommand_answers fun _ _ hs => Reply.Inv.ite (.done hs) (.done (.set hs))

theorem allocG_inv {c n s a u} (hs : Inv s) (e : allocG c n s = some (a, u)) : Inv u := by
  obtain ⟨_, -, e⟩ := Option.map_eq_some_iff.mp e
  obtain ⟨-, rfl⟩ := Prod.mk.inj e
  exact countHigh_inv (.set hs)

theorem allocL_inv {c n s a u} (hs : Inv s) (e : allocL c n s = some (a, u)) : Inv u := by
  obtain ⟨_, -, e⟩ := Option.map_eq_some_iff.mp e
  obtain ⟨-, rfl⟩ := Prod.mk.inj e
  exact countHigh_inv (.set hs)

theorem freeG_inv {c a s} (hs : Inv s) : Inv (freeG c a s) :=
  .set hs

theorem freeL_inv {c a s} (hs : Inv s) : Inv (freeL c a s) :=
  .set hs

theorem acceptEntry_inv {c k s} (hs : Inv s) : Inv (acceptEntry c k s) := by
  unfold acceptEntry
  dsimp only
  split
  · exact post_inv (devRead_inv hs)
  · exact .set (devRead_inv hs)

theorem stashDoorbell_inv {v s} (hs : Inv s) : Inv (stashDoorbell v s) := by
  unfold stashDoorbell
  dsimp only
  split
  · exact post_inv (refuseWrite_inv hs)
  · exact Inv.ite (foldl_inv (fun _ _ hu => acceptEntry_inv hu) (.set hs)) (post_inv (refuseWrite_inv hs))

theorem newCopy_inv {slot x s} (hs : Inv s) : Inv (newCopy slot x s) :=
  setEntry_inv (.set hs)

theorem startOff_inv {c slot s u} (hs : Inv s) (e : startOff c slot s = some u) : Inv u := by
  unfold startOff at e
  split at e
  · cases e
  · split at e
    · obtain ⟨⟨a, v⟩, got, rfl⟩ := Option.map_eq_some_iff.mp e
      exact newCopy_inv (allocL_inv hs got)
    · cases e

theorem startVictims_inv {c n above s} (hs : Inv s) : Inv (startVictims c n above s).2 := by
  refine foldl_snd_snd_inv (fun _ _ hu => .ite_snd_snd hu ?_) hs
  split
  · exact hu
  next e => exact startOff_inv hu e

theorem bindRc_inv {slot e s} (hs : Inv s) : Inv (bindRc slot e s) := by
  unfold bindRc
  dsimp only
  refine askRange_inv (setEntry_inv ?_)
  split
  · exact count_inv (count_inv hs)
  · exact count_inv hs

theorem bindLoop_inv {c slot s} (hs : Inv s) : Inv (bindLoop c slot s) := by
  unfold bindLoop
  dsimp only
  split
  · exact hs
  · split
    · rename_i u e
      refine askRange_inv (setEntry_inv ?_)
      split
      · exact count_inv (count_inv (count_inv ((allocG_inv hs e))))
      · exact count_inv ((allocG_inv hs e))
    · refine Inv.ite (setEntry_inv (Inv.ite (Inv.ite_snd (startVictims_inv hs) hs)
        (post_inv (Inv.ite_snd (startVictims_inv hs) hs)))) (Inv.ite (bindRc_inv
        (count_inv (post_inv (.set (Inv.ite_snd (startVictims_inv hs) hs)))))
        (.set (askRange_inv (post_inv (count_inv ?_)))))
      split
      · exact count_inv (Inv.ite_snd (startVictims_inv hs) hs)
      · exact Inv.ite_snd (startVictims_inv hs) hs

theorem releaseBwd_inv {slot base s} (hs : Inv s) : Inv (releaseBwd slot base s) := by
  unfold releaseBwd
  dsimp only
  split
  · exact hs
  · exact askRange_inv (Inv.ite (askRange_inv hs) hs)

theorem needRc_inv {slot e s} (hs : Inv s) : Inv (needRc slot e s) :=
  Inv.ite (askRange_inv hs) (releaseBwd_inv hs)

theorem reload_inv {c slot s} (hs : Inv s) : Inv (reload c slot s) := by
  unfold reload
  dsimp only
  split
  · exact hs
  · split
    · split
      · rename_i u e
        refine newCopy_inv (setEntry_inv ?_)
        split
        · exact count_inv ((allocG_inv hs e))
        · exact (allocG_inv hs e)
      · refine Inv.ite (setEntry_inv (startVictims_inv hs)) (Inv.ite (needRc_inv (setEntry_inv ?_))
          (setEntry_inv (startVictims_inv hs)))
        split
        · exact count_inv (startVictims_inv hs)
        · exact startVictims_inv hs
    · exact hs

theorem retryStash_inv {c s} (hs : Inv s) : Inv (retryStash c s) :=
  foldl_inv (fun _ _ hu => bindLoop_inv hu) (foldl_inv (fun _ _ hu => reload_inv hu) hs)

theorem unwait_inv {slot s} (hs : Inv s) : Inv (unwait slot s) :=
  .set hs

theorem onBind_inv {c slot s} (hs : Inv s) : Inv (onBind c slot s) := by
  unfold onBind
  dsimp only
  split
  · exact hs
  · exact Inv.ite hs (Inv.ite (bindRc_inv (setEntry_inv hs)) (bindLoop_inv (setEntry_inv hs)))

theorem noteSpan_inv {c e span s} (hs : Inv s) : Inv (noteSpan c e span s) :=
  .set (Inv.ite (count_inv (post_inv hs)) hs)

theorem onFwdDone_inv {c slot s} (hs : Inv s) : Inv (onFwdDone c slot s) := by
  unfold onFwdDone
  split
  · exact hs
  · split
    · exact hs
    · have noted {e n f} := noteSpan_inv (c := c) (e := e) (span := n) (setEntry_inv (k := slot) (f := f) hs)
      refine .ite hs (.ite ?_ noted)
      cases e : startOff c slot _ with
      | none => exact noted
      | some u => exact startOff_inv noted e

theorem copyBytes_inv {die x g n s} (hs : Inv s) : Inv (copyBytes die x g n s) :=
  (copyBytes_wrote die x g n s).inv hs

theorem copyPartly_inv {unit x size s} (hs : Inv s) : Inv (copyPartly unit x size s) := by
  unfold copyPartly
  dsimp only
  split
  · exact hs
  · exact foldl_inv (fun _ _ hu => copyBytes_inv (draw_inv hu)) hs

theorem onBwdNeed_inv {c slot s} (hs : Inv s) : Inv (onBwdNeed c slot s) := by
  unfold onBwdNeed
  dsimp only
  split
  · exact hs
  · refine Inv.ite hs ?_
    split
    · exact setEntry_inv hs
    · exact needRc_inv (setEntry_inv hs)
    · exact reload_inv (setEntry_inv hs)
    · split
      · exact releaseBwd_inv (setEntry_inv hs)
      · exact retryStash_inv (unwait_inv (releaseBwd_inv (count_inv (freeL_inv
          (setEntry_inv (copyPartly_inv (chargeAll_inv (setEntry_inv hs))))))))

theorem execStashSRcDone_answers {slot s} : Answers s (execStashSRcDone slot s) := by
  unfold execStashSRcDone
  split
  · exact .finish fun hs => hs
  · exact Answers.ite (.finish fun hs => releaseBwd_inv hs) (.finish fun hs => hs)

theorem freeRuns_inv {c e s} (hs : Inv s) : Inv (freeRuns c e s) := by
  unfold freeRuns
  dsimp only
  split
  · split
    · exact freeG_inv hs
    · exact freeL_inv hs
    · exact hs
  · refine Inv.ite (freeL_inv ?_) (freeG_inv ?_)
    · split
      · exact freeG_inv hs
      · exact freeL_inv hs
      · exact hs
    · split
      · exact freeG_inv hs
      · exact freeL_inv hs
      · exact hs

theorem onFree_inv {c slot s} (hs : Inv s) : Inv (onFree c slot s) := by
  unfold onFree
  split
  · exact hs
  · refine .ite hs ?_
    extract_lets s₁ s₂
    have copied : Inv s₁ := by
      dsimp only [s₁]
      split
      · exact copyPartly_inv (chargeAll_inv hs)
      · exact hs
    have freed : Inv s₂ := freeRuns_inv copied
    clear_value s₂
    exact retryStash_inv (unwait_inv (.set (.unless (.unless (.unless (.set freed) askRange_inv) askRange_inv)
      askRange_inv)))

theorem StashTrig.act_inv {k c slot s} (hs : Inv s) : Inv (StashTrig.act k c slot s) := by
  unfold StashTrig.act
  split
  · exact onFree_inv hs
  · exact onBwdNeed_inv hs
  · exact onFwdDone_inv hs
  · exact onBind_inv hs

theorem actTrigs_inv {c ks slots s} (hs : Inv s) : Inv (actTrigs c ks slots s) :=
  foldl_inv (fun _ _ hu => foldl_inv (fun _ _ hu => StashTrig.act_inv hu) hu) hs

theorem observe_inv {before k slot s} (hs : Inv s) : Inv (observe before k slot s) := by
  unfold observe
  dsimp only
  split
  · exact hs
  · exact StashTrig.act_inv (actTrigs_inv (actTrigs_inv hs))

theorem execStashSBind_answers {slot s} : Answers s (execStashSBind slot s) :=
  .finish fun hs => observe_inv hs

theorem execStashSFwdDone_answers {slot s} : Answers s (execStashSFwdDone slot s) :=
  .finish fun hs => observe_inv hs

theorem execStashSBwdNeed_answers {slot s} : Answers s (execStashSBwdNeed slot s) :=
  .finish fun hs => observe_inv hs

theorem execStashSFree_answers {slot s} : Answers s (execStashSFree slot s) :=
  .finish fun hs => observe_inv hs

theorem execStashCopyDone_answers {slot s} : Answers s (execStashCopyDone slot s) := by
  unfold execStashCopyDone
  dsimp only
  split
  · exact .finish fun hs => hs
  · split
    · exact .finish fun hs => hs
    · exact Answers.ite (.finish fun hs => hs) (Answers.ite (.finish fun hs => retryStash_inv
        (unwait_inv (setEntry_inv (count_inv (count_inv (freeG_inv (count_inv
        (foldl_inv (fun _ _ hu => copyBytes_inv hu) (actTrigs_inv (chargeAll_inv hs))))))))))
        (.finish fun hs => retryStash_inv (releaseBwd_inv (setEntry_inv
        (count_inv (count_inv (freeL_inv (count_inv (foldl_inv (fun _ _ hu => copyBytes_inv hu)
        (actTrigs_inv (chargeAll_inv hs)))))))))))

theorem stashBoundary_inv {s} (hs : Inv s) : Inv (stashBoundary s) :=
  .set hs

theorem stashAbandon_inv {s} (hs : Inv s) : Inv (stashAbandon s) := by
  unfold stashAbandon
  refine foldl_inv (fun _ _ hu => ?_) hs
  split
  · exact copyPartly_inv hu
  · exact hu

theorem stashReset_inv {s} (hs : Inv s) : Inv (stashReset s) :=
  .set hs

/-! Numerics control (09). -/

theorem execConfigureNumerics_answers {m s} : Answers s (execConfigureNumerics m s) :=
  mbxCommand_answers fun _ _ hs => Reply.Inv.ite (.done hs) (.done (.set hs))

theorem execSetRngSeed_answers {m s} : Answers s (execSetRngSeed m s) :=
  mbxCommand_answers fun _ _ hs => .done (.set hs)

theorem setWatchEntry_inv {i x s} (hs : Inv s) : Inv (setWatchEntry i x s) :=
  .set hs

theorem execReadWatch_answers {m s} : Answers s (execReadWatch m s) :=
  mbxCommand_answers fun _ _ hs => Reply.Inv.ite (.done hs) (replyBytes_inv hs)

theorem execSetWatch_answers {m s} : Answers s (execSetWatch m s) :=
  mbxCommand_answers fun _ _ hs => Reply.Inv.ite (.done hs) (.done (setWatchEntry_inv hs))

theorem watchDeliver_inv {i step r z s} (hs : Inv s) : Inv (watchDeliver i step r z s) :=
  Inv.ite (count_inv hs) (setWatchEntry_inv (Inv.ite (post_inv (count_inv (Inv.ite (post_inv (count_inv hs)) hs)))
    (Inv.ite (post_inv (count_inv hs)) hs)))

theorem readRec_inv {c i s} (hs : Inv s) : Inv (readRec c i s).2 := by
  unfold readRec
  dsimp only
  exact devRead_inv hs

theorem writeRec_inv {c i r s} (hs : Inv s) : Inv (writeRec c i r s) :=
  devPut_inv hs

theorem boundaryUpdate_inv {step s} (hs : Inv s) : Inv (boundaryUpdate step s) := by
  unfold boundaryUpdate
  dsimp only
  refine .set ?_
  split
  · exact hs
  · refine foldl_inv (fun _ _ hu => ?_) hs
    split
    · rename_i u e
      exact Inv.ite (((readRec_inv (count_inv hu)).of_pair e)) (writeRec_inv (((readRec_inv (count_inv hu)).of_pair e)))
    · rename_i u e
      exact ((readRec_inv (count_inv hu)).of_pair e)

theorem acceptGuard_inv {c k s} (hs : Inv s) : Inv (acceptGuard c k s) := by
  unfold acceptGuard
  dsimp only
  split
  · exact post_inv (Inv.ite_snd (readRec_inv (devRead_inv hs)) (devRead_inv hs))
  · exact .set (Inv.ite_snd (readRec_inv (devRead_inv hs)) (devRead_inv hs))

theorem guardDoorbell_inv {v s} (hs : Inv s) : Inv (guardDoorbell v s) := by
  unfold guardDoorbell
  dsimp only
  split
  · exact post_inv (refuseWrite_inv hs)
  · exact Inv.ite (foldl_inv (fun _ _ hu => acceptGuard_inv hu) (.set hs)) (post_inv (refuseWrite_inv hs))

theorem foldAmax_inv {c g a last s} (hs : Inv s) : Inv (foldAmax c g a last s) := by
  unfold foldAmax
  dsimp only
  split
  · rename_i u e
    exact ((readRec_inv hs).of_pair e)
  · rename_i u e
    exact writeRec_inv (((readRec_inv hs).of_pair e))

theorem refuseGuard_inv {slot b s} (hs : Inv s) : Inv (refuseGuard slot b s) :=
  post_inv (.set hs)

theorem runGuard_inv {c slot i k fmt s} (hs : Inv s) : Inv (runGuard c slot i k fmt s) := by
  unfold runGuard
  dsimp only
  split
  · exact hs
  · exact Inv.ite (refuseGuard_inv (Inv.ite_snd hs (readRec_inv hs))) (drainRanges_inv
      (lineGuard_inv (Inv.ite (count_inv (setGuard_inv (Inv.ite (drainRanges_inv
      (lineGuard_inv (Inv.ite_snd hs (readRec_inv hs)))) (Inv.ite_snd hs (readRec_inv hs)))))
      (setGuard_inv (Inv.ite (drainRanges_inv (lineGuard_inv (Inv.ite_snd hs (readRec_inv hs))))
      (Inv.ite_snd hs (readRec_inv hs)))))))

theorem startGuard_inv {c slot s} (hs : Inv s) : Inv (startGuard c slot s) := by
  unfold startGuard
  split
  · exact hs
  · refine .ite (setGuard_inv hs) ?_
    extract_lets s₁
    have waited : Inv s₁ := by
      dsimp only [s₁]
      split
      · exact count_inv (setGuard_inv hs)
      · exact hs
    clear_value s₁
    refine .ite (drainRanges_inv (endGuard_inv (post_inv (count_inv waited)))) ?_
    have read {i} := readRec_inv (c := c) (i := i) waited
    dsimp only
    split
    · exact refuseGuard_inv read
    · exact .ite (refuseGuard_inv read) (.ite (runGuard_inv read) (.ite (runGuard_inv read) (runGuard_inv read)))

theorem execGuardTrigger_answers {slot s} : Answers s (execGuardTrigger slot s) := by
  unfold execGuardTrigger
  split
  · exact Answers.ite (.finish fun hs => hs) (.finish fun hs => startGuard_inv hs)
  · exact .finish fun hs => hs

theorem retryGuards_inv {s} (hs : Inv s) : Inv (retryGuards s) := by
  unfold retryGuards
  split
  · exact hs
  · exact foldl_inv (fun _ _ hu => startGuard_inv hu) hs

theorem guardVerdict_inv {slot g s} (hs : Inv s) : Inv (guardVerdict slot g s) :=
  drainRanges_inv (endGuard_inv (count_inv (semAdd_inv hs)))

theorem variantDone_inv {c slot i g r s} (hs : Inv s) : Inv (variantDone c slot i g r s) := by
  unfold variantDone
  dsimp only
  refine Inv.ite (guardVerdict_inv (Inv.ite (foldAmax_inv hs) hs)) ?_
  split
  · exact guardVerdict_inv (post_inv (count_inv (Inv.ite (foldAmax_inv hs) hs)))
  · exact runGuard_inv (Inv.ite (count_inv (post_inv (Inv.ite (foldAmax_inv hs) hs)))
      (count_inv (post_inv (Inv.ite (foldAmax_inv hs) hs))))

theorem execGuardRangeComplete_answers {slot s} : Answers s (execGuardRangeComplete slot s) := by
  unfold execGuardRangeComplete
  dsimp only
  split
  · split
    · exact .finish fun hs => hs
    · refine Answers.ite (.finish fun hs => hs) ?_
      split
      · rename_i u e
        exact .finish fun hs => refuseGuard_inv (((readRec_inv hs).of_pair e))
      · rename_i u e
        exact Answers.ite (.finish fun hs => refuseGuard_inv (((readRec_inv hs).of_pair e)))
          (Answers.ite (.finish fun hs => runGuard_inv (Inv.ite (foldAmax_inv (((readRec_inv hs).of_pair e)))
          (((readRec_inv hs).of_pair e)))) (.finish fun hs => variantDone_inv (((readRec_inv hs).of_pair e))))
  · exact .finish fun hs => hs

theorem numReset_inv {s} (hs : Inv s) : Inv (numReset s) :=
  .set hs

/-! The Spectrographs (11). -/

theorem setTable_inv {i f s} (hs : Inv s) : Inv (setTable i f s) :=
  .set hs

theorem loadTables_inv {k l ts s} (hs : Inv s) (hk : ∀ ts u, Inv u → (k ts u).Inv) : (loadTables k l ts s).Inv := by
  induction l generalizing ts s with
  | nil => exact hk _ _ hs
  | cons r rest ih =>
    unfold loadTables
    dsimp only
    split
    · exact .done hs
    · refine readBuffer_inv hs fun _ _ hu => ?_
      split
      · exact .done hu
      · exact ih hu

theorem execConfigureSpectrograph_answers {m s} : Answers s (execConfigureSpectrograph m s) :=
  mbxCommand_answers fun _ _ hs => Reply.Inv.ite (.done hs) (Reply.Inv.ite (.done (Inv.ite (.set hs) hs))
    (readBuffer_inv hs (fun _ _ hu => loadTables_inv hu (fun _ _ hu => .done (Inv.ite (.set (.set hu)) (.set hu))))))

theorem tableHold_inv {i s} (hs : Inv s) : Inv (tableHold i s).2 := by
  unfold tableHold
  split
  · exact hs
  · exact Inv.ite_snd hs (Inv.ite_snd hs (setTable_inv hs))

theorem tableDrop_inv {i g s} (hs : Inv s) : Inv (tableDrop i g s) :=
  setTable_inv hs

theorem writeDir_inv {i s} (hs : Inv s) : Inv (writeDir i s) := by
  unfold writeDir
  dsimp only
  split
  · exact devPut_inv (devRead_inv hs)
  · exact hs

theorem tableHalt_inv {t s} (hs : Inv s) : Inv (tableHalt t s) :=
  Inv.ite (haltStream_inv hs) hs

theorem tableStep_inv {i s} (hs : Inv s) : Inv (tableStep i s) := by
  unfold tableStep
  dsimp only
  split
  · exact hs
  · exact Inv.ite (Inv.ite (tableHalt_inv (post_inv (count_inv (writeDir_inv
      (count_inv (setTable_inv (foldl_snd_inv (fun _ _ hu => devRead_inv hu) hs)))))))
      (writeDir_inv (count_inv (setTable_inv (foldl_snd_inv (fun _ _ hu => devRead_inv hu) hs)))))
      (Inv.ite (Inv.ite (tableHalt_inv (post_inv (count_inv (writeDir_inv (count_inv (setTable_inv hs))))))
      (writeDir_inv (count_inv (setTable_inv hs)))) (writeDir_inv hs))

theorem tableBoundary_inv {s} (hs : Inv s) : Inv (tableBoundary s) :=
  foldl_inv (fun _ _ hu => tableStep_inv hu) hs

theorem setJob_inv {t f s} (hs : Inv s) : Inv (setJob t f s) :=
  .set hs

theorem unhold_inv {t s} (hs : Inv s) : Inv (unhold t s) := by
  unfold unhold
  dsimp only
  split
  · exact hs
  · exact setJob_inv (.set hs)

theorem specFinish_inv {t c st det result s} (hs : Inv s) : Inv (specFinish t c st det result s) :=
  count_inv (setTask_inv hs)

theorem startWait_inv {t s} (hs : Inv s) : Inv (startWait t s) :=
  setJob_inv hs

theorem stopWait_inv {t s} (hs : Inv s) : Inv (stopWait t s) := by
  unfold stopWait
  split
  · exact hs
  · split
    · exact hs
    · exact setJob_inv (count_inv hs)

theorem addMarks_inv {t m s} (hs : Inv s) : Inv (addMarks t m s) :=
  setJob_inv hs

theorem closeJob_inv {j st det result s} (hs : Inv s) : Inv (closeJob j st det result s) :=
  specFinish_inv (.set (setTask_inv (stopWait_inv hs)))

theorem stopJob_inv {j st det s} (hs : Inv s) : Inv (stopJob j st det s) :=
  closeJob_inv (unhold_inv hs)

theorem decideJob_inv {t outcome reason st s} (hs : Inv s) : Inv (decideJob t outcome reason st s) :=
  setJob_inv (unhold_inv (Inv.ite hs (stopWait_inv hs)))

theorem infeasible_inv {j d reason s} (hs : Inv s) : Inv (infeasible j d reason s) :=
  decideJob_inv (post_inv (count_inv hs))

theorem missed_inv {j s} (hs : Inv s) : Inv (missed j s) :=
  decideJob_inv (count_inv hs)

theorem writeMat_inv {j i m s} (hs : Inv s) : Inv (writeMat j i m s) :=
  taskWrite_inv hs

theorem useVectors_inv {j s} (hs : Inv s) : Inv (useVectors j s) := by
  unfold useVectors
  dsimp only
  exact count_inv (count_inv (taskWrite_inv (draw_inv (draw_inv (draw_inv hs)))))

theorem jobRead_inv {j runs s k} (hs : Inv s) (hk : ∀ bs u, Inv u → Inv (k bs u)) : Inv (jobRead j runs s k) := by
  unfold jobRead
  split
  next e => exact (taskReads_inv hs).of_pair e
  next e => exact stopJob_inv ((taskReads_inv hs).of_pair e)
  next e => exact hk _ _ (count_inv ((taskReads_inv hs).of_pair e))

theorem headRead_inv {j s k} (hs : Inv s) (hk : ∀ bs u, Inv u → Inv (k bs u)) : Inv (headRead j s k) :=
  jobRead_inv hs fun _ _ hu => hk _ _ (count_inv hu)

theorem takeProblem_inv {c t d s} (hs : Inv s) : Inv (takeProblem c t d s) := by
  unfold takeProblem
  split
  · refine specFinish_inv (post_inv (count_inv ?_))
    split
    · exact hs
    · exact draw_inv hs
  · extract_lets put j
    refine .ite (missed_inv (.set hs)) ?_
    split
    next e => exact setTask_inv ((taskReads_inv hs).of_pair e)
    next e => exact specFinish_inv ((taskReads_inv hs).of_pair e)
    next u e =>
      extract_lets ws j' s₁
      have read : Inv s₁ := count_inv (count_inv (.set ((taskReads_inv hs).of_pair e)))
      refine .ite (infeasible_inv read) ?_
      split
      · exact stopJob_inv read
      · exact .ite (setJob_inv read) read

theorem execSpectroTask_answers {c s} : Answers s (execSpectroTask c s) := by
  unfold execSpectroTask
  dsimp only
  split
  · exact .finish fun hs => chargeAll_inv hs
  · exact .finish fun hs => chargeAll_inv hs
  · exact Answers.ite (.finish fun hs => chargeAll_inv hs) (.finish fun hs => takeProblem_inv
      (startUnit_inv (chargeAll_inv hs)))

theorem holdCompare_inv {j d s} (hs : Inv s) : Inv (holdCompare j d s) := by
  unfold holdCompare
  dsimp only
  split
  · exact infeasible_inv hs
  · exact jobRead_inv hs (fun _ _ hu => Inv.ite (decideJob_inv hu) (setJob_inv hu))

theorem execPhotometerHold_answers {c s} : Answers s (execPhotometerHold c s) := by
  unfold execPhotometerHold
  dsimp only
  split
  · exact .finish fun hs => hs
  · split
    · exact .finish fun hs => hs
    · refine Answers.ite (.finish fun hs => missed_inv hs) (Answers.ite (.finish fun hs => holdCompare_inv hs) ?_)
      split
      · exact .finish fun hs => infeasible_inv (count_inv hs)
      · exact Answers.ite (.finish fun hs => infeasible_inv (count_inv hs))
          (Answers.ite (.finish fun hs => startWait_inv hs) (.finish fun hs => holdCompare_inv
          (setJob_inv (setSlot_inv (stopWait_inv hs)))))

theorem execPhotometerHoldRelease_answers {c s} : Answers s (execPhotometerHoldRelease c s) := by
  unfold execPhotometerHoldRelease
  split
  · exact .finish fun hs => hs
  · exact .finish fun hs => unhold_inv hs

theorem denseDone_inv {j d s} (hs : Inv s) : Inv (denseDone j d s) := by
  unfold denseDone
  dsimp only
  refine jobRead_inv hs (fun _ _ hu => ?_)
  split
  · exact infeasible_inv hu
  · exact jobRead_inv hu (fun _ _ hu => Inv.ite (count_inv (writeMat_inv (setJob_inv hu)))
      (infeasible_inv (count_inv (writeMat_inv (setJob_inv hu)))))

theorem pcgSides_inv {j s k} (hs : Inv s) (hk : ∀ b x u, Inv u → Inv (k b x u)) : Inv (pcgSides j s k) := by
  unfold pcgSides
  refine jobRead_inv hs fun _ _ hu => ?_
  split
  · exact hk _ _ _ hu
  · exact jobRead_inv hu fun _ _ hv => hk _ _ _ hv

theorem pcgReady_inv {j d bd work s} (hs : Inv s) : Inv (pcgReady j d bd work s) := by
  unfold pcgReady
  dsimp only
  refine pcgSides_inv hs (fun _ _ _ hu => Inv.ite (infeasible_inv hu) ?_)
  split
  · exact infeasible_inv (useVectors_inv (setJob_inv hu))
  · exact useVectors_inv (setJob_inv hu)

theorem bsrReady_inv {j d at_ blocks s} (hs : Inv s) : Inv (bsrReady j d at_ blocks s) := by
  unfold bsrReady
  dsimp only
  split
  · exact infeasible_inv hs
  · exact jobRead_inv hs (fun _ _ hu => Inv.ite (pcgReady_inv (count_inv (taskWrite_inv (setJob_inv hu))))
      (infeasible_inv (count_inv (taskWrite_inv (setJob_inv hu)))))

theorem bsrDone_inv {j d s} (hs : Inv s) : Inv (bsrDone j d s) := by
  unfold bsrDone
  dsimp only
  refine headRead_inv hs (fun _ _ hu => Inv.ite (stopJob_inv hu) (Inv.ite (infeasible_inv hu) ?_))
  split
  · exact stopJob_inv hu
  · exact jobRead_inv hu (fun _ _ hu => Inv.ite (infeasible_inv hu) (jobRead_inv hu (fun _ _ hu => bsrReady_inv hu)))

theorem operDone_inv {j d s} (hs : Inv s) : Inv (operDone j d s) := by
  unfold operDone
  dsimp only
  refine headRead_inv hs (fun _ _ hu => Inv.ite (infeasible_inv hu) ?_)
  split
  · exact stopJob_inv hu
  · split
    · exact infeasible_inv hu
    · exact pcgReady_inv hu

theorem execAssemblerPassDone_answers {c s} : Answers s (execAssemblerPassDone c s) := by
  unfold execAssemblerPassDone
  split
  · exact .finish fun hs => hs
  · split
    · exact .finish fun hs => hs
    · refine Answers.ite (.finish fun hs => missed_inv hs) ?_
      split
      · exact .finish fun hs => bsrDone_inv hs
      · exact .finish fun hs => operDone_inv hs
      · exact .finish fun hs => denseDone_inv hs

theorem resultJob_inv {j d rho capped s} (hs : Inv s) : Inv (resultJob j d rho capped s) :=
  decideJob_inv (Inv.ite (post_inv hs) hs)

theorem stepDone_inv {j mats i s} (hs : Inv s) : Inv (stepDone j mats i s) :=
  count_inv (count_inv (count_inv (writeMat_inv hs)))

theorem denseStep_inv {j d mats s} (hs : Inv s) : Inv (denseStep j d mats s) := by
  unfold denseStep
  extract_lets n run done j₁ s₁ s₂ rho rises j₂ s₃
  have stepped : Inv s₂ := foldl_inv (fun _ _ hu => stepDone_inv hu) (count_inv (setJob_inv hs))
  have noted : Inv s₃ := count_inv (setJob_inv stepped)
  exact .ite (infeasible_inv stepped)
    (.ite (resultJob_inv noted) (.ite (infeasible_inv noted) (.when noted resultJob_inv)))

theorem pcgJudge_inv {j d put r s} (hs : Inv s) : Inv (pcgJudge j d put r s) := by
  unfold pcgJudge
  dsimp only
  split
  · exact infeasible_inv (setJob_inv hs)
  · exact Inv.ite (resultJob_inv (useVectors_inv (count_inv (setJob_inv hs))))
      (Inv.ite (resultJob_inv (useVectors_inv (count_inv (setJob_inv hs))))
      (useVectors_inv (count_inv (setJob_inv hs))))

theorem pcgTurn_inv {j d put w cols ap s} (hs : Inv s) : Inv (pcgTurn j d put w cols ap s) := by
  unfold pcgTurn
  dsimp only
  split
  · exact pcgJudge_inv hs
  · exact Inv.ite (infeasible_inv (setJob_inv hs)) (pcgJudge_inv (setJob_inv hs))

theorem publishOp_inv {j o vs s} (hs : Inv s) : Inv (publishOp j o vs s) := by
  unfold publishOp
  dsimp only
  split
  · exact hs
  · exact Inv.ite hs (jobRead_inv hs (fun _ _ hu => setJob_inv (count_inv
      (addMarks_inv (setQueue_inv (foldl_inv (fun _ _ hu => diePut_inv hu) (taskWrite_inv hu)))))))

theorem arrayTurn_inv {j d s} (hs : Inv s) : Inv (arrayTurn j d s) := by
  unfold arrayTurn
  dsimp only
  split
  · exact hs
  · exact denseStep_inv hs
  · exact pcgTurn_inv (count_inv hs)
  · refine Inv.ite (pcgTurn_inv hs) ?_
    split
    · exact publishOp_inv hs
    · exact pcgTurn_inv hs

theorem execSpectroDecision_answers {c s} : Answers s (execSpectroDecision c s) := by
  unfold execSpectroDecision
  dsimp only
  split
  · exact .finish fun hs => hs
  · split
    · exact .finish fun hs => hs
    · exact Answers.ite (.finish fun hs => missed_inv hs) (.finish fun hs => arrayTurn_inv
        (setJob_inv (count_inv (draw_inv hs))))

theorem execSpectroDeadline_answers {c s} : Answers s (execSpectroDeadline c s) :=
  .finish fun hs => foldl_inv (fun _ _ hu => missed_inv hu) hs

theorem spectroReset_inv {s} (hs : Inv s) : Inv (spectroReset s) :=
  .set hs

theorem spectroCluster_inv {c s} (hs : Inv s) : Inv (spectroCluster c s) := by
  unfold spectroCluster
  dsimp only
  refine foldl_inv (fun _ _ hu => Inv.ite (decideJob_inv hu) ?_) hs
  split
  · exact abortTask_inv hu
  · exact .set hu

theorem clusterDiscard_inv {c s} (hs : Inv s) : Inv (clusterDiscard c s) :=
  spectroCluster_inv (photoCluster_inv (foldl_inv (fun _ _ hu => abortTask_inv hu)
    (foldl_inv (fun _ _ hu => setEntry_inv hu) (chargeAll_inv hs))))

theorem clusterResume_inv {c s} (hs : Inv s) : Inv (clusterResume c s) := by
  unfold clusterResume
  dsimp only
  split
  · exact Inv.ite (clusterDiscard_inv (.set hs)) hs
  · exact hs

theorem execOperatorApplyDone_answers {c s} : Answers s (execOperatorApplyDone c s) := by
  unfold execOperatorApplyDone
  dsimp only
  split
  · exact .finish fun hs => hs
  · split
    · exact Answers.ite (.finish fun hs => hs) (Answers.ite (.finish fun hs => clusterResume_inv
        (setJob_inv (stopWait_inv hs))) (.finish fun hs => clusterResume_inv
        (jobRead_inv (stopWait_inv hs) (fun _ _ hu => setJob_inv hu))))
    · exact .finish fun hs => hs

theorem countOutcome_inv {c o s} (hs : Inv s) : Inv (countOutcome c o s) := by
  unfold countOutcome
  split
  · exact count_inv hs
  · exact count_inv hs
  · exact count_inv hs
  · exact count_inv hs

theorem execSpectroWriteOut_answers {c s} : Answers s (execSpectroWriteOut c s) := by
  unfold execSpectroWriteOut
  dsimp only
  split
  · exact .finish fun hs => hs
  · split
    · exact .finish fun hs => hs
    · split
      · exact .finish fun hs => stopJob_inv hs
      · exact Answers.ite (.finish fun hs => startWait_inv hs) (.finish fun hs => jobRead_inv (stopWait_inv hs)
          (fun _ _ hu => closeJob_inv (countOutcome_inv (setTable_inv (diePut_inv
          (Inv.ite (count_inv (addMarks_inv (count_inv (taskWrite_inv hu)))) hu))))))

/-! Ephemeris (12). -/

theorem execConfigureEphemeris_answers {m s} : Answers s (execConfigureEphemeris m s) := by
  unfold execConfigureEphemeris
  dsimp only
  refine mbxCommand_answers fun _ _ hs => Reply.Inv.ite (.done hs) (readBuffer_inv hs (fun _ _ hu => ?_))
  split
  · exact .done hu
  · exact .done (.set hu)

theorem OptRun.readBy_inv {x c fd runs k} (hs : Inv x.mv.s) (hk : ∀ bs x, Inv x.mv.s → Inv (k bs x).mv.s) :
    Inv (OptRun.readBy x c fd runs k).mv.s := by
  unfold OptRun.readBy
  refine .ite_run hs ?_
  split
  · exact hs
  · exact hs
  · exact hk _ _ (Moving.read_inv hs)

theorem OptRun.read_inv {x c runs k} (hs : Inv x.mv.s) (hk : ∀ bs x, Inv x.mv.s → Inv (k bs x).mv.s) :
    Inv (OptRun.read x c runs k).mv.s :=
  OptRun.readBy_inv hs hk

theorem OptRun.write_inv {x c a bs} (hs : Inv x.mv.s) : Inv (OptRun.write x c a bs).mv.s := by
  unfold OptRun.write
  refine Inv.ite_run hs ?_
  split
  · exact hs
  · exact hs
  · exact Moving.write_inv hs

theorem OptRun.tally_inv {x xs} (hs : Inv x.mv.s) : Inv (OptRun.tally x xs).mv.s :=
  Moving.tally_inv hs

theorem OptRun.moments_inv {x c j k} (hs : Inv x.mv.s) (hk : ∀ m v f x, Inv x.mv.s → Inv (k m v f x).mv.s) :
    Inv (OptRun.moments x c j k).mv.s := by
  unfold OptRun.moments
  refine OptRun.read_inv hs fun _ _ hu => ?_
  split
  · exact hu
  · refine .ite_run (OptRun.read_inv hu fun _ _ hu => ?_) (.ite_run ?_ (hk _ _ _ _ hu))
    · split
      · exact hu
      · exact hk _ _ _ _ hu
    · exact OptRun.read_inv hu fun _ _ hu => hk _ _ _ _ hu

theorem OptRun.masters_inv {x c j k} (hs : Inv x.mv.s) (hk : ∀ mo x, Inv x.mv.s → Inv (k mo x).mv.s) :
    Inv (OptRun.masters x c j k).mv.s := by
  refine OptRun.read_inv hs fun _ _ hu => ?_
  split
  · exact hu
  · exact hk _ _ hu

theorem OptRun.putMoments_inv {x c j m v fac} (hs : Inv x.mv.s) : Inv (OptRun.putMoments x c j m v fac).1.mv.s := by
  unfold OptRun.putMoments
  generalize momEncode false _ m = first
  generalize momEncode true _ v = second
  obtain ⟨cm, sm, fm⟩ := first
  obtain ⟨cv, sv, fv⟩ := second
  dsimp only
  have two := OptRun.write_inv (c := c) (a := c.r.scaleAt c.r.m j) (bs := sm)
    (OptRun.write_inv (c := c) (a := c.r.codeAt c.r.m j) (bs := cm) hs)
  exact .ite_fst_run (OptRun.write_inv (OptRun.write_inv two)) (.ite_fst_run (OptRun.write_inv two) two)

theorem OptRun.putMasters_inv {x c j d mo} (hs : Inv x.mv.s) : Inv (OptRun.putMasters x c j d mo).1.mv.s := by
  unfold OptRun.putMasters
  dsimp only
  exact (OptRun.write_inv (OptRun.write_inv hs))

theorem OptRun.noteG_inv {x g gs} (hs : Inv x.mv.s) : Inv (OptRun.noteG x g gs).mv.s :=
  hs

theorem optBlock_inv {c x j} (hs : Inv x.mv.s) : Inv (optBlock c x j).mv.s :=
  OptRun.read_inv hs fun _ _ hu => OptRun.moments_inv hu fun _ _ _ _ hu => OptRun.masters_inv hu fun _ _ hu =>
    OptRun.tally_inv (OptRun.putMasters_inv (OptRun.putMoments_inv (OptRun.noteG_inv hu)))

theorem OptRun.blocks_inv {x c f a n k} (hs : Inv x.mv.s) (hk : ∀ bs x, Inv x.mv.s → Inv (k bs x).mv.s) :
    Inv (OptRun.blocks x c f a n k).mv.s :=
  OptRun.read_inv hs fun _ _ hu => hk _ _ hu

theorem pass1Block_inv {c x j} (hs : Inv x.mv.s) : Inv (pass1Block c x j).mv.s :=
  OptRun.read_inv hs fun _ _ hu => OptRun.moments_inv hu fun _ _ _ _ hu =>
    OptRun.putMoments_inv (OptRun.noteG_inv hu)

theorem putT_inv {c i x ts} (hs : Inv x.mv.s) : Inv (putT c i x ts).mv.s :=
  foldl_run_inv (fun _ _ hu => OptRun.tally_inv (OptRun.write_inv hu)) hs

theorem pass1Row_inv {c right x i} (hs : Inv x.mv.s) : Inv (pass1Row c right x i).mv.s := by
  have blocks := foldl_run_inv (f := pass1Block c) (l := (List.range c.r.cols).map fun q => i * c.r.cols + q)
    (x := { x with row := [] }) (fun _ _ hu => pass1Block_inv hu) hs
  unfold pass1Row
  refine .ite_run blocks ?_
  split
  · exact putT_inv blocks
  · exact OptRun.blocks_inv blocks fun _ _ hu => putT_inv hu

theorem pass2D_inv {c left i x k} (hs : Inv x.mv.s) (hk : ∀ ds x, Inv x.mv.s → Inv (k ds x).mv.s) :
    Inv (pass2D c left i x k).mv.s := by
  unfold pass2D
  dsimp only
  split
  · exact OptRun.read_inv hs fun _ _ hu => hk _ _ hu
  · exact OptRun.blocks_inv hs fun _ _ hu => OptRun.blocks_inv hu fun _ _ hu => hk _ _ hu

theorem pass2Row_inv {c left x i} (hs : Inv x.mv.s) : Inv (pass2Row c left x i).mv.s := by
  unfold pass2Row
  refine pass2D_inv hs fun _ _ hu => foldl_run_inv (fun _ _ hu => ?_) hu
  extract_lets j write
  have hwrite {d} {x : OptRun} (hx : Inv x.mv.s) : Inv (write d x).mv.s :=
    OptRun.masters_inv hx fun _ _ hu => OptRun.tally_inv (OptRun.putMasters_inv hu)
  exact .ite_run (hwrite hu) (OptRun.moments_inv hu fun _ _ _ _ hu => hwrite hu)

theorem digestOnly_inv {c x} (hs : Inv x.mv.s) : Inv (digestOnly c x).mv.s :=
  .ite_run (foldl_run_inv (fun _ _ hu => OptRun.masters_inv hu fun _ _ hu => hu) hs) hs

theorem OptRun.scaleOf_inv {x c hyp} (hs : Inv x.mv.s) : Inv (OptRun.scaleOf x c hyp).mv.s := by
  unfold OptRun.scaleOf
  extract_lets word
  have hword {x : OptRun} {a : Nat} {k : Nat → OptRun → OptRun} (hx : Inv x.mv.s)
      (hk : ∀ n x, Inv x.mv.s → Inv (k n x).mv.s) : Inv (word x a k).mv.s :=
    .ite_run (hk _ _ hx) (OptRun.readBy_inv hx fun _ _ hu => hk _ _ hu)
  clear_value word
  split
  extract_lets useN
  refine hword hs fun _ _ hu => ?_
  refine hword hu fun _ _ hv => ?_
  exact hv

theorem OptRun.nonFinite_inv {x c} (hs : Inv x.mv.s) : Inv (OptRun.nonFinite x c).mv.s :=
  OptRun.read_inv hs fun _ _ hu => hu

theorem readAhead_inv {runs s g u} (hs : Inv s) (e : readAhead runs s = some (g, u)) : Inv u := by
  obtain ⟨_, -, e⟩ := Option.map_eq_some_iff.mp e
  obtain ⟨-, rfl⟩ := Prod.mk.inj e
  exact foldl_inv (fun _ _ hu => channelReads_inv hu) hs

theorem optDone_inv {c pass skip x} (hs : Inv x.mv.s) : Inv (optDone c pass skip x) := by
  unfold optDone
  extract_lets cap digests x₁ s₁
  have digested : Inv s₁ := .ite_run (OptRun.read_inv hs fun _ _ hu => OptRun.write_inv hu) hs
  clear_value s₁ x₁
  split
  extract_lets s₂ s₃ s₄ s₅ s₆
  have counted : Inv s₆ :=
    count_inv (.unless (count_inv (.when (setTask_inv digested) count_inv)) fun h => count_inv (draw_inv h))
  split
  · exact counted
  · exact .unless counted fun h => .ite (count_inv h) (.set h)

theorem setOpen_inv {die record f s} (hs : Inv s) : Inv (setOpen die record f s) :=
  .set hs

theorem countBlocks_inv {die record total n s} (hs : Inv s) : Inv (countBlocks die record total n s) := by
  unfold countBlocks
  dsimp only
  split
  · exact hs
  · exact Inv.ite (setOpen_inv hs) (Inv.ite (setOpen_inv hs) (.set hs))

theorem optSkip_inv {c pass x} (hs : Inv x.mv.s) : Inv (optSkip c pass x).mv.s := by
  have counted := post_inv (code := Ev.gradientSkipped) (ws := [c.d.ostate, c.rng.step.toNat])
    (count_inv (c := .skipped) (i := c.die) (n := 1)
      (foldl_run_inv (f := fun x j => x.read c [c.gAt j] fun gb x => { x with amax := amaxOf x.amax (c.scaled gb).2 })
        (l := c.js) (fun _ _ hu => OptRun.read_inv hu fun _ _ hu => hu) hs))
  unfold optSkip
  exact .ite_run (.ite (setOpen_inv counted) counted) (digestOnly_inv (.ite (setOpen_inv counted) counted))

theorem optBody_inv {c pass hyp left right marked x} (hs : Inv x.mv.s) :
    Inv (optBody c pass hyp left right marked x).1.mv.s := by
  unfold optBody
  refine .ite_fst_run (.ite_fst_run (digestOnly_inv hs) (foldl_run_inv (fun _ _ hu => pass2Row_inv hu) hs)) ?_
  extract_lets x₁ x₂ k c₁
  have scaled : Inv x₁.mv.s := OptRun.scaleOf_inv hs
  have judged : Inv x₂.mv.s := .ite_run (OptRun.nonFinite_inv scaled) scaled
  clear_value x₂
  exact .ite_fst_run judged (.ite_fst_run (optSkip_inv judged)
    (.ite_fst_run (foldl_run_inv (fun _ _ hu => optBlock_inv hu) judged)
      (foldl_run_inv (fun _ _ hu => pass1Row_inv hu) judged)))

theorem optWork_inv {c pass hyp left right s} (hs : Inv s) : Inv (optWork c pass hyp left right s) := by
  unfold optWork
  dsimp only
  split
  · rename_i u e
    exact setTask_inv ((readAhead_inv hs e))
  · exact Inv.ite (countBlocks_inv (optDone_inv (optBody_inv (Inv.ite (count_inv hs) hs))))
      (optDone_inv (optBody_inv (Inv.ite (count_inv hs) hs)))

theorem optRecordBad_inv {t die record b s} (hs : Inv s) : Inv (optRecordBad t die record b s) :=
  count_inv (setTask_inv (post_inv hs))

theorem optPoisoned_inv {t die a s} (hs : Inv s) : Inv (optPoisoned t die a s) :=
  count_inv (setTask_inv (taskPoison_inv hs))

theorem kronPass_inv {t die k r e s} (hs : Inv s) : Inv (kronPass t die k r e s) := by
  unfold kronPass
  dsimp only
  refine Inv.ite (count_inv (setTask_inv hs)) (Inv.ite (optRecordBad_inv hs) ?_)
  split
  · exact optRecordBad_inv hs
  · split
    · rename_i u e
      exact setTask_inv (((taskReads_inv hs).of_pair e))
    · rename_i u e
      exact optPoisoned_inv (((taskReads_inv hs).of_pair e))
    · rename_i u e
      exact Inv.ite (optRecordBad_inv (((taskReads_inv hs).of_pair e)))
        (Inv.ite (optRecordBad_inv (((taskReads_inv hs).of_pair e))) (optWork_inv (((taskReads_inv hs).of_pair e))))

theorem optGo_inv {t die s} (hs : Inv s) : Inv (optGo t die s) := by
  unfold optGo
  dsimp only
  split
  · exact hs
  · split
    · rename_i u e
      exact setTask_inv (((taskRead_inv (count_inv hs)).of_pair e))
    · rename_i u e
      exact optPoisoned_inv (((taskRead_inv (count_inv hs)).of_pair e))
    · rename_i u e
      split
      · exact optRecordBad_inv (((taskRead_inv (count_inv hs)).of_pair e))
      · refine Inv.ite (optWork_inv (((taskRead_inv (count_inv hs)).of_pair e))) ?_
        split
        · exact Inv.ite (kronPass_inv (((taskRead_inv (count_inv hs)).of_pair e)))
            (((taskRead_inv (count_inv hs)).of_pair e))
        · exact .set (((taskRead_inv (count_inv hs)).of_pair e))

theorem waitEntry_inv {t s} (hs : Inv s) : Inv (waitEntry t s) :=
  setTask_inv hs

theorem execOptimTask_answers {die s} : Answers s (execOptimTask die s) := by
  unfold execOptimTask
  dsimp only
  refine Answers.ite (.finish fun hs => acceptMore_inv (chargeAll_inv (.set hs))) ?_
  split
  · exact .finish fun hs => optGo_inv (setTask_inv (acceptMore_inv (chargeAll_inv (.set hs))))
  · refine Answers.ite (.finish fun hs => foldl_inv (fun _ _ hu => waitEntry_inv hu)
      (acceptMore_inv (chargeAll_inv (.set hs)))) ?_
    split
    · exact .finish fun hs => foldl_inv (fun _ _ hu => waitEntry_inv hu) (acceptMore_inv (chargeAll_inv (.set hs)))
    · exact .finish fun hs => optGo_inv (startTask_inv (endWait_inv (Inv.ite
        (count_inv (count_inv (foldl_inv (fun _ _ hu => waitEntry_inv hu)
        (acceptMore_inv (chargeAll_inv (.set hs)))))) (count_inv (foldl_inv (fun _ _ hu => waitEntry_inv hu)
        (acceptMore_inv (chargeAll_inv (.set hs))))))))

theorem execTableHold_answers {die s} : Answers s (execTableHold die s) := by
  unfold execTableHold
  dsimp only
  split
  · exact .finish fun hs => hs
  · split
    · rename_i u e
      exact .finish fun hs => ((tableHold_inv hs).of_pair e)
    · rename_i u e
      split
      · exact .finish fun hs => setOpen_inv (((tableHold_inv hs).of_pair e))
      · exact .finish fun hs => optGo_inv (chargeAll_inv (setOpen_inv (((tableHold_inv hs).of_pair e))))

theorem execTableHoldRelease_answers {s} : Answers s (execTableHoldRelease s) := by
  unfold execTableHoldRelease
  dsimp only
  split
  · exact .finish fun hs => hs
  · exact .finish fun hs => tableDrop_inv (.set hs)

theorem deliverRatios_inv {step s} (hs : Inv s) : Inv (deliverRatios step s) :=
  foldl_inv (fun _ _ hu => watchDeliver_inv hu) (.set hs)

theorem ephemReset_inv {s} (hs : Inv s) : Inv (ephemReset s) :=
  .set hs

/-! The COMPUTE reset (19). -/

theorem leaveOthers_inv {s} (hs : Inv s) : Inv (leaveOthers s) :=
  foldl_inv (fun _ _ hu => collAbort_inv hu) (foldl_inv (fun _ _ hu => cancelWatch_inv hu) (.set hs))

theorem merReset_inv {s} (hs : Inv s) : Inv (merReset s) :=
  .set hs

theorem computeDiscard_inv {s} (hs : Inv s) : Inv (computeDiscard s) :=
  .setHost (storeReset_inv (ephemReset_inv (spectroReset_inv (photoReset_inv
    (numReset_inv (stashReset_inv (merReset_inv (leaveOthers_inv (stashAbandon_inv hs)))))))))

theorem computeClear_inv {s} (hs : Inv s) : Inv (computeClear s) :=
  restartMonitors_inv (.set hs)

theorem computeStart_inv {mbx fills s} (hs : Inv s) : Inv (computeStart mbx fills s) :=
  .ite hs (.when (.when (computeDiscard_inv (peerResetting_inv (.set (abandonSlice_inv (mbxEndAll_inv hs)))))
    startFill_inv) startFill_inv)

theorem computeFinish_inv {s} (hs : Inv s) : Inv (computeFinish s) := by
  unfold computeFinish
  split
  · exact hs
  · extract_lets s₁ s₂ boot host s₃ s₄
    have ended : Inv s₄ :=
      post_inv (peerResetDone_inv (.setHost (computeClear_inv (foldl_inv (fun _ _ hu => zeroCluster_inv hu) hs))))
    clear_value s₄
    split
    · exact ended
    · exact .dite (fun _ => .when ended mbxComplete_inv) fun _ => ended

/-! The memory tiers (07). -/

theorem execSetMemoryInterleave_answers {m s} : Answers s (execSetMemoryInterleave m s) :=
  mbxCommand_answers fun _ _ hs => Reply.Inv.ite (.done hs) (Reply.Inv.ite (.done hs)
    (.run (Inv.ite (startFill_inv (Inv.ite (startFill_inv (.set hs)) (.set hs)))
    (Inv.ite (startFill_inv (.set hs)) (.set hs)))))

theorem fillChannel_inv {chan s} (hs : Inv s) : Inv (fillChannel chan s) :=
  hs.of_eq (Memory.wf_filter _ hs.mem) rfl rfl rfl

theorem trafficFilled_inv {t s} (hs : Inv s) : Inv (trafficFilled t s) := by
  unfold trafficFilled
  dsimp only
  split
  · exact Inv.dite (fun _ => Inv.ite (mbxComplete_inv (post_inv (fillChannel_inv (.set hs))))
      (post_inv (fillChannel_inv (.set hs)))) (fun _ => post_inv (fillChannel_inv (.set hs)))
  · exact hs

theorem leftRetired_inv {k s} (hs : Inv s) : Inv (leftRetired k s) :=
  logErr_inv (post_inv hs)

theorem execTierFillDone_answers {t s} : Answers s (execTierFillDone t s) := by
  unfold execTierFillDone
  dsimp only
  split
  · exact .finish fun hs => trafficFilled_inv hs
  · split
    · exact .finish fun hs => .set (fillTier_inv hs)
    · exact .finish fun hs => .set (fillTier_inv hs)
    · exact .finish fun hs => .set (fillTier_inv hs)
    · exact Answers.dite (fun _ => Answers.ite (.finish fun hs => mbxComplete_inv (.set (fillTier_inv hs)))
        (.finish fun hs => .set (fillTier_inv hs))) (fun _ => .finish fun hs => .set (fillTier_inv hs))
    · split
      · exact .finish fun hs => .set (fillTier_inv hs)
      · exact .finish fun hs => foldl_inv (fun _ _ hu => leftRetired_inv hu) (.set (.set (fillTier_inv hs)))

theorem testMarks_inv {s} (hs : Inv s) : Inv (testMarks s) := by
  unfold testMarks
  dsimp only
  split
  · exact Inv.ite hs (.set hs)
  · exact hs

theorem swapDirty_inv {mask kind s} (hs : Inv s) : Inv (swapDirty mask kind s) :=
  post_inv (testMarks_inv (.set hs))

theorem execSnapshotDirtyAtBoundary_answers {m s} : Answers s (execSnapshotDirtyAtBoundary m s) :=
  mbxCommand_answers fun _ _ hs => Reply.Inv.ite (.done hs) (.done (.set hs))

theorem execSnapshotDirtyNow_answers {m s} : Answers s (execSnapshotDirtyNow m s) :=
  mbxCommand_answers fun _ _ hs => .done (swapDirty_inv hs)

theorem execSnapshotDirtyRelease_answers {m s} : Answers s (execSnapshotDirtyRelease m s) :=
  mbxCommand_answers fun _ _ hs => .done (.set hs)

theorem execReadDirtyMap_answers {m s} : Answers s (execReadDirtyMap m s) :=
  mbxCommand_answers fun _ _ hs => replyBytes_inv hs

theorem execChannelRead_answers {chan rs s} : Answers s (execChannelRead chan rs s) := by
  unfold execChannelRead
  dsimp only
  split
  · exact .finish fun hs => hs
  · exact .finish fun hs => devRead_inv (Inv.ite (count_inv (Inv.ite (count_inv (.set hs)) (.set hs)))
      (Inv.ite (count_inv (.set hs)) (.set hs)))

theorem execChannelWrite_answers {a bs s} : Answers s (execChannelWrite a bs s) :=
  Answers.ite (.finish fun hs => devPut_inv hs) (.finish fun hs => hs)

theorem execChannelWriteDrain_answers {chan s} : Answers s (execChannelWriteDrain chan s) := by
  unfold execChannelWriteDrain
  dsimp only
  split
  · exact .finish fun hs => hs
  · exact .finish fun hs => drainQueue_inv (count_inv hs)

theorem execMetadataWriteback_answers {chan s} : Answers s (execMetadataWriteback chan s) :=
  .finish fun hs => .set hs

/-! Bring-up, resets, Collimation and the field tests (19). -/

theorem setReport_inv {f s} (hs : Inv s) : Inv (setReport f s) :=
  .set hs

theorem setRun_inv {f s} (hs : Inv s) : Inv (setRun f s) :=
  .set hs

theorem bootFail_inv {cause unit s} (hs : Inv s) : Inv (bootFail cause unit s) :=
  post_inv (.set (setReport_inv hs))

theorem bootStart_inv {s} (hs : Inv s) : Inv (bootStart s) :=
  .set hs

theorem execBringupStart_answers {s} : Answers s (execBringupStart s) :=
  Answers.ite (.finish fun hs => bootStart_inv hs) (.finish fun hs => hs)

theorem execPerst_answers {pin s} : Answers s (execPerst pin s) := by
  unfold execPerst
  dsimp only
  split
  · exact .finish fun hs => .set hs
  · exact Answers.ite (.finish fun hs => .set (fullReset_inv hs)) (.finish fun hs => .set hs)
  · exact Answers.ite (.finish fun hs => fullReset_inv hs) (.finish fun hs => hs)

theorem observeBells_inv {s} (hs : Inv s) : Inv (observeBells s) :=
  foldl_inv (fun _ _ hu => Inv.dite (fun _ => mbxDoorbell_inv hu) (fun _ => hu)) (.setAlm hs)

theorem execFirmwareBoot_answers {s} : Answers s (execFirmwareBoot s) := by
  unfold execFirmwareBoot
  dsimp only
  refine Answers.ite ?_ (.finish fun hs => hs)
  split
  · exact .finish fun hs => bootFail_inv hs
  · exact .finish fun hs => observeBells_inv (.set (setReport_inv hs))

theorem execMeasureDone_answers {r s} : Answers s (execMeasureDone r s) := by
  unfold execMeasureDone
  dsimp only
  refine Answers.ite ?_ (.finish fun hs => hs)
  split
  · exact .finish fun hs => bootFail_inv hs
  · exact .finish fun hs => bootFail_inv hs
  · exact .finish fun hs => bootFail_inv hs
  · exact .finish fun hs => foldl_inv (fun _ _ hu => post_inv hu) (.set
      (Inv.ite (digestStep_inv (setRun_inv hs) (fun _ hu => setReport_inv hu))
      (storeFail_inv (digestStep_inv (setRun_inv hs) (fun _ hu => setReport_inv hu)))))

theorem execBridgeTrainDone_answers {lanes failed delay warmOk s} : Answers s
    (execBridgeTrainDone lanes failed delay warmOk s) := by
  unfold execBridgeTrainDone
  dsimp only
  refine Answers.ite ?_ (.finish fun hs => hs)
  split
  · exact .finish fun hs => bootFail_inv hs
  · exact .finish fun hs => foldl_inv (fun _ _ hu => Inv.ite (.set hu) (post_inv (count_inv (.set hu))))
      (.set (setReport_inv (setRun_inv hs)))

theorem setChan_inv {i f s} (hs : Inv s) : Inv (setChan i f s) :=
  setReport_inv hs

theorem bootFill_inv {t s} (hs : Inv s) : Inv (bootFill t s) := by
  unfold bootFill
  dsimp only
  split
  · exact hs
  · exact Inv.ite (startFill_inv hs) hs

theorem trained_inv {i r tried warm spare s} (hs : Inv s) : Inv (trained i r tried warm spare s) :=
  setRun_inv (setReport_inv (setChan_inv hs))

theorem untrained_inv {i tried s} (hs : Inv s) : Inv (untrained i tried s) :=
  setReport_inv (setChan_inv hs)

theorem trainGddr_inv {ch r x s} (hs : Inv s) : Inv (trainGddr ch r x s) :=
  Inv.ite (bootFill_inv (setRun_inv (trained_inv hs))) (Inv.ite (bootFail_inv (untrained_inv hs))
    (post_inv (setRun_inv (digestStep_inv (untrained_inv hs) (fun _ hu => setReport_inv hu)))))

theorem execDramTrainDone_answers {tier ch r s} : Answers s (execDramTrainDone tier ch r s) := by
  unfold execDramTrainDone
  dsimp only
  refine Answers.ite (.finish fun hs => hs) ?_
  split
  · exact .finish fun hs => hs
  · exact Answers.ite (Answers.ite (.finish fun hs => trainGddr_inv hs) (.finish fun hs => hs))
      (Answers.ite (Answers.ite (.finish fun hs => bootFill_inv (setRun_inv (trained_inv hs)))
      (.finish fun hs => bootFail_inv (untrained_inv hs))) (.finish fun hs => hs))

theorem execNandTrainDone_answers {n r s} : Answers s (execNandTrainDone n r s) := by
  unfold execNandTrainDone
  dsimp only
  refine Answers.ite (.finish fun hs => hs) ?_
  split
  · exact .finish fun hs => hs
  · exact Answers.ite (.finish fun hs => trained_inv (setRun_inv hs)) (.finish fun hs => storeFail_inv
      (untrained_inv (setRun_inv hs)))

theorem retireCluster_inv {c cause soft s} (hs : Inv s) : Inv (retireCluster c cause soft s) :=
  post_inv (digestStep_inv hs (fun _ hu => .set hu))

theorem execStoreIndexLoaded_answers {repaired noSpares s} : Answers s (execStoreIndexLoaded repaired noSpares s) := by
  unfold execStoreIndexLoaded
  refine .ite (.finish id) ?_
  extract_lets ms s₁ keys rel s₂ s₃ s₄ s₅ s₆ s₇ die
  have mounted (hs : Inv s) : Inv s₅ :=
    storeMount_inv (foldl_inv (fun _ _ hu => setChan_inv hu) (setReport_inv (.set (setRun_inv (setReport_inv hs)))))
  have served (hs : Inv s) : Inv s₇ :=
    foldl_inv (fun _ _ hu => .when hu retireCluster_inv) (.unless (mounted hs) fun h => digestStep_inv h fun _ hu =>
      .set hu)
  exact .ite (.finish fun hs => bootFail_inv (served hs)) (.ite (.finish fun hs => bootFail_inv (served hs))
    (.finish fun hs => bootFill_inv (bootFill_inv (served hs))))

theorem execPortWindowClose_answers {s} : Answers s (execPortWindowClose s) :=
  Answers.ite (.finish fun hs => setReport_inv (setRun_inv hs)) (.finish fun hs => hs)

theorem execBringupReady_answers {s} : Answers s (execBringupReady s) :=
  Answers.ite (.finish fun hs => post_inv (.set (setReport_inv hs))) (.finish fun hs => hs)

theorem saveSettings_inv {ok s} (hs : Inv s) : Inv (saveSettings ok s) :=
  post_inv (.set hs)

theorem execSettingsSave_answers {ok s} : Answers s (execSettingsSave ok s) :=
  Answers.ite (.finish fun hs => saveSettings_inv (.set hs)) (.finish fun hs => hs)

theorem execSaveTraining_answers {m ok s} : Answers s (execSaveTraining m ok s) :=
  mbxCommand_answers fun _ _ hs => Reply.Inv.ite (.done hs) (.done (saveSettings_inv hs))

theorem execReadBringupReport_answers {m s} : Answers s (execReadBringupReport m s) :=
  mbxCommand_answers fun _ _ hs => replyBytes_inv hs

theorem execResetModuleFull_answers {m s} : Answers s (execResetModuleFull m s) :=
  mbxCommand_answers fun _ _ hs => Reply.Inv.ite (.done hs) (.gone (bootStart_inv (fullReset_inv hs)))

theorem execResetModuleCompute_answers {m s} : Answers s (execResetModuleCompute m s) :=
  mbxCommand_answers fun _ _ hs => Reply.Inv.ite (.done hs) (.run (computeStart_inv hs))

theorem execResetModuleCluster_answers {m s} : Answers s (execResetModuleCluster m s) :=
  mbxCommand_answers fun _ _ hs => Reply.Inv.ite (.done hs) (.run (Inv.ite (.set (Inv.ite (abandonSlice_inv hs) hs))
    (clusterDiscard_inv (.set (Inv.ite (abandonSlice_inv hs) hs)))))

theorem execComputeResetDone_answers {s} : Answers s (execComputeResetDone s) :=
  Answers.ite (.finish fun hs => computeFinish_inv hs) (.finish fun hs => hs)

theorem execClusterResetDone_answers {s} : Answers s (execClusterResetDone s) := by
  unfold execClusterResetDone
  dsimp only
  split
  · refine Answers.ite ?_ (.finish fun hs => hs)
    split
    · exact .finish fun hs => post_inv (.set (zeroCluster_inv hs))
    · exact Answers.dite (fun _ => .finish fun hs => Inv.ite (mbxComplete_inv (post_inv (.set (zeroCluster_inv hs))))
        (post_inv (.set (zeroCluster_inv hs)))) (fun _ => .finish fun hs => post_inv (.set (zeroCluster_inv hs)))
  · exact .finish fun hs => hs

theorem execSetCollimation_answers {m s} : Answers s (execSetCollimation m s) :=
  mbxCommand_answers fun _ _ hs => Reply.Inv.ite (.done (.set hs)) (Reply.Inv.ite (.done hs) (.done (.set hs)))

theorem colBoundary_inv {s} (hs : Inv s) : Inv (colBoundary s) := by
  unfold colBoundary
  dsimp only
  refine Inv.ite hs ?_
  split
  · exact post_inv (setReport_inv (.set hs))
  · exact .set (.set hs)

theorem setSlice_inv {x s} (hs : Inv s) : Inv (setSlice x s) :=
  .set hs

theorem execCollimationDrainEnd_answers {s} : Answers s (execCollimationDrainEnd s) := by
  unfold execCollimationDrainEnd
  split
  · exact Answers.ite (.finish fun hs => setSlice_inv (clusterDiscard_inv hs)) (.finish fun hs => hs)
  · exact .finish fun hs => hs

theorem execCollimationClearDone_answers {s} : Answers s (execCollimationClearDone s) := by
  unfold execCollimationClearDone
  dsimp only
  split
  · exact Answers.ite (.finish fun hs => emit_inv (setSlice_inv (.set (zeroCluster_inv hs)))) (.finish fun hs => hs)
  · exact .finish fun hs => hs

theorem execCollimationMemoryTestDone_answers {banks multi s} : Answers s
    (execCollimationMemoryTestDone banks multi s) := by
  unfold execCollimationMemoryTestDone
  dsimp only
  split
  · exact Answers.ite (Answers.ite (.finish fun hs => setSlice_inv hs) (.finish fun hs => setSlice_inv
      (Inv.ite (post_inv (post_inv (.set hs))) (post_inv (.set hs))))) (.finish fun hs => hs)
  · exact .finish fun hs => hs

theorem execCollimationBlockDone_answers {matches_ retest s} : Answers s (execCollimationBlockDone matches_ retest s)
    := by
  unfold execCollimationBlockDone
  dsimp only
  split
  · split
    · exact Answers.ite (.finish fun hs => setSlice_inv (.set hs)) (Answers.ite
        (.finish fun hs => setSlice_inv (post_inv (setReport_inv (.set hs))))
        (.finish fun hs => setSlice_inv (Inv.ite (post_inv (setReport_inv (.set hs)))
        (post_inv (post_inv (setReport_inv (.set hs)))))))
    · exact .finish fun hs => hs
  · exact .finish fun hs => hs

theorem execCollimationRestoreDone_answers {s} : Answers s (execCollimationRestoreDone s) := by
  unfold execCollimationRestoreDone
  dsimp only
  split
  · refine Answers.ite ?_ (.finish fun hs => hs)
    split
    · exact .finish fun hs => setReport_inv (.set (emit_inv (zeroCluster_inv hs)))
    · exact .finish fun hs => digestStep_inv (setReport_inv (.set (emit_inv (zeroCluster_inv hs))))
        (fun _ hu => .set hu)
  · exact .finish fun hs => hs

theorem execRunTrafficTest_answers {m s} : Answers s (execRunTrafficTest m s) :=
  mbxCommand_answers fun _ _ hs => Reply.Inv.ite (.done hs) (.run (testMarks_inv (.set hs)))

theorem execTrafficTestEnd_answers {errors first s} : Answers s (execTrafficTestEnd errors first s) := by
  unfold execTrafficTestEnd
  dsimp only
  split
  · exact Answers.ite (.finish fun hs => hs) (.finish fun hs => startFill_inv hs)
  · exact .finish fun hs => hs

theorem execRunMargining_answers {m s} : Answers s (execRunMargining m s) := by
  unfold execRunMargining
  dsimp only
  refine mbxCommand_answers fun _ _ hs => Reply.Inv.ite (.done hs) ?_
  split
  · exact bufFault_inv hs
  · exact Reply.Inv.ite (.done hs) (.run (.set hs))

theorem execMarginingDone_answers {temp pass lanes s} : Answers s (execMarginingDone temp pass lanes s) := by
  unfold execMarginingDone
  dsimp only
  split
  · exact Answers.ite (.finish fun hs => hs) (Answers.dite (fun _ => Answers.ite
      (.finish fun hs => mbxComplete_inv (devPut_inv (.set hs))) (.finish fun hs => .set hs))
      (fun _ => .finish fun hs => .set hs))
  · exact .finish fun hs => hs

/-! Completions of device reads (15). -/

theorem dropRead_inv {id s} (hs : Inv s) : Inv (dropRead id s) :=
  issueReads_inv (.setHost hs)

theorem endByRead_inv {t st det s} (hs : Inv s) : Inv (endByRead t st det s) :=
  dropToken_inv (setTask_inv (.setHost hs))

theorem sendPage_inv {t o bs s} (hs : Inv s) : Inv (sendPage t o bs s) := by
  unfold sendPage
  dsimp only
  split
  · exact hs
  · exact Inv.ite (Inv.ite (answered_inv hs) hs) (Inv.ite (movedUnits_inv (sendPkts_inv hs))
      (Inv.ite (setTask_inv (sendPkts_inv hs)) (sendPkts_inv hs)))

theorem landPiece_inv {t k r bs s} (hs : Inv s) : Inv (landPiece t k r bs s) :=
  Inv.ite (answered_inv (landWith_inv (addPiece_inv hs) (fun _ _ _ hu => sendPage_inv hu)))
    (answered_inv (landPieces_inv (movedUnits_inv (Inv.ite (count_inv (addPiece_inv hs)) (addPiece_inv hs)))))

theorem hostCompletion_inv {id c s} (hs : Inv s) : Inv (hostCompletion id c s) := by
  unfold hostCompletion
  dsimp only
  split
  · exact hs
  · split
    · exact dropRead_inv hs
    · split
      · exact Inv.ite hs (landPiece_inv (Inv.ite (count_inv (count_inv (.write (dropRead_inv hs))))
          (count_inv (.write (dropRead_inv hs)))))
      · exact landPiece_inv (taskPoison_inv (dropRead_inv hs))
      · exact issueReads_inv (endByRead_inv (dropRead_inv hs))

theorem execHostCompletion_answers {id st bs s} : Answers s (execHostCompletion id st bs s) :=
  Answers.ite (.finish fun hs => hs) (.finish fun hs => hostCompletion_inv hs)

theorem execHostCompletionTimeout_answers {id s} : Answers s (execHostCompletionTimeout id s) := by
  unfold execHostCompletionTimeout
  split
  · exact .finish fun hs => hs
  · exact Answers.ite (.finish fun hs => hs) (.finish fun hs => issueReads_inv
      (endByRead_inv (count_inv (dropRead_inv hs))))

/-! The host's accesses (15, 16). -/

theorem urSeen_inv {s} (hs : Inv s) : Inv (urSeen s) :=
  .setHost hs

theorem writeInTail_inv {v s} (hs : Inv s) : Inv (writeInTail v s) :=
  .set hs

theorem writeOutHead_inv {v s} (hs : Inv s) : Inv (writeOutHead v s) :=
  .set hs

theorem writeApertureBase_inv {v s} (hs : Inv s) : Inv (writeApertureBase v s) := by
  unfold writeApertureBase
  dsimp only
  split
  next ok =>
    obtain ⟨multiple, whole⟩ := ok
    obtain ⟨least, most, -⟩ := hs.window
    have below : v.toNat % 2 ^ 52 < 2 ^ 52 := Nat.mod_lt _ (by decide)
    have value : (BitVec.ofNat 64 (v.toNat % 2 ^ 52)).toNat = v.toNat % 2 ^ 52 := by
      rw [BitVec.toNat_ofNat]
      omega
    exact ⟨hs.mem, ⟨least, most, value.symm ▸ multiple, value.symm ▸ below,
      fun h => congrArg (BitVec.ofNat 64) (whole h)⟩, hs.ring⟩
  · exact refuseWrite_inv hs

theorem msixRelease_inv {v s} (hs : Inv s) : Inv (msixRelease v s) :=
  Inv.ite (emit_inv (.setHost hs)) hs

theorem writeMsix_inv {o width v s} (hs : Inv s) : Inv (writeMsix o width v s) :=
  Inv.ite hs (msixRelease_inv (.setHost hs))

theorem pageWrite_inv {off width v meets s} (hs : Inv s) : Inv (pageWrite off width v meets s) := by
  unfold pageWrite
  dsimp only
  refine Inv.ite (Inv.dite (fun _ => Inv.ite hs (Inv.ite (Inv.ite (mbxDoorbell_inv hs) hs) (mbxRegWrite_inv hs)))
    (fun _ => hs)) ?_
  split
  · exact Inv.ite (writeEvtHead_inv hs) hs
  · exact clearMbxDone_inv hs
  · exact clearErrSummary_inv hs
  · exact Inv.ite (tqDoorbell_inv hs) hs
  · exact Inv.ite (tqCplHead_inv hs) hs
  · exact Inv.ite (stashDoorbell_inv hs) hs
  · exact Inv.ite (guardDoorbell_inv hs) hs
  · exact writeApertureBase_inv hs
  · exact hs

theorem hostRefuse_inv {s} (hs : Inv s) : Inv (hostRefuse s) :=
  emit_inv (urSeen_inv hs)

theorem bar0Write_inv {off width v meets tlp s} (hs : Inv s) : Inv (bar0Write off width v meets tlp s) := by
  unfold bar0Write
  refine Inv.ite hs (Inv.ite (hostRefuse_inv hs) (Inv.ite (count_inv hs)
    (Inv.ite (urSeen_inv hs) (Inv.ite (writeMsix_inv hs) (Inv.ite ?_ (Inv.ite (pageWrite_inv hs) (urSeen_inv hs)))))))
  split
  · exact writeInTail_inv hs
  · exact writeOutHead_inv hs
  · exact hs

theorem execRegisterWrite_answers {off width v tlp s} : Answers s (execRegisterWrite off width v tlp s) :=
  Answers.ite (.finish fun hs => bar0Write_inv hs) (.finish fun hs => Inv.ite (urSeen_inv hs) hs)

theorem execTqDoorbell_answers {v tlp s} : Answers s (execTqDoorbell v tlp s) :=
  .finish fun hs => bar0Write_inv hs

theorem execTqCplHead_answers {v tlp s} : Answers s (execTqCplHead v tlp s) :=
  .finish fun hs => bar0Write_inv hs

theorem execStashDoorbell_answers {v tlp s} : Answers s (execStashDoorbell v tlp s) :=
  .finish fun hs => bar0Write_inv hs

theorem execGuardDoorbell_answers {v tlp s} : Answers s (execGuardDoorbell v tlp s) :=
  .finish fun hs => bar0Write_inv hs

theorem execApertureBaseWrite_answers {v tlp s} : Answers s (execApertureBaseWrite v tlp s) :=
  .finish fun hs => bar0Write_inv hs

theorem execBncInTailWrite_answers {v tlp s} : Answers s (execBncInTailWrite v tlp s) :=
  .finish fun hs => bar0Write_inv hs

theorem execBncOutHeadWrite_answers {v tlp s} : Answers s (execBncOutHeadWrite v tlp s) :=
  .finish fun hs => bar0Write_inv hs

theorem execMbxDoorbell_answers {m v tlp s} : Answers s (execMbxDoorbell m v tlp s) :=
  .finish fun hs => bar0Write_inv hs

theorem execMbxDoneClear_answers {v meets tlp s} : Answers s (execMbxDoneClear v meets tlp s) :=
  .finish fun hs => bar0Write_inv hs

theorem execErrSummaryClear_answers {v meets tlp s} : Answers s (execErrSummaryClear v meets tlp s) :=
  .finish fun hs => bar0Write_inv hs

theorem execEvtHeadWrite_answers {v tlp s} : Answers s (execEvtHeadWrite v tlp s) :=
  .finish fun hs => bar0Write_inv hs

theorem apertureUR_inv {o n s} (hs : Inv s) : Inv (apertureUR o n s) :=
  Inv.ite (count_inv (urSeen_inv hs)) (urSeen_inv hs)

theorem execApertureRead_answers {off n tlp s} : Answers s (execApertureRead off n tlp s) := by
  unfold execApertureRead
  dsimp only
  refine Answers.ite (.finish fun hs => hs) (Answers.ite (.finish fun hs => hostRefuse_inv hs) ?_)
  split
  · exact .finish fun hs => emit_inv (apertureUR_inv hs)
  · exact .finish fun hs => emit_inv (count_inv (devRead_inv hs))

theorem execApertureWrite_answers {off bs tlp s} : Answers s (execApertureWrite off bs tlp s) := by
  unfold execApertureWrite
  refine Answers.ite (.finish fun hs => hs) (Answers.ite (.finish fun hs => hostRefuse_inv hs)
    (Answers.ite (.finish fun hs => count_inv hs) ?_))
  split
  · exact .finish fun hs => apertureUR_inv hs
  · exact .finish fun hs => devPut_inv (count_inv hs)

theorem cfgRead_inv {r s} (hs : Inv s) : Inv (cfgRead r s).2 := by
  unfold cfgRead
  dsimp only
  split
  · exact hs
  · exact draw_inv hs
  · exact hs
  · exact hs
  · exact hs
  · exact hs
  · split
    · exact hs
    · exact draw_inv hs
  · exact draw_inv hs
  · exact draw_inv hs
  · split
    · exact hs
    · exact draw_inv hs

theorem timeoutOf_inv {code s} (hs : Inv s) : Inv (timeoutOf code s).2 := by
  unfold timeoutOf
  dsimp only
  split
  · exact hs
  · exact draw_inv hs
  · exact draw_inv hs
  · exact draw_inv hs
  · exact draw_inv hs
  · exact hs

theorem cfgWrite_inv {r v s} (hs : Inv s) : Inv (cfgWrite r v s) := by
  unfold cfgWrite
  dsimp only
  split
  · exact hs
  · exact hs
  · exact hs
  · exact hs
  · exact hs
  · exact .ite (.setHost hs) hs
  · exact .setHost (timeoutOf_inv hs)
  · exact foldl_inv (fun _ _ hu => msixRelease_inv hu) (.setHost hs)
  · split
    · exact hs
    next size =>
      obtain ⟨-, -, -, below, -⟩ := hs.window
      refine ⟨hs.mem, ⟨by show 28 ≤ 20 + _; omega, by show 20 + _ ≤ 41; omega, ?_⟩, hs.ring⟩
      dsimp only
      split
      next ok => exact ⟨ok.1, below, ok.2⟩
      · exact ⟨Nat.zero_mod _, by decide, fun _ => rfl⟩
  · exact .setHost hs

/-! Shutter (15). -/

theorem shutter_answers {k s} (hk : ∀ u, Inv u → Inv (k u)) : Answers s (shutter k s) :=
  .ite (.finish (hk s)) (.finish id)

theorem setSession_inv {i f s} (hs : Inv s) : Inv (setSession i f s) :=
  .set hs

theorem dropSession_inv {i s} (hs : Inv s) : Inv (dropSession i s) :=
  .set hs

theorem touch_inv {i s} (hs : Inv s) : Inv (touch i s) :=
  setSession_inv hs

theorem inSession_inv {sess req k s} (hs : Inv s) (hk : ∀ u, Inv u → Inv (k u)) : Inv (inSession sess req k s) := by
  unfold inSession
  split
  · exact hk _ hs
  · exact .ite (hk _ (touch_inv hs)) (emit_inv hs)

theorem scrubStart_inv {trigger target tdisp rings s} (hs : Inv s) : Inv (scrubStart trigger target tdisp rings s) := by
  unfold scrubStart
  refine .ite hs ?_
  extract_lets s₁ s₂ alm boot sec s₃
  have ended : Inv s₂ := abandonSlice_inv (bounceFlush_inv (mbxEndAll_inv hs))
  clear_value s₂
  have started : Inv s₃ := ended.of_ring_none rfl rfl rfl
  exact startFill_inv (startFill_inv (computeStart_inv started))

theorem scrubClear_inv {s} (hs : Inv s) : Inv (scrubClear s) :=
  hs.of_ring_none rfl rfl rfl

theorem freeBytes_inv {n s} (hs : Inv s) : Inv (freeBytes n s).2 := by
  unfold freeBytes
  dsimp only
  exact draw_inv hs

theorem scrubAnswer_inv {t s} (hs : Inv s) : Inv (scrubAnswer t s) := by
  unfold scrubAnswer
  dsimp only
  split
  · exact emit_inv (freeBytes_inv hs)
  · exact emit_inv hs
  · exact emit_inv hs
  · exact emit_inv hs
  · exact hs

theorem scrubCommit_inv {x s} (hs : Inv s) : Inv (scrubCommit x s) := by
  unfold scrubCommit
  dsimp only
  refine Inv.ite (.set ?_) (.set (draw_inv (.setHost hs)))
  split
  · exact dropSession_inv (.setHost hs)
  · exact .setHost hs

theorem scrubEnd_inv {x s} (hs : Inv s) : Inv (scrubEnd x s) :=
  scrubAnswer_inv (Inv.ite (stopMonitors_inv (post_inv (count_inv (scrubCommit_inv (scrubClear_inv hs)))))
    (post_inv (stopMonitors_inv (post_inv (count_inv (scrubCommit_inv (scrubClear_inv hs)))))))

theorem tdispError_inv {t s} (hs : Inv s) : Inv (tdispError t s) :=
  Inv.ite (scrubStart_inv (.set hs)) hs

theorem ownerEnds_inv {s} (hs : Inv s) : Inv (ownerEnds s) := by
  unfold ownerEnds
  dsimp only
  split
  · exact Inv.ite (.set hs) (.set (.set hs))
  · split
    · exact .set hs
    · exact tdispError_inv (.set hs)
    · exact scrubStart_inv (.set hs)

theorem sessionEnds_inv {i s} (hs : Inv s) : Inv (sessionEnds i s) :=
  Inv.ite (ownerEnds_inv (dropSession_inv hs)) (dropSession_inv hs)

theorem execGetVersion_answers {s} : Answers s (execGetVersion s) :=
  shutter_answers (fun _ hu => emit_inv hu)

theorem execGetCapabilities_answers {s} : Answers s (execGetCapabilities s) :=
  shutter_answers (fun _ hu => emit_inv hu)

theorem execNegotiateAlgorithms_answers {ok s} : Answers s (execNegotiateAlgorithms ok s) :=
  shutter_answers (fun _ hu => emit_inv hu)

theorem execGetDigests_answers {s} : Answers s (execGetDigests s) :=
  shutter_answers (fun _ hu => emit_inv hu)

theorem execGetCertificate_answers {slot off n s} : Answers s (execGetCertificate slot off n s) :=
  shutter_answers (fun _ hu => Inv.ite (emit_inv hu) (emit_inv hu))

theorem execChallenge_answers {slot nonce s} : Answers s (execChallenge slot nonce s) := by
  unfold execChallenge
  dsimp only
  exact shutter_answers (fun _ hu => Inv.ite (emit_inv hu) (emit_inv (freeBytes_inv hu)))

theorem attest_inv {sess s} (hs : Inv s) : Inv (attest sess s) := by
  unfold attest
  split
  · exact hs
  · exact setSession_inv hs

theorem execGetMeasurements_answers {sess op sign nonce s} : Answers s (execGetMeasurements sess op sign nonce s) :=
  shutter_answers (fun _ hu => inSession_inv hu (fun _ hu => Inv.ite (emit_inv (attest_inv hu)) (emit_inv hu)))

theorem execKeyExchange_answers {slot s} : Answers s (execKeyExchange slot s) := by
  unfold execKeyExchange
  dsimp only
  exact shutter_answers (fun _ hu => Inv.ite (emit_inv hu) (Inv.ite (emit_inv hu) (emit_inv (.set (freeBytes_inv hu)))))

theorem execFinish_answers {sid ok s} : Answers s (execFinish sid ok s) := by
  unfold execFinish
  refine shutter_answers (fun _ hu => ?_)
  split
  · exact emit_inv hu
  · exact Inv.ite (emit_inv hu) (Inv.ite (emit_inv (setSession_inv hu)) (emit_inv (dropSession_inv hu)))

theorem execHeartbeat_answers {sid s} : Answers s (execHeartbeat sid s) :=
  shutter_answers (fun _ hu => inSession_inv hu (fun _ hu => emit_inv hu))

theorem execKeyUpdate_answers {sid s} : Answers s (execKeyUpdate sid s) :=
  shutter_answers (fun _ hu => inSession_inv hu (fun _ hu => emit_inv (setSession_inv hu)))

theorem execEndSession_answers {sid s} : Answers s (execEndSession sid s) :=
  shutter_answers (fun _ hu => inSession_inv hu (fun _ hu => sessionEnds_inv (emit_inv hu)))

theorem execSpdmSessionIdle_answers {sid s} : Answers s (execSpdmSessionIdle sid s) := by
  unfold execSpdmSessionIdle
  split
  · exact .finish fun hs => hs
  · exact Answers.ite (.finish fun hs => sessionEnds_inv hs) (.finish fun hs => hs)

theorem execSpdmUnsupportedRequest_answers {sess s} : Answers s (execSpdmUnsupportedRequest sess s) :=
  shutter_answers (fun _ hu => inSession_inv hu (fun _ hu => emit_inv hu))

theorem secReply_inv {r s} (hs : Inv s) : Inv (secReply r s) := by
  unfold secReply
  dsimp only
  split
  · refine Inv.ite (emit_inv hs) ?_
    split
    · exact emit_inv (.set hs)
    · exact emit_inv (setSession_inv hs)
  · exact Inv.ite (emit_inv hs) (Inv.ite (emit_inv hs) (scrubStart_inv (.set hs)))
  · exact Inv.ite (emit_inv hs) (Inv.ite (emit_inv hs) (scrubStart_inv hs))
  · refine Inv.ite (emit_inv hs) (Inv.ite (emit_inv hs) ?_)
    split
    · exact emit_inv hs
    · exact Inv.ite (emit_inv hs) (emit_inv (.set hs))
  · exact Inv.ite (emit_inv hs) (Inv.ite (emit_inv hs) (emit_inv (.set hs)))
  · exact Inv.ite (emit_inv hs) (Inv.ite (emit_inv hs) (emit_inv (.set hs)))
  · exact Inv.ite (emit_inv hs) (Inv.ite (emit_inv hs) (Inv.ite (emit_inv hs) (emit_inv (.set hs))))
  · exact emit_inv hs
  · exact emit_inv (freeBytes_inv hs)
  · exact Inv.ite (scrubStart_inv (.set hs)) (emit_inv hs)
  · exact Inv.ite (emit_inv hs) (emit_inv hs)
  · exact emit_inv hs
  · exact Inv.ite (emit_inv (.set hs)) (emit_inv hs)
  · split
    · exact emit_inv hs
    · exact emit_inv (.set hs)
    · exact scrubStart_inv hs

theorem secRequest_inv {r s} (hs : Inv s) : Inv (secRequest r s) := by
  unfold secRequest
  dsimp only
  split
  · exact secReply_inv hs
  · exact .set hs

theorem vendorMsg_answers {sess r s} : Answers s (vendorMsg sess r s) :=
  shutter_answers (fun _ hu => inSession_inv hu (fun _ hu => secRequest_inv hu))

theorem tdispMsg_answers {name open_ sess r s} : Answers s (tdispMsg name open_ sess r s) :=
  shutter_answers (fun _ hu => inSession_inv hu (fun _ hu => Inv.ite (emit_inv hu) (secRequest_inv hu)))

theorem execSetSessionScope_answers {sess rsv n s} : Answers s (execSetSessionScope sess rsv n s) :=
  vendorMsg_answers

theorem execEnterTenant_answers {sess rsv inBase inLog outBase outLog inHeadWord outTailWord s} : Answers s
    (execEnterTenant sess rsv inBase inLog outBase outLog inHeadWord outTailWord s) :=
  vendorMsg_answers

theorem execExitTenant_answers {sess rsv s} : Answers s (execExitTenant sess rsv s) :=
  vendorMsg_answers

theorem execInstallKey_answers {sess rsv slot kind keyId key s} : Answers s
    (execInstallKey sess rsv slot kind keyId key s) :=
  vendorMsg_answers

theorem execDestroyKey_answers {sess rsv slot s} : Answers s (execDestroyKey sess rsv slot s) :=
  vendorMsg_answers

theorem execSetPeerMap_answers {sess rsv map s} : Answers s (execSetPeerMap sess rsv map s) :=
  vendorMsg_answers

theorem execInstallMembership_answers {sess rsv cert s} : Answers s (execInstallMembership sess rsv cert s) :=
  vendorMsg_answers

theorem membershipProof_inv {sess rsv nonce s} (hs : Inv s) : Inv (membershipProof sess rsv nonce s) := by
  unfold membershipProof
  refine Inv.ite (emit_inv hs) (Inv.ite (emit_inv hs) ?_)
  split
  · exact emit_inv hs
  · exact emit_inv (attest_inv hs)

theorem execGetMembershipProof_answers {sess rsv nonce s} : Answers s (execGetMembershipProof sess rsv nonce s) :=
  shutter_answers (fun _ hu => inSession_inv hu (fun _ hu => membershipProof_inv hu))

theorem execVendorOpcodeInvalid_answers {sess opcode s} : Answers s (execVendorOpcodeInvalid sess opcode s) :=
  shutter_answers (fun _ hu => inSession_inv hu (fun _ hu => emit_inv hu))

theorem execGetTdispVersion_answers {sess s} : Answers s (execGetTdispVersion sess s) :=
  tdispMsg_answers

theorem execGetTdispCapabilities_answers {sess s} : Answers s (execGetTdispCapabilities sess s) :=
  tdispMsg_answers

theorem execLockInterfaceRequest_answers {sess s} : Answers s (execLockInterfaceRequest sess s) :=
  tdispMsg_answers

theorem execGetDeviceInterfaceReport_answers {sess s} : Answers s (execGetDeviceInterfaceReport sess s) :=
  tdispMsg_answers

theorem execGetDeviceInterfaceState_answers {sess s} : Answers s (execGetDeviceInterfaceState sess s) :=
  tdispMsg_answers

theorem execStartInterfaceRequest_answers {sess s} : Answers s (execStartInterfaceRequest sess s) :=
  tdispMsg_answers

theorem execStopInterfaceRequest_answers {sess s} : Answers s (execStopInterfaceRequest sess s) :=
  tdispMsg_answers

theorem execTenantScrubDone_answers {s} : Answers s (execTenantScrubDone s) := by
  unfold execTenantScrubDone
  split
  · exact .finish fun hs => hs
  · exact Answers.ite (.finish fun hs => foldl_inv (fun _ _ hu => secRequest_inv hu) (scrubEnd_inv hs))
      (.finish fun hs => hs)

theorem setIde_inv {i f s} (hs : Inv s) : Inv (setIde i f s) :=
  Inv.ite (tdispError_inv (.set hs)) (.set hs)

theorem execIdeKmQuery_answers {sess s} : Answers s (execIdeKmQuery sess s) := by
  unfold execIdeKmQuery
  dsimp only
  exact shutter_answers (fun _ hu => inSession_inv hu (fun _ hu => emit_inv (freeBytes_inv hu)))

theorem execIdeKmKeyProg_answers {sess stream set sub dir s} : Answers s (execIdeKmKeyProg sess stream set sub dir s)
    := by
  unfold execIdeKmKeyProg
  refine shutter_answers (fun _ hu => inSession_inv hu (fun _ hu => ?_))
  split
  · exact emit_inv hu
  · exact Inv.ite (emit_inv hu) (emit_inv (setIde_inv hu))

theorem execIdeKmKSetGo_answers {sess stream set sub dir s} : Answers s (execIdeKmKSetGo sess stream set sub dir s) :=
    by
  unfold execIdeKmKSetGo
  refine shutter_answers (fun _ hu => inSession_inv hu (fun _ hu => ?_))
  split
  · exact emit_inv hu
  · exact Inv.ite (emit_inv hu) (emit_inv (setIde_inv hu))

theorem execIdeKmKSetStop_answers {sess stream set sub dir s} : Answers s
    (execIdeKmKSetStop sess stream set sub dir s) := by
  unfold execIdeKmKSetStop
  refine shutter_answers (fun _ hu => inSession_inv hu (fun _ hu => ?_))
  split
  · exact emit_inv hu
  · exact Inv.ite (emit_inv hu) (emit_inv (setIde_inv hu))

theorem execIdeIntegrityFailure_answers {stream integrity s} : Answers s (execIdeIntegrityFailure stream integrity s) :=
  Answers.ite (.finish fun hs => setIde_inv (Inv.ite (post_inv hs) hs)) (.finish fun hs => hs)

theorem execDoeDiscovery_answers {index s} : Answers s (execDoeDiscovery index s) :=
  shutter_answers (fun _ hu => emit_inv hu)

theorem configWrite_inv {r v s} (hs : Inv s) : Inv (configWrite r v s) :=
  Inv.ite (tdispError_inv hs) (cfgWrite_inv hs)

theorem execPcieConfigRequest_answers {reg w s} : Answers s (execPcieConfigRequest reg w s) := by
  unfold execPcieConfigRequest
  dsimp only
  refine Answers.ite (.finish fun hs => hs) (Answers.ite (.finish fun hs => emit_inv hs) ?_)
  split
  · exact .finish fun hs => configWrite_inv hs
  · exact .finish fun hs => emit_inv (cfgRead_inv hs)

theorem execPcieFunctionReset_answers {_ev s} : Answers s (execPcieFunctionReset _ev s) :=
  Answers.ite (.finish fun hs => hs) (Answers.ite (.finish fun hs => .setHost hs)
    (Answers.ite (.finish fun hs => computeStart_inv (.setHost hs)) (.finish fun hs => scrubStart_inv (.setHost hs))))

/-! Inbound bounce records (15). -/

theorem bounceTake_inv {len s} (hs : Inv s) : Inv (bounceTake len s) :=
  count_inv (count_inv (count_inv (.write hs)))

theorem bounceError_inv {s} (hs : Inv s) : Inv (bounceError s) :=
  scrubStart_inv (.set hs)

theorem bounceInvalid_inv {seq s} (hs : Inv s) : Inv (bounceInvalid seq s) := by
  unfold bounceInvalid
  dsimp only
  exact post_inv (bounceSend_inv (draw_inv hs))

theorem bounceRecord_answers {seq len k s} (hk : ∀ u v, Inv u → k u = some v → Inv v) :
    Answers s (bounceRecord seq len k s) := by
  unfold bounceRecord
  refine .ite (.finish id) (.ite (.finish fun hs => bounceError_inv hs) ?_)
  dsimp only
  split
  next e => exact .finish fun hs => hk _ _ (bounceTake_inv hs) (Option.ite_none_right_eq_some.mp e).2
  · exact .finish fun hs => bounceInvalid_inv (bounceTake_inv hs)

theorem execBounceNop_answers {seq len s} : Answers s (execBounceNop seq len s) :=
  bounceRecord_answers fun _ _ hu e => Option.some.inj e ▸ hu

theorem execBounceWrite_answers {seq addr bs s} : Answers s (execBounceWrite seq addr bs s) := by
  refine bounceRecord_answers fun _ _ hu e => ?_
  obtain ⟨-, e⟩ := Option.ite_none_right_eq_some.mp e
  exact Option.some.inj e ▸ devPut_inv hu

theorem execBounceReg_answers {seq len off v s} : Answers s (execBounceReg seq len off v s) := by
  refine bounceRecord_answers fun _ _ hu e => ?_
  obtain ⟨-, e⟩ := Option.ite_none_right_eq_some.mp e
  exact Option.some.inj e ▸ pageWrite_inv hu

theorem execBounceExport_answers {seq len addr n s} : Answers s (execBounceExport seq len addr n s) := by
  refine bounceRecord_answers fun _ _ hu e => ?_
  obtain ⟨-, e⟩ := Option.ite_none_right_eq_some.mp e
  rw [← Option.some.inj e]
  refine foldl_inv (fun _ _ hv => bounceSend_inv hv) ?_
  exact .ite_snd (devRead_inv hu) (draw_inv (devRead_inv hu))

theorem execBounceRecordInvalid_answers {seq len s} : Answers s (execBounceRecordInvalid seq len s) :=
  bounceRecord_answers fun _ _ _ e => nomatch e

theorem execBounceRecordFail_answers {s} : Answers s (execBounceRecordFail s) :=
  Answers.ite (.finish fun hs => bounceError_inv hs) (.finish fun hs => hs)

/-! The step boundary (04, 12). -/

theorem swapBoundary_inv {s} (hs : Inv s) : Inv (swapBoundary s) :=
  Inv.ite hs (swapDirty_inv (.set hs))

theorem boundary_inv {step s} (hs : Inv s) : Inv (boundary step s) :=
  colBoundary_inv (deliverRatios_inv (tableBoundary_inv (askSwap_inv (retryGuards_inv
    (boundaryUpdate_inv (stashBoundary_inv (swapBoundary_inv (capture_inv hs))))))))

theorem execStepBoundary_answers {t s} : Answers s (execStepBoundary t s) := by
  unfold execStepBoundary
  dsimp only
  split
  · exact .finish fun hs => hs
  · exact Answers.ite (.finish fun hs => hs) (.finish fun hs => noteWaits_inv
      (endTask_inv (boundary_inv (.set (count_inv hs)))))

/-! The collective engines (14). -/

theorem execSetModuleId_answers {m s} : Answers s (execSetModuleId m s) :=
  mbxCommand_answers fun _ _ hs => Reply.Inv.ite (.done hs) (.done (foldl_inv
    (fun _ _ hu => Inv.ite (sendCaps_inv hu) hu) (digestStep_inv hs (fun _ hu => .set hu))))

theorem readComm_inv {a ok s} (hs : Inv s) : CommRead (readComm a ok s) := by
  unfold readComm
  split
  next f _ => exact bufFault_inv (f := f) hs
  · have one := devRead_inv (a := a) (n := 64) hs
    dsimp only
    split
    · exact one
    · split
      · exact one
      · split
        · exact devRead_inv one
        · split
          · exact devRead_inv one
          · exact devRead_inv one

theorem execCreateCommunicator_answers {m s} : Answers s (execCreateCommunicator m s) := by
  unfold execCreateCommunicator
  refine mbxCommand_answers fun a u hs => ?_
  have read := readComm_inv (a := a.n 0)
    (ok := fun id s => !kvHas id s.fab.comms && decide (s.fab.comms.length < 256)) hs
  dsimp only
  split
  next e =>
    rw [e] at read
    exact read
  next e =>
    rw [e] at read
    exact .done (.set read)

theorem execDestroyCommunicator_answers {m s} : Answers s (execDestroyCommunicator m s) :=
  mbxCommand_answers fun _ _ hs => Reply.Inv.ite (.done hs) (Reply.Inv.ite (.done hs) (.done (.set hs)))

theorem setColl_inv {t f s} (hs : Inv s) : Inv (setColl t f s) :=
  .set hs

theorem collRead_inv {die a n s} (hs : Inv s) : Inv (collRead die a n s).2 := by
  unfold collRead
  split
  next e => exact (taskRead_inv hs).of_pair e
  · exact taskRead_inv hs

theorem collPoisonOut_inv {x c d s} (hs : Inv s) : Inv (collPoisonOut x c d s) := by
  unfold collPoisonOut
  extract_lets es seg
  have hseg {q u} (hu : Inv u) : Inv (seg q u) := by
    dsimp only [seg]
    split
    · exact poisonOut_inv hu
    · exact hu
  clear_value seg
  exact .ite (.ite hs (hseg hs)) (foldl_inv (fun _ _ hu => hseg hu) (.ite hs (hseg hs)))

theorem collFail_inv {t st det s} (hs : Inv s) : Inv (collFail t st det s) :=
  collAbort_inv (dropToken_inv (setTask_inv hs))

theorem collPoisoned_inv {t a s} (hs : Inv s) : Inv (collPoisoned t a s) := by
  unfold collPoisoned
  split
  · split
    · exact collFail_inv (collPoisonOut_inv hs)
    · exact collFail_inv hs
  · exact hs

theorem collSend_inv {t phase qs run s} (hs : Inv s) : Inv (collSend t phase qs run s) := by
  unfold collSend
  split
  · exact hs
  next x c _ _ =>
    extract_lets r
    have read : Inv r.2 := by
      refine foldl_snd_inv (fun r q hr => ?_) hs
      split
      · dsimp only
        split
        next e => exact (collRead_inv hr).of_pair e
        next e => exact (collRead_inv hr).of_pair e
      · exact hr
    clear_value r
    split
    next ls u =>
      exact occupyUnit_inv (count_inv (sendPkts_inv (.ite (setColl_inv read) (setComm_inv (setColl_inv read)))))
    · exact collPoisoned_inv read
    · exact read

theorem collReduce_inv {t s} (hs : Inv s) : Inv (collReduce t s) := by
  unfold collReduce
  dsimp only
  split
  · split
    · refine Inv.ite hs ?_
      split
      · exact Inv.ite_snd hs (taskReads_inv hs)
      · exact collPoisoned_inv (Inv.ite_snd hs (taskReads_inv hs))
      · exact setColl_inv (Inv.ite (setTask_inv (taskWrite_inv (Inv.ite_snd hs (taskReads_inv hs))))
          (count_inv (setTask_inv (taskWrite_inv (Inv.ite_snd hs (taskReads_inv hs))))))
    · exact hs
  · exact hs

theorem collCopy_inv {t q s} (hs : Inv s) : Inv (collCopy t q s) := by
  unfold collCopy
  dsimp only
  split
  · exact hs
  · split
    · exact hs
    · refine Inv.ite hs ?_
      split
      · exact Inv.ite_snd hs (taskRead_inv hs)
      · exact collPoisoned_inv (Inv.ite_snd hs (taskRead_inv hs))
      · exact setColl_inv (taskWrite_inv (Inv.ite_snd hs (taskRead_inv hs)))

theorem collWaits_inv {t waits s} (hs : Inv s) : Inv (collWaits t waits s) := by
  unfold collWaits
  split
  · exact hs
  · split
    · exact setColl_inv hs
    · exact count_inv (setColl_inv hs)
    · exact hs

theorem collDone_inv {t s} (hs : Inv s) : Inv (collDone t s) := by
  unfold collDone
  dsimp only
  split
  · exact hs
  · exact Inv.ite (collFail_inv hs) (Inv.ite (count_inv (dropToken_inv (setTask_inv
      (sendPkts_inv (setComm_inv (.set hs)))))) hs)

theorem collPump_inv {t s} (hs : Inv s) : Inv (collPump t s) := by
  unfold collPump
  dsimp only
  split
  · exact hs
  · split
    · exact collReduce_inv (collSend_inv hs)
    · exact collDone_inv (collWaits_inv (foldl_inv (fun _ _ hu => collCopy_inv hu)
        (collSend_inv (collReduce_inv (collSend_inv hs)))))

theorem collPumpAll_inv {f s} (hs : Inv s) : Inv (collPumpAll f s) :=
  foldl_inv (fun _ _ hu => collPump_inv hu) hs

theorem collTimeout_inv {t s} (hs : Inv s) : Inv (collTimeout t s) := by
  unfold collTimeout
  split
  · exact hs
  · exact collFail_inv hs

theorem collExpire_inv {s} (hs : Inv s) : Inv (collExpire s) :=
  foldl_inv (fun _ _ hu => collTimeout_inv hu) hs

theorem collPark_inv {t die s u} (hs : Inv s) (e : collPark t die s = some u) : Inv u := by
  unfold collPark at e
  split at e
  · cases e
    exact hs
  · obtain ⟨⟨tk, v⟩, taken, rfl⟩ := Option.map_eq_some_iff.mp e
    exact releaseUnit_inv (setTask_inv (takeToken_inv hs taken))

theorem collAdmit_inv {t die k c s u} (hs : Inv s) (e : collAdmit t die k c s = some u) : Inv u := by
  unfold collAdmit at e
  extract_lets d id n num s₁ s₂ openWith at e
  have began : Inv s₂ := setTask_inv (setComm_inv (startTask_inv (endWait_inv hs)))
  have opened {l} {v : State} (hv : Inv v) : Inv (openWith l v) := .set hv
  clear_value s₂ openWith
  split at e
  · cases e
    exact collFail_inv (opened began)
  · split at e
    next got v read =>
    have hv : Inv v := by
      split at read
      · exact (Prod.mk.inj read).2 ▸ began
      · split at read
        · exact (Prod.mk.inj read).2 ▸ began
        · exact (taskRead_inv began).of_pair read
    clear read
    split at e
    · cases e
      exact setTask_inv (taskRead_inv hs)
    · cases e
      exact collFail_inv (opened hv)
    · split at e
      · cases e
        exact collFail_inv (opened hv)
      · split at e
        · cases e
          exact collFail_inv (opened hv)
        · dsimp only at e
          split at e
          · cases e
            exact collFail_inv (opened hv)
          · exact collPark_inv (collPump_inv (opened hv)) e

theorem collTry_inv {t die k s u} (hs : Inv s) (e : collTry t die k s = some u) : Inv u := by
  unfold collTry at e
  split at e
  · cases e
    exact rejectTask_inv hs
  · split at e
    · cases e
      exact rejectTask_inv hs
    · split at e
      · cases e
        exact rejectTask_inv hs
      · exact collAdmit_inv hs e

theorem collTake_inv {n die} : ∀ {f s}, Inv s → Inv (collTake n die f s) := by
  induction n with
  | zero => exact id
  | succ n ih =>
    intro f s hs
    unfold collTake
    refine .ite hs ?_
    split
    · exact hs
    · split
      next e => exact collTry_inv hs e
      · exact ih (waitToken_inv hs)

theorem execCollectiveTask_answers {die s} : Answers s (execCollectiveTask die s) :=
  .finish fun hs => collTake_inv (collPumpAll_inv (collExpire_inv (chargeAll_inv hs)))

theorem admitEpoch_inv {id s} (hs : Inv s) : Inv (admitEpoch id s) :=
  foldl_inv (fun _ _ hu => collTake_inv (collTake_inv hu)) hs

theorem execSwitchLayout_answers {m s} : Answers s (execSwitchLayout m s) := by
  unfold execSwitchLayout
  refine mbxCommand_answers fun a u hs => ?_
  extract_lets id e
  split
  · exact .done hs
  · refine .ite (.done hs) ?_
    have read := readComm_inv (a := a.n 1) (ok := fun i _ => i == id) hs
    split
    next e =>
      rw [e] at read
      exact read
    next e =>
      rw [e] at read
      exact .ite (.done read) (.done (admitEpoch_inv (chargeAll_inv (count_inv (setComm_inv read)))))

theorem execPacketInject_answers {s} : Answers s (execPacketInject s) := by
  unfold execPacketInject
  dsimp only
  split
  · exact .finish fun hs => collExpire_inv (chargeAll_inv hs)
  · split
    · exact .finish fun hs => injectPkt_inv (.set (collExpire_inv (chargeAll_inv hs)))
    · exact .finish fun hs => endCreditLends_inv (collPumpAll_inv (releaseUnit_inv
        (injectPkt_inv (.set (collExpire_inv (chargeAll_inv hs))))))

theorem collFilter_inv {i p s} (hs : Inv s) : Inv (collFilter i p s).2 := by
  unfold collFilter
  dsimp only
  split
  · exact Inv.ite (post_inv (.set (count_inv hs))) (count_inv hs)
  · exact Inv.ite_snd hs (Inv.ite (post_inv (.set (count_inv hs))) (count_inv hs))

theorem execCollDataReceived_answers {s} : Answers s (execCollDataReceived s) := by
  unfold execCollDataReceived
  split
  · exact .finish id
  next taken =>
    have came (hs : Inv s) := takeIn_inv (collExpire_inv (chargeAll_inv hs)) taken
    split
    next e => exact .finish fun hs => (collFilter_inv (came hs)).of_pair e
    next e =>
      have kept (hs : Inv s) := (collFilter_inv (came hs)).of_pair e
      dsimp only
      split
      · exact .finish kept
      · have landed {a bs c i n} (hs : Inv s) :=
          count_inv (c := c) (i := i) (n := n) (devPut_inv (a := a) (bs := bs) (kept hs))
        exact .finish fun hs => collPumpAll_inv (.ite (setComm_inv (landed hs)) (landed hs))

theorem execCollFreeReceived_answers {s} : Answers s (execCollFreeReceived s) := by
  unfold execCollFreeReceived
  split
  · exact .finish id
  next taken =>
    have came (hs : Inv s) := takeIn_inv (collExpire_inv (chargeAll_inv hs)) taken
    split
    next e => exact .finish fun hs => (collFilter_inv (came hs)).of_pair e
    next e => exact .finish fun hs => collPumpAll_inv (setComm_inv ((collFilter_inv (came hs)).of_pair e))

theorem execCollAbortReceived_answers {s} : Answers s (execCollAbortReceived s) := by
  unfold execCollAbortReceived
  split
  · exact .finish id
  next taken =>
    have came (hs : Inv s) := takeIn_inv hs taken
    split
    next e => exact .finish fun hs => (collFilter_inv (came hs)).of_pair e
    next e =>
      have counted {c i n} (hs : Inv s) := count_inv (c := c) (i := i) (n := n) ((collFilter_inv (came hs)).of_pair e)
      dsimp only
      split
      · exact .finish fun hs => collFail_inv (counted hs)
      · exact .ite (.finish fun hs => setComm_inv (counted hs)) (.finish counted)

theorem execCollectiveTimeout_answers {t s} : Answers s (execCollectiveTimeout t s) :=
  Answers.ite (.finish fun hs => hs) (Answers.ite (.finish fun hs => hs)
    (.finish fun hs => collTimeout_inv (chargeAll_inv hs)))

/-! IMPORT_WEIGHTS, and the timeout of a mailbox command (15, 16). -/

theorem execImportWeights_answers {m s} : Answers s (execImportWeights m s) := by
  unfold execImportWeights
  dsimp only
  refine mbxCommand_answers fun _ _ hs => ?_
  split
  · exact bufFault_inv hs
  · split
    · exact bufFault_inv hs
    · split
      · exact .done (devRead_inv hs)
      · split
        · exact .done (devRead_inv hs)
        · split
          · exact bufFault_inv (devRead_inv hs)
          · exact Reply.Inv.ite (.done (devRead_inv hs)) (.run (.set (devRead_inv hs)))

theorem importEnd_inv {x st res s} (hs : Inv s) : Inv (importEnd x st res s) :=
  Inv.dite (fun _ => Inv.ite (mbxComplete_inv (.set hs)) (.set hs)) (fun _ => .set hs)

theorem importChunk_inv {x bs s} (hs : Inv s) : Inv (importChunk x bs s) :=
  Inv.ite (importEnd_inv (setProgress_inv (.set (count_inv (devPut_inv hs)))))
    (setProgress_inv (.set (count_inv (devPut_inv hs))))

theorem execImportChunkDone_answers {ok bs s} : Answers s (execImportChunkDone ok bs s) := by
  unfold execImportChunkDone
  dsimp only
  split
  · exact .finish fun hs => hs
  · refine Answers.ite (.finish fun hs => hs) ?_
    split
    · exact .finish fun hs => importEnd_inv (devRead_inv hs)
    · exact Answers.ite (.finish fun hs => importChunk_inv (devRead_inv hs))
        (.finish fun hs => count_inv (importEnd_inv (devRead_inv hs)))

theorem cancelLong_inv {op s} (hs : Inv s) : Inv (cancelLong op s) := by
  unfold cancelLong
  dsimp only
  split
  · exact .set hs
  · exact ckptDrop_inv hs
  · exact setStore_inv hs
  · exact hs

theorem execMailboxCommandTimeout_answers {m s} : Answers s (execMailboxCommandTimeout m s) := by
  unfold execMailboxCommandTimeout
  dsimp only
  split
  · exact .finish fun hs => hs
  · exact Answers.ite (.finish fun hs => mbxComplete_inv (Inv.ite (cancelLong_inv hs) hs)) (.finish fun hs => hs)

/-! Module hardware (21). -/

theorem powerTrigger_inv {c s} (hs : Inv s) : Inv (powerTrigger c s) :=
  Inv.ite (alertPin_inv (emit_inv (emit_inv (.set hs)))) hs

theorem railsFallen_inv {s} (hs : Inv s) : Inv (railsFallen s) :=
  tryRails_inv (.set (.set (fullReset_inv hs)))

theorem execPowerDown_answers {s} : Answers s (execPowerDown s) := by
  unfold execPowerDown
  split
  · exact Answers.ite (.finish fun hs => railsFallen_inv (powerTrigger_inv hs)) (.finish fun hs => hs)
  · exact Answers.ite (.finish fun hs => railsFallen_inv hs) (.finish fun hs => hs)

theorem execProtectiveShutdown_answers {cause kind index value s} : Answers s
    (execProtectiveShutdown cause kind index value s) :=
  Answers.ite (.finish fun hs => hs) (Answers.ite (.finish fun hs => hs)
    (Answers.ite (.finish fun hs => alertPin_inv (post_inv (.set hs))) (Answers.ite
    (.finish fun hs => powerTrigger_inv hs) (.finish fun hs => hs))))

theorem execPwrEnChange_answers {high s} : Answers s (execPwrEnChange high s) :=
  Answers.ite (.finish fun hs => tryRails_inv (.set hs)) (.finish fun hs => powerTrigger_inv (.set hs))

theorem execMainPowerChange_answers {mv held s} : Answers s (execMainPowerChange mv held s) :=
  Answers.ite (.finish fun hs => powerTrigger_inv (.set hs)) (Answers.ite
    (.finish fun hs => powerTrigger_inv (.set hs)) (.finish fun hs => tryRails_inv (.set hs)))

theorem execAuxPowerUp_answers {mv s} : Answers s (execAuxPowerUp mv s) :=
  Answers.ite (.finish fun hs => tryRails_inv (.set hs)) (.finish fun hs => hs)

theorem execAuxPowerLoss_answers {s} : Answers s (execAuxPowerLoss s) :=
  .finish fun hs => .set (fullReset_inv hs)

theorem execMainRailsUp_answers {s} : Answers s (execMainRailsUp s) :=
  Answers.ite (.finish fun hs => alertPin_inv (emit_inv (emit_inv (.set hs)))) (.finish fun hs => hs)

theorem execCageModuleInsert_answers {port mw s} : Answers s (execCageModuleInsert port mw s) :=
  Answers.ite (.finish fun hs => hs) (Answers.ite (.finish fun hs => post_inv (.set hs)) (.finish fun hs => .set hs))

theorem execSetPowerLimit_answers {m s} : Answers s (execSetPowerLimit m s) :=
  mbxCommand_answers fun _ _ hs => Reply.Inv.ite (.done hs) (.done (.set hs))

theorem execPowerControlSample_answers {s} : Answers s (execPowerControlSample s) := by
  unfold execPowerControlSample
  dsimp only
  refine Answers.ite (.finish fun hs => hs) (.finish fun hs => Inv.ite (.set
    (Inv.ite (Inv.ite ?_ ?_) (post_inv (.set (Inv.ite ?_ ?_))))) (Inv.ite ?_ ?_))
  · split
    · exact post_inv (.set (.set hs))
    · exact post_inv (.set (.set hs))
  · split
    · exact Inv.ite (post_inv (.set (.set hs))) (.set hs)
    · exact .set hs
  · split
    · exact post_inv (.set (.set hs))
    · exact post_inv (.set (.set hs))
  · split
    · exact Inv.ite (post_inv (.set (.set hs))) (.set hs)
    · exact .set hs
  · split
    · exact post_inv (.set (.set hs))
    · exact post_inv (.set (.set hs))
  · split
    · exact Inv.ite (post_inv (.set (.set hs))) (.set hs)
    · exact .set hs

theorem mctpReply_inv {req code body s} (hs : Inv s) : Inv (mctpReply req code body s) :=
  Inv.ite (emit_inv hs) hs

theorem execSetEndpointId_answers {eid s} : Answers s (execSetEndpointId eid s) :=
  Answers.ite (.finish fun hs => hs) (Answers.ite (.finish fun hs => mctpReply_inv hs)
    (.finish fun hs => mctpReply_inv (.set hs)))

theorem execGetEndpointId_answers {s} : Answers s (execGetEndpointId s) :=
  .finish fun hs => mctpReply_inv hs

theorem execGetMctpVersionSupport_answers {msgType s} : Answers s (execGetMctpVersionSupport msgType s) :=
  .finish fun hs => mctpReply_inv hs

theorem execGetMessageTypeSupport_answers {s} : Answers s (execGetMessageTypeSupport s) :=
  .finish fun hs => mctpReply_inv hs

theorem execGetVendorMessageSupport_answers {s} : Answers s (execGetVendorMessageSupport s) :=
  .finish fun hs => mctpReply_inv hs

theorem mpMessage_answers {req tag rsv body s} (hb : ∀ u, Inv u → Inv (body u).2.2) :
    Answers s (mpMessage req tag rsv body s) := by
  unfold mpMessage
  dsimp only
  exact .ite (.finish id) (.finish fun hs => mctpReply_inv (.ite_snd_snd hs (hb _ hs)))

theorem setPort_inv {owner now s} (hs : Inv s) : Inv (setPort owner now s) :=
  Inv.ite (.set hs) (post_inv (.set hs))

theorem execEnablePort_answers {tag rsv s} : Answers s (execEnablePort tag rsv s) :=
  mpMessage_answers (fun _ hu => Inv.ite_snd_snd hu (Inv.ite_snd_snd hu (setPort_inv hu)))

theorem execDisablePort_answers {tag rsv s} : Answers s (execDisablePort tag rsv s) :=
  mpMessage_answers (fun _ hu => Inv.ite_snd_snd hu (digestStep_inv hu (fun _ hu => setPort_inv hu)))

theorem execRegRead_answers {tag rsv off s} : Answers s (execRegRead tag rsv off s) :=
  mpMessage_answers (fun _ hu => Inv.ite_snd_snd hu (Inv.ite_snd_snd hu hu))

theorem execRegWrite_answers {tag rsv off value s} : Answers s (execRegWrite tag rsv off value s) :=
  mpMessage_answers (fun _ hu => Inv.ite_snd_snd hu (Inv.ite_snd_snd hu
    (Inv.ite_snd_snd (mbxDoorbell_inv hu) (mbxRegWrite_inv hu))))

theorem execReadHwStatus_answers {tag rsv s} : Answers s (execReadHwStatus tag rsv s) :=
  mpMessage_answers (fun _ hu => hu)

theorem execPowerControlOff_answers {tag rsv s} : Answers s (execPowerControlOff tag rsv s) :=
  mpMessage_answers (fun _ hu => powerTrigger_inv (.set hu))

theorem execPowerControlOn_answers {tag rsv s} : Answers s (execPowerControlOn tag rsv s) :=
  mpMessage_answers (fun _ hu => tryRails_inv (.set hu))

theorem execPowerControlCycle_answers {tag rsv s} : Answers s (execPowerControlCycle tag rsv s) :=
  mpMessage_answers (fun _ hu => Inv.ite_snd_snd (powerTrigger_inv (.set hu)) (tryRails_inv (.set hu)))

theorem execFwWrite_answers {tag rsv off bytes s} : Answers s (execFwWrite tag rsv off bytes s) :=
  mpMessage_answers (fun _ hu => Inv.ite_snd_snd hu (Inv.ite_snd_snd hu (.set hu)))

theorem execFwCommit_answers {tag rsv size image s} : Answers s (execFwCommit tag rsv size image s) := by
  unfold execFwCommit
  dsimp only
  refine mpMessage_answers (fun _ hu => Inv.ite_snd_snd hu (Inv.ite_snd_snd hu ?_))
  split
  · exact .set hu
  · exact Inv.ite_snd_snd (.set hu) (post_inv (.set hu))

theorem execMemAccessEnable_answers {tag rsv s} : Answers s (execMemAccessEnable tag rsv s) :=
  mpMessage_answers (fun _ hu => Inv.ite_snd_snd hu (digestStep_inv hu (fun _ hu => setPort_inv hu)))

theorem execMemAccessDisable_answers {tag rsv s} : Answers s (execMemAccessDisable tag rsv s) :=
  mpMessage_answers (fun _ hu => digestStep_inv hu (fun _ hu => setPort_inv hu))

theorem execMemRead_answers {tag rsv adr s} : Answers s (execMemRead tag rsv adr s) := by
  unfold execMemRead
  dsimp only
  exact mpMessage_answers (fun _ hu => Inv.ite_snd_snd hu (Inv.ite_snd_snd hu (Inv.ite_snd_snd hu (devRead_inv hu))))

theorem execMemWrite_answers {tag rsv adr bytes s} : Answers s (execMemWrite tag rsv adr bytes s) :=
  mpMessage_answers (fun _ hu => Inv.ite_snd_snd hu (Inv.ite_snd_snd hu (Inv.ite_snd_snd hu (devPut_inv hu))))

theorem execJtagUnlock_answers {unlock s} : Answers s (execJtagUnlock unlock s) :=
  Answers.ite (.finish fun hs => hs) (.finish fun hs => digestStep_inv hs (fun _ hu => .set hu))

/-! Error protection and replica repair (17). -/

theorem execSetScrubRate_answers {m s} : Answers s (execSetScrubRate m s) :=
  mbxCommand_answers fun _ _ hs => Reply.Inv.ite (.done hs) (.done (.set hs))

theorem execSetFlipMask_answers {m s} : Answers s (execSetFlipMask m s) :=
  mbxCommand_answers fun _ _ hs => Reply.Inv.ite (.done hs) (.done (.set hs))

theorem execReadErrorLog_answers {m s} : Answers s (execReadErrorLog m s) :=
  mbxCommand_answers fun _ _ hs => replyBytes_inv hs

theorem execSetRepairMap_answers {m s} : Answers s (execSetRepairMap m s) := by
  unfold execSetRepairMap
  dsimp only
  refine mbxCommand_answers fun _ _ hs => Reply.Inv.ite (.done hs) ?_
  split
  · exact bufFault_inv hs
  · exact Reply.Inv.ite (.done hs) (Reply.Inv.ite (.done (devRead_inv hs))
      (Reply.Inv.ite (.done (devRead_inv hs)) (.done (.set (devRead_inv hs)))))

theorem execStrongCodeDecision_answers {a s} : Answers s (execStrongCodeDecision a s) :=
  Answers.ite (.finish fun hs => hs) (Answers.ite (.finish fun hs => hs) (.finish fun hs => strongDecision_inv hs))

theorem execChannelTrainingLost_answers {chan s} : Answers s (execChannelTrainingLost chan s) :=
  Answers.ite (.finish fun hs => failChannel_inv hs) (.finish fun hs => hs)

theorem haltAll_inv {s} (hs : Inv s) : Inv (haltAll s) :=
  foldl_inv (fun _ _ hu => Inv.ite hu (haltStream_inv hu)) hs

theorem execBridgeLaneError_answers {die group lane s} : Answers s (execBridgeLaneError die group lane s) := by
  unfold execBridgeLaneError
  dsimp only
  split
  · exact Answers.ite (.finish fun hs => .set hs) (.finish fun hs => post_inv (count_inv (logErr_inv (.set hs))))
  · exact Answers.ite (.finish fun hs => hs) (.finish fun hs => haltAll_inv (postFatal_inv (logErr_inv (.set hs))))

theorem surveyMeta_inv {l a s} (hs : Inv s) : Inv (surveyMeta l a s) :=
  (surveyMeta_dram _ _ (.refl s)).inv hs

theorem surveyPage_inv {a s} (hs : Inv s) : Inv (surveyPage a s) := by
  unfold surveyPage
  extract_lets l keys old s₁ s₂ now mend dirty s₃ p rel s₄ rel'
  have read : Inv s₂ := foldl_inv (fun _ _ hu => sectorRead_inv hu) (surveyMeta_inv hs)
  have counted : Inv s₄ := .set (count_inv read)
  exact .ite (count_inv (.set counted)) counted

theorem surveyFrameEnd_inv {l s} (hs : Inv s) : Inv (surveyFrameEnd l s) :=
  setFrame_inv hs

theorem execSurveyPageVisit_answers {chan s} : Answers s (execSurveyPageVisit chan s) :=
  Answers.ite (.finish fun hs => hs) (Answers.ite (.finish fun hs => .set (surveyPage_inv hs))
    (Answers.ite (.finish fun hs => .set (surveyFrameEnd_inv (surveyPage_inv hs)))
    (Answers.ite (.finish fun hs => post_inv (logErr_inv (.set (.set (surveyFrameEnd_inv (surveyPage_inv hs))))))
    (.finish fun hs => .set (surveyFrameEnd_inv (surveyPage_inv hs))))))

theorem setRepair_inv {page f s} (hs : Inv s) : Inv (setRepair page f s) :=
  .set hs

theorem repairNext_inv {r cause s} (hs : Inv s) : Inv (repairNext r cause s) :=
  setRepair_inv hs

theorem repairAsk_inv {r ga n s} (hs : Inv s) : Inv (repairAsk r ga n s) := by
  unfold repairAsk
  refine Inv.ite (Inv.ite (repairNext_inv hs) (setRepair_inv (sendPkts_inv hs))) (Inv.ite (repairNext_inv hs) ?_)
  split
  · rename_i u e
    exact setRepair_inv (((taskRead_inv hs).of_pair e))
  · rename_i u e
    exact repairNext_inv (((taskRead_inv hs).of_pair e))

theorem execRepairStart_answers {s} : Answers s (execRepairStart s) := by
  unfold execRepairStart
  dsimp only
  split
  · exact .finish fun hs => hs
  · exact Answers.ite (.finish fun hs => hs) (Answers.ite (.finish fun hs => setRepair_inv (setRepair_inv hs))
      (Answers.ite (.finish fun hs => repairNext_inv (setRepair_inv hs))
      (Answers.ite (.finish fun hs => repairNext_inv (setRepair_inv hs))
      (.finish fun hs => repairAsk_inv (setRepair_inv hs)))))

theorem execRepairPeerRetry_answers {page s} : Answers s (execRepairPeerRetry page s) := by
  unfold execRepairPeerRetry
  split
  · exact .finish fun hs => hs
  · exact Answers.ite (.finish fun hs => repairAsk_inv (setRepair_inv hs)) (.finish fun hs => hs)

theorem repairRsp_inv {k s u} (hs : Inv s) (e : repairRsp k s = some u) : Inv u := by
  unfold repairRsp at e
  dsimp only at e
  split at e
  · cases e
  · split at e
    · cases e
      exact repairNext_inv hs
    · split at e
      · cases e
        exact repairAsk_inv (setRepair_inv hs)
      · cases e
        exact repairAsk_inv (setRepair_inv hs)
      · split at e
        · cases e
          exact setRepair_inv hs
        · split at e
          · cases e
            exact repairNext_inv hs
          · cases e
            exact setRepair_inv hs

theorem tripDone_inv {i p s} (hs : Inv s) : Inv (tripDone i p s) := by
  unfold tripDone
  dsimp only
  split
  · exact hs
  · exact monSample_inv (.set hs)

theorem execReadRspReceived_answers {s} : Answers s (execReadRspReceived s) := by
  unfold execReadRspReceived
  split
  · exact .finish id
  next i p u taken =>
    have came (hs : Inv s) : Inv (tripDone i p u) := tripDone_inv (takeIn_inv hs taken)
    dsimp only
    split
    next e => exact .finish fun hs => readRsp_inv (came hs) e
    · split
      next e => exact .finish fun hs => repairRsp_inv (came hs) e
      · exact .finish fun hs => lateRsp_inv (came hs)

theorem repairEnd_inv {r s} (hs : Inv s) : Inv (repairEnd r s) :=
  Inv.ite (count_inv (.set hs)) (.set hs)

theorem repairExpire_inv {r s} (hs : Inv s) : Inv (repairExpire r s) :=
  Inv.ite (repairNext_inv hs) hs

theorem execStoreRepairRead_answers {page s} : Answers s (execStoreRepairRead page s) := by
  unfold execStoreRepairRead
  split
  · exact .finish fun hs => hs
  · refine Answers.ite (.finish fun hs => hs) ?_
    split
    · exact .finish fun hs => setRepair_inv hs
    · exact .finish fun hs => setRepair_inv hs

theorem execRepairDone_answers {page s} : Answers s (execRepairDone page s) := by
  unfold execRepairDone
  dsimp only
  split
  · exact .finish fun hs => hs
  · refine Answers.ite (.finish fun hs => hs) (Answers.ite (.finish fun hs => post_inv
      (logErr_inv (repairEnd_inv (count_inv hs)))) ?_)
    split
    · exact .finish fun hs => Inv.ite (setRepair_inv (repairExpire_inv hs))
        (post_inv (logErr_inv (repairEnd_inv (count_inv (devPut_inv (repairExpire_inv hs))))))
    · exact .finish fun hs => Inv.ite (setRepair_inv (repairExpire_inv hs))
        (post_inv (logErr_inv (repairEnd_inv (count_inv (devPut_inv (repairExpire_inv hs))))))
    · exact .finish fun hs => repairExpire_inv hs

theorem stepAbort_inv {entry page s} (hs : Inv s) : Inv (stepAbort entry page s) :=
  post_inv (count_inv (logErr_inv (foldl_inv (fun _ _ hu => abortTask_inv hu) (haltAll_inv hs))))

theorem execRepairFailed_answers {page s} : Answers s (execRepairFailed page s) := by
  unfold execRepairFailed
  dsimp only
  split
  · exact .finish fun hs => hs
  · refine Answers.ite (.finish fun hs => hs) ?_
    split
    · exact .finish fun hs => repairExpire_inv hs
    · exact Answers.ite (.finish fun hs => repairExpire_inv hs) (.finish fun hs => Inv.ite
        (stepAbort_inv (post_inv (logErr_inv (repairEnd_inv (count_inv (repairExpire_inv hs))))))
        (post_inv (logErr_inv (repairEnd_inv (count_inv (repairExpire_inv hs))))))

/-! Sites and the buddy relation (14). -/

theorem fence_inv {s} (hs : Inv s) : Inv (fence s) :=
  mirrorAbandon_inv (foldl_inv (fun _ _ hu => setComm_inv hu) (foldl_inv (fun _ _ hu => collFail_inv hu)
    (foldl_inv (fun _ _ hu => Inv.ite (dropToken_inv (setTask_inv hu)) hu) (count_inv (.set (post_inv (.set hs)))))))

theorem siteCheck_inv {s} (hs : Inv s) : Inv (siteCheck s) :=
  Inv.ite hs (Inv.ite (.set hs) (Inv.ite (fence_inv hs) hs))

theorem execSetSiteMap_answers {m s} : Answers s (execSetSiteMap m s) :=
  mbxCommand_answers fun _ _ hs => .done (siteCheck_inv (digestStep_inv hs (fun _ hu => .set hu)))

theorem execClearFence_answers {m s} : Answers s (execClearFence m s) :=
  mbxCommand_answers fun _ _ hs => Reply.Inv.ite (.done hs) (Reply.Inv.ite (.done hs)
    (.done (mirrorAgain_inv (siteCheck_inv (post_inv (.set hs))))))

theorem execSiteStateSend_answers {s} : Answers s (execSiteStateSend s) :=
  Answers.ite (.finish fun hs => hs) (.finish fun hs => sendPkts_inv (siteCheck_inv hs))

theorem execSiteStateReceived_answers {s} : Answers s (execSiteStateReceived s) := by
  unfold execSiteStateReceived
  dsimp only
  split
  · exact .finish fun hs => hs
  · rename_i u e
    exact Answers.ite (.finish fun hs => (takeIn_inv hs e)) (.finish fun hs => siteCheck_inv (.set ((takeIn_inv hs e))))

theorem execSiteViewStale_answers {s} : Answers s (execSiteViewStale s) :=
  .finish fun hs => siteCheck_inv hs

theorem execSetBuddy_answers {m s} : Answers s (execSetBuddy m s) :=
  mbxCommand_answers fun _ _ hs => Reply.Inv.ite (.done hs) (.done (mirrorPump_inv
    (digestStep_inv hs (fun _ hu => .set hu))))

theorem execBuddyBeatSend_answers {s} : Answers s (execBuddyBeatSend s) := by
  unfold execBuddyBeatSend
  split
  · exact .finish fun hs => hs
  · exact .finish fun hs => sendPkts_inv hs

theorem execBuddyBeatReceived_answers {s} : Answers s (execBuddyBeatReceived s) := by
  unfold execBuddyBeatReceived
  dsimp only
  split
  · exact .finish fun hs => hs
  · rename_i u e
    exact Answers.ite (.finish fun hs => (takeIn_inv hs e)) (.finish fun hs => Inv.ite
      (mirrorAgain_inv (post_inv (.set ((takeIn_inv hs e))))) (.set ((takeIn_inv hs e))))

theorem execBuddyLost_answers {s} : Answers s (execBuddyLost s) := by
  unfold execBuddyLost
  dsimp only
  split
  · exact .finish fun hs => hs
  · exact Answers.ite (.finish fun hs => hs) (.finish fun hs => mirrorLost_inv (post_inv (.set hs)))

theorem execMirrorCreditReceived_answers {s} : Answers s (execMirrorCreditReceived s) := by
  unfold execMirrorCreditReceived
  dsimp only
  split
  · exact .finish fun hs => hs
  · rename_i u e
    exact Answers.ite (.finish fun hs => (takeIn_inv hs e)) (.finish fun hs => mirrorPump_inv
      (.set ((takeIn_inv hs e))))

/-! Every command. -/

theorem exec_answers {i s} : Answers s (exec i s) := by
  unfold exec
  split
  · exact execRegisterWrite_answers
  · exact execTqDoorbell_answers
  · exact execTqCplHead_answers
  · exact execStashDoorbell_answers
  · exact execGuardDoorbell_answers
  · exact execApertureBaseWrite_answers
  · exact execBncInTailWrite_answers
  · exact execBncOutHeadWrite_answers
  · exact execMbxDoorbell_answers
  · exact execMbxDoneClear_answers
  · exact execErrSummaryClear_answers
  · exact execEvtHeadWrite_answers
  · exact execApertureRead_answers
  · exact execApertureWrite_answers
  · exact execPcieConfigRequest_answers
  · exact execPerst_answers
  · exact execPcieFunctionReset_answers
  · exact execHostCompletion_answers
  · exact execHostCompletionTimeout_answers
  · exact execGetDeviceInfo_answers
  · exact execNop_answers
  · exact execSetEventRing_answers
  · exact execCreateQueue_answers
  · exact execDestroyQueue_answers
  · exact execHaltStream_answers
  · exact execResumeStream_answers
  · exact execResetStream_answers
  · exact execSetClassShares_answers
  · exact execLoadLayerProgram_answers
  · exact execUnloadLayerProgram_answers
  · exact execSetCoelostatConfig_answers
  · exact execSetMemoryInterleave_answers
  · exact execSnapshotDirtyAtBoundary_answers
  · exact execSnapshotDirtyNow_answers
  · exact execSnapshotDirtyRelease_answers
  · exact execReadDirtyMap_answers
  · exact execConfigureStash_answers
  · exact execConfigureNumerics_answers
  · exact execSetRngSeed_answers
  · exact execReadWatch_answers
  · exact execSetWatch_answers
  · exact execConfigurePhotometer_answers
  · exact execConfigureSpectrograph_answers
  · exact execConfigureEphemeris_answers
  · exact execReadPortStatus_answers
  · exact execRetrainPort_answers
  · exact execSetPortConfig_answers
  · exact execSetTopology_answers
  · exact execSetGlobalLink_answers
  · exact execSetRouting_answers
  · exact execSetModuleId_answers
  · exact execCreateCommunicator_answers
  · exact execDestroyCommunicator_answers
  · exact execSwitchLayout_answers
  · exact execSetSiteMap_answers
  · exact execClearFence_answers
  · exact execSetBuddy_answers
  · exact execImportWeights_answers
  · exact execImportChunkDone_answers
  · exact execSetScrubRate_answers
  · exact execSetFlipMask_answers
  · exact execReadErrorLog_answers
  · exact execSetRepairMap_answers
  · exact execWriteCheckpointFull_answers
  · exact execWriteCheckpointIncremental_answers
  · exact execRestoreCheckpointLocal_answers
  · exact execRestoreCheckpointBuddy_answers
  · exact execListCheckpoints_answers
  · exact execDeleteCheckpoint_answers
  · exact execReadStoreHealth_answers
  · exact execResetModuleFull_answers
  · exact execResetModuleCompute_answers
  · exact execResetModuleCluster_answers
  · exact execSaveTraining_answers
  · exact execRunTrafficTest_answers
  · exact execTrafficTestEnd_answers
  · exact execRunMargining_answers
  · exact execMarginingDone_answers
  · exact execSetCollimation_answers
  · exact execReadBringupReport_answers
  · exact execSetTimeSourceLoad_answers
  · exact execSetTimeSourcePps_answers
  · exact execReadTimeStatus_answers
  · exact execConfigureMonitor_answers
  · exact execReadHistogram_answers
  · exact execReadSensors_answers
  · exact execSetPowerLimit_answers
  · exact execReadSchedCounters_answers
  · exact execReadStreamCounters_answers
  · exact execReadMemoryCounters_answers
  · exact execReadStashCounters_answers
  · exact execReadNumericCounters_answers
  · exact execReadPhotometerCounters_answers
  · exact execReadSpectroCounters_answers
  · exact execReadEphemerisCounters_answers
  · exact execReadFabricCounters_answers
  · exact execReadCollectiveCounters_answers
  · exact execReadHostCounters_answers
  · exact execReadReliabilityCounters_answers
  · exact execMailboxCommandTimeout_answers
  · exact execAlmanacHeartbeatTick_answers
  · exact execAlmanacFailed_answers
  · exact execMsixModerationExpiry_answers
  · exact execDescriptorFetch_answers
  · exact execTaskAdmit_answers
  · exact execCoreSelect_answers
  · exact execStealAttempt_answers
  · exact execStealDescriptorMoved_answers
  · exact execLendStart_answers
  · exact execAccountingPeriodEnd_answers
  · exact execDeficitBroadcast_answers
  · exact execMatrixTaskStart_answers
  · exact execStatsTaskStart_answers
  · exact execVectorTaskStart_answers
  · exact execSliceLanded_answers
  · exact execResultDrain_answers
  · exact execWritebackAccepted_answers
  · exact execGatherTask_answers
  · exact execScatterTask_answers
  · exact execTransferTask_answers
  · exact execSpectroTask_answers
  · exact execOptimTask_answers
  · exact execCollectiveTask_answers
  · exact execSemWait_answers
  · exact execSemSignal_answers
  · exact execTimerTask_answers
  · exact execTimerExpired_answers
  · exact execStepMark_answers
  · exact execStepBoundary_answers
  · exact execTaskComplete_answers
  · exact execSemWaitTimeout_answers
  · exact execParkTokenFree_answers
  · exact execWatchResend_answers
  · exact execStashSBind_answers
  · exact execStashSFwdDone_answers
  · exact execStashSBwdNeed_answers
  · exact execStashSRcDone_answers
  · exact execStashSFree_answers
  · exact execStashCopyDone_answers
  · exact execGuardTrigger_answers
  · exact execGuardRangeComplete_answers
  · exact execFoldSwap_answers
  · exact execFoldStart_answers
  · exact execFoldPublish_answers
  · exact execPhotometerHold_answers
  · exact execPhotometerHoldRelease_answers
  · exact execAssemblerPassDone_answers
  · exact execSpectroDecision_answers
  · exact execSpectroDeadline_answers
  · exact execOperatorApplyDone_answers
  · exact execSpectroWriteOut_answers
  · exact execTableHold_answers
  · exact execTableHoldRelease_answers
  · exact execCodewordReceived_answers
  · exact execLinkFlitReceived_answers
  · exact execLinkFlitDue_answers
  · exact execPortSignalDetect_answers
  · exact execPortTrainDone_answers
  · exact execPortLengthDone_answers
  · exact execCapsRecordReceived_answers
  · exact execPortDegrade_answers
  · exact execPortDown_answers
  · exact execPacketForward_answers
  · exact execPacketInject_answers
  · exact execInboundWrite_answers
  · exact execInboundReadReq_answers
  · exact execReadRspReceived_answers
  · exact execWriteAckReceived_answers
  · exact execInboundSemOp_answers
  · exact execInboundSemWatch_answers
  · exact execWatchRspReceived_answers
  · exact execInboundWatchCancel_answers
  · exact execCollDataReceived_answers
  · exact execCollFreeReceived_answers
  · exact execCollAbortReceived_answers
  · exact execCollectiveTimeout_answers
  · exact execFabricTimeout_answers
  · exact execPortStatesReceived_answers
  · exact execPortStatesSend_answers
  · exact execPeerReportStale_answers
  · exact execSiteStateReceived_answers
  · exact execSiteStateSend_answers
  · exact execSiteViewStale_answers
  · exact execBuddyBeatSend_answers
  · exact execBuddyBeatReceived_answers
  · exact execBuddyLost_answers
  · exact execMirrorCreditReceived_answers
  · exact execMirrorBeginReceived_answers
  · exact execMirrorGranuleReceived_answers
  · exact execMirrorCommitReceived_answers
  · exact execMirrorAbortReceived_answers
  · exact execMirrorDoneReceived_answers
  · exact execRestoreReqReceived_answers
  · exact execChannelRead_answers
  · exact execChannelWrite_answers
  · exact execChannelWriteDrain_answers
  · exact execMetadataWriteback_answers
  · exact execStrongCodeDecision_answers
  · exact execSurveyPageVisit_answers
  · exact execChannelTrainingLost_answers
  · exact execBridgeLaneError_answers
  · exact execRepairStart_answers
  · exact execRepairPeerRetry_answers
  · exact execRepairDone_answers
  · exact execRepairFailed_answers
  · exact execCaptureOnDemand_answers
  · exact execStagingDrain_answers
  · exact execCheckpointCommit_answers
  · exact execRestoreDone_answers
  · exact execStoreRepairRead_answers
  · exact execNandFrameRead_answers
  · exact execStoreBlockRefresh_answers
  · exact execNandProgramFail_answers
  · exact execStoreDayTick_answers
  · exact execStoreReclaimDone_answers
  · exact execBringupStart_answers
  · exact execFirmwareBoot_answers
  · exact execMeasureDone_answers
  · exact execBridgeTrainDone_answers
  · exact execDramTrainDone_answers
  · exact execNandTrainDone_answers
  · exact execStoreIndexLoaded_answers
  · exact execPortWindowClose_answers
  · exact execTierFillDone_answers
  · exact execBringupReady_answers
  · exact execSettingsSave_answers
  · exact execComputeResetDone_answers
  · exact execClusterResetDone_answers
  · exact execCollimationDrainEnd_answers
  · exact execCollimationClearDone_answers
  · exact execCollimationMemoryTestDone_answers
  · exact execCollimationBlockDone_answers
  · exact execCollimationRestoreDone_answers
  · exact execGetVersion_answers
  · exact execGetCapabilities_answers
  · exact execNegotiateAlgorithms_answers
  · exact execGetDigests_answers
  · exact execGetCertificate_answers
  · exact execChallenge_answers
  · exact execGetMeasurements_answers
  · exact execKeyExchange_answers
  · exact execFinish_answers
  · exact execHeartbeat_answers
  · exact execKeyUpdate_answers
  · exact execEndSession_answers
  · exact execSpdmSessionIdle_answers
  · exact execSpdmUnsupportedRequest_answers
  · exact execSetSessionScope_answers
  · exact execEnterTenant_answers
  · exact execExitTenant_answers
  · exact execInstallKey_answers
  · exact execDestroyKey_answers
  · exact execSetPeerMap_answers
  · exact execInstallMembership_answers
  · exact execGetMembershipProof_answers
  · exact execVendorOpcodeInvalid_answers
  · exact execGetTdispVersion_answers
  · exact execGetTdispCapabilities_answers
  · exact execLockInterfaceRequest_answers
  · exact execGetDeviceInterfaceReport_answers
  · exact execGetDeviceInterfaceState_answers
  · exact execStartInterfaceRequest_answers
  · exact execStopInterfaceRequest_answers
  · exact execIdeKmQuery_answers
  · exact execIdeKmKeyProg_answers
  · exact execIdeKmKSetGo_answers
  · exact execIdeKmKSetStop_answers
  · exact execIdeIntegrityFailure_answers
  · exact execTenantScrubDone_answers
  · exact execBounceRecordFail_answers
  · exact execBounceNop_answers
  · exact execBounceWrite_answers
  · exact execBounceReg_answers
  · exact execBounceExport_answers
  · exact execBounceRecordInvalid_answers
  · exact execPpsEdge_answers
  · exact execTimeHoldover_answers
  · exact execSensorSample_answers
  · exact execPowerControlSample_answers
  · exact execProtectiveShutdown_answers
  · exact execPowerDown_answers
  · exact execPwrEnChange_answers
  · exact execMainPowerChange_answers
  · exact execAuxPowerUp_answers
  · exact execAuxPowerLoss_answers
  · exact execMainRailsUp_answers
  · exact execCageModuleInsert_answers
  · exact execSetEndpointId_answers
  · exact execGetEndpointId_answers
  · exact execGetMctpVersionSupport_answers
  · exact execGetMessageTypeSupport_answers
  · exact execGetVendorMessageSupport_answers
  · exact execEnablePort_answers
  · exact execDisablePort_answers
  · exact execRegRead_answers
  · exact execRegWrite_answers
  · exact execReadHwStatus_answers
  · exact execPowerControlOff_answers
  · exact execPowerControlOn_answers
  · exact execPowerControlCycle_answers
  · exact execFwWrite_answers
  · exact execFwCommit_answers
  · exact execMemAccessEnable_answers
  · exact execMemAccessDisable_answers
  · exact execMemRead_answers
  · exact execMemWrite_answers
  · exact execDoeDiscovery_answers
  · exact execJtagUnlock_answers
  · exact execMirrorRingDrained_answers

/-! What happens while no command waits. -/

theorem discardTask_inv {t s} (hs : Inv s) : Inv (discardTask t s) := by
  unfold discardTask
  dsimp only
  split
  · exact hs
  · exact .set (setQueue_inv (dropToken_inv (dropIssued_inv (leaveHead_inv
      (cancelWatch_inv (collAbort_inv (chargeTask_inv hs)))))))

theorem abandonFold_inv {i s} (hs : Inv s) : Inv (abandonFold i s) := by
  unfold abandonFold
  dsimp only
  split
  · exact hs
  · exact Inv.ite hs (Inv.ite (semAdd_inv (.set (setSlot_inv (clearHalf_inv hs))))
      (.set (setSlot_inv (clearHalf_inv hs))))

theorem abandonRebuild_inv {i s} (hs : Inv s) : Inv (abandonRebuild i s) :=
  .set hs

theorem shutterLost_inv {s} (hs : Inv s) : Inv (shutterLost s) :=
  Inv.ite (scrubStart_inv hs) (Inv.ite hs (startFill_inv (startFill_inv (.set hs))))

theorem unitLost_inv {e s} (hs : Inv s) : Inv (unitLost e s) := by
  unfold unitLost
  dsimp only
  split
  · exact sramLost_inv (taskPoison_inv hs)
  · exact sramLost_inv (abandonFold_inv hs)
  · exact sramLost_inv (abandonRebuild_inv hs)
  · exact sramLost_inv (discardTask_inv hs)
  · split
    · exact sramLost_inv hs
    · exact sramLost_inv (malformed_inv (freeRx_inv hs))
  · exact sramLost_inv (shutterLost_inv hs)
  · exact .setAlm hs

theorem unitMeet_inv {s} (hs : Inv s) : Inv (unitMeet s) := by
  unfold unitMeet
  dsimp only
  split
  · exact hs
  · exact Inv.ite (unitLost_inv (.set hs)) (.set hs)

theorem idle_inv {s} (hs : Inv s) : Inv (idle s) :=
  Inv.ite (Inv.ite (.set (unitMeet_inv (tclkCycle_inv hs))) (unitMeet_inv (tclkCycle_inv hs))) hs

/-! The statements. -/

/-- Settles O5: every command ends in a settled state whose invariant `exec_answers` carries, and an idle cycle keeps it. -/
theorem invariantKept : Obligations.InvariantKept := by
  unfold Obligations.InvariantKept
  intro s t hs e
  unfold step at e
  split at e
  · obtain rfl := Host.Outcome.next.inj e
    exact idle_inv hs
  next c rest _ =>
    obtain ⟨u, ends, keeps⟩ := exec_answers (i := c) (s := { s with pending := rest })
    obtain rfl := Host.Outcome.next.inj (ends.symm.trans e)
    exact settle_inv (keeps (.set hs))

/-- Every command ends in a next state. -/
theorem exec_next (c : Instr) (s : State) : ∃ t, exec c s = .next t :=
  have ⟨u, ends, _⟩ := exec_answers (i := c) (s := s)
  ⟨settle u, ends⟩

/-- Settles O2: every command ends in a next state. -/
theorem nothingIsRefused : Obligations.NothingIsRefused := by
  unfold Obligations.NothingIsRefused
  intro c s r e
  obtain ⟨t, ends⟩ := exec_next c s
  cases ends.symm.trans e

/-- Settles O3: every command ends in a next state, and a register access that is not one stops at the check of its form. -/
theorem illFormedCompletes : Obligations.IllFormedCompletes := by
  unfold Obligations.IllFormedCompletes
  refine ⟨fun c s _ => exec_next c s, fun off width v tlp s bad => ?_⟩
  change execRegisterWrite off width v tlp s = _
  rw [execRegisterWrite, if_neg (by simp [bad])]
  rfl

/-- Settles O4: every command ends in a next state. -/
theorem wellFormedCompletes : Obligations.WellFormedCompletes := by
  unfold Obligations.WellFormedCompletes
  exact fun c s _ => exec_next c s

/-- Settles O6: the reset state has no event ring, an empty memory and the widest window. -/
theorem invariantAtReset : Obligations.InvariantAtReset := by
  unfold Obligations.InvariantAtReset
  exact ⟨rfl, by unfold State.windowOk; decide, trivial⟩

end Sys2Proof.Machine
end
section
/-!
PROOF. The mailbox protocol and what follows every command (O1, O7 to O12). A mailbox row is `mbxCommand` with the row's
opcode, and what a command's own part answers is what the mailbox shows.
-/

namespace Sys2Proof.Machine

/-! A step, and what ends it. -/

theorem unitMeet_of_nil {s : State} (h : s.rel.unitErrs = []) : unitMeet s = s := by
  unfold unitMeet
  rw [h]

/-- Settles O1: the queue's front by definition; an idle cycle by whether the module is powered. -/
theorem stepRunsQueue : Obligations.StepRunsQueue := by
  unfold Obligations.StepRunsQueue
  refine ⟨fun c r s => rfl, fun s empty => ⟨fun on clean => ?_, fun off => ?_⟩⟩
  · have ends : step s = .next (idle s) := by
      unfold step
      rw [empty]
    have meets : unitMeet (tclkCycle s) = tclkCycle s := unitMeet_of_nil clean
    refine ⟨idle s, ends, ?_⟩
    rw [idle, if_pos on, meets]
    dsimp only
    split <;> exact ⟨rfl, rfl, rfl, rfl, rfl⟩
  · unfold step
    rw [empty]
    exact congrArg _ (if_neg (by simp [off]))

/-- Settles O7: the fields of `Settled`, which `settle` meets where the event ring lies where it may. -/
theorem settleFrame : Obligations.SettleFrame := by
  unfold Obligations.SettleFrame
  intro s ring
  have h := settle_settled s ring
  exact ⟨h.pending, h.sems, h.mer, h.prog, h.strm, h.time, h.sens, h.boot, h.pow, h.fab, h.num, h.stash, h.phot, h.spec,
    h.ephem, h.store, h.free, h.almMbx, h.almRing, h.secMode, h.secKeys, h.secSessions, h.hostWinBase⟩

theorem drainEvents_of_ring_none {s : State} (ring : s.alm.ring = none) : ∀ n, drainEvents n s = s
  | 0 => rfl
  | n + 1 => by
    have stays : writeEvent s = none := by
      unfold writeEvent
      rw [ring]
    rw [drainEvents, stays]

/-- Settles O8: no event is written without a ring, and no record is sent where none waits. -/
theorem settleQuiet : Obligations.SettleQuiet := by
  unfold Obligations.SettleQuiet
  intro s ring quiet
  rw [settle, drainEvents_of_ring_none ring, bounceFlush, quiet]
  rfl

/-! The rows of mailbox commands. -/

/-- Every mailbox row is `mbxCommand`; two of the store's wait while it mounts. -/
theorem exec_of_mbxRow {c : Instr} {op : Nat} {sel : Args → Bool} {m : Fin 16} {s : State}
    (row : mbxRow c = some (op, sel, m)) (mounted : s.store.mounting = false) :
    ∃ body, exec c s = mbxCommand op sel m body s := by
  unfold exec
  cases c
  all_goals simp only [mbxRow, Option.some.injEq, Prod.mk.injEq, reduceCtorEq] at row
  all_goals obtain ⟨rfl, rfl, rfl⟩ := row; dsimp only
  case writeCheckpointFull => exact ⟨_, if_neg (by simp [mounted])⟩
  case writeCheckpointIncremental => exact ⟨_, if_neg (by simp [mounted])⟩
  case deleteCheckpoint => exact ⟨_, if_neg (by simp [mounted])⟩
  all_goals exact ⟨_, rfl⟩

/-- Settles O9: every mailbox row makes the checks of R385 before its own part. -/
theorem mailboxRefusal : Obligations.MailboxRefusal := by
  unfold Obligations.MailboxRefusal
  intro c op sel m s k st row mounted due spec bad
  obtain ⟨body, runs⟩ := exec_of_mbxRow row mounted
  rw [runs, mbxCommand, if_pos due, spec]
  dsimp only
  rw [bad]
  rfl

/-! The end of a mailbox command. -/

theorem msixSignal_alm (v : Nat) (s : State) : (msixSignal v s).alm = s.alm := by
  unfold msixSignal
  split
  · rfl
  · split <;> rfl

theorem bounceSend_alm (r : BounceRec) (s : State) : (bounceSend r s).alm = s.alm := by
  unfold bounceSend
  split <;> rfl

/-- What a mailbox shows once its command is complete (R387, R388). -/
def Mailbox.completed (st : Nat) (res : List Nat) (x : Mailbox) : Mailbox :=
  { x with
    res := Vector.ofFn fun i => BitVec.ofNat 64 (res.getD i 0), status := BitVec.ofNat 16 st, doneSeq := x.runSeq
    st := .done, started := false, progress := 0 }

theorem mbxComplete_alm (m : Fin 16) (st : Nat) (res : List Nat) (s : State) :
    (mbxComplete m st res s).alm = { s.alm with
      mbx := s.alm.mbx.set m ((s.mailbox m).completed st res)
      shortQ := s.alm.shortQ.filter (· != m.val)
      mbxDone := s.alm.mbxDone ||| (1 <<< m.val)
      doneCount := s.alm.doneCount.setIfInBounds m (s.alm.doneCount[m] + 1) } := by
  unfold mbxComplete
  rw [bounceSend_alm, msixSignal_alm]
  simp [setMbxDone, Mailbox.completed, State.mailbox]

theorem mbxComplete_mailbox_same (m : Fin 16) (st : Nat) (res : List Nat) (s : State) :
    (mbxComplete m st res s).mailbox m = (s.mailbox m).completed st res := by
  rw [State.mailbox, mbxComplete_alm]
  exact setMbx_same m (Mailbox.completed st res) s

theorem mbxComplete_mailbox_other {m k : Fin 16} (h : k ≠ m) (st : Nat) (res : List Nat) (s : State) :
    (mbxComplete m st res s).mailbox k = s.mailbox k := by
  rw [State.mailbox, mbxComplete_alm]
  exact setMbx_other m k (Mailbox.completed st res) s h

theorem bounceSend_mem (r : BounceRec) (s : State) : (bounceSend r s).mem = s.mem := by
  unfold bounceSend
  split <;> rfl

theorem bounceSend_ctr (r : BounceRec) (s : State) : (bounceSend r s).ctr = s.ctr := by
  unfold bounceSend
  split <;> rfl

/-- Settles O10: Almanac's part by `mbxComplete_alm`, and the rest by what a signal and an outbound record leave. -/
theorem mailboxCompletion : Obligations.MailboxCompletion := by
  unfold Obligations.MailboxCompletion
  intro m st res s
  have shown := mbxComplete_mailbox_same m st res s
  have alm := mbxComplete_alm m st res s
  have bit : ∀ m : Fin 16, ((1 <<< m.val : Nat) : W16) = (1 : W16) <<< m.val := by decide
  have signalled := fun u => msixSignal_posted (1 + m.val) (.refl u)
  have sent := fun r u => bounceSend_settled r (.refl u)
  have counted (k : Fin 16) : (mbxComplete m st res s).alm.doneCount[k] =
      if k = m then s.alm.doneCount[m] + 1 else s.alm.doneCount[k] := by
    simp [alm, Vector.getElem_setIfInBounds, Fin.ext_iff, eq_comm]
  refine ⟨fun i => ?_, ?_, ?_, ?_, ?_, ?_, ?_, ?_, ?_, fun k other => ⟨mbxComplete_mailbox_other other st res s, ?_⟩,
    (bounceSend_mem _ _).trans (signalled _).mem, (sent _ _).mer.trans (signalled _).mer,
    (sent _ _).time.trans (signalled _).time, (sent _ _).boot.trans (signalled _).boot, mbxComplete_pow _ _ _ _,
    (sent _ _).fab.trans (signalled _).fab, (sent _ _).secMode.trans (congrArg Sec.mode (signalled _).sec),
    (sent _ _).secKeys.trans (congrArg Sec.keys (signalled _).sec), (bounceSend_ctr _ _).trans (signalled _).ctr⟩
  · simp [shown, Mailbox.completed]
  · rw [shown]; rfl
  · rw [shown]; rfl
  · rw [shown]; rfl
  · rw [shown]; rfl
  · rw [shown]; rfl
  · rw [shown]; rfl
  · rw [alm, ← bit]
  · rw [counted, if_pos rfl]
  · rw [counted, if_neg other]

/-! The general commands. -/

theorem readCounters_of_fits {t : CTable} {a : Args} {s : State}
    (free : bufCheck (a.n 0) (a.n 1) 1 (tableWords t s).2 = none)
    (fits : (wordBytes (tableWords t s).1).length ≤ a.n 1) :
    readCounters t a s = .done St.ok [(wordBytes (tableWords t s).1).length]
      (devPut (a.n 0) (wordBytes (tableWords t s).1) (tableWords t s).2) := by
  simp only [readCounters, replyBytes, free, if_neg (Nat.not_lt.mpr fits), if_true]

/-- Settles O12: each command's own part, where it is taken. -/
theorem generalCommands : Obligations.GeneralCommands := by
  unfold Obligations.GeneralCommands
  refine ⟨fun m s => ⟨fun h => ?_, fun h => ?_, fun h lo hi free => ?_⟩, fun m s p hp h => ?_⟩
  · change execNop m s = _
    rw [execNop, mbxCommand_of_done h rfl]
    rfl
  · change execGetDeviceInfo m s = _
    rw [execGetDeviceInfo, mbxCommand_of_done h rfl]
  · change execSetEventRing m s = _
    rw [execSetEventRing]
    refine mbxCommand_of_done h ?_
    have size : ¬ (s.arg m 1 < 6 ∨ s.arg m 1 > 16) := by omega
    change (if s.arg m 1 < 6 ∨ s.arg m 1 > 16 then _ else
      match bufCheck (s.arg m 0) (64 * 2 ^ s.arg m 1) 4096 s with | some f => _ | none => _) = _
    rw [if_neg size, free]
    rfl
  · have runs : exec p.2.2 s = mbxCommand p.1 anyArgs m (readCounters p.2.1) s := by
      simp only [List.mem_cons, List.not_mem_nil, or_false] at hp
      rcases hp with rfl | rfl | rfl | rfl | rfl | rfl | rfl | rfl | rfl | rfl | rfl | rfl <;> rfl
    extract_lets w
    intro free fits
    rw [runs]
    exact mbxCommand_of_done h (readCounters_of_fits free fits)

end Sys2Proof.Machine
end
section
/-!
PROOF. The scheduler's orders (O34).
-/

namespace Sys2Proof.Machine

/-- Of two classes, `c` stands before `x` on die `die`: the larger effective deficit, then the lower id. -/
def State.classFirst (s : State) (die c x : Nat) : Prop :=
  s.effective die x < s.effective die c ∨ (s.effective die x = s.effective die c ∧ c ≤ x)

theorem classFirst_rfl (s : State) (die c : Nat) : s.classFirst die c c := .inr ⟨rfl, le_rfl⟩

theorem classFirst_trans {s : State} {die a b c : Nat} (h : s.classFirst die a b) (k : s.classFirst die b c) :
    s.classFirst die a c := by
  unfold State.classFirst at *
  omega

/-- The choice of `bestClass` from one class on. -/
theorem bestClass_foldl (s : State) (die : Nat) (cs : List Nat) : ∀ a c : Nat,
    cs.foldl (fun b c => match b with
      | none => some c
      | some x => if s.effective die c > s.effective die x ∨ (s.effective die c = s.effective die x ∧ c < x) then some c
        else b) (some a) = some c →
    c ∈ a :: cs ∧ ∀ x ∈ a :: cs, s.classFirst die c x := by
  induction cs with
  | nil =>
    rintro a c ⟨⟩
    simp [classFirst_rfl]
  | cons d cs ih =>
    intro a c h
    rw [List.foldl_cons] at h
    dsimp only at h
    split at h
    next better =>
      obtain ⟨member, first⟩ := ih d c h
      refine ⟨List.mem_cons_of_mem _ member, fun x hx => ?_⟩
      rcases List.mem_cons.mp hx with rfl | hx
      · exact classFirst_trans (first d List.mem_cons_self) (by unfold State.classFirst; omega)
      · exact first x hx
    next worse =>
      obtain ⟨member, first⟩ := ih a c h
      refine ⟨by simp only [List.mem_cons] at member ⊢; tauto, fun x hx => ?_⟩
      rcases List.mem_cons.mp hx with rfl | hx
      · exact first _ List.mem_cons_self
      · rcases List.mem_cons.mp hx with rfl | hx
        · exact classFirst_trans (first a List.mem_cons_self) (by unfold State.classFirst; omega)
        · exact first x (List.mem_cons_of_mem _ hx)

theorem bestClass_first {s : State} {die c : Nat} {cs : List Nat} (h : s.bestClass die cs = some c) :
    c ∈ cs ∧ ∀ x ∈ cs, s.classFirst die c x := by
  cases cs with
  | nil => cases h
  | cons a cs => exact bestClass_foldl s die cs a c h

/-- The fold of `nextRound` is the least of the list. -/
theorem foldl_least (xs : List Nat) :
    xs.foldl (fun (b : Option Nat) x => some (match b with | none => x | some y => Nat.min x y)) none = xs.min? := by
  have go : ∀ (xs : List Nat) (a : Nat),
      xs.foldl (fun (b : Option Nat) x => some (match b with | none => x | some y => Nat.min x y)) (some a) =
        some (xs.foldl min a) := by
    intro xs
    induction xs with
    | nil => exact fun _ => rfl
    | cons x xs ih => exact fun a => (ih _).trans (congrArg some (congrArg (xs.foldl min) (Nat.min_comm x a)))
  cases xs with
  | nil => rfl
  | cons a xs => exact go xs a

theorem nextRound_some (l : Nat) (xs : List Nat) :
    nextRound (some l) xs = ((xs.filter fun x => l < x).min?).or xs.min? := by
  rw [← foldl_least, ← foldl_least]
  unfold nextRound
  dsimp only
  split
  next e => exact (congrArg (Option.or · _) e).symm
  next e => exact (congrArg (Option.or · _) e).symm

theorem nextRound_none (xs : List Nat) : nextRound none xs = xs.min? := by
  rw [← foldl_least]
  unfold nextRound
  rw [List.filter_eq_self.mpr fun _ _ => rfl]
  dsimp only
  split
  next e => exact e.symm
  · rfl

/-- Settles O34: the folds of `bestClass` and `nextRound` keep the best seen, and the clamp is a minimum and a maximum. -/
theorem deficitBounds : Obligations.DeficitBounds := by
  unfold Obligations.DeficitBounds
  refine ⟨fun s die c cs h => bestClass_first h, fun l xs n h => ?_, fun xs => ?_, fun x => ?_⟩
  · rw [nextRound_some, Option.or_eq_some_iff, List.min?_eq_none_iff] at h
    rcases h with above | ⟨none_, least⟩
    · obtain ⟨member, first⟩ := List.min?_eq_some_iff.mp above
      simp only [List.mem_filter, decide_eq_true_eq] at member first
      exact ⟨member.1, .inl ⟨member.2, fun x hx hl => first x ⟨hx, hl⟩⟩⟩
    · obtain ⟨member, first⟩ := List.min?_eq_some_iff.mp least
      refine ⟨member, .inr ⟨fun x hx => ?_, first⟩⟩
      simpa using List.filter_eq_nil_iff.mp none_ x hx
  · rw [nextRound_none, ← Option.isSome_iff_exists, List.isSome_min?_iff]
  · unfold clampD
    omega

end Sys2Proof.Machine
end
section
/-!
PROOF. What the host reaches through BAR0 and BAR2 (O11, O13 to O15). A write of BAR0 is judged once, by the module, the
request and the page; a write that is served has the effect of its register.
-/

namespace Sys2Proof.Machine

/-! A write of BAR0. -/

section
variable {off width v meets : Nat} {tee : Bool} {s : State} (on : s.powered = true)
include on

theorem bar0Write_atomic (p : Bool) : bar0Write off width v meets ⟨tee, p, true⟩ s = hostRefuse s := by
  simp [bar0Write, on]

theorem bar0Write_poisoned : bar0Write off width v meets ⟨tee, true, false⟩ s = count .hostPoisoned 0 1 s := by
  simp [bar0Write, on]

theorem bar0Write_reserved (h : 0x50000 ≤ off) : bar0Write off width v meets ⟨tee, false, false⟩ s = urSeen s := by
  simp [bar0Write, on, h]

theorem bar0Write_msix (lo : 0x40000 ≤ off) (hi : off < 0x50000) :
    bar0Write off width v meets ⟨tee, false, false⟩ s = writeMsix (off - 0x40000) width v s := by
  simp [bar0Write, on, lo, hi]

theorem bar0Write_served (serves : s.hostServes tee = true) (h : off < 0x30000) :
    bar0Write off width v meets ⟨tee, false, false⟩ s = pageWrite off width v meets s := by
  simp [bar0Write, on, serves, h.not_ge, (h.trans (by decide : 0x30000 < 0x40000)).not_ge,
    (h.trans (by decide : 0x30000 < 0x50000)).not_ge]

theorem bar0Write_unserved (serves : s.hostServes tee = false) (h : off < 0x30000) :
    bar0Write off width v meets ⟨tee, false, false⟩ s = urSeen s := by
  simp [bar0Write, on, serves, h.not_ge, (h.trans (by decide : 0x30000 < 0x40000)).not_ge,
    (h.trans (by decide : 0x30000 < 0x50000)).not_ge]

end

/-- A write of all eight bytes of a register leaves nothing of what stood there. -/
theorem mergeWord_whole {off : Nat} (old v : W64) (h : off % 8 = 0) : mergeWord old off 8 v.toNat = v := by
  have kept : v.toNat &&& 2 ^ 64 - 1 = v.toNat := by
    rw [Nat.and_two_pow_sub_one_eq_mod]
    exact Nat.mod_eq_of_lt v.isLt
  unfold mergeWord
  simp only [h, mul_zero, pow_zero, mul_one, Nat.reduceMul, Nat.sub_self, Nat.and_zero, Nat.zero_or, kept,
    BitVec.ofNat_toNat, BitVec.setWidth_eq]

theorem pageWrite_mbx (m : Fin 16) (o : Nat) {width v meets : Nat} {s : State} (ho : o < 0x100)
    (free : ¬ (m = 15 ∧ s.pow.mpOwner = true)) :
    pageWrite (0x100 * m.val + o) width v meets s =
      if o / 8 = 9 then (if width = 8 then mbxDoorbell m v false s else s) else mbxRegWrite m o width v s := by
  have hm : (0x100 * m.val + o) / 0x100 = m.val := by omega
  have ho' : (0x100 * m.val + o) % 0x100 = o := by omega
  have low : 0x100 * m.val + o < 0x1000 := by omega
  unfold pageWrite
  simp only [low, hm, ho', if_true, m.isLt, dite_true, Fin.eta, if_neg free]

/-- Settles O11: a doorbell that the host reaches is Almanac's `mbxDoorbell`, which accepts it by R382. -/
theorem doorbellAccepts : Obligations.DoorbellAccepts := by
  unfold Obligations.DoorbellAccepts
  intro m v tee s up serves free
  have on : s.powered = true := by
    unfold State.almanacUp at up
    simp only [Bool.and_eq_true] at up
    exact up.1.1.1
  have runs : exec (.mbxDoorbell m v ⟨tee, false, false⟩) s = .next (settle (mbxDoorbell m v.toNat false s)) := by
    change execMbxDoorbell m v _ s = _
    rw [execMbxDoorbell, bar0Write_served on serves (by omega), pageWrite_mbx m 0x48 (by decide) free]
    rfl
  extract_lets x seq ok acc
  rw [runs, mbxDoorbell, if_neg (by simp [up])]
  dsimp only
  refine ⟨fun good c spec => ?_, fun good spec => ?_, fun bad => ?_⟩
  · rw [if_neg (by tauto), spec]
    dsimp only
    split <;> rfl
  · rw [if_neg (by tauto), spec]
    rfl
  · rw [if_pos (by tauto)]
    rfl

/-! Doorbells of queues, the stash and the guards. -/

theorem exec_bell_served {v : W64} {tee : Bool} {s : State} (on : s.powered = true) (serves : s.hostServes tee = true) :
    exec (.tqDoorbell v ⟨tee, false, false⟩) s = finish (tqDoorbell v.toNat s) ∧
    exec (.tqCplHead v ⟨tee, false, false⟩) s = finish (tqCplHead v.toNat s) ∧
    exec (.stashDoorbell v ⟨tee, false, false⟩) s = finish (stashDoorbell v.toNat s) ∧
    exec (.guardDoorbell v ⟨tee, false, false⟩) s = finish (guardDoorbell v.toNat s) :=
  have reached {off} (h : off < 0x30000) := bar0Write_served (width := 8) (v := v.toNat) (meets := 0) on serves h
  ⟨congrArg finish (reached (by decide)), congrArg finish (reached (by decide)), congrArg finish (reached (by decide)),
    congrArg finish (reached (by decide))⟩

/-- Settles O13: a doorbell that the host reaches is its register's write, which is decided by the tail's place. -/
theorem queueDoorbells : Obligations.QueueDoorbells := by
  unfold Obligations.QueueDoorbells
  intro v tee s on
  extract_lets q t lo ahead newStash newGuard bells
  refine ⟨fun serves => ?_, fun c hc => ?_⟩
  · obtain ⟨tq, cpl, stash, guard⟩ := exec_bell_served (v := v) on serves
    rw [tq, cpl, stash, guard]
    refine ⟨fun x found new => ?_, fun none_ => ?_, fun x found fits => ?_, fun none_ => ?_, fun c ctx new => ?_,
      fun none_ => ?_, fun c ctx new => ?_, fun none_ => ?_⟩
    · obtain ⟨past, fits⟩ := new
      rw [tqDoorbell, found]
      exact congrArg finish (if_pos (Bool.and_eq_true_iff.mpr ⟨decide_eq_true past, decide_eq_true fits⟩))
    · refine congrArg finish ?_
      unfold tqDoorbell
      dsimp only
      split
      · rfl
      next x found =>
        refine if_neg fun ok => none_ x found ?_
        obtain ⟨past, fits⟩ := Bool.and_eq_true_iff.mp ok
        exact ⟨of_decide_eq_true past, of_decide_eq_true fits⟩
    · rw [tqCplHead, found]
      exact congrArg finish (if_pos fits)
    · refine congrArg finish ?_
      unfold tqCplHead
      dsimp only
      split
      · rfl
      next x found => exact if_neg (Nat.not_le.mpr (none_ x found))
    · rw [stashDoorbell, ctx]
      exact congrArg finish (if_pos new)
    · refine congrArg finish ?_
      unfold stashDoorbell
      dsimp only
      split
      · rfl
      next c ctx => exact if_neg (none_ c ctx)
    · rw [guardDoorbell, ctx]
      exact congrArg finish (if_pos new)
    · refine congrArg finish ?_
      unfold guardDoorbell
      dsimp only
      split
      · rfl
      next c ctx => exact if_neg (none_ c ctx)
  · have writes : ∃ off < 0x30000, ∀ tlp, exec (c tlp) s = finish (bar0Write off 8 v.toNat 0 tlp s) := by
      simp only [bells, List.mem_cons, List.not_mem_nil, or_false] at hc
      rcases hc with rfl | rfl | rfl | rfl
      · exact ⟨0x10000, by decide, fun _ => rfl⟩
      · exact ⟨0x10008, by decide, fun _ => rfl⟩
      · exact ⟨0x20000, by decide, fun _ => rfl⟩
      · exact ⟨0x20008, by decide, fun _ => rfl⟩
    obtain ⟨off, low, runs⟩ := writes
    rw [runs, runs, bar0Write_poisoned on]
    exact ⟨fun denied => by rw [bar0Write_unserved on denied low]; rfl, rfl⟩

/-! The registers of pages 0 to 3. -/

theorem bar0Write_inTail {v : W64} {tee : Bool} {s : State} (on : s.powered = true) :
    bar0Write 0x30000 8 v.toNat 0 ⟨tee, false, false⟩ s = writeInTail v s := by
  simp [bar0Write, on, mergeWord_whole]

theorem bar0Write_outHead {v : W64} {tee : Bool} {s : State} (on : s.powered = true) :
    bar0Write 0x30008 8 v.toNat 0 ⟨tee, false, false⟩ s = writeOutHead v s := by
  simp [bar0Write, on, mergeWord_whole]

theorem exec_registerWrite {off width : Nat} {v : W64} {tlp : Tlp} {s : State} (ok : regOk off width = true) :
    exec (.registerWrite off width v tlp) s = finish (bar0Write off width (v.toNat % 2 ^ (8 * width)) 0 tlp s) :=
  if_pos ok

theorem regOk_of_mailbox (m : Fin 16) (k : Fin 9) : regOk (0x100 * m.val + 8 * k.val) 8 = true := by
  revert m k
  decide

/-- Bits cleared by a write of ones, but where a set falls in the same cycle. -/
theorem getLsbD_cleared {n : Nat} (old clr hit : BitVec n) (i : Nat) (h : i < n) :
    (old &&& ~~~(clr &&& ~~~hit)).getLsbD i = (old.getLsbD i && (!clr.getLsbD i || hit.getLsbD i)) := by
  simp [h]

theorem getLsbD_missed {n : Nat} (old mclr clr hit : BitVec n) (i : Nat) (h : i < n) :
    ((old &&& ~~~mclr) ||| (clr &&& hit)).getLsbD i =
      ((old.getLsbD i && !mclr.getLsbD i) || (clr.getLsbD i && hit.getLsbD i)) := by
  simp [h]

theorem getLsbD_ofNat_toNat {n i : Nat} (v : W64) (h : i < n) : (BitVec.ofNat n v.toNat).getLsbD i = v.getLsbD i := by
  simp [h]

theorem getLsbD_ofNat_high {n i : Nat} (v : W64) (h : i < n) :
    (BitVec.ofNat n (v.toNat / 2 ^ 16)).getLsbD i = v.getLsbD (16 + i) := by
  rw [BitVec.getLsbD_ofNat, Nat.testBit_div_two_pow, Nat.add_comm]
  simp [h, BitVec.getLsbD]

/-- Settles O14: the pages of BAR0 by `bar0Write`, and the registers by their own writes. -/
theorem hostRegisterWrites : Obligations.HostRegisterWrites := by
  unfold Obligations.HostRegisterWrites
  intro s tee on
  extract_lets w ur
  refine ⟨fun serves => ?_, fun off width v ok lo hi => ?_, fun v => ?_, fun off width v meets ok => ?_⟩
  · have reached {off width v meets} (h : off < 0x30000) := bar0Write_served (width := width) (v := v) (meets := meets)
      on serves h
    refine ⟨fun off width v ok low => ?_, fun m k v free => ?_, fun v => ?_, fun v => ?_, fun v meets => ?_,
      fun v meets => ?_⟩
    · rw [exec_registerWrite ok, reached low]
      rfl
    · have register {o : Nat} (ho : o < 0x48) (ok : regOk (0x100 * m.val + o) 8 = true) :
          exec (.registerWrite (0x100 * m.val + o) 8 v w) s = finish (mbxRegWrite m o 8 v.toNat s) := by
        rw [exec_registerWrite ok, Nat.mod_eq_of_lt v.isLt, reached (by omega), pageWrite_mbx m o (by omega) free,
          if_neg (by omega)]
      have argument := register (o := 8 * (k.val + 1)) (by omega) (regOk_of_mailbox m k.succ)
      have command : exec (.registerWrite (0x100 * m.val) 8 v w) s = _ := register (by decide) (regOk_of_mailbox m 0)
      rw [argument, command]
      refine ⟨fun idle => ⟨congrArg finish ?_, congrArg finish ?_⟩, fun busy => ⟨congrArg finish ?_, congrArg finish ?_⟩⟩
      · rw [mbxRegWrite, if_neg idle, if_neg (by omega), if_pos (by omega)]
        refine congrArg (setMbx m · s) (funext fun x => ?_)
        have same : x.args.setIfInBounds k.val v = x.args.set k v :=
          Vector.ext fun i hi => by rw [Vector.getElem_set, Vector.getElem_setIfInBounds]
        rw [mergeWord_whole _ v (by omega)]
        simp [same]
      · rw [mbxRegWrite, if_neg idle, if_pos (by omega)]
        exact congrArg (setMbx m · s) (funext fun x => by rw [mergeWord_whole x.cmd v rfl])
      · rw [mbxRegWrite, if_pos busy]
      · rw [mbxRegWrite, if_pos busy]
    · have runs : exec (.apertureBaseWrite v w) s = finish (writeApertureBase v s) := by
        change finish (bar0Write 0x20010 8 v.toNat 0 w s) = _
        rw [reached (by decide)]
        exact congrArg (fun v => finish (writeApertureBase v s)) (mergeWord_whole _ v rfl)
      rw [runs]
      exact ⟨fun ok => congrArg finish (if_pos ok), fun bad => congrArg finish (if_neg bad)⟩
    · have runs : exec (.evtHeadWrite v w) s = finish (writeEvtHead (BitVec.ofNat 32 v.toNat) s) := by
        change finish (bar0Write 0x1020 8 v.toNat 0 w s) = _
        rw [reached (by decide)]
        rfl
      rw [runs]
      exact ⟨fun ok => congrArg finish (if_pos ok), fun bad => congrArg finish (if_neg bad)⟩
    · have runs : exec (.mbxDoneClear v meets w) s = finish (clearMbxDone v.toNat meets.toNat s) := by
        change finish (bar0Write 0x1028 8 v.toNat meets.toNat w s) = _
        rw [reached (by decide)]
        exact congrArg (fun v => finish (clearMbxDone v meets.toNat s)) (Nat.mul_one _)
      refine ⟨_, runs, rfl, fun i => ⟨?_, ?_⟩⟩
      · exact (getLsbD_cleared _ _ _ _ i.isLt).trans 
          (by rw [BitVec.getLsbD_and, getLsbD_ofNat_toNat v i.isLt, getLsbD_ofNat_toNat meets i.isLt])
      · exact (getLsbD_missed _ _ _ _ _ i.isLt).trans 
          (by rw [getLsbD_ofNat_high v i.isLt, BitVec.getLsbD_and, getLsbD_ofNat_toNat v i.isLt,
            getLsbD_ofNat_toNat meets i.isLt])
    · have runs : exec (.errSummaryClear v meets w) s = finish (clearErrSummary v.toNat meets.toNat s) := by
        change finish (bar0Write 0x1030 8 v.toNat meets.toNat w s) = _
        rw [reached (by decide)]
        exact congrArg (fun v => finish (clearErrSummary v meets.toNat s)) (Nat.mul_one _)
      refine ⟨_, runs, rfl, fun i => ⟨?_, ?_⟩⟩
      · exact (getLsbD_cleared _ _ _ _ i.isLt).trans 
          (by rw [BitVec.getLsbD_and, getLsbD_ofNat_toNat v i.isLt, getLsbD_ofNat_toNat meets i.isLt])
      · exact (getLsbD_missed _ _ _ _ _ i.isLt).trans 
          (by rw [getLsbD_ofNat_high v i.isLt, BitVec.getLsbD_and, getLsbD_ofNat_toNat v i.isLt,
            getLsbD_ofNat_toNat meets i.isLt])
  · rw [exec_registerWrite ok, bar0Write_msix on lo hi]
    rfl
  · have tail : exec (.bncInTailWrite v w) s = finish (writeInTail v s) := by
      change finish (bar0Write 0x30000 8 v.toNat 0 w s) = _
      rw [bar0Write_inTail on]
    have head : exec (.bncOutHeadWrite v w) s = finish (writeOutHead v s) := by
      change finish (bar0Write 0x30008 8 v.toNat 0 w s) = _
      rw [bar0Write_outHead on]
    exact ⟨tail, head⟩
  · refine ⟨fun unserved => ?_, fun denied c hc => ?_, fun c hc => ?_⟩
    · rw [exec_registerWrite ok]
      rcases unserved with reserved | ⟨low, denied⟩
      · rw [bar0Write_reserved on reserved]
        rfl
      · rw [bar0Write_unserved on denied low]
        rfl
    · have writes : ∃ off < 0x30000, ∃ v meets, exec (c w) s = finish (bar0Write off 8 v meets w s) := by
        simp only [List.mem_cons, List.not_mem_nil, or_false] at hc
        rcases hc with rfl | rfl | rfl | rfl
        · exact ⟨0x20010, by decide, _, _, rfl⟩
        · exact ⟨0x1020, by decide, _, _, rfl⟩
        · exact ⟨0x1028, by decide, _, _, rfl⟩
        · exact ⟨0x1030, by decide, _, _, rfl⟩
      obtain ⟨_, low, _, _, runs⟩ := writes
      rw [runs, bar0Write_unserved on denied low]
      rfl
    · have writes : ∃ off width v meets, ∀ tlp, exec (c tlp) s = finish (bar0Write off width v meets tlp s) := by
        simp only [List.mem_cons, List.not_mem_nil, or_false] at hc
        rcases hc with rfl | rfl | rfl | rfl | rfl | rfl | rfl
        · exact ⟨_, _, _, _, fun _ => exec_registerWrite ok⟩
        · exact ⟨_, _, _, _, fun _ => rfl⟩
        · exact ⟨_, _, _, _, fun _ => rfl⟩
        · exact ⟨_, _, _, _, fun _ => rfl⟩
        · exact ⟨_, _, _, _, fun _ => rfl⟩
        · exact ⟨_, _, _, _, fun _ => rfl⟩
        · exact ⟨_, _, _, _, fun _ => rfl⟩
      obtain ⟨off, width, v, meets, runs⟩ := writes
      rw [runs, runs, bar0Write_poisoned on, bar0Write_atomic on]
      exact ⟨rfl, rfl⟩

/-! The aperture. -/

/-- An access of the aperture is served where the mode, the module and its range allow it. -/
theorem aperture_eq (s : State) (off n : Nat) (tee : Bool) :
    s.aperture off n tee =
      if s.hostServes tee = true ∧ s.boot.ready = true ∧
        checkAccess .host (s.host.winBase.toNat + off) (max n 1) = none ∧ s.memBusy (s.host.winBase.toNat + off) n = false
      then some (s.host.winBase.toNat + off) else none := by
  unfold State.aperture
  simp [and_assoc]

theorem exec_apertureWrite_plain {off : Nat} {bs : List Byte} {tee : Bool} {s : State} (on : s.powered = true) :
    exec (.apertureWrite off bs ⟨tee, false, false⟩) s =
      match if s.inBar2 off bs.length then s.aperture off bs.length tee else none with
      | none => finish (apertureUR off bs.length s)
      | some a => finish (devPut a bs (count .hostWrBytes 0 bs.length s)) := by
  change execApertureWrite off bs _ s = _
  rw [execApertureWrite, if_neg (by simp [on]), if_neg (by simp), if_neg (by simp)] <;> rfl

theorem exec_apertureRead_plain {off n : Nat} {tee : Bool} {s : State} (on : s.powered = true) :
    exec (.apertureRead off n ⟨tee, false, false⟩) s =
      match if s.inBar2 off n then s.aperture off n tee else none with
      | none => finish (emit .hostUR (apertureUR off n s))
      | some a =>
        finish (emit (if (devRead a n s).1.isSome then .hostPoison (devRead a n s).2.1 else .hostData (devRead a n s).2.1)
          (count .hostRdBytes 0 n (devRead a n s).2.2)) := by
  change execApertureRead off n _ s = _
  rw [execApertureRead, if_neg (by simp [on]), if_neg (by simp)] <;> rfl

/-- Settles O15: a request is judged by the module, its kind, BAR2 and `State.aperture`. -/
theorem apertureAccess : Obligations.ApertureAccess := by
  unfold Obligations.ApertureAccess
  intro s off n bs tee on
  extract_lets a ok host seen ur r
  have served {n} (inside : s.inBar2 off n = true) (good : ok n) :
      (if s.inBar2 off n then s.aperture off n tee else none) = some a := by
    rw [if_pos inside, aperture_eq, if_pos good]
  have denied {n} (inside : s.inBar2 off n = true) (bad : ¬ ok n) :
      (if s.inBar2 off n then s.aperture off n tee else none) = none := by
    rw [if_pos inside, aperture_eq, if_neg bad]
  have beyond {n} (out : s.inBar2 off n = false) : (if s.inBar2 off n then s.aperture off n tee else none) = none :=
    if_neg (by simp [out])
  have refused {n} (inside : s.inBar2 off n = true) : apertureUR off n s = ur := by
    rw [apertureUR, if_pos inside]
    rfl
  have outside {n} (out : s.inBar2 off n = false) : apertureUR off n s = seen := by
    rw [apertureUR, if_neg (by simp [out])]
    rfl
  have powered : ¬ (!s.powered) = true := by simp [on]
  rw [exec_apertureWrite_plain on, exec_apertureRead_plain on]
  refine ⟨fun inside => ⟨fun good => ?_, fun bad => ?_⟩, fun inside => ⟨fun good => ?_, fun bad => ?_⟩, fun out => ?_,
    fun out => ?_, ?_, ?_, ?_⟩
  · rw [served inside good]
    rfl
  · rw [denied inside bad, refused inside]
    rfl
  · rw [served inside good]
    have which : (if r.1.isSome = true then Out.hostPoison r.2.1 else .hostData r.2.1) =
        if r.1 = none then .hostData r.2.1 else .hostPoison r.2.1 := by
      cases r.1 <;> rfl
    exact congrArg (fun o => finish (emit o (count .hostRdBytes 0 n r.2.2))) which
  · rw [denied inside bad, refused inside]
    rfl
  · rw [beyond out, outside out]
    rfl
  · rw [beyond out, outside out]
    rfl
  · change execApertureWrite off bs _ s = _
    rw [execApertureWrite, if_neg powered]
    rfl
  · change execApertureWrite off bs _ s = _
    rw [execApertureWrite, if_neg powered]
    rfl
  · change execApertureRead off n _ s = _
    rw [execApertureRead, if_neg powered]
    rfl

end Sys2Proof.Machine
end
section
/-!
PROOF. Shutter (15): messages in and out of sessions (O16 to O18). A request that reaches Shutter has its effect on the
state in which its session has carried it; while no scrub runs it is answered by `secReply`.
-/

namespace Sys2Proof.Machine

/-! Requests and sessions. -/

theorem shutter_of_doeUp {k : State → State} {s : State} (up : s.doeUp = true) : shutter k s = finish (k s) := if_pos up

theorem inSession_open {i : Nat} {req : String} {k : State → State} {s : State} (h : (s.session i).isSome = true) :
    inSession (some i) req k s = k (touch i s) := if_pos h

theorem inSession_closed {i : Nat} {req : String} {k : State → State} {s : State} (h : (s.session i).isSome = false) :
    inSession (some i) req k s = emit (.spdm req spdmSession []) s := if_neg (by simp [h])

theorem inSession_of_sessionOpen {sess : Option Nat} {req : String} {k : State → State} {s : State}
    (h : s.sessionOpen sess = true) : inSession sess req k s = k (touched sess s) := by
  cases sess with
  | none => rfl
  | some i => exact inSession_open h

theorem isOwner_some {s : State} {i : Nat} : s.isOwner (some i) = true ↔ s.sec.owner = some i := by
  simp [State.isOwner]

/-- While no scrub runs, a vendor request in an open session is answered at once. -/
theorem vendorMsg_open {i : Nat} {r : SecReq} {s : State} (up : s.doeUp = true) (calm : s.sec.scrub = none)
    (h : (s.session i).isSome = true) : vendorMsg (some i) r s = finish (secReply r (touch i s)) := by
  have calm' : (touch i s).sec.scrub = none := calm
  rw [vendorMsg, shutter_of_doeUp up, inSession_open h, secRequest, calm']

/-- While a scrub runs, it waits. -/
theorem vendorMsg_waits {i : Nat} {r : SecReq} {s : State} {x : Scrub} (up : s.doeUp = true) (scrub : s.sec.scrub = some x)
    (h : (s.session i).isSome = true) : vendorMsg (some i) r s = finish { touch i s with
      sec := { (touch i s).sec with scrub := some { x with waiting := x.waiting ++ [r] } } } := by
  have scrub' : (touch i s).sec.scrub = some x := scrub
  rw [vendorMsg, shutter_of_doeUp up, inSession_open h, secRequest, scrub']

theorem tdispMsg_open {i : Nat} {name : String} {o : Bool} {r : SecReq} {s : State} (up : s.doeUp = true)
    (calm : s.sec.scrub = none) (h : (s.session i).isSome = true) :
    tdispMsg name o (some i) r s = finish (secReply r (touch i s)) := by
  have calm' : (touch i s).sec.scrub = none := calm
  rw [tdispMsg, shutter_of_doeUp up, inSession_open h]
  change finish (secRequest r (touch i s)) = _
  rw [secRequest, calm']

/-! SPDM. -/

/-- The messages that no session is asked for. -/
theorem exec_spdm_open {s : State} (up : s.doeUp = true) :
    exec .getVersion s = finish (emit (.spdm "GET_VERSION" 0 [0x00, 0x12]) s) ∧
    exec .getCapabilities s = finish (emit (.spdm "GET_CAPABILITIES" 0 (leBytes 4 capabilityFlags)) s) ∧
    exec (.negotiateAlgorithms true) s = finish (emit (.spdm "NEGOTIATE_ALGORITHMS" 0 algorithms) s) ∧
    exec .getDigests s = finish (emit (.spdm "GET_DIGESTS" 0 chainDigest) s) := by
  refine ⟨?_, ?_, ?_, ?_⟩
  · exact shutter_of_doeUp up
  · exact shutter_of_doeUp up
  · exact shutter_of_doeUp up
  · exact shutter_of_doeUp up

theorem exec_getCertificate {slot off n : Nat} {s : State} (up : s.doeUp = true) :
    exec (.getCertificate slot off n) s = finish (
      if slot ≠ 0 ∨ off ≥ Config.certChain.length then emit (.spdm "GET_CERTIFICATE" spdmInvalid []) s
      else
        let p := (Config.certChain.drop off).take n
        emit (.spdm "GET_CERTIFICATE" 0
          (leBytes 2 p.length ++ leBytes 2 (Config.certChain.length - off - p.length) ++ p)) s) := by
  change execGetCertificate slot off n s = _
  rw [execGetCertificate, shutter_of_doeUp up]

theorem exec_challenge {slot : Nat} {nonce : List Byte} {s : State} (up : s.doeUp = true) :
    exec (.challenge slot nonce) s = finish (
      if slot ≠ 0 then emit (.spdm "CHALLENGE" spdmInvalid []) s
      else
        let body := chainDigest ++ (freeBytes 32 s).1
        emit (.spdm "CHALLENGE" 0 (body ++ signed (nonce ++ body))) (freeBytes 32 s).2) := by
  change execChallenge slot nonce s = _
  rw [execChallenge, shutter_of_doeUp up]

theorem exec_getMeasurements {sess : Option Nat} {op : Nat} {sign : Bool} {nonce : List Byte} {s : State}
    (up : s.doeUp = true) (h : s.sessionOpen sess = true) :
    exec (.getMeasurements sess op sign nonce) s = finish (
      let u := touched sess s
      let all := u.indices sess
      let asked := if op = 0 then [] else if op = 0xFF then all else all.filter (· == op)
      let n := if op = 0 then all.length else asked.length
      let body := leBytes 1 n ++ asked.flatMap u.block
      if sign then emit (.spdm "GET_MEASUREMENTS" 0 (body ++ signed (nonce ++ body))) (attest sess u)
      else emit (.spdm "GET_MEASUREMENTS" 0 body) u) := by
  change execGetMeasurements sess op sign nonce s = _
  rw [execGetMeasurements, shutter_of_doeUp up, inSession_of_sessionOpen h]

theorem exec_spdmUnsupportedRequest {sess : Option Nat} {s : State} (up : s.doeUp = true)
    (h : s.sessionOpen sess = true) :
    exec (.spdmUnsupportedRequest sess) s = finish (emit (.spdm "UNSUPPORTED" spdmUnsupported []) (touched sess s)) := by
  change execSpdmUnsupportedRequest sess s = _
  rw [execSpdmUnsupportedRequest, shutter_of_doeUp up, inSession_of_sessionOpen h]

theorem exec_doeDiscovery {index : Nat} {s : State} (up : s.doeUp = true) (h : index < 3) :
    exec (.doeDiscovery index) s =
      finish (emit (.doe 0 (leBytes 2 1 ++ leBytes 1 index ++ leBytes 1 ((index + 1) % 3))) s) := by
  change execDoeDiscovery index s = _
  rw [execDoeDiscovery, shutter_of_doeUp up, if_pos h]

theorem exec_keyExchange {s : State} (up : s.doeUp = true) :
    exec (.keyExchange 0) s = finish (
      if s.sec.sessions.length ≥ 4 then emit (.spdm "KEY_EXCHANGE" spdmBusy []) s
      else
        let u := (freeBytes 128 s).2
        emit (.spdm "KEY_EXCHANGE" 0
            ([heartbeatPeriod] ++ leBytes 2 s.freeSession ++ (freeBytes 128 s).1 ++ signed (freeBytes 128 s).1))
          { u with sec := { u.sec with sessions := u.sec.sessions ++ [{ id := s.freeSession, last := u.cyc }] } }) := by
  change execKeyExchange 0 s = _
  rw [execKeyExchange, shutter_of_doeUp up, if_neg (by simp)]

theorem exec_finish_unsecured {i : Nat} {ok : Bool} {x : Session} {s : State} (up : s.doeUp = true)
    (found : s.sec.sessions.find? (fun x => x.id == i) = some x) (plain : x.secured = false) :
    exec (.finish i ok) s = finish (
      if ok then emit (.spdm "FINISH" 0 []) (setSession i (fun x => { x with secured := true, last := s.cyc }) s)
      else emit (.spdm "FINISH" spdmDecrypt []) (dropSession i s)) := by
  change execFinish i ok s = _
  rw [execFinish, shutter_of_doeUp up, found]
  dsimp only
  rw [if_neg (by simp [plain])]

theorem exec_heartbeat {i : Nat} {s : State} (up : s.doeUp = true) :
    exec (.heartbeat i) s = finish (inSession (some i) "HEARTBEAT" (emit (.spdm "HEARTBEAT" 0 [])) s) :=
  shutter_of_doeUp up

theorem exec_keyUpdate {i : Nat} {s : State} (up : s.doeUp = true) :
    exec (.keyUpdate i) s = finish (inSession (some i) "KEY_UPDATE" (fun s =>
      emit (.spdm "KEY_UPDATE" 0 []) (setSession i (fun x => { x with updates := x.updates + 1 }) s)) s) :=
  shutter_of_doeUp up

theorem exec_endSession {i : Nat} {s : State} (up : s.doeUp = true) :
    exec (.endSession i) s = finish (inSession (some i) "END_SESSION" (fun s =>
      sessionEnds i (emit (.spdm "END_SESSION" 0 []) s)) s) :=
  shutter_of_doeUp up

theorem exec_spdmSessionIdle {i : Nat} {x : Session} {s : State} (on : s.powered = true)
    (found : s.sec.sessions.find? (fun x => x.id == i) = some x) (silent : x.last + 20000000000 ≤ s.cyc) :
    exec (.spdmSessionIdle i) s = finish (sessionEnds i s) := by
  change execSpdmSessionIdle i s = _
  rw [execSpdmSessionIdle, found]
  exact if_pos (by rw [on, decide_eq_true silent]; rfl)

/-- Settles O16: each message's own effect, in the state in which its session has carried it. -/
theorem spdmMessages : Obligations.SpdmMessages := by
  unfold Obligations.SpdmMessages
  refine ⟨fun s up => ?_, fun s i => ?_⟩
  · obtain ⟨version, capabilities, algorithms, digests⟩ := exec_spdm_open up
    refine ⟨version, capabilities, algorithms, digests, fun off n => ?_, fun nonce => ?_,
      fun slot off n nonce other => ⟨?_, ?_⟩, fun sess nonce h => ?_, fun index h => ?_⟩
    · rw [exec_getCertificate up]
      extract_lets p
      by_cases inside : off < Config.certChain.length
      · rw [if_neg (by omega), if_pos inside]
        rfl
      · rw [if_pos (by omega), if_neg inside]
        rfl
    · rw [exec_challenge up, if_neg (by simp)]
      rfl
    · rw [exec_getCertificate up, if_pos (.inl other)]
      rfl
    · rw [exec_challenge up, if_pos other]
      rfl
    · extract_lets u
      have measured {op sign} := exec_getMeasurements (op := op) (sign := sign) (nonce := nonce) up h
      rw [measured, measured, exec_spdmUnsupportedRequest up h]
      refine ⟨rfl, fun op hz hf => ?_, rfl, rfl⟩
      rw [measured]
      simp only [if_neg hz, if_neg hf]
      rfl
    · exact exec_doeDiscovery up h
  · refine ⟨fun up room => ?_, fun up full => ?_, fun x up found plain => ?_, fun up open_ => ?_, fun up closed => ?_,
      fun x on found silent => exec_spdmSessionIdle on found silent, fun owner => if_pos owner, fun other => ?_⟩
    · rw [exec_keyExchange up, if_neg (by omega)]
      rfl
    · rw [exec_keyExchange up, if_pos full]
      rfl
    · rw [exec_finish_unsecured up found plain, exec_finish_unsecured up found plain]
      exact ⟨rfl, rfl⟩
    · rw [exec_heartbeat up, exec_keyUpdate up, exec_endSession up, inSession_open open_, inSession_open open_,
        inSession_open open_]
      exact ⟨rfl, rfl, rfl⟩
    · rw [exec_heartbeat up, exec_keyUpdate up, exec_endSession up, inSession_closed closed, inSession_closed closed,
        inSession_closed closed]
      exact ⟨rfl, rfl, rfl⟩
    · exact if_neg fun owner => other (isOwner_some.mp owner)

/-! Vendor and TDISP messages. -/

theorem exec_getMembershipProof {i rsv : Nat} {nonce : List Byte} {s : State} (up : s.doeUp = true)
    (open_ : (s.session i).isSome = true) :
    exec (.getMembershipProof (some i) rsv nonce) s = finish (membershipProof (some i) rsv nonce (touch i s)) := by
  change execGetMembershipProof (some i) rsv nonce s = _
  rw [execGetMembershipProof, shutter_of_doeUp up, inSession_open open_]

theorem exec_vendorOpcodeInvalid {i op : Nat} {s : State} (up : s.doeUp = true)
    (open_ : (s.session i).isSome = true) :
    exec (.vendorOpcodeInvalid (some i) op) s = finish (emit (.vendor (op % 65536) vInvalid []) (touch i s)) := by
  change execVendorOpcodeInvalid (some i) op s = _
  rw [execVendorOpcodeInvalid, shutter_of_doeUp up, inSession_open open_]

/-- Settles O17: a vendor request in an open session is answered by `secReply`, or waits while a scrub runs. -/
theorem vendorMessages : Obligations.VendorMessages := by
  unfold Obligations.VendorMessages
  refine ⟨fun s i up calm open_ => ?_, fun s i up open_ => ?_⟩
  · extract_lets u
    have answered (r : SecReq) : vendorMsg (some i) r s = finish (secReply r u) := vendorMsg_open up calm open_
    refine ⟨fun n lo hi => ?_, fun slot kind keyId key x hs hk hi hl owner found attested => ?_, fun slot hs owner => ?_,
      fun map hl owner => ?_, fun cert hl good => ?_, fun nonce c hl held => ?_, fun owner => ?_, ?_, fun op hop => ?_⟩
    · refine (answered _).trans (congrArg finish ?_)
      rw [secReply, if_neg (by omega)]
      rfl
    · refine (answered _).trans (congrArg finish ?_)
      rw [secReply, if_neg (by omega), if_neg (by simp [isOwner_some.mpr owner])]
      dsimp only [Option.bind_some]
      rw [found]
      exact if_neg (by simp [attested])
    · refine (answered _).trans (congrArg finish ?_)
      rw [secReply, if_neg (by omega), if_neg (by simp [isOwner_some.mpr owner])]
      rfl
    · refine (answered _).trans (congrArg finish ?_)
      rw [secReply, if_neg (by omega), if_neg (by simp [isOwner_some.mpr owner])]
      rfl
    · refine (answered _).trans (congrArg finish ?_)
      rw [secReply, if_neg (by omega), if_neg (by simp), if_neg (by simp [good])]
      rfl
    · have calm' : (touch i s).sec.scrub = none := calm
      rw [exec_getMembershipProof up open_, membershipProof, if_neg (by simp [calm']), if_neg (by omega), held]
      rfl
    · refine (answered _).trans (congrArg finish ?_)
      rw [secReply, if_neg (by simp), if_neg (by simp [isOwner_some.mpr owner])]
    · intro ib il ob ol hw tw
      extract_lets rings
      intro good mode ready jtag gate
      refine (answered _).trans (congrArg finish ?_)
      rw [secReply, if_neg (by simp [rings] at good ⊢; simp [good]), if_neg (by simp [mode, ready, jtag, gate])]
    · rw [exec_vendorOpcodeInvalid up open_, Nat.mod_eq_of_lt hop]
      rfl
  · extract_lets u
    have answered (calm : s.sec.scrub = none) (r : SecReq) : vendorMsg (some i) r s = finish (secReply r u) :=
      vendorMsg_open up calm open_
    refine ⟨fun calm other => ⟨?_, fun slot hs => ?_, fun map hl => ?_⟩,
      fun slot kind keyId key x calm hs hk hi hl owner found unattested => ?_, fun ib il ob ol hw tw calm mode good => ?_,
      fun cert calm hl bad => ?_, fun x scrub => ⟨fun rsv => vendorMsg_waits up scrub open_,
        fun rsv slot => vendorMsg_waits up scrub open_, fun rsv nonce => ?_⟩⟩
    · refine (answered calm _).trans (congrArg finish ?_)
      rw [secReply, if_neg (by simp), if_pos (by simp [Bool.eq_false_iff, isOwner_some, other])]
      rfl
    · refine (answered calm _).trans (congrArg finish ?_)
      rw [secReply, if_neg (by omega), if_pos (by simp [Bool.eq_false_iff, isOwner_some, other])]
      rfl
    · refine (answered calm _).trans (congrArg finish ?_)
      rw [secReply, if_neg (by omega), if_pos (by simp [Bool.eq_false_iff, isOwner_some, other])]
      rfl
    · refine (answered calm _).trans (congrArg finish ?_)
      rw [secReply, if_neg (by omega), if_neg (by simp [isOwner_some.mpr owner])]
      dsimp only [Option.bind_some]
      rw [found]
      exact if_pos (by simp [unattested])
    · have mode' : u.sec.mode ≠ .openMode := mode
      refine (answered calm _).trans (congrArg finish ?_)
      rw [secReply, if_neg (by simp; exact good), if_pos (by simp [mode'])]
      rfl
    · refine (answered calm _).trans (congrArg finish ?_)
      rw [secReply, if_neg (by omega), if_neg (by simp), if_pos (by simp [bad])]
      rfl
    · have scrub' : (touch i s).sec.scrub = some x := scrub
      rw [exec_getMembershipProof up open_, membershipProof, if_pos (by simp [scrub'])]
      rfl

/-- Settles O18: `secReply` by the TDISP state, in an open session while no scrub runs. -/
theorem tdispMessages : Obligations.TdispMessages := by
  unfold Obligations.TdispMessages
  intro s i up calm open_ u
  have answered (name : String) (o : Bool) (r : SecReq) : tdispMsg name o (some i) r s = finish (secReply r u) :=
    tdispMsg_open up calm open_
  refine ⟨answered _ _ _, answered _ _ _, fun unlocked mode ready secure halted jtag gate => ?_, fun other => ?_,
    fun within => ⟨?_, ?_⟩, fun outside => ?_, answered _ _ _, fun locked => ?_, fun other => ?_, fun error => ?_⟩
  · exact (answered _ _ _).trans (congrArg finish (if_pos ⟨unlocked, mode, ready, secure, halted, jtag, gate⟩))
  · exact (answered _ _ _).trans (congrArg finish (if_neg fun h => other h.1))
  · exact (answered _ _ _).trans (congrArg finish (if_pos within))
  · have within' : u.sec.tdisp = .configLocked ∨ u.sec.tdisp = .run := within
    refine (answered _ _ _).trans (congrArg finish ?_)
    obtain locked | run := within'
    · rw [secReply, locked]
    · rw [secReply, run]
  · exact (answered _ _ _).trans (congrArg finish (if_neg outside))
  · exact (answered _ _ _).trans (congrArg finish (if_pos locked))
  · exact (answered _ _ _).trans (congrArg finish (if_neg other))
  · have error' : u.sec.tdisp = .error := error
    refine (answered _ _ _).trans (congrArg finish ?_)
    rw [secReply, error']

end Sys2Proof.Machine
end
section
/-!
PROOF. The tenant scrub (O19). Starting one runs a COMPUTE reset, which touches nothing of Shutter but the bounce ring
and a running import; ending one clears the tenancy's state before the mode changes.
-/

namespace Sys2Proof.Machine

/-- What a COMPUTE reset leaves: Shutter's part but the bounce ring and a running import, the event ring, and the
phase of bring-up. -/
def State.secured (s : State) : Sec × Option (Nat × Nat) × Nat :=
  ({ s.sec with bounce := {}, importing := none }, s.alm.ring, s.boot.phase)

theorem secured_of_eq {s t : State} (sec : t.sec = s.sec) (ring : t.alm.ring = s.alm.ring) (boot : t.boot = s.boot) :
    t.secured = s.secured := by
  rw [State.secured, State.secured, sec, ring, boot]

theorem post_secured (code : Nat) (ws : List Nat) (s : State) : (post code ws s).secured = s.secured :=
  let p := post_posted code ws (.refl s)
  secured_of_eq p.sec p.almRing p.boot

theorem bounceSend_secured (r : BounceRec) (s : State) : (bounceSend r s).secured = s.secured := by
  unfold bounceSend
  split <;> rfl

theorem mbxComplete_secured (m : Fin 16) (st : Nat) (res : List Nat) (s : State) :
    (mbxComplete m st res s).secured = s.secured :=
  have p := msixSignal_posted (1 + m.val) (.refl (setMbxDone m.val { setMbx m (fun x => { x with
    res := Vector.ofFn fun i => BitVec.ofNat 64 (res.getD i 0)
    status := BitVec.ofNat 16 st
    doneSeq := x.runSeq
    st := .done
    started := false
    progress := 0 }) s with alm := { (setMbx m _ s).alm with shortQ := (setMbx m _ s).alm.shortQ.filter (· != m.val) } }))
  (bounceSend_secured _ _).trans (secured_of_eq p.sec p.almRing p.boot)

theorem mbxEndAll_secured (st : Nat) (keep : Option Nat) (s : State) : (mbxEndAll st keep s).secured = s.secured :=
  foldl_view (view := State.secured) (fun t m => by
    split
    · exact mbxComplete_secured _ _ _ t
    · rfl) _ s

theorem abandonSlice_secured (s : State) : (abandonSlice s).secured = s.secured := by
  unfold abandonSlice
  split
  · rfl
  · refine (post_secured _ _ _).trans ?_
    split <;> rfl

theorem peerSay_secured (v : Nat) (s : State) : (peerSay v s).secured = s.secured :=
  foldl_view (view := State.secured) (fun t i => by split <;> rfl) _ s

theorem cancelWatch_secured (k : Task) (s : State) : (cancelWatch k s).secured = s.secured := by
  unfold cancelWatch
  split
  · split <;> rfl
  · rfl

theorem collAbort_secured (t st : Nat) (s : State) : (collAbort t st s).secured = s.secured := by
  unfold collAbort
  split
  · rfl
  · dsimp only
    split <;> split <;> rfl

theorem leaveOthers_secured (s : State) : (leaveOthers s).secured = s.secured :=
  (foldl_view (view := State.secured) (fun t _ => collAbort_secured _ _ t) _ _).trans
    (foldl_view (view := State.secured) (fun t _ => cancelWatch_secured _ t) _ _)

theorem copyPartly_secured (unit : Nat) (x : StashCopy) (size : Nat) (s : State) :
    (copyPartly unit x size s).secured = s.secured := by
  unfold copyPartly
  split
  · rfl
  next c _ =>
    refine foldl_view (view := State.secured) (fun t p => ?_) _ s
    have w := copyBytes_wrote (c / 16) x p.1 (unit * ((draw t).1 % (65536 * p.2 / unit + 1))) (draw t).2
    exact secured_of_eq w.sec w.almRing w.boot

theorem stashAbandon_secured (s : State) : (stashAbandon s).secured = s.secured :=
  foldl_view (view := State.secured) (fun t p => by
    split
    · exact copyPartly_secured _ _ _ t
    · rfl) _ s

theorem ckptDrop_secured (s : State) : (ckptDrop s).secured = s.secured := by
  unfold ckptDrop
  split <;> rfl

theorem mirrorAbandon_secured (cause : Nat) (s : State) : (mirrorAbandon cause s).secured = s.secured := by
  unfold mirrorAbandon
  dsimp only
  split <;> split
  · exact (post_secured _ _ _).trans (post_secured _ _ _)
  · exact post_secured _ _ _
  · exact post_secured _ _ _
  · rfl

theorem computeDiscard_secured (s : State) : (computeDiscard s).secured = s.secured := by
  have store (t : State) : (storeReset t).secured = t.secured :=
    (mirrorAbandon_secured _ _).trans (ckptDrop_secured t)
  have units (t : State) : (ephemReset (spectroReset (photoReset (numReset (stashReset (merReset t)))))).secured =
      t.secured := by
    simp only [State.secured, ephemReset, spectroReset, photoReset, numReset, stashReset, merReset]
  have discarded := (store _).trans ((units _).trans ((leaveOthers_secured _).trans (stashAbandon_secured s)))
  unfold computeDiscard
  extract_lets t
  change t.secured = s.secured at discarded
  clear_value t
  exact discarded

theorem setReset_secured (s : State) (r : Option ResetRun) :
    State.secured { s with boot := { s.boot with reset := r } } = s.secured := rfl

theorem startFill_secured (t : Nat) (why : FillWhy) (s : State) : (startFill t why s).secured = s.secured := rfl

theorem computeStart_secured (mbx : Option Nat) (fills : Nat) (s : State) :
    (computeStart mbx fills s).secured = s.secured := by
  unfold computeStart
  split
  · rfl
  · extract_lets t u boot v w x
    have stopped : v.secured = s.secured :=
      (setReset_secured u _).trans ((abandonSlice_secured t).trans (mbxEndAll_secured _ _ s))
    have discarded : w.secured = v.secured := (computeDiscard_secured _).trans (peerSay_secured 3 v)
    have fill (i : Nat) (y : State) : (if bit fills i then startFill i .compute y else y).secured = y.secured := by
      split <;> rfl
    exact (fill 1 x).trans ((fill 0 w).trans (discarded.trans stopped))

/-- What a scrub has destroyed once it has started, of what stands once every command has ended. -/
theorem scrubStart_secured {trigger : ScrubTrigger} {target : Mode} {tdisp : Tdisp} {rings : Option Bounce}
    {s u : State} (calm : s.sec.scrub = none) (ended : abandonSlice (bounceFlush (mbxEndAll St.tenantEnded none s)) = u) :
    (scrubStart trigger target tdisp rings s).secured = ({ u.sec with
      scrub := some ⟨trigger, target, tdisp, rings, []⟩
      keys := [], bounceKeys := none, bounce := {}, ide := [], peers := [], dramKeys := u.sec.dramKeys + 1
      importing := none }, none, u.boot.phase) := by
  rw [scrubStart, if_neg (by simp [calm])]
  dsimp only
  rw [ended]
  exact (startFill_secured 1 _ _).trans ((startFill_secured 0 _ _).trans (computeStart_secured none 0 _))

theorem bounceFlush_secured (s : State) : (bounceFlush s).secured = s.secured := by
  have f := bounceFlush_settled s
  simp only [State.secured, Prod.mk.injEq, Sec.mk.injEq]
  exact ⟨⟨f.secMode, f.secTdisp, f.secScrub, f.secSessions, f.secOpenScope, f.secOwner, f.secMembership, f.secKeys,
    f.secBounceKeys, f.secIde, f.secPeers, f.secDramKeys, f.secEpoch, f.secJtagNow, f.secJtagEver, trivial, trivial⟩,
    f.almRing, congrArg Boot.phase f.boot⟩

/-- Until the scrub ends the mode stands. -/
theorem scrubStart_mode (trigger : ScrubTrigger) (target : Mode) (tdisp : Tdisp) (rings : Option Bounce) (s : State) :
    (scrubStart trigger target tdisp rings s).sec.mode = s.sec.mode := by
  by_cases calm : s.sec.scrub = none
  · have started := congrArg (·.1.mode) (scrubStart_secured (trigger := trigger) (target := target) (tdisp := tdisp)
      (rings := rings) calm rfl)
    have stopped : (abandonSlice (bounceFlush (mbxEndAll St.tenantEnded none s))).secured = s.secured :=
      (abandonSlice_secured _).trans ((bounceFlush_secured _).trans (mbxEndAll_secured _ _ s))
    exact started.trans (congrArg (·.1.mode) stopped)
  · rw [scrubStart, if_pos (Option.isSome_iff_ne_none.mpr calm)]

/-! The end of a scrub. -/

/-- What the end of a scrub answers and posts leaves the units it has cleared, and Shutter's part. -/
structure Announced (s t : State) : Prop where
  sec : t.sec = s.sec
  units : (t.sems, t.prog, t.strm, t.stash, t.num, t.phot, t.spec, t.ephem) =
    (s.sems, s.prog, s.strm, s.stash, s.num, s.phot, s.spec, s.ephem)
  fab : t.fab = s.fab

theorem Announced.of_rfl (s : State) : Announced s s := ⟨rfl, rfl, rfl⟩

theorem Announced.trans {s t u : State} (h : Announced s t) (k : Announced t u) : Announced s u :=
  ⟨k.sec.trans h.sec, k.units.trans h.units, k.fab.trans h.fab⟩

theorem post_announced (code : Nat) (ws : List Nat) (s : State) : Announced s (post code ws s) := by
  have p := post_posted code ws (.refl s)
  exact ⟨p.sec, by rw [p.sems, p.prog, p.strm, p.stash, p.num, p.phot, p.spec, p.ephem], p.fab⟩

theorem stopMonitors_announced (cause : Nat) (s : State) : Announced s (stopMonitors cause s) :=
  .trans (t := { s with sens := { s.sens with monitors := [] } }) ⟨rfl, rfl, rfl⟩ (post_announced _ _ _)

theorem scrubAnswer_announced (t : ScrubTrigger) (s : State) : Announced s (scrubAnswer t s) := by
  cases t <;> exact ⟨rfl, rfl, rfl⟩

theorem scrubEnd_announced (x : Scrub) (s : State) : Announced (scrubCommit x (scrubClear s)) (scrubEnd x s) := by
  unfold scrubEnd
  extract_lets t u v w
  have counted : Announced (scrubCommit x (scrubClear s)) t := ⟨rfl, rfl, rfl⟩
  have entered : Announced v w := by
    simp only [w]
    split
    · exact .of_rfl v
    · exact post_announced _ _ _
  exact counted.trans ((post_announced _ _ _).trans ((stopMonitors_announced _ _).trans
    (entered.trans (scrubAnswer_announced _ _))))

theorem scrubCommit_clear_units (x : Scrub) (s : State) : let t := scrubCommit x (scrubClear s)
    (t.sems, t.prog, t.strm, t.stash, t.num, t.phot, t.spec, t.ephem) = ([], [], {}, {}, {}, {}, {}, {}) ∧
    t.fab.comms = [] ∧ t.fab.colls = [] := by
  unfold scrubCommit
  dsimp only
  split
  · split <;> exact ⟨rfl, rfl, rfl⟩
  · exact ⟨rfl, rfl, rfl⟩

theorem scrubCommit_targets (x : Scrub) (s : State) : let t := scrubCommit x s
    t.sec.mode = x.target ∧ t.sec.tdisp = x.tdisp ∧ t.sec.scrub = none := by
  unfold scrubCommit
  dsimp only
  split
  · split <;> exact ⟨rfl, rfl, rfl⟩
  · exact ⟨rfl, rfl, rfl⟩

theorem scrubCommit_owner (x : Scrub) (s : State) : let t := scrubCommit x s
    (x.target = .openMode → t.sec.owner = none) ∧
    (x.target ≠ .openMode → t.sec.epoch = s.sec.epoch + 1 ∧ t.sec.owner = s.sec.owner) := by
  unfold scrubCommit
  dsimp only
  split
  next exit => exact ⟨fun _ => rfl, fun entry => absurd exit entry⟩
  next entry => exact ⟨fun exit => absurd exit entry, fun _ => ⟨rfl, rfl⟩⟩

/-- TENANT_SCRUB_DONE where the scrub's fills, its reset and the reads that an entry waits for have ended. -/
theorem exec_tenantScrubDone {x : Scrub} {s : State} (scrub : s.sec.scrub = some x) :
    exec .tenantScrubDone s =
      if s.boot.reset = none ∧ s.tiers.fills.any (fun p => p.2 == .tenant) = false ∧
        (x.target = .openMode ∨ s.host.reads = []) then
        finish (x.waiting.foldl (fun s r => secRequest r s) (scrubEnd x s))
      else finish s := by
  change execTenantScrubDone s = _
  rw [execTenantScrubDone, scrub]
  dsimp only
  refine if_congr ?_ rfl rfl
  simp only [Bool.and_eq_true, Bool.or_eq_true, Option.isNone_iff_eq_none, Bool.not_eq_true', beq_iff_eq,
    List.isEmpty_iff, and_assoc]

/-- Settles O19: what the start destroys and the end clears, and the condition for the end. -/
theorem tenantScrub : Obligations.TenantScrub := by
  unfold Obligations.TenantScrub
  intro s
  refine ⟨fun tr tg td rg calm => ?_, fun x tr tg td rg scrub => ?_, fun x scrub still filled quiet => ?_, fun wait => ?_,
    fun x => ?_⟩
  · extract_lets t
    have started := scrubStart_secured (trigger := tr) (target := tg) (tdisp := td) (rings := rg) calm rfl
    exact ⟨congrArg (·.1.scrub) started, congrArg (·.1.keys) started, congrArg (·.1.bounceKeys) started,
      congrArg (·.1.ide) started, congrArg (·.1.peers) started, congrArg (·.2.1) started, scrubStart_mode tr tg td rg s⟩
  · rw [scrubStart, if_pos (by simp [scrub])]
  · rw [exec_tenantScrubDone scrub, if_pos ⟨still, filled, quiet⟩]
    rfl
  · cases scrub : s.sec.scrub with
    | none =>
      change execTenantScrubDone s = _
      rw [execTenantScrubDone, scrub]
      rfl
    | some x =>
      rw [exec_tenantScrubDone scrub, if_neg fun h => wait ⟨x, scrub, h⟩]
      rfl
  · extract_lets t
    obtain ⟨sec, units, fab⟩ := scrubEnd_announced x s
    obtain ⟨cleared, comms, colls⟩ := scrubCommit_clear_units x s
    obtain ⟨mode, tdisp, scrub⟩ := scrubCommit_targets x (scrubClear s)
    obtain ⟨exit, entry⟩ := scrubCommit_owner x (scrubClear s)
    have units' := units.trans cleared
    simp only [Prod.mk.injEq] at units'
    obtain ⟨sems, prog, strm, stash, num, phot, spec, ephem⟩ := units'
    simp only [t, sec, fab]
    exact ⟨mode, tdisp, scrub, sems, prog, strm, stash, num, phot, spec, ephem, comms, colls, exit, entry⟩

end Sys2Proof.Machine
end
section
/-!
PROOF. IDE and the bounce path, PCIe requests, and the import of weights (15; O20 to O22).
-/

namespace Sys2Proof.Machine

/-! IDE_KM. -/

theorem exec_ideKmQuery {i : Nat} {s : State} (up : s.doeUp = true) (open_ : (s.session i).isSome = true) :
    exec (.ideKmQuery i) s = finish (emit (.tdisp "QUERY" 0 (freeBytes 32 (touch i s)).1) (freeBytes 32 (touch i s)).2) := by
  change execIdeKmQuery i s = _
  rw [execIdeKmQuery, shutter_of_doeUp up, inSession_open open_]

theorem exec_ideKmKeyProg {i st set sub dir k : Nat} {s : State} (key : ideKey set sub dir = some k)
    (up : s.doeUp = true) (open_ : (s.session i).isSome = true) :
    exec (.ideKmKeyProg i st set sub dir) s = finish (
      if st ≥ 2 then emit (.tdisp "KEY_PROG" 3 []) (touch i s)
      else emit (.tdisp "KEY_PROG" 0 []) (setIde st (fun x => { x with prog := setIns k x.prog }) (touch i s))) := by
  change execIdeKmKeyProg i st set sub dir s = _
  rw [execIdeKmKeyProg, shutter_of_doeUp up, inSession_open open_, key]

theorem exec_ideKmKSetGo {i st set sub dir k : Nat} {s : State} (key : ideKey set sub dir = some k)
    (up : s.doeUp = true) (open_ : (s.session i).isSome = true) :
    exec (.ideKmKSetGo i st set sub dir) s = finish (
      if st ≥ 2 ∨ !((touch i s).ideStream st).prog.contains k then emit (.tdisp "K_SET_GO" 3 []) (touch i s)
      else emit (.tdisp "K_SET_GO" 0 []) (setIde st (fun x => { x with go := setIns k x.go }.judge) (touch i s))) := by
  change execIdeKmKSetGo i st set sub dir s = _
  rw [execIdeKmKSetGo, shutter_of_doeUp up, inSession_open open_, key]

theorem exec_ideKmKSetStop {i st set sub dir k : Nat} {s : State} (key : ideKey set sub dir = some k)
    (up : s.doeUp = true) (open_ : (s.session i).isSome = true) :
    exec (.ideKmKSetStop i st set sub dir) s = finish (
      if st ≥ 2 then emit (.tdisp "K_SET_STOP" 3 []) (touch i s)
      else emit (.tdisp "K_SET_STOP" 0 [])
        (setIde st (fun x => { x with go := setDel k x.go, prog := setDel k x.prog }.judge) (touch i s))) := by
  change execIdeKmKSetStop i st set sub dir s = _
  rw [execIdeKmKSetStop, shutter_of_doeUp up, inSession_open open_, key]

theorem exec_ideIntegrityFailure {n : Fin 2} {integrity : Bool} {s : State} (on : s.powered = true)
    (secure : (s.ideStream n.val).secure = true) :
    exec (.ideIntegrityFailure n integrity) s =
      finish (setIde n.val (fun _ => {}) (if integrity then post Ev.ideIntegrityFail [n.val] s else s)) := by
  change execIdeIntegrityFailure n integrity s = _
  rw [execIdeIntegrityFailure, on, secure]
  rfl

theorem setUp_iff {x : IdeStream} {k : Nat} : x.setUp k = true ↔ ∀ j, j < 6 → 8 * k + j ∈ x.go := by
  simp only [IdeStream.setUp, List.all_eq_true, List.mem_range, List.contains_iff_mem]

theorem judge_secure_iff {x : IdeStream} :
    x.judge.secure = true ↔ ((∀ j, j < 6 → j ∈ x.go) ∨ (∀ j, j < 6 → 8 + j ∈ x.go)) := by
  change (x.setUp 0 || x.setUp 1) = true ↔ _
  rw [Bool.or_eq_true, setUp_iff, setUp_iff]
  simp only [mul_zero, zero_add, mul_one]

/-- A stream that leaves Secure. -/
theorem setIde_of_leaves {st : Nat} {f : IdeStream → IdeStream} {s : State} (was : (s.ideStream st).secure = true)
    (left : (f (s.ideStream st)).secure = false) :
    setIde st f s = tdispError .error { s with sec := { s.sec with ide := kvPut {} st (f (s.ideStream st)) s.sec.ide } } :=
  if_pos (by rw [was, left]; rfl)

/-! Inbound bounce records. -/

theorem bounceHas_of {len : Nat} {s : State} (on : s.powered = true) (mode : s.sec.mode = .tenantBounce)
    (calm : s.sec.scrub = none)
    (room : s.sec.bounce.inSkip len + len ≤ ringUsed s.sec.bounce.inHead s.sec.bounce.inTail s.sec.bounce.inLog) :
    s.bounceHas len = true := by
  rw [State.bounceHas, on, mode, calm, decide_eq_true room]
  rfl

/-- The record that comes next, in its turn, and has an effect. -/
theorem bounceRecord_applied {n : Nat} {k : State → Option State} {s t : State}
    (has : s.bounceHas (64 + (n + 63) / 64 * 64) = true) (ok : payloadOk n = true)
    (done : k (bounceTake (64 + (n + 63) / 64 * 64) s) = some t) :
    bounceRecord s.sec.bounce.seqIn n k s = .next (settle t) := by
  rw [bounceRecord, has, if_neg (by simp), if_neg (by simp), ok]
  dsimp only
  rw [if_pos rfl, done]
  rfl

theorem bounceRecord_invalid {n : Nat} {k : State → Option State} {s : State}
    (has : s.bounceHas (64 + (n + 63) / 64 * 64) = true) (ok : payloadOk n = true)
    (bad : k (bounceTake (64 + (n + 63) / 64 * 64) s) = none) :
    bounceRecord s.sec.bounce.seqIn n k s =
      .next (settle (bounceInvalid s.sec.bounce.seqIn (bounceTake (64 + (n + 63) / 64 * 64) s))) := by
  rw [bounceRecord, has, if_neg (by simp), if_neg (by simp), ok]
  dsimp only
  rw [if_pos rfl, bad]
  rfl

theorem bounceRecord_outOfTurn {q n : Nat} {k : State → Option State} {s : State}
    (has : s.bounceHas (64 + (n + 63) / 64 * 64) = true) (other : q ≠ s.sec.bounce.seqIn) :
    bounceRecord q n k s = finish (bounceError s) := by
  rw [bounceRecord, has, if_neg (by simp), if_pos other]

/-- Settles O20: IDE_KM by its answers; an inbound record by its turn, its check and its effect. -/
theorem ideAndBounce : Obligations.IdeAndBounce := by
  unfold Obligations.IdeAndBounce
  refine ⟨fun s i st set sub dir k key => ⟨fun up open_ => ?_, fun n on secure => ?_, fun f was left => ?_, fun x =>
    judge_secure_iff⟩, ?_⟩
  · extract_lets u
    refine ⟨exec_ideKmQuery up open_, fun hst => ?_, fun hst programmed => ?_, fun hst => ?_, fun hst => ?_⟩
    · rw [exec_ideKmKeyProg key up open_, if_neg (by omega)]
      rfl
    · rw [exec_ideKmKSetGo key up open_, if_neg (by rw [programmed]; simp [hst])]
      rfl
    · rw [exec_ideKmKSetStop key up open_, if_neg (by omega)]
      rfl
    · rw [exec_ideKmKeyProg key up open_, if_pos hst]
      rfl
  · exact ⟨exec_ideIntegrityFailure on secure, exec_ideIntegrityFailure on secure⟩
  · exact setIde_of_leaves was left
  · intro s n on mode calm rec_ u q ok room
    have has : s.bounceHas rec_ = true := bounceHas_of on mode calm room
    refine ⟨bounceRecord_applied has ok rfl, fun a bs hl reach => ?_, fun a bs hl reach => ?_, fun off v lo al => ?_,
      fun a k al lo hi reach clean => ?_, bounceRecord_invalid (k := fun _ => none) has ok rfl, fun x other => ?_, fun has64 => ?_⟩
    · subst hl
      change execBounceWrite q a bs s = _
      rw [execBounceWrite]
      exact bounceRecord_applied has ok (if_pos reach)
    · subst hl
      change execBounceWrite q a bs s = _
      rw [execBounceWrite]
      exact bounceRecord_invalid has ok (if_neg (Bool.eq_false_iff.mp reach))
    · change execBounceReg q n off v s = _
      rw [execBounceReg]
      exact bounceRecord_applied has ok (if_pos ⟨lo, al⟩)
    · change execBounceExport q n a k s = _
      rw [execBounceExport]
      refine bounceRecord_applied has ok ?_
      dsimp only
      rw [if_pos ⟨al, lo, hi, reach⟩]
      change (devRead a k (bounceTake (64 + (n + 63) / 64 * 64) s)).1 = none at clean
      rw [if_pos (by rw [clean]; rfl)]
    · exact bounceRecord_outOfTurn has other
    · change execBounceRecordFail s = _
      rw [execBounceRecordFail, if_pos has64]
      rfl

/-! Configuration requests and PCIe events. -/

theorem exec_pcieConfigRequest {r : CfgReg} {w : Option W32} {s : State} (on : s.powered = true)
    (served : s.cfgRetry = false) :
    exec (.pcieConfigRequest r w) s = finish (w.elim
      (emit (.cfgData (BitVec.ofNat 32 (cfgRead r s).1)) (cfgRead r s).2) (configWrite r · s)) := by
  change execPcieConfigRequest r w s = _
  rw [execPcieConfigRequest.eq_def, if_neg (by simp [on]), if_neg (by simp [served])]
  cases w <;> rfl

theorem exec_hostCompletion {id : Nat} {st : Fin 4} {bs : List Byte} {s : State} (on : s.powered = true) :
    exec (.hostCompletion id st bs) s =
      finish (hostCompletion id (match st.val with | 0 => .data bs | 1 => .poisoned | _ => .refused) s) := by
  change execHostCompletion id st bs s = _
  rw [execHostCompletion, if_neg (by simp [on])] <;> rfl

/-- Settles O21. -/
theorem pcieCommands : Obligations.PcieCommands := by
  unfold Obligations.PcieCommands
  intro s on
  refine ⟨fun r w retry => ?_, fun r v served free => ?_, fun r v served locked run => ?_, fun r served => ?_,
    fun e up => ?_, fun id bs => ⟨exec_hostCompletion on, exec_hostCompletion on, exec_hostCompletion on,
    exec_hostCompletion on⟩, fun id r k found task => ?_, fun id r found late => ?_⟩
  · change execPcieConfigRequest r w s = _
    rw [execPcieConfigRequest.eq_def, if_neg (by simp [on]), if_pos retry]
    rfl
  · rw [exec_pcieConfigRequest on served]
    exact congrArg finish (if_neg (by simpa using free))
  · rw [exec_pcieConfigRequest on served]
    exact congrArg finish (if_pos (by simp [locked, run]))
  · exact exec_pcieConfigRequest on served
  · extract_lets host u
    have reset : exec (.pcieFunctionReset e) s = if s.sec.scrub.isSome then finish u
        else if s.sec.mode = .openMode then finish (computeStart none 0 u)
        else finish (scrubStart .pcie .openMode .configUnlocked none u) := by
      change execPcieFunctionReset e s = _
      rw [execPcieFunctionReset, if_neg (by simp [up])]
    refine ⟨fun calm mode => ?_, fun calm mode => ?_, fun scrub => ?_⟩
    · rw [reset, if_neg (by simp [calm]), if_pos mode]
      rfl
    · rw [reset, if_neg (by simp [calm]), if_neg mode]
      rfl
    · rw [reset, if_pos (Option.isSome_iff_ne_none.mpr scrub)]
      rfl
  · rw [hostCompletion, found]
    dsimp only
    rw [task]
  · change execHostCompletionTimeout id s = _
    rw [execHostCompletionTimeout, found]
    exact if_neg (by omega)

/-! IMPORT_WEIGHTS. -/

theorem exec_importChunkDone {x : Import} {ok : Bool} {bs b : List Byte} {s t : State}
    (importing : s.sec.importing = some x) (up : s.almanacUp = true)
    (free : s.memBusy (x.dest + 65536 * x.next) (chunkBytes x.length x.next) = false)
    (read : devRead (x.src + 64 + 65552 * x.next) (chunkBytes x.length x.next + 16) s = (none, b, t))
    (whole : ok = true → bs.length = chunkBytes x.length x.next) :
    exec (.importChunkDone ok bs) s = finish (if ok then importChunk x bs t
      else count .importTagFail 0 1 (importEnd x St.importTagFail [x.next, x.next] t)) := by
  change execImportChunkDone ok bs s = _
  rw [execImportChunkDone, importing]
  dsimp only
  rw [up, free, if_neg (by simpa using whole), read]
  dsimp only
  split <;> rfl

/-- IMPORT_WEIGHTS once its header has been read. -/
theorem exec_importWeights {m : Fin 16} {s t : State} {bs : List Byte} (takes : mbxTakes 0x0601 anyArgs m s = true)
    (source : containerCheck (s.arg m 1) 64 s = none) (destOk : destCheck (s.arg m 2) s = none)
    (read : devRead (s.arg m 1) 64 s = (none, bs, t)) :
    let w := bytesWords bs
    exec (.importWeights m) s = finish (Reply.settle m (
      (importHeader (s.arg m 0) (s.arg m 1) (s.arg m 2) w t).elim
        ((containerCheck (s.arg m 1) (containerBytes (w.getD 3 0)) t).elim
          (if w.getD 3 0 = 0 then .done St.ok [0] t
            else .run { t with sec := { t.sec with
              importing := some ⟨m.val, s.arg m 1, s.arg m 2, w.getD 2 0, w.getD 3 0, sealedChunks (w.getD 3 0), 0⟩ } })
          (bufFault · t))
        (.done · [] t))) := by
  change execImportWeights m s = _
  rw [execImportWeights, mbxCommand_of_mbxTakes _ takes]
  simp only [State.arg] at source destOk read ⊢
  simp only [source, destOk, read]
  cases importHeader (Args.n (s.mailbox m).accArgs 0) (Args.n (s.mailbox m).accArgs 1)
      (Args.n (s.mailbox m).accArgs 2) (bytesWords bs) t <;>
    cases containerCheck (Args.n (s.mailbox m).accArgs 1) (containerBytes ((bytesWords bs).getD 3 0)) t <;> rfl

/-- Settles O22: the header by its first failing check; a chunk by its tag. -/
theorem weightImport : Obligations.WeightImport := by
  unfold Obligations.WeightImport
  intro m s
  refine ⟨?_, fun x bs importing up => ?_⟩
  · intro src dest r w len takes source destOk clean
    have accepted := exec_importWeights takes source destOk (Prod.ext (y := (none, r.2.1, r.2.2)) clean rfl)
    refine ⟨fun st bad => ?_, fun good fits => ⟨fun empty => ?_, fun some_ => ?_⟩⟩
    · rw [accepted, bad]
      rfl
    · rw [accepted, good]
      dsimp only [Option.elim]
      rw [fits, if_pos empty]
      rfl
    · rw [accepted, good]
      dsimp only [Option.elim]
      rw [fits, if_neg some_]
      rfl
  · intro n r free clean
    have chunk {ok : Bool} := exec_importChunkDone (ok := ok) (bs := bs) importing up free
      (read := Prod.ext (y := (none, r.2.1, r.2.2)) clean rfl)
    exact ⟨fun _ whole => chunk fun _ => whole, chunk (by simp)⟩

end Sys2Proof.Machine
end
section
/-!
PROOF. Almanac's timers (16; O23), the power controller and the main rails (21; O24).
-/

namespace Sys2Proof.Machine

/-! Timers. -/

theorem exec_mailboxCommandTimeout {m : Fin 16} {c : CmdSpec} {s : State} (up : s.almanacUp = true)
    (busy : (s.mailbox m).st = .busy) (spec : cmdSpec (s.mailbox m).accOp = some c)
    (late : (s.mailbox m).accAt + 1000 * c.t ≤ s.cyc) :
    exec (.mailboxCommandTimeout m) s = finish (mbxComplete m St.timeout
      [if (s.mailbox m).started then (s.mailbox m).progress else 0]
      (if (s.mailbox m).started then cancelLong (s.mailbox m).accOp s else s)) := by
  change execMailboxCommandTimeout m s = _
  rw [execMailboxCommandTimeout]
  dsimp only
  rw [spec]
  exact if_pos (by rw [up, busy, decide_eq_true late]; rfl)

theorem exec_almanacFailed {s : State} (up : s.almanacUp = true) :
    exec .almanacFailed s = finish (setErr 3 { s with alm := { s.alm with failed := true } }) := by
  obtain ⟨⟨⟨on, phase⟩, running⟩, -⟩ :
      ((s.powered = true ∧ decide (s.boot.phase ≥ 2) = true) ∧ (!s.alm.failed) = true) ∧ (!s.alm.stopped) = true := by
    simpa only [State.almanacUp, Bool.and_eq_true] using up
  exact if_pos (by rw [on, phase, running]; rfl)

/-- A completion vector is signalled at once but within its moderation interval. -/
theorem cplSignal_eq {v m : Nat} {s : State} (named : v ≠ 0xFF) :
    cplSignal v m s =
      if (kvFind v s.host.vecLast).any (fun t0 => decide (m * 1000 ≠ 0 ∧ s.cyc < t0 + m * 1000)) then
        { s with host := { s.host with vecWait := kvSet v true s.host.vecWait } }
      else msixSignal v { s with host := { s.host with vecLast := kvSet v s.cyc s.host.vecLast } } := by
  rw [cplSignal, if_neg named]
  cases kvFind v s.host.vecLast with
  | none => rfl
  | some t0 => exact if_congr (by simp) rfl rfl

/-- Settles O23. -/
theorem almanacTimers : Obligations.AlmanacTimers := by
  unfold Obligations.AlmanacTimers
  refine fun s => ⟨fun m c up busy spec late => ⟨fun started => ?_, fun waiting => ?_⟩,
    fun up => ⟨if_pos up, exec_almanacFailed up⟩, fun v waits => if_pos waits, fun v m named first => ?_,
    fun v m t0 named moderated last soon => ?_⟩
  · rw [exec_mailboxCommandTimeout up busy spec late, started]
    rfl
  · rw [exec_mailboxCommandTimeout up busy spec late, waiting]
    rfl
  · rw [cplSignal_eq named, first]
    rfl
  · rw [cplSignal_eq named, last, if_pos]
    simp only [Option.any_some, decide_eq_true_eq]
    omega

/-! The main rails. -/

theorem powerTrigger_of_on {c : ShutCause} {s : State} (on : s.pow.rails = .on) :
    powerTrigger c s = alertPin s.alert (emit (.pin "CLKREQ#" 1) (emit (.pin "PWR_GOOD" 0)
      { s with pow := { s.pow with latched := c, rails := .down, pwrGood := false, shutAt := none } })) :=
  if_pos (.inr on)

theorem exec_pwrEnChange_high {s : State} (aux : s.pow.auxUp = true) (standby : s.pow.rails = .standby)
    (main : inRange s.pow.mainMv = true) (free : s.pow.commanded = false) (cool : s.pow.active = false) :
    exec (.pwrEnChange true) s = finish { s with pow := { s.pow with pwrEn := true, rails := .up } } := by
  change execPwrEnChange true s = _
  refine congrArg finish (if_pos ?_)
  simp [aux, standby, main, free, cool]

theorem exec_protectiveShutdown {c k i v : Nat} {s : State} (on : s.pow.rails = .on) (none_ : s.pow.shutAt = none)
    (range : 1 ≤ c ∧ c ≤ 8) :
    exec (.protectiveShutdown c k i v) s = finish (if c = 5 ∨ c = 6 then
        alertPin s.alert (post Ev.protectiveShutdown [c, k, i, v]
          { s with pow := { s.pow with shutAt := some s.cyc, latched := ⟨c, k, i, v⟩, active := c == 6 } })
      else powerTrigger ⟨c, k, i, v⟩ s) := by
  change execProtectiveShutdown c k i v s = _
  rw [execProtectiveShutdown, if_neg (by simp [on]), if_neg (by simp [none_]), if_pos range]
  split <;> rfl

theorem exec_cageModuleInsert {p : Fin 30} {mw : Nat} {s : State} (aux : s.pow.auxUp = true) :
    exec (.cageModuleInsert p mw) s = finish (
      let t := { s with pow := { s.pow with cages := kvSet p.val mw s.pow.cages } }
      if mw > 12000 then post Ev.cagePowerRefused [p.val, mw] t else t) := by
  change execCageModuleInsert p mw s = _
  rw [execCageModuleInsert, if_neg (by simp [aux])]
  dsimp only
  split <;> rfl

/-! The power controller. -/

/-- The target lowered by one step. -/
theorem controlTarget_over {x : Power} {p : Int} {warm : Bool} (above : p > 1000 * x.limit ∨ warm = true) :
    controlTarget x p warm = (min (if x.target > 900 then x.target - 25 else x.target) x.ceil, 0) := by
  unfold controlTarget
  dsimp only
  rw [if_pos (by simpa using above)]

theorem controlTarget_under {x : Power} {p : Int} (under : p ≤ 1000 * x.limit - 40000) :
    controlTarget x p false =
      if x.good + 1 ≥ 10 ∧ x.target < x.ceil then (min (x.target + 25) x.ceil, 0) else (min x.target x.ceil, x.good + 1) := by
  unfold controlTarget
  dsimp only
  rw [if_neg (by simp; omega), if_pos under]
  split <;> rfl

theorem controlTarget_between {x : Power} {p : Int} (lo : 1000 * x.limit - 40000 < p) (hi : p ≤ 1000 * x.limit) :
    controlTarget x p false = (min x.target x.ceil, 0) := by
  unfold controlTarget
  dsimp only
  rw [if_neg (by simp; omega), if_neg (by omega)]

/-- What a sample leaves once the target is set: events, and when the target last fell. -/
structure Sampled (s t : State) : Prop where
  target : (t.pow.target, t.pow.good, t.pow.cclk) = (s.pow.target, s.pow.good, s.pow.cclk)
  rest : (t.mem, t.mer, t.time, t.sec) = (s.mem, s.mer, s.time, s.sec)

theorem Sampled.trans {s t u : State} (h : Sampled s t) (k : Sampled t u) : Sampled s u :=
  ⟨k.target.trans h.target, k.rest.trans h.rest⟩

theorem Sampled.ite {c : Prop} [Decidable c] {s t u : State} (h : Sampled s t) (k : Sampled s u) :
    Sampled s (if c then t else u) := by split <;> assumption

theorem Sampled.post {s t : State} (code : Nat) (ws : List Nat) (h : Sampled s t) : Sampled s (post code ws t) := by
  have p := post_posted code ws (.refl t)
  exact h.trans ⟨by rw [p.pow], by rw [p.mem, p.mer, p.time, p.sec]⟩

theorem exec_powerControlSample {s : State} (on : s.powered = true) (ready : s.boot.ready = true)
    (valid : (kvGet ({} : Sensor) 512 s.sens.sensors).valid = true) {target good : Nat}
    (control : controlTarget s.pow (kvGet ({} : Sensor) 512 s.sens.sensors).value s.warmSensor.isSome = (target, good)) :
    ∃ u t, exec .powerControlSample s = .next (settle t) ∧ Sampled u t ∧
      (u.pow.target, u.pow.good, u.pow.cclk) = (target, good, target) ∧
      (u.mem, u.mer, u.time, u.sec) = (s.mem, s.mer, s.time, s.sec) := by
  change ∃ u t, execPowerControlSample s = _ ∧ _
  unfold execPowerControlSample
  extract_lets x p warm lim was pow
  rw [if_neg (by simp [x, on, ready, valid])]
  change controlTarget s.pow p warm.isSome = (target, good) at control
  rw [control]
  dsimp -zeta only
  extract_lets fell excess unmet usum u powU fallen v powV posted powP w
  clear_value warm was
  have fell_ : Sampled u v := by
    simp only [v]
    split
    · split <;> exact .post _ _ ⟨rfl, rfl⟩
    · split
      · exact .ite (.post _ _ ⟨rfl, rfl⟩) ⟨rfl, rfl⟩
      · exact ⟨rfl, rfl⟩
  clear_value v
  have posted_ : Sampled v posted := .ite ⟨rfl, rfl⟩ (.post _ _ ⟨rfl, rfl⟩)
  clear_value posted
  have unmet_ : Sampled v w := .ite (posted_.trans ⟨rfl, rfl⟩) ⟨rfl, rfl⟩
  exact ⟨u, w, rfl, fell_.trans unmet_, rfl, rfl⟩

/-- Settles O24. -/
theorem powerCommands : Obligations.PowerCommands := by
  unfold Obligations.PowerCommands
  refine ⟨fun s => ⟨fun mv off range => ?_, exec_pwrEnChange_high, fun up => if_pos up, fun on => ⟨?_, fun mv held low => ?_,
    fun c k i v idle cause => ?_, fun c k i v idle cause => ?_, if_pos on, if_pos on⟩, fun idle down => ?_,
    fun t shut late => ?_, rfl, fun p mw aux => ⟨fun low => ?_, fun high => ?_⟩⟩,
    fun s => ⟨fun m takes => ⟨?_, ?_⟩, fun x p => ⟨fun above => controlTarget_over (.inl above), controlTarget_over (.inr rfl),
      fun under ten room => ?_, fun under few => ?_, controlTarget_between⟩, fun on ready valid => ?_⟩⟩
  · exact if_pos (by rw [off, range]; rfl)
  · exact congrArg finish (powerTrigger_of_on on)
  · change execMainPowerChange mv held s = _
    rw [execMainPowerChange, if_pos (.inl low)]
    exact congrArg finish (powerTrigger_of_on on)
  · rw [exec_protectiveShutdown on idle (by omega), if_neg (by omega)]
    rfl
  · rw [exec_protectiveShutdown on idle (by omega), if_pos cause]
    rfl
  · change execPowerDown s = _
    rw [execPowerDown, idle]
    exact if_pos down
  · change execPowerDown s = _
    rw [execPowerDown, shut]
    exact if_pos late
  · rw [exec_cageModuleInsert aux, if_neg (by omega)]
    rfl
  · rw [exec_cageModuleInsert aux, if_pos high]
    rfl
  · rintro ⟨lo, hi, clo, chi, step⟩
    exact exec_setPowerLimit_of_range takes ⟨lo, hi⟩ ⟨clo, chi, step⟩
  · intro outside
    exact exec_setPowerLimit_refused takes (by omega)
  · rw [controlTarget_under under, if_pos (by omega)]
  · rw [controlTarget_under under, if_neg (by omega)]
  · obtain ⟨u, t, done, ⟨target, rest⟩, set, kept⟩ := exec_powerControlSample on ready valid rfl
    have target' := target.trans set
    have rest' := rest.trans kept
    simp only [Prod.mk.injEq] at target' rest'
    obtain ⟨tg, good, cclk⟩ := target'
    obtain ⟨mem, mer, time, sec⟩ := rest'
    exact ⟨t, done, Prod.ext tg good, cclk.trans tg.symm, mem, mer, time, sec⟩

end Sys2Proof.Machine
end
section
/-!
PROOF. The management port (21; O25) and time and monitors (20; O26).
-/

namespace Sys2Proof.Machine

/-! The management port's messages. -/

theorem mctpReply_up {req : String} {code : Nat} {body : List Byte} {s : State} (aux : s.pow.auxUp = true) :
    mctpReply req code body s = emit (.mctp req code body) s := if_pos aux

/-- A message with its reserved bytes 0 is answered with what its body answers. -/
theorem mpMessage_of_body {req : String} {tag : W16} {body : State → Nat × List Byte × State} {s u : State} {st : Nat}
    {res : List Byte} (aux : s.pow.auxUp = true) (done : body s = (st, res, u)) :
    mpMessage req tag 0 body s = .next (settle (mctpReply req st (leBytes 2 tag.toNat ++ res) u)) := by
  rw [mpMessage, if_neg (by simp [aux])]
  dsimp only
  rw [if_neg (by simp), done]
  rfl

theorem mpMessage_of_body_nil {req : String} {tag : W16} {body : State → Nat × List Byte × State} {s u : State} {st : Nat}
    (aux : s.pow.auxUp = true) (done : body s = (st, [], u)) :
    mpMessage req tag 0 body s = .next (settle (mctpReply req st (leBytes 2 tag.toNat) u)) := by
  rw [mpMessage_of_body aux done, List.append_nil]

theorem mpMessage_reserved {req : String} {tag : W16} {rsv : Nat} {body : State → Nat × List Byte × State} {s : State}
    (aux : s.pow.auxUp = true) (bad : rsv ≠ 0) :
    mpMessage req tag rsv body s = .next (settle (emit (.mctp req 1 (leBytes 2 tag.toNat ++ [])) s)) := by
  rw [mpMessage, if_neg (by simp [aux])]
  dsimp only
  rw [if_pos bad, mctpReply_up aux]
  rfl

/-- Where no fuse and no mode keeps JTAG shut, a request sets its lock. -/
theorem exec_jtagUnlock {unlock : Bool} {s : State}
    (free : unlock = true → Config.fuseLocked = false ∧ s.debugShut = false ∧ s.pow.auxUp = true) :
    exec (.jtagUnlock unlock) s = finish (digestStep (fun s =>
      { s with sec := { s.sec with jtagNow := unlock, jtagEver := s.sec.jtagEver || unlock } }) s) :=
  if_neg (by simpa [and_assoc] using free)

/-- The control messages that read no state but the endpoint id. -/
theorem exec_mctp_control {s : State} (aux : s.pow.auxUp = true) :
    exec .getEndpointId s = finish (emit (.mctp "Get Endpoint ID" 0 (leBytes 1 s.pow.eid)) s) ∧
    (∀ mt, exec (.getMctpVersionSupport mt) s = finish (emit (.mctp "Get MCTP Version Support" 0
      ((List.range 5).map fun i => Config.spdmByte (1000 + mt) i)) s)) ∧
    exec .getMessageTypeSupport s = finish (emit (.mctp "Get Message Type Support" 0 [1, 0x7E]) s) ∧
    exec .getVendorMessageSupport s =
      finish (emit (.mctp "Get Vendor Defined Message Support" 0 [0x1F, 0x8E]) s) := by
  refine ⟨?_, fun mt => ?_, ?_, ?_⟩
  · change execGetEndpointId s = _
    rw [execGetEndpointId, mctpReply_up aux]
  · change execGetMctpVersionSupport mt s = _
    rw [execGetMctpVersionSupport, mctpReply_up aux]
  · change execGetMessageTypeSupport s = _
    rw [execGetMessageTypeSupport, mctpReply_up aux]
  · change execGetVendorMessageSupport s = _
    rw [execGetVendorMessageSupport, mctpReply_up aux]

/-- Settles O25: each message by what its body answers. -/
theorem managementPort : Obligations.ManagementPort := by
  unfold Obligations.ManagementPort
  intro s tag aux say
  obtain ⟨endpoint, version, types, vendor⟩ := exec_mctp_control aux
  refine ⟨fun eid lo hi => ?_, endpoint, version, types, vendor,
    fun idle => ⟨fun on => ?_, ?_⟩, fun off range on => ?_,
    fun off v lo hi al owner => ?_, ?_, ?_, ?_, fun on => ?_,
    fun off bs al lt hl free => ?_, fun size v svn free fits newer => ?_, fun free => ?_, ?_,
    fun a open_ reach on => ?_, fun a bs open_ reach hl on => ?_,
    fun rsv bad => ⟨?_, ?_⟩, ?_, fun free => ?_⟩
  · change execSetEndpointId eid s = _
    rw [execSetEndpointId, if_neg (by simp [aux]), if_neg (by omega)]
    exact congrArg finish (mctpReply_up aux)
  · change execEnablePort tag 0 s = _
    refine mpMessage_of_body_nil aux ?_
    rw [if_neg idle, if_neg (by simp [on])]
    rfl
  · change execDisablePort tag 0 s = _
    refine mpMessage_of_body_nil aux ?_
    rw [if_neg idle]
    rfl
  · change execRegRead tag 0 off s = .next (settle (emit _ s))
    rw [← mctpReply_up aux]
    refine mpMessage_of_body aux ?_
    rw [if_neg (by simp; omega), if_neg (by simp [on])]
    rfl
  · change execRegWrite tag 0 off v s = _
    refine mpMessage_of_body_nil aux ?_
    rw [if_neg (by simp [lo, hi, al, aligned]), if_neg (by simp [owner])]
    split <;> rfl
  · change execReadHwStatus tag 0 s = .next (settle (emit _ s))
    rw [← mctpReply_up aux]
    exact mpMessage_of_body aux rfl
  · change execPowerControlOff tag 0 s = _
    exact mpMessage_of_body_nil aux rfl
  · change execPowerControlOn tag 0 s = _
    exact mpMessage_of_body_nil aux rfl
  · change execPowerControlCycle tag 0 s = _
    refine mpMessage_of_body_nil aux ?_
    rw [if_pos (.inr on)]
    rfl
  · change execFwWrite tag 0 off bs s = .next (settle (emit _ _))
    rw [← mctpReply_up (by exact aux)]
    refine mpMessage_of_body aux ?_
    rw [if_neg (by simp [aligned, al, hl]; omega), if_neg (by simp [free])]
    rfl
  · change execFwCommit tag 0 size (some (v, svn)) s = _
    refine mpMessage_of_body aux ?_
    rw [if_neg (by simp [free]), if_neg (by omega)]
    dsimp only
    rw [if_neg (by omega)]
    rfl
  · change execMemAccessEnable tag 0 s = _
    cases fuse : Config.fuseLocked with
    | false => exact mpMessage_of_body_nil aux (if_neg (by simp [free, fuse]))
    | true =>
      rw [if_pos rfl]
      change execMemAccessEnable tag 0 s = .next (settle (emit _ s))
      rw [← mctpReply_up aux]
      exact mpMessage_of_body aux (if_pos (by simp [fuse]))
  · change execMemAccessDisable tag 0 s = _
    exact mpMessage_of_body_nil aux rfl
  · change execMemRead tag 0 a s = _
    refine mpMessage_of_body aux ?_
    rw [if_neg (by simp [open_]), if_neg (by simp [reach]), if_neg (by simp [on])]
    rfl
  · change execMemWrite tag 0 a bs s = _
    refine mpMessage_of_body_nil aux ?_
    rw [if_neg (by simp [open_]), if_neg (by simp [reach, hl]), if_neg (by simp [on])]
    rfl
  · change execEnablePort tag rsv s = _
    exact mpMessage_reserved aux bad
  · change execReadHwStatus tag rsv s = _
    exact mpMessage_reserved aux bad
  · rw [exec_jtagUnlock (by simp)]
    simp only [Bool.or_false]
    rfl
  · cases fuse : Config.fuseLocked with
    | false =>
      rw [exec_jtagUnlock fun _ => ⟨fuse, free, aux⟩]
      simp only [Bool.or_true]
      rfl
    | true => exact if_pos (by simp [fuse])

/-! A table after one of its entries is set. -/

theorem kvFind_kvSet_same {α : Type} (k : Nat) (x : α) : ∀ t : KV α, kvFind k (kvSet k x t) = some x
  | [] => if_pos rfl
  | (j, y) :: t => by
    unfold kvSet
    split
    · exact if_pos rfl
    · split
      · exact if_pos rfl
      next other => exact (if_neg (Ne.symm other)).trans (kvFind_kvSet_same k x t)

theorem kvFind_kvSet_other {α : Type} {k j : Nat} (x : α) (other : j ≠ k) : ∀ t : KV α,
    kvFind j (kvSet k x t) = kvFind j t
  | [] => if_neg (Ne.symm other)
  | (i, y) :: t => by
    unfold kvSet
    split
    · exact if_neg (Ne.symm other)
    · split
      next same => rw [kvFind, kvFind, if_neg (Ne.symm other), if_neg (by omega)]
      · rw [kvFind, kvFind, kvFind_kvSet_other x other t]

theorem kvGet_kvSet_same {α : Type} (d : α) (k : Nat) (x : α) (t : KV α) : kvGet d k (kvSet k x t) = x := by
  rw [kvGet, kvFind_kvSet_same, Option.getD_some]

/-! The Chronograph. -/

theorem exec_setTimeSourceLoad {m : Fin 16} {s : State} (takes : mbxTakes 0x0A01 (fun a => a.n 0 % 2 == 0) m s = true)
    (load : s.arg m 0 = 0) :
    let u := stepTo (s.arg m 1 * 2 ^ 32) ((s.arg m 1 : Int) - s.now) 1 s
    exec (.setTimeSourceLoad m) s = .next (settle (mbxComplete m St.ok [] { u with time := { u.time with
      timeSet := true, r := 0, st := .free, stamps := [], past := false, inLock := 0, excursions := 0 } })) := by
  intro u
  change execSetTimeSourceLoad m s = _
  rw [execSetTimeSourceLoad]
  exact mbxCommand_of_done takes (if_neg (not_not_intro load))

theorem exec_setTimeSourcePps {m : Fin 16} {s : State} (takes : mbxTakes 0x0A01 (fun a => a.n 0 % 2 == 1) m s = true)
    (pulse : s.arg m 1 = 0) :
    let u := { s with time := { s.time with allowStep := bit (s.arg m 0) 1 } }
    exec (.setTimeSourcePps m) s = .next (settle (mbxComplete m St.ok [] (if u.time.st = .free then
      { u with time := { u.time with
        st := .acquiring, r := 0, stamps := [], edges := 0, past := false, inLock := 0, excursions := 0 } } else u))) := by
  intro u
  change execSetTimeSourcePps m s = _
  rw [execSetTimeSourcePps]
  exact mbxCommand_of_done takes (if_neg (not_not_intro pulse))

/-- An edge past the acquisition point. -/
theorem exec_ppsEdge_past {sub : Fin 16} {p : Nat} {s : State} (on : s.powered = true) (used : s.time.st ≠ .free)
    (past : s.time.past = true) (last : s.time.lastStamp = some p) :
    let stamp := 16 * s.time.tclk + sub.val
    let o := edgeOffset (s.time.c / 2 ^ 28 + sub.val)
    exec (.ppsEdge sub) s = finish (if onTime p stamp then acceptEdge stamp o o s
      else { s with time := { s.time with rejected := min (s.time.rejected + 1) 0xFFFFFFFF } }) := by
  intro stamp o
  change execPpsEdge sub s = _
  rw [execPpsEdge]
  dsimp only
  rw [if_neg (by simp [on, used]), if_pos past, last]
  dsimp only
  split <;> rfl

theorem exec_ppsEdge_acquires {sub : Fin 16} {p q : Nat} {l : List Nat} {s : State} (on : s.powered = true)
    (used : s.time.st ≠ .free) (before : s.time.past = false) (stamps : s.time.stamps = p :: q :: l)
    (onTime_ : onTime p (16 * s.time.tclk + sub.val) = true) :
    exec (.ppsEdge sub) s =
      finish (acquire (16 * s.time.tclk + sub.val) (edgeOffset (s.time.c / 2 ^ 28 + sub.val)) s) := by
  change execPpsEdge sub s = _
  rw [execPpsEdge, if_neg (by simp [on, used]), if_neg (by simp [before]), stamps]
  dsimp only
  rw [if_pos onTime_, if_pos (by simp)]

theorem exec_timeHoldover {p : Nat} {s : State} (last : s.time.lastStamp = some p) (past : s.time.past = true)
    (locked : s.time.st = .locked) (late : p + 32000000000 ≤ 16 * s.time.tclk) :
    exec .timeHoldover s = finish (post Ev.timeHoldover [s.time.lastC, sword s.time.f] { s with time := { s.time with
      st := .holdover, r := s.time.f, stamps := [], edges := 0, past := false, inLock := 0, excursions := 0 } }) := by
  change execTimeHoldover s = _
  rw [execTimeHoldover]
  dsimp only
  rw [last]
  exact if_pos (by simp [past, locked, late])

/-! Sensors and monitors. -/

/-- What a sample leaves once the sensor's value is stored: events, monitors, ALERT# and the rails. -/
structure SensorKept (s t : State) : Prop where
  sensors : t.sens.sensors = s.sens.sensors
  rest : (t.mem, t.mer, t.time, t.boot, t.sec) = (s.mem, s.mer, s.time, s.boot, s.sec)

theorem SensorKept.trans {s t u : State} (h : SensorKept s t) (k : SensorKept t u) : SensorKept s u :=
  ⟨k.sensors.trans h.sensors, k.rest.trans h.rest⟩

theorem post_sensorKept (code : Nat) (ws : List Nat) (s : State) : SensorKept s (post code ws s) := by
  have p := post_posted code ws (.refl s)
  exact ⟨by rw [p.sens], by rw [p.mem, p.mer, p.time, p.boot, p.sec]⟩

theorem alertPin_sensorKept (was : Bool) (s : State) : SensorKept s (alertPin was s) := by
  unfold alertPin
  split <;> exact ⟨rfl, rfl⟩

theorem SensorKept.tryRails {s t : State} (h : SensorKept s t) : SensorKept s (tryRails t) := by
  unfold Machine.tryRails
  dsimp only
  split
  · exact h.trans ⟨rfl, rfl⟩
  · exact h

/-- A monitor may take a sample. -/
theorem monSource_sensorKept (kind i : Nat) (v : Int) (s : State) :
    SensorKept s (match monSource kind i v with
      | some (src, v) => monSample src 0 v s
      | none => s) := by
  split <;> exact ⟨rfl, rfl⟩

/-- Sensor `k` has stored a value with its marks. -/
def Sensed (k : Nat) (marks : Int × Bool × Bool × Bool) (s t : State) : Prop :=
  ∃ y : Sensor, (y.value, y.valid, y.overWarning, y.overLimit) = marks ∧
    SensorKept { s with sens := { s.sens with sensors := kvSet k y s.sens.sensors } } t

theorem exec_sensorSample {kind i : Nat} {v : Int} {set : Nat} {s : State} (ok : sensorOk kind i = true) :
    ∃ t, exec (.sensorSample kind i v set) s = .next (settle t) ∧
      Sensed (sensorKey kind i) (v, true, (warnLimits kind i set).hit v, (shutLimits kind i set).hit v) s t := by
  change ∃ t, execSensorSample kind i v set s = _ ∧ _
  unfold execSensorSample
  extract_lets k low x isOver newInterval done y0 y put u w p l pow
  rw [if_neg (by simp [ok])]
  have stored : Sensed k (v, true, isOver, (shutLimits kind i set).hit v) s u := by
    simp only [u]
    split
    · exact ⟨_, rfl, post_sensorKept _ _ _⟩
    · split
      · exact ⟨_, rfl, post_sensorKept _ _ _⟩
      · exact ⟨_, rfl, ⟨rfl, rfl⟩⟩
  clear_value u done
  have monitored : SensorKept u w := by
    simp only [w]
    split
    · split
      · split
        · exact monSource_sensorKept _ _ _ _
        · exact ⟨rfl, rfl⟩
      · exact ⟨rfl, rfl⟩
    · exact monSource_sensorKept _ _ _ _
  clear_value w
  have pinned : SensorKept u p := monitored.trans (alertPin_sensorKept _ _)
  clear_value p
  obtain ⟨z, marks, kept⟩ := stored
  split
  · exact ⟨_, rfl, z, marks, .tryRails ((kept.trans pinned).trans ⟨rfl, rfl⟩)⟩
  · exact ⟨_, rfl, z, marks, kept.trans pinned⟩

/-! Monitors and the sensor records. -/

theorem draws_outside : ∀ (n : Nat) (s : State), (draws n s).2.sec = s.sec ∧ (draws n s).2.time = s.time
  | 0, _ => ⟨rfl, rfl⟩
  | n + 1, s => draws_outside n (draw s).2

theorem seeMonitor_outside (k : Nat) (s : State) :
    (seeMonitor k s).2.inTenant = s.inTenant ∧ (seeMonitor k s).2.now = s.now := by
  unfold seeMonitor
  dsimp only
  split
  · exact ⟨rfl, rfl⟩
  · obtain ⟨sec, time⟩ := draws_outside 68 s
    exact ⟨by simp only [State.inTenant, sec], by simp only [State.now, time]⟩

/-- A reply of bytes whose buffer serves. -/
theorem replyBytes_of_fits {a len align : Nat} {bs : List Byte} {more : List Nat} {s : State}
    (serves : bufCheck a len align s = none) (fits : bs.length ≤ len) :
    replyBytes a len align bs more s = .done St.ok (bs.length :: more) (devPut a bs s) := by
  rw [replyBytes, serves]
  exact if_neg (by omega)

theorem exec_configureMonitor {m : Fin 16} {s : State} (takes : mbxTakes 0x0A03 anyArgs m s = true)
    (plain : s.inTenant = false) (noEdges : s.arg m 1 = 0)
    (ok : bits (s.arg m 0) 17 16 = 1 ∧ sourceOk (bits (s.arg m 0) 15 8) = true ∨
      bits (s.arg m 0) 17 16 = 2 ∧ sourceOk (bits (s.arg m 0) 15 8) = true ∧ eventSource (bits (s.arg m 0) 15 8) = true ∨
      bits (s.arg m 0) 17 16 = 0 ∧ bits (s.arg m 0) 15 8 = 0) :
    exec (.configureMonitor m) s = .next (settle (mbxComplete m St.ok [] { s with sens := { s.sens with
      monitors := kvPut {} (bits (s.arg m 0) 3 0) { mode := bits (s.arg m 0) 17 16, source := bits (s.arg m 0) 15 8
                                                    edges := [], tStart := s.now } s.sens.monitors } })) := by
  change execConfigureMonitor m s = _
  rw [execConfigureMonitor]
  refine mbxCommand_of_done takes ?_
  dsimp only
  simp only [State.arg] at noEdges ok ⊢
  rw [if_neg ?_, if_neg (by simp [plain]), if_pos noEdges]
  rw [noEdges]
  obtain ⟨mode, source⟩ | ⟨mode, source, event⟩ | ⟨mode, source⟩ := ok
  · simp [mode, source]
  · simp [mode, source, event]
  · simp [mode, source]

theorem exec_readHistogram {m : Fin 16} {s : State} (takes : mbxTakes 0x0A04 anyArgs m s = true)
    (plain : s.inTenant = false) (serves : bufCheck (s.arg m 1) (s.arg m 2) 1 (seeMonitor (s.arg m 0) s).2 = none)
    (fits : (monitorRecord (s.arg m 0) (seeMonitor (s.arg m 0) s).1 s.now).length ≤ s.arg m 2) :
    let bs := monitorRecord (s.arg m 0) (seeMonitor (s.arg m 0) s).1 s.now
    exec (.readHistogram m) s =
      .next (settle (mbxComplete m St.ok [bs.length] (devPut (s.arg m 1) bs (seeMonitor (s.arg m 0) s).2))) := by
  intro bs
  obtain ⟨tenant, now⟩ := seeMonitor_outside (s.arg m 0) s
  change execReadHistogram m s = _
  rw [execReadHistogram]
  refine mbxCommand_of_done takes ?_
  dsimp only
  simp only [bs, State.arg] at serves fits tenant now plain ⊢
  rw [if_neg (by simp [tenant, plain]), now]
  exact replyBytes_of_fits serves fits

/-- Settles O26. -/
theorem timeAndMonitors : Obligations.TimeAndMonitors := by
  unfold Obligations.TimeAndMonitors
  refine ⟨fun s => ⟨fun m takes load => exec_setTimeSourceLoad takes load, fun m takes pulse => ⟨fun free => ?_,
    fun used => ?_⟩, fun m takes => ?_, fun sub on => ?_, fun p last past locked late =>
      exec_timeHoldover last past locked late⟩,
    fun s => ⟨fun kind i v set ok => ?_, fun kind i v set bad => if_pos (by simp [bad]), fun m takes plain noEdges => ?_,
      fun m takes plain => ?_, fun m takes => ?_⟩⟩
  · rw [exec_setTimeSourcePps takes pulse, if_pos free]
  · rw [exec_setTimeSourcePps takes pulse, if_neg used]
  · change execReadTimeStatus m s = _
    rw [execReadTimeStatus]
    exact mbxCommand_of_done takes rfl
  · intro stamp o
    refine ⟨fun free => if_pos (by simp [free]), fun p used past last onTime_ => ?_, fun p used past last stray => ?_,
      fun p q l used before stamps onTime_ => exec_ppsEdge_acquires on used before stamps onTime_⟩
    · rw [exec_ppsEdge_past on used past last, if_pos onTime_]
      rfl
    · rw [exec_ppsEdge_past on used past last, if_neg (by simp [stamp] at stray; simp [stray])]
      rfl
  · obtain ⟨t, done, y, marks, sensors, rest⟩ := exec_sensorSample (v := v) (set := set) ok
    simp only [Prod.mk.injEq] at marks rest
    obtain ⟨value, valid, warning, limit⟩ := marks
    obtain ⟨mem, mer, time, boot, sec⟩ := rest
    refine ⟨t, done, ?_, fun k other => ?_, mem, mer, time, boot, sec⟩
    · rw [sensors, kvGet_kvSet_same]
      exact ⟨value, valid, warning, limit⟩
    · rw [sensors, kvFind_kvSet_other _ other]
  · exact exec_configureMonitor takes plain noEdges
  · exact ⟨fun quiet => if_pos (by simpa using quiet), exec_readHistogram takes plain⟩
  · intro r bs serves fits
    change execReadSensors m s = _
    rw [execReadSensors]
    refine mbxCommand_of_done takes ?_
    dsimp only
    exact replyBytes_of_fits serves fits

end Sys2Proof.Machine
end
section
/-!
PROOF. Bring-up, saved settings and the bring-up report (19; O27).
-/

namespace Sys2Proof.Machine

/-- What events and the digest leave of a bring-up. -/
def State.bringup (s : State) : Boot × Memory × Meridian × TimeS × Rel := (s.boot, s.mem, s.mer, s.time, s.rel)

theorem post_bringup (code : Nat) (ws : List Nat) (s : State) : (post code ws s).bringup = s.bringup := by
  have p := post_posted code ws (.refl s)
  rw [State.bringup, State.bringup, p.boot, p.mem, p.mer, p.time, p.rel]

theorem digestStep_bringup (f : State → State) (s : State) : (digestStep f s).bringup = (f s).bringup := by
  unfold digestStep
  dsimp only
  split
  · exact post_bringup _ _ _
  · rfl

/-! Firmware and measurements. -/

theorem exec_firmwareBoot {s : State} (on : s.powered = true) (run : s.boot.run.isSome = true) (early : s.boot.phase < 2) :
    exec .firmwareBoot s = ((imageOk s.pow.imageA).orElse fun _ => imageOk s.pow.imageB).elim (finish (bootFail 1 0 s))
      fun x =>
        let u := setReport (fun r => { r with tBoot := s.bootMs }) s
        finish (observeBells { u with
          boot := { u.boot with phase := 2 }
          pow := { u.pow with running := some x }
          sec := { u.sec with dramKeys := u.sec.dramKeys + 1 } }) := by
  change execFirmwareBoot s = _
  rw [execFirmwareBoot, if_pos (by simp [on, run, early])]
  dsimp only
  cases (imageOk s.pow.imageA).orElse fun _ => imageOk s.pow.imageB <;> rfl

theorem exec_measureDone_badRail {r : Measured} {i : Nat} {s : State} (on : s.powered = true)
    (run : s.boot.run.isSome = true) (phase : s.boot.phase = 2) (bad : r.badRail = some i) :
    exec (.measureDone r) s = finish (bootFail 2 i s) := by
  change execMeasureDone r s = _
  rw [execMeasureDone, if_pos (by simp [on, run, phase]), bad]

theorem exec_measureDone {r : Measured} {s : State} (on : s.powered = true)
    (run : s.boot.run.isSome = true) (phase : s.boot.phase = 2) (rails : r.badRail = none) (temps : r.badTemp = none)
    (lp : r.badLp = none) :
    ∃ t, exec (.measureDone r) s = .next (settle t) ∧ t.boot.phase = 3 ∧ t.boot.run.any (·.measured) = true ∧
      (t.mem, t.mer, t.time, t.rel) = (s.mem, s.mer, s.time, s.rel) := by
  change ∃ t, execMeasureDone r s = _ ∧ _
  unfold execMeasureDone
  rw [if_pos (by simp [on, run, phase]), rails, temps, lp]
  dsimp -zeta only
  extract_lets memId saved far coldG coldL ports u v w boot x
  have digested : v.bringup = _ := digestStep_bringup _ u
  have nand : w.bringup = v.bringup := by
    simp only [w]
    split <;> rfl
  have refused : ((x.pow.cages.filter fun c => decide (c.2 > 12000)).foldl
      (fun s c => post Ev.cagePowerRefused [c.1, c.2] s) x).bringup = x.bringup :=
    foldl_view (view := State.bringup) (fun _ _ => post_bringup _ _ _) _ x
  have stored : w.bringup = _ := nand.trans digested
  clear_value w
  simp only [State.bringup, Prod.mk.injEq] at refused stored
  obtain ⟨boot_, mem, mer, time, rel⟩ := stored
  obtain ⟨bootX, memX, merX, timeX, relX⟩ := refused
  refine ⟨_, rfl, ?_, ?_, ?_⟩
  · rw [bootX]
  · rw [bootX]
    obtain ⟨b, hb⟩ := Option.isSome_iff_exists.mp run
    simp only [x, boot, boot_, setReport, u, setRun, hb, Option.map_some, Option.any_some]
  · rw [memX, merX, timeX, relX]
    simp only [x, mem, mer, time, rel]
    rfl

/-! The bridge. -/

theorem training_run {s : State} (training : s.training = true) : s.boot.run.isSome = true := by
  simp only [State.training, Bool.and_eq_true] at training
  exact training.1.2

theorem twoLanes_eq_none {lanes : List (Nat × Nat)} (ok : ∀ a ∈ lanes, ∀ b ∈ lanes, a.1 = b.1 → a.2 = b.2) :
    twoLanes lanes = none := by
  have none_ : lanes.filter (fun l => lanes.any fun x => x.1 == l.1 && x.2 != l.2) = [] := by
    rw [List.filter_eq_nil_iff]
    intro a ha two
    obtain ⟨b, hb, differ⟩ := List.any_eq_true.mp two
    simp only [Bool.and_eq_true, beq_iff_eq, bne_iff_ne] at differ
    exact differ.2 (ok b hb a ha differ.1)
  rw [twoLanes, none_]
  rfl

theorem foldl_min_isSome (l : List Nat) : ∀ x : Nat,
    ∃ g, l.foldl (fun m g => some (match m with | some x => Nat.min x g | none => g)) (some x) = some g := by
  induction l with
  | nil => exact fun x => ⟨x, rfl⟩
  | cons y l ih => exact fun x => ih _

theorem twoLanes_eq_some {lanes : List (Nat × Nat)} {a b : Nat × Nat} (ha : a ∈ lanes) (hb : b ∈ lanes)
    (group : a.1 = b.1) (lane : a.2 ≠ b.2) : ∃ g, twoLanes lanes = some g := by
  have mem : a.1 ∈ (lanes.filter fun l => lanes.any fun x => x.1 == l.1 && x.2 != l.2).map Prod.fst := by
    refine List.mem_map_of_mem (List.mem_filter.mpr ⟨ha, List.any_eq_true.mpr ⟨b, hb, ?_⟩⟩)
    simp [group, Ne.symm lane]
  unfold twoLanes
  cases found : (lanes.filter fun l => lanes.any fun x => x.1 == l.1 && x.2 != l.2).map Prod.fst with
  | nil => rw [found] at mem; simp at mem
  | cons y l => exact foldl_min_isSome l y

theorem exec_bridgeTrainDone_failed {lanes : List (Nat × Nat)} {failed : Option Nat} {d u : Nat} {w : Bool} {s : State}
    (training : s.training = true) (two : failed.or (twoLanes lanes) = some u) :
    exec (.bridgeTrainDone lanes failed d w) s = finish (bootFail 4 u s) := by
  change execBridgeTrainDone lanes failed d w s = _
  rw [execBridgeTrainDone, if_pos training, two]

theorem exec_bridgeTrainDone {lanes : List (Nat × Nat)} {d : Nat} {w : Bool} {s : State}
    (training : s.training = true) (one : twoLanes lanes = none) :
    ∃ t, exec (.bridgeTrainDone lanes none d w) s = .next (settle t) ∧
      t.boot.run.any (·.bridge) = true ∧ t.boot.sideDelay = d ∧ t.boot.report.tBridge = s.bootMs ∧
      t.boot.report.lanesSpared = s.boot.report.lanesSpared + (lanes.eraseDups.filter fun l => decide (l.2 < 20)).length ∧
      t.mem = s.mem := by
  change ∃ t, execBridgeTrainDone lanes none d w s = _ ∧ _
  unfold execBridgeTrainDone
  rw [if_pos training, Option.none_or, one]
  dsimp -zeta only
  extract_lets steered warm fell u ms v boot x
  generalize spared : List.foldl _ x lanes.eraseDups = y
  have kept : (y.boot, y.mem) = (x.boot, x.mem) := by
    rw [← spared]
    refine foldl_view (view := fun t => (t.boot, t.mem)) (fun t l => ?_) _ x
    dsimp only
    split
    · rfl
    · have p := post_posted Ev.bridgeLaneSpared [l.1 / 256, l.1 % 256, l.2] (.refl (count .lanesSpared (l.1 / 256) 1
        { t with rel := { t.rel with spared := kvSet l.1 l.2 t.rel.spared } }))
      rw [p.boot, p.mem]
      rfl
  simp only [Prod.mk.injEq] at kept
  obtain ⟨bootY, memY⟩ := kept
  obtain ⟨b, hb⟩ := Option.isSome_iff_exists.mp (training_run training)
  refine ⟨y, rfl, ?_⟩
  rw [bootY, memY]
  refine ⟨?_, rfl, ?_, rfl, rfl⟩
  · simp only [x, boot, v, setReport, u, setRun, hb, Option.map_some, Option.any_some]
  · simp only [x, boot, v, setReport, ms, u, setRun, State.bootMs, hb, Option.map_some]
    rfl

/-! The channels and the NAND interfaces. -/

theorem exec_dramTrainDone {tier : Fin 2} {ch : Nat} {r : TrainResult} {x : BootRun} {s : State}
    (training : s.training = true) (run : s.boot.run = some x) :
    exec (.dramTrainDone tier ch r) s =
      if tier = 0 then if ch < 256 then finish (trainGddr ch r x s) else finish s
      else if ch < 64 then
        let tried := x.saved.isSome && !x.coldL
        let warm := tried && r.warmOk
        if warm || r.coldOk then
          finish (bootFill 1 (setRun (fun x => { x with chansDone := setIns (256 + ch) x.chansDone })
            (trained (256 + ch) r tried warm false s)))
        else finish (bootFail 6 ch (untrained (256 + ch) tried s))
      else finish s := by
  change execDramTrainDone tier ch r s = _
  rw [execDramTrainDone, if_neg (by simp [training]), run]

theorem exec_nandTrainDone {n : Fin 8} {r : TrainResult} {x : BootRun} {s : State}
    (training : s.training = true) (run : s.boot.run = some x) :
    let u := setRun (fun x => { x with nandDone := setIns n.val x.nandDone }) s
    let warm := x.saved.isSome && r.warmOk
    exec (.nandTrainDone n r) s = finish (if (warm || r.coldOk) && !x.badNand.contains n.val then
        trained (320 + n.val) r x.saved.isSome warm false u
      else storeFail (untrained (320 + n.val) x.saved.isSome u)) := by
  intro u warm
  change execNandTrainDone n r s = _
  rw [execNandTrainDone, if_neg (by simp [training]), run]
  dsimp only
  split <;> rfl

/-! The store's index. -/

/-- What follows the index leaves of the bring-up: the run, the report's times, and memory. -/
def State.indexed (s : State) : Option BootRun × Nat × Memory := (s.boot.run, s.boot.report.tStore, s.mem)

theorem indexed_of_bringup {s t : State} (h : t.bringup = s.bringup) : t.indexed = s.indexed := by
  simp only [State.bringup, Prod.mk.injEq] at h
  rw [State.indexed, State.indexed, h.1, h.2.1]

theorem digestStep_indexed (f : State → State) (s : State) : (digestStep f s).indexed = (f s).indexed :=
  indexed_of_bringup (digestStep_bringup f s)

theorem retireCluster_indexed (c cause : Nat) (soft : Bool) (s : State) :
    (retireCluster c cause soft s).indexed = s.indexed :=
  (indexed_of_bringup (post_bringup _ _ _)).trans (digestStep_indexed _ s)

theorem exec_storeIndexLoaded {rep : List (Nat × Nat)} {no : Nat} {s : State} (training : s.training = true) :
    ∃ t, exec (.storeIndexLoaded rep no) s = finish
        (if (List.range 16).all fun i => t.boot.retired.getLsbD i then bootFail 7 0 t
         else if (List.range 16).all fun i => t.boot.retired.getLsbD (16 + i) then bootFail 7 1 t
         else bootFill 1 (bootFill 0 t)) ∧
      t.boot.run.any (·.index) = true ∧ t.boot.report.tStore = s.bootMs ∧ t.mem = s.mem := by
  change ∃ t, execStoreIndexLoaded rep no s = _ ∧ _
  unfold execStoreIndexLoaded
  rw [if_neg (by simp [training])]
  extract_lets ms u keys rel v w x y z t die
  have repaired : x.indexed = u.indexed := foldl_view (view := State.indexed)
    (fun t k => (rfl : (setChan (k / 2 ^ 20) (fun c => { c with ppr := c.ppr + 1 }) t).indexed = t.indexed)) keys w
  have known : z.indexed = y.indexed := by
    simp only [z]
    split
    · rfl
    · exact digestStep_indexed _ y
  have retired : t.indexed = z.indexed := foldl_view (view := State.indexed) (fun t c => by
    split
    · exact retireCluster_indexed _ _ _ t
    · rfl) _ z
  have kept : t.indexed = u.indexed := retired.trans (known.trans repaired)
  clear_value t
  simp only [State.indexed, Prod.mk.injEq] at kept
  obtain ⟨run, store, mem⟩ := kept
  obtain ⟨b, hb⟩ := Option.isSome_iff_exists.mp (training_run training)
  refine ⟨t, ?_, ?_, store, mem⟩
  · simp only [die, mul_zero, zero_add, mul_one]
    split
    · rfl
    · split <;> rfl
  · rw [run]
    simp only [u, setRun, setReport, hb, Option.map_some, Option.any_some]

/-- The module is ready. -/
theorem exec_bringupReady {x : BootRun} {s : State} (training : s.training = true) (run : s.boot.run = some x)
    (complete : x.complete = true) :
    ∃ t, exec .bringupReady s = .next (settle t) ∧ t.boot.ready = true ∧ t.boot.phase = 4 ∧
      t.boot.saveDue = x.cold ∧ t.boot.report.tReady = s.bootMs ∧ t.mem = s.mem ∧ t.mer = s.mer := by
  change ∃ t, execBringupReady s = _ ∧ _
  unfold execBringupReady
  rw [if_pos (by rw [training, run]; simpa using complete)]
  extract_lets ms u boot rel v r
  have kept := post_bringup Ev.bringupDone [r.warmMask, r.tReady, v.boot.retired.toNat, r.fallbacks] v
  simp only [State.bringup, Prod.mk.injEq] at kept
  obtain ⟨boot_, mem, mer, -, -⟩ := kept
  refine ⟨_, rfl, ?_, ?_, ?_, ?_, mem, mer⟩
  · rw [boot_]
  · rw [boot_]
  · rw [boot_]
    simp only [v, u, setReport, run, Option.any_some]
  · rw [boot_]
    rfl

/-- Settles O27. -/
theorem bringupEvents : Obligations.BringupEvents := by
  unfold Obligations.BringupEvents
  refine ⟨fun s on => ⟨fun good idle phase => ?_, fun run early => ⟨fun x a => ?_, fun x a b => ?_, fun a b => ?_⟩,
    fun r run phase => ⟨fun i bad => exec_measureDone_badRail on run phase bad, fun rails temps lp => ?_⟩,
    fun training => ⟨fun lanes d w ok => exec_bridgeTrainDone training (twoLanes_eq_none ok),
      fun lanes d w a b ha hb group lane => ?_, fun lanes u d w => exec_bridgeTrainDone_failed training rfl,
      fun ch r x lt run => ?_, fun ch r x lt run => ?_, fun n r x run => ?_⟩⟩, fun s => ⟨fun rep no training =>
      exec_storeIndexLoaded training, fun training => if_pos training, fun x => exec_bringupReady, fun ok up ready due =>
      ?_, fun m ok takes ready => ?_, fun m takes => ?_⟩⟩
  · exact if_pos (by simp [on, good, idle, phase])
  · rw [exec_firmwareBoot on run early, a]
    exact ⟨_, rfl, rfl, rfl, rfl, rfl, rfl, rfl⟩
  · rw [exec_firmwareBoot on run early, a, Option.orElse_none, b]
    exact ⟨_, rfl, rfl, rfl⟩
  · rw [exec_firmwareBoot on run early, a, Option.orElse_none, b]
    rfl
  · obtain ⟨t, done, phase', measured, kept⟩ := exec_measureDone on run phase rails temps lp
    simp only [Prod.mk.injEq] at kept
    exact ⟨t, done, phase', measured, kept⟩
  · obtain ⟨g, two⟩ := twoLanes_eq_some ha hb group lane
    exact ⟨g, two, exec_bridgeTrainDone_failed training (by rw [Option.none_or, two])⟩
  · rw [exec_dramTrainDone training run, if_pos rfl, if_pos lt]
    rfl
  · intro tried warm
    rw [exec_dramTrainDone training run, if_neg (by decide), if_pos lt]
    refine ⟨fun holds => if_pos ((Bool.or_eq_true _ _).mpr holds), fun cold bad => if_neg ?_⟩
    rw [show (x.saved.isSome && !x.coldL && r.warmOk) = false from cold, bad]
    simp
  · intro u warm
    have done := exec_nandTrainDone (n := n) (r := r) training run
    refine ⟨fun holds good => done.trans (congrArg finish (if_pos ?_)), fun bad => done.trans (congrArg finish (if_neg ?_))⟩
    · rw [Bool.and_eq_true, Bool.or_eq_true]
      exact ⟨holds, by simpa using good⟩
    · simp [bad]
  · exact if_pos (by simp [up, ready, due])
  · change execSaveTraining m ok s = _
    rw [execSaveTraining]
    exact mbxCommand_of_done takes (if_neg (by simp [ready]))
  · intro bs serves fits
    change execReadBringupReport m s = _
    rw [execReadBringupReport]
    refine mbxCommand_of_done takes ?_
    exact replyBytes_of_fits serves fits

end Sys2Proof.Machine
end
section
/-!
PROOF. Resets, Collimation and the field tests (19; O28 and O29).
-/

namespace Sys2Proof.Machine

theorem mbxCommand_of_run {op : Nat} {sel : Args → Bool} {m : Fin 16} {s t : State} {body : Args → State → Reply}
    (h : mbxTakes op sel m s = true) (run : body (s.mailbox m).accArgs s = .run t) :
    mbxCommand op sel m body s = .next (settle (setMbx m (fun x => { x with started := true }) t)) := by
  rw [mbxCommand_of_mbxTakes body h, run]
  rfl

/-! Resets. -/

theorem exec_resetModuleCompute {m : Fin 16} {s : State} (takes : mbxTakes 0x0901 (fun a => a.n 0 % 2 == 1) m s = true)
    (scope : s.arg m 0 % 4 = 1) (ready : s.boot.ready = true) (rest : bits (s.arg m 0) 20 16 = 0) :
    exec (.resetModuleCompute m) s = .next (settle (setMbx m (fun x => { x with started := true })
      (computeStart (some m.val) (bits (s.arg m 0) 9 8) s))) := by
  change execResetModuleCompute m s = _
  rw [execResetModuleCompute]
  refine mbxCommand_of_run takes (if_neg ?_)
  simp only [State.arg] at scope rest
  simp [scope, ready, rest]

theorem exec_resetModuleCluster {m : Fin 16} {s : State} (takes : mbxTakes 0x0901 (fun a => a.n 0 % 4 == 2) m s = true)
    (ready : s.boot.ready = true) (rest : bits (s.arg m 0) 9 8 = 0)
    (serves : s.boot.retired.getLsbD (bits (s.arg m 0) 20 16) = false) :
    let c := bits (s.arg m 0) 20 16
    let u := if s.boot.slice.any (fun x => x.cluster == c) then abandonSlice s else s
    let v := { u with boot := { u.boot with
      reset := some ⟨2, c, some m.val, u.cyc, u.now, 0, specApplying c u⟩ } }
    exec (.resetModuleCluster m) s = .next (settle (setMbx m (fun x => { x with started := true })
      (if specApplying c u = true then v else clusterDiscard c v))) := by
  intro c u v
  change execResetModuleCluster m s = _
  rw [execResetModuleCluster]
  refine mbxCommand_of_run takes (if_neg ?_)
  simp only [State.arg] at rest serves
  simp [ready, rest, serves]

/-- The end of a COMPUTE reset that no mailbox waits for. -/
theorem computeFinish_of_noMailbox {r : ResetRun} {s : State} (reset : s.boot.reset = some r) (mbx : r.mbx = none) :
    let v := computeRelease ((List.range 32).foldl (fun s c => zeroCluster c s) s)
    computeFinish s = post Ev.resetDone [1, 0, v.cyc - r.since] (peerResetDone v) := by
  unfold computeFinish
  rw [reset]
  dsimp only
  rw [mbx]
  rfl

theorem zeroClusters_mer_time (cs : List Nat) (s : State) :
    let t := cs.foldl (fun s c => zeroCluster c s) s
    (t.mer, t.time) = (s.mer, s.time) :=
  foldl_view (f := fun s c => zeroCluster c s) (view := fun t => (t.mer, t.time)) (fun _ _ => rfl) cs s

/-- What a COMPUTE reset leaves of semaphores, Meridian, time and the reset itself. -/
theorem computeFinish_leaves {r : ResetRun} {s : State} (reset : s.boot.reset = some r) (mbx : r.mbx = none) :
    let t := computeFinish s
    t.sems = [] ∧ t.boot.reset = none ∧
      t.mer = { s.mer with streams := s.mer.streams.map fun p => (p.1, { p.2 with halted := true }) } ∧ t.time = s.time := by
  intro t
  have done : t = _ := computeFinish_of_noMailbox reset mbx
  have zeroed := zeroClusters_mer_time (List.range 32) s
  simp only [Prod.mk.injEq] at zeroed
  obtain ⟨mer, time⟩ := zeroed
  revert done
  generalize List.foldl (fun s c => zeroCluster c s) s (List.range 32) = z at mer time ⊢
  intro done
  have peers : let v := computeRelease z
      ((peerResetDone v).sems, (peerResetDone v).boot, (peerResetDone v).mer, (peerResetDone v).time) =
      (v.sems, v.boot, v.mer, v.time) :=
    foldl_view (view := fun t => (t.sems, t.boot, t.mer, t.time)) (fun t i => by split <;> rfl) _ (computeRelease z)
  have p := post_posted Ev.resetDone [1, 0, (computeRelease z).cyc - r.since] (.refl (peerResetDone (computeRelease z)))
  simp only [Prod.mk.injEq] at peers
  obtain ⟨semsP, bootP, merP, timeP⟩ := peers
  rw [done, p.sems, p.boot, p.mer, p.time, semsP, bootP, merP, timeP, ← mer, ← time]
  exact ⟨rfl, rfl, rfl, rfl⟩

theorem exec_clusterResetDone_of_noMailbox {r : ResetRun} {s : State} (reset : s.boot.reset = some r)
    (mbx : r.mbx = none) (scope : r.scope = 2) (applied : r.waiting = false) :
    let v := clusterRelease r.cluster s
    exec .clusterResetDone s = .next (settle (post Ev.resetDone [2, r.cluster, v.cyc - r.since] v)) := by
  intro v
  change execClusterResetDone s = _
  rw [execClusterResetDone, reset]
  dsimp only
  rw [if_pos ⟨scope, applied⟩, mbx]
  rfl

/-- Settles O28. -/
theorem resets : Obligations.Resets := by
  unfold Obligations.Resets
  refine fun s => ⟨fun m => exec_resetModuleFull_of_zero, fun m => exec_resetModuleCompute,
    fun m takes ready rest => exec_resetModuleCluster takes ready rest, fun running filled => ?_,
    fun r => computeFinish_leaves, fun r reset scope applied mbx =>
      exec_clusterResetDone_of_noMailbox reset mbx scope applied⟩
  obtain ⟨r, reset, scope⟩ := (Option.any_eq_true _ _).mp running
  exact exec_computeResetDone reset (by simpa using scope) filled

/-! Collimation. -/

theorem exec_setCollimation_off {m : Fin 16} {s : State} (takes : mbxTakes 0x0905 anyArgs m s = true)
    (off : s.arg m 0 = 0) : exec (.setCollimation m) s =
      .next (settle (mbxComplete m St.ok [] { s with boot := { s.boot with colEnable := false } })) := by
  change execSetCollimation m s = _
  rw [execSetCollimation]
  exact mbxCommand_of_done takes (if_pos off)

theorem exec_setCollimation_on {m : Fin 16} {s : State} (takes : mbxTakes 0x0905 anyArgs m s = true)
    (on : s.arg m 0 ≠ 0) (period : 10 ≤ s.arg m 1 ∧ s.arg m 1 ≤ 86400) (budget : 31 ≤ s.arg m 2 ∧ s.arg m 2 ≤ 1000) :
    exec (.setCollimation m) s = .next (settle (mbxComplete m St.ok []
      { s with boot := { s.boot with colEnable := true, colPeriod := s.arg m 1, colBudget := s.arg m 2 } })) := by
  change execSetCollimation m s = _
  rw [execSetCollimation]
  simp only [State.arg] at on period budget
  exact mbxCommand_of_done takes ((if_neg on).trans (if_neg (by omega)))

section
variable {x : Slice} {s : State} (slice : s.boot.slice = some x)
include slice

theorem exec_collimationDrainEnd (phase : x.phase = .drain) :
    exec .collimationDrainEnd s =
      if clusterBusy x.cluster s = false ∨ s.boot.colLast + 2000000 ≤ s.cyc then
        finish (setSlice { x with phase := .clear } (clusterDiscard x.cluster s))
      else finish s := by
  change execCollimationDrainEnd s = _
  rw [execCollimationDrainEnd, slice]
  exact if_congr (by simp [phase]) rfl rfl

theorem exec_collimationClearDone (phase : x.phase = .clear) :
    exec .collimationClearDone s = finish (emit (.pin "SCAN_ENABLE" 1) (setSlice { x with phase := .march }
      (let u := zeroCluster x.cluster s
       { u with strm := { u.strm with mcast := kvDel x.cluster u.strm.mcast } }))) := by
  change execCollimationClearDone s = _
  rw [execCollimationClearDone, slice]
  exact if_pos phase

/-- A march without failing banks. -/
theorem exec_collimationMemoryTestDone_clean {multi : Bool} (phase : x.phase = .march) (blocks : x.blocks ≠ 0) :
    exec (.collimationMemoryTestDone [] multi) s = finish (setSlice { x with phase := .logic x.blocks } s) := by
  change execCollimationMemoryTestDone [] multi s = _
  rw [execCollimationMemoryTestDone, slice]
  dsimp only
  rw [if_pos phase, if_pos rfl, if_neg blocks]

/-- A logic block that is not the slice's last. -/
theorem exec_collimationBlockDone {n : Nat} {good retest : Bool} (phase : x.phase = .logic n) (more : 1 < n) :
    let b := kvGet 0 x.cluster s.boot.colBlock
    let u := { s with boot := { s.boot with colBlock := kvSet x.cluster ((b + 1) % 512) s.boot.colBlock } }
    let failed := post Ev.collimationFailed [x.cluster, b, 0, b2n (!retest)]
      (setReport (fun r => { r with colFailures := r.colFailures + 1 }) u)
    exec (.collimationBlockDone good retest) s = finish (
      if good then setSlice { x with phase := .logic (n - 1) } u
      else if retest then setSlice { x with phase := .logic (n - 1) } failed
      else setSlice { x with phase := .logic (n - 1), retire := some 1 }
        (if x.retire = some 1 then failed else post Ev.clusterRetired [x.cluster, 1] failed)) := by
  intro b u failed
  change execCollimationBlockDone good retest s = _
  rw [execCollimationBlockDone, slice]
  dsimp only
  rw [phase]
  simp only [if_neg (show ¬ n ≤ 1 by omega)]
  cases good <;> cases retest <;> rfl

/-- The slice's end on a cluster that stays in service. -/
theorem exec_collimationRestoreDone_kept (phase : x.phase = .restore) (kept : x.retire = none) :
    exec .collimationRestoreDone s = finish (setReport (fun r => { r with colSlices := r.colSlices + 1 })
      (let u := emit (.pin "SCAN_ENABLE" 0) (zeroCluster x.cluster s)
       { u with boot := { u.boot with slice := none } })) := by
  change execCollimationRestoreDone s = _
  rw [execCollimationRestoreDone, slice]
  dsimp only
  rw [if_pos phase, kept]

end

/-! The field tests. -/

theorem exec_runTrafficTest {m : Fin 16} {s : State} (takes : mbxTakes 0x0903 anyArgs m s = true)
    (pattern : bits (s.arg m 0) 19 16 < 4) (channel : ¬ (bits (s.arg m 0) 8 8 = 1 ∧ 64 ≤ bits (s.arg m 0) 7 0))
    (time : 1 ≤ s.arg m 1 ∧ s.arg m 1 ≤ 60000) :
    let chan := 256 * bits (s.arg m 0) 8 8 + bits (s.arg m 0) 7 0
    exec (.runTrafficTest m) s = .next (settle (setMbx m (fun x => { x with started := true }) (testMarks
      { s with boot := { s.boot with test := some ⟨m.val, false, chan, bits (s.arg m 0) 19 16, 0, 0⟩ } }))) := by
  change execRunTrafficTest m s = _
  rw [execRunTrafficTest]
  simp only [State.arg] at pattern channel time ⊢
  exact mbxCommand_of_run takes (if_neg (by omega))

theorem exec_trafficTestEnd {t : FieldTest} {e : Nat} {f : W64} {s : State} (test : s.boot.test = some t)
    (traffic : t.margin = false) (lt : e < 2 ^ 64) (free : kvHas (2 + t.chan / 256) s.tiers.fills = false) :
    exec (.trafficTestEnd e f) s = finish (startFill (2 + t.chan / 256)
      (.traffic t.mbx e (if e = 0 then 2 ^ 64 - 1 else f.toNat)) s) := by
  change execTrafficTestEnd e f s = _
  rw [execTrafficTestEnd, test]
  dsimp only
  rw [if_neg (by simp [traffic, free]), Nat.min_eq_left (by omega)]

theorem exec_tierFillDone_traffic {t : FieldTest} {tier : Fin 2} {m : Fin 16} {e w : Nat} {s : State}
    (test : s.boot.test = some t) (none_ : kvFind tier.val s.tiers.fills = none)
    (fill : kvFind (2 + tier.val) s.tiers.fills = some (.traffic m.val e w)) :
    let u := post Ev.trafficTestDone [t.chan / 256, t.chan % 256, e, w]
      (fillChannel t.chan { s with
        boot := { s.boot with test := none }, tiers := { s.tiers with fills := kvDel (2 + tier.val) s.tiers.fills } })
    mbxRuns 0x0903 m u = true → exec (.tierFillDone tier) s = finish (mbxComplete m St.ok [e, w] u) := by
  intro u runs
  change execTierFillDone tier s = _
  rw [execTierFillDone, none_]
  dsimp only
  rw [trafficFilled, fill, test]
  exact congrArg finish ((dif_pos m.isLt).trans (if_pos runs))

theorem exec_runMargining {m : Fin 16} {s : State} (takes : mbxTakes 0x0904 anyArgs m s = true)
    (channel : ¬ (bits (s.arg m 0) 8 8 = 1 ∧ 64 ≤ bits (s.arg m 0) 7 0))
    (serves : bufCheck (s.arg m 1) (s.arg m 2) 1 s = none)
    (fits : (if bits (s.arg m 0) 8 8 = 0 then 192 else 320) ≤ s.arg m 2) :
    exec (.runMargining m) s = .next (settle (setMbx m (fun x => { x with started := true }) { s with
      boot := { s.boot with
        test := some ⟨m.val, true, 256 * bits (s.arg m 0) 8 8 + bits (s.arg m 0) 7 0, 0, s.arg m 1, s.arg m 2⟩ } })) := by
  change execRunMargining m s = _
  rw [execRunMargining]
  simp only [State.arg] at channel serves fits ⊢
  refine mbxCommand_of_run takes ?_
  rw [if_neg (by omega), serves]
  exact if_neg (Nat.not_lt.mpr fits)

theorem length_leBytes : ∀ n x, (leBytes n x).length = n
  | 0, _ => rfl
  | n + 1, x => congrArg (· + 1) (length_leBytes n (x / 256))

theorem length_wordBytes : ∀ ws : List Nat, (wordBytes ws).length = 8 * ws.length
  | [] => rfl
  | w :: ws => by
    rw [wordBytes, List.flatMap_cons, List.length_append, length_leBytes, List.length_cons]
    have := length_wordBytes ws
    rw [wordBytes] at this
    omega

/-- The margin record of Table 19-10: its head and two words for each lane. -/
theorem exec_marginingDone {t : FieldTest} {m : Fin 16} {temp : Int} {pass : Bool} {lanes : List (Nat × Nat × Nat × Nat)}
    {s : State} (test : s.boot.test = some t) (margin : t.margin = true) (mbx : t.mbx = m.val)
    (runs : mbxRuns 0x0904 m s = true) :
    ∃ bs, bs.length = (if t.chan < 256 then 192 else 320) ∧
      exec (.marginingDone temp pass lanes) s = .next (settle (mbxComplete m St.ok [bs.length]
        (devPut t.dest bs { s with boot := { s.boot with test := none } }))) := by
  obtain ⟨k, g, chan, pat, dest, len⟩ := t
  obtain rfl : k = m.val := mbx
  obtain rfl : g = true := margin
  change ∃ bs, _ ∧ execMarginingDone temp pass lanes s = _
  unfold execMarginingDone
  rw [test]
  dsimp -zeta only
  rw [if_neg (show ¬(!true) = true by simp)]
  extract_lets n head lane bs u
  refine ⟨bs, ?_, (dif_pos m.isLt).trans (if_pos runs)⟩
  have lanes_ (l : List Nat) : (l.flatMap lane).length = 2 * l.length := by
    induction l with
    | nil => rfl
    | cons i l ih =>
      rw [List.flatMap_cons, List.length_append, ih, List.length_cons]
      exact (Nat.add_comm 2 _).trans (Nat.mul_succ 2 _).symm
  rw [length_wordBytes, List.length_append, lanes_, List.length_range]
  simp only [n]
  split <;> rfl

/-- Settles O29. -/
theorem collimationAndFieldTests : Obligations.CollimationAndFieldTests := by
  unfold Obligations.CollimationAndFieldTests
  refine ⟨fun s x => ⟨fun m takes => ⟨exec_setCollimation_off takes, fun on lo hi blo bhi =>
      exec_setCollimation_on takes on ⟨lo, hi⟩ ⟨blo, bhi⟩⟩, fun slice => ⟨fun phase => ⟨fun ends => ?_, fun busy early => ?_⟩,
      exec_collimationClearDone slice, fun multi phase => exec_collimationMemoryTestDone_clean slice phase,
      fun n retest phase more => ⟨?_, fun kept => ?_⟩, exec_collimationRestoreDone_kept slice⟩⟩,
    fun s m => ⟨fun takes pattern channel lo hi free => ?_, fun t e f => exec_trafficTestEnd,
      fun t tier e w test none_ fill runs => exec_tierFillDone_traffic test none_ fill runs,
      fun takes channel serves fits => exec_runMargining takes channel serves fits,
      fun t temp pass lanes test margin mbx runs => ?_⟩⟩
  · rw [exec_collimationDrainEnd slice phase, if_pos ends]
    rfl
  · rw [exec_collimationDrainEnd slice phase, if_neg (by simp [busy]; omega)]
    rfl
  · rw [exec_collimationBlockDone slice phase more]
    rfl
  · rw [exec_collimationBlockDone slice phase more]
    simp only [kept]
    rfl
  · rw [exec_runTrafficTest takes pattern channel ⟨lo, hi⟩, testMarks]
    dsimp only
    rw [if_neg (by simp [free])]
    rfl
  · exact exec_marginingDone test margin mbx runs

end Sys2Proof.Machine
end
section
/-!
PROOF. Queues, streams and layer programs (04, 05; O30 and O31).
-/

namespace Sys2Proof.Machine

/-! Commands on queues and streams. -/

theorem exec_destroyQueue {m : Fin 16} {x : Queue} {s : State} (takes : mbxTakes 0x0102 anyArgs m s = true)
    (found : kvFind (s.arg m 0) s.mer.queues = some x) :
    exec (.destroyQueue m) s = finish (Reply.settle m (
      if !(s.stream x.stream).halted || s.mer.tasks.any (fun p => p.2.queue == s.arg m 0 && p.2.phase != .head) then
        .done St.queueBusy [] s
      else .done St.ok [] (unbindStream x.stream { s with mer := { s.mer with
        queues := kvDel (s.arg m 0) s.mer.queues, tasks := s.mer.tasks.filter fun p => p.2.queue != s.arg m 0 } }))) := by
  change execDestroyQueue m s = _
  rw [execDestroyQueue, mbxCommand_of_mbxTakes _ takes]
  simp only [State.arg] at found ⊢
  rw [found]
  rfl

/-- CREATE_QUEUE, its arguments those of a queue in DRAM that binds its stream. -/
theorem exec_createQueue {m : Fin 16} {s : State} {x : Queue} (takes : mbxTakes 0x0101 anyArgs m s = true)
    (queue : x = { ring := s.arg m 1, log := bits (s.arg m 0) 36 32, cpl := s.arg m 2, tailWord := s.arg m 3
                   stream := bits (s.arg m 0) 23 16, bind := true, held := bit (s.arg m 0) 29
                   vec := bits (s.arg m 0) 47 40, moder := bits (s.arg m 0) 55 48 })
    (bind : bit (s.arg m 0) 28 = true) (log : 4 ≤ x.log ∧ x.log ≤ 16) (vec : x.vec = 0xFF)
    (ring : inDram x.ring = true ∧ inDram (x.ring + 64 * 2 ^ x.log - 1) = true ∧
      tierOf x.ring = tierOf (x.ring + 64 * 2 ^ x.log - 1) ∧ x.ring % 4096 = 0)
    (cpl : inDram x.cpl = true ∧ inDram (x.cpl + 64 * 2 ^ x.log - 1) = true ∧
      tierOf x.cpl = tierOf (x.cpl + 64 * 2 ^ x.log - 1) ∧ x.cpl % 4096 = 0)
    (word : x.tailWord % 8 = 0 ∧ regionOf x.tailWord = regionOf x.cpl ∧ regionOf (x.tailWord + 7) = regionOf x.cpl)
    (mode : s.sec.mode ≠ .tenantBounce) :
    exec (.createQueue m) s = finish (Reply.settle m (
      if kvHas (bits (s.arg m 0) 15 0) s.mer.queues then .done St.queueInUse [] s
      else if (s.stream x.stream).cls.any (· != bits (s.arg m 0) 27 24) then .done St.streamClassConflict [] s
      else .done St.ok [] (setStream x.stream (fun y => { y with cls := some (bits (s.arg m 0) 27 24) })
        { s with mer := { s.mer with queues := kvSet (bits (s.arg m 0) 15 0) x s.mer.queues } }))) := by
  subst queue
  change execCreateQueue m s = _
  rw [execCreateQueue, mbxCommand_of_mbxTakes _ takes]
  simp only [State.arg] at bind log vec ring cpl word ⊢
  obtain ⟨ring1, ring2, ring3, ring4⟩ := ring
  obtain ⟨cpl1, cpl2, cpl3, cpl4⟩ := cpl
  obtain ⟨word1, word2, word3⟩ := word
  rw [if_neg (by simp [bind, log, vec, ring1, ring2, ← ring3, ring4, cpl1, cpl2, ← cpl3, cpl4, word1, word2, word3, aligned])]
  rw [if_neg (show ¬ (s.sec.mode = .tenantBounce ∧ _) from fun h => mode h.1)]
  simp only [bind, Bool.true_and, if_true]
  rfl

/-- Settles O30. -/
theorem queueCommands : Obligations.QueueCommands := by
  unfold Obligations.QueueCommands
  refine fun m s => ⟨fun q x takes num found => ⟨fun halted idle => ?_, fun runs => ?_⟩, fun takes => ?_,
    fun takes => ⟨fun halted => ?_, fun runs => ?_⟩, fun takes => ?_, fun takes => ?_, fun takes => ?_⟩
  · subst num
    rw [exec_destroyQueue takes found, if_neg (by simp [halted, idle])]
    rfl
  · subst num
    rw [exec_destroyQueue takes found, if_pos (by simp [runs])]
    rfl
  · intro w q x bind lo hi vec r1 r2 r3 r4 c1 c2 c3 c4 w1 w2 w3 mode
    have created := exec_createQueue (x := x) takes rfl bind ⟨lo, hi⟩ vec ⟨r1, r2, r3, r4⟩ ⟨c1, c2, c3, c4⟩ ⟨w1, w2, w3⟩ mode
    refine ⟨fun used => ?_, fun free cls => ?_⟩
    · rw [created, if_pos used]
      rfl
    · rw [created, if_neg (by simp only [w, q] at free; simp [free]), if_neg ?_]
      · rfl
      · obtain cls | cls := cls
        · rw [cls]
          simp
        · rw [cls]
          simp [w]
  · change execHaltStream m s = _
    rw [execHaltStream]
    exact mbxCommand_of_done takes (congrArg (Reply.done St.ok []) (if_pos halted))
  · change execHaltStream m s = _
    rw [execHaltStream]
    exact mbxCommand_of_done takes (congrArg (Reply.done St.ok []) (if_neg (Bool.eq_false_iff.mp runs)))
  · change execResumeStream m s = _
    rw [execResumeStream]
    exact mbxCommand_of_done takes rfl
  · change execResetStream m s = _
    rw [execResetStream]
    exact mbxCommand_of_done takes rfl
  · refine ⟨Vector.ofFn fun i => BitVec.ofNat 8 (s.arg m (i.val / 8) / 2 ^ (8 * (i.val % 8))), fun i => ?_, ?_⟩
    · exact Vector.getElem_ofFn _
    · change execSetClassShares m s = _
      rw [execSetClassShares]
      exact mbxCommand_of_done takes rfl

/-! Layer programs. -/

/-- LOAD_LAYER_PROGRAM of an image that has been read. -/
theorem exec_loadLayerProgram {m : Fin 16} {s t v : State} {head body : List Byte}
    (takes : mbxTakes 0x0107 anyArgs m s = true) (serves : bufCheck (s.arg m 0) (s.arg m 1) 1 s = none)
    (buf : 64 ≤ s.arg m 1) (readHead : devRead (s.arg m 0) 64 s = (none, head, t)) (whole : head.length = 64)
    (size : 64 < (LpImage.mk head).size ∧ (LpImage.mk head).size ≤ 268435456 ∧ (LpImage.mk head).size ≤ s.arg m 1)
    (readBody : devRead (s.arg m 0) (LpImage.mk head).size t = (none, body, v)) :
    let x : LpImage := ⟨body ++ List.replicate (64 - body.length) 0⟩
    let h := ((List.range 64).find? fun i => !kvHas i v.prog).getD 0
    exec (.loadLayerProgram m) s = finish (Reply.settle m ((x.refusal (s.arg m 1) v).elim
      (.done St.ok [h] (x.stageRecs.foldl (fun s r => setStream r.stream (fun y => { y with cls := some r.cls }) s)
        { v with prog := kvSet h ⟨s.arg m 0, x.size, x.h 439 432, x.h 431 416, x.stageRecs⟩ v.prog }))
      fun r => .done r.1 r.2 v)) := by
  intro x h
  change execLoadLayerProgram m s = _
  rw [execLoadLayerProgram, mbxCommand_of_mbxTakes _ takes]
  simp only [State.arg] at serves buf readHead size readBody ⊢
  have image : head ++ List.replicate (64 - head.length) 0 = head := by rw [whole]; exact List.append_nil _
  have least : Nat.min (Args.n (s.mailbox m).accArgs 1) 64 = 64 := Nat.min_eq_right buf
  obtain ⟨big, limit, fits⟩ := size
  have sized : 64 ≤ (LpImage.mk head).size ∧ (LpImage.mk head).size ≤ 268435456 ∧
      (LpImage.mk head).size ≤ Args.n (s.mailbox m).accArgs 1 := ⟨big.le, limit, fits⟩
  have more : ¬ ((none : Option Nat).isSome = true ∨ (LpImage.mk head).size ≤ 64) := by
    rintro (absurd_ | small)
    · cases absurd_
    · exact absurd small (Nat.not_le.mpr big)
  simp only [serves, least, readHead, image, if_pos sized, if_neg more, readBody]
  rw [if_neg (by simp)]
  cases LpImage.refusal ⟨body ++ List.replicate (64 - body.length) 0⟩ (Args.n (s.mailbox m).accArgs 1) v <;> rfl

theorem exec_unloadLayerProgram {m : Fin 16} {g : Program} {s : State} (takes : mbxTakes 0x0108 anyArgs m s = true)
    (found : kvFind (s.arg m 0) s.prog = some g) :
    exec (.unloadLayerProgram m) s = finish (Reply.settle m (
      if g.stages.any (fun x => !(s.stream x.stream).halted) then .done St.lpInUse [] s
      else .done St.ok [] (g.stages.foldl (fun s x => unbindStream x.stream s)
        { s with prog := kvDel (s.arg m 0) s.prog }))) := by
  change execUnloadLayerProgram m s = _
  rw [execUnloadLayerProgram, mbxCommand_of_mbxTakes _ takes]
  simp only [State.arg] at found ⊢
  rw [found]

/-- Settles O31. -/
theorem programCommands : Obligations.ProgramCommands := by
  unfold Obligations.ProgramCommands
  refine fun m s => ⟨fun takes => ?_, fun takes => ⟨fun none_ => ?_, fun g found => ⟨fun runs => ?_, fun halted => ?_⟩⟩,
    fun takes => ?_⟩
  · intro a buf r size q serves least clean whole big limit fits clean' x
    have loaded := exec_loadLayerProgram takes serves least (Prod.ext (y := (none, r.2.1, r.2.2)) clean rfl) whole
      ⟨big, limit, fits⟩ (Prod.ext (y := (none, q.2.1, q.2.2)) clean' rfl)
    refine ⟨fun st res bad => ?_, fun good => ?_⟩
    · rw [loaded, bad]
      rfl
    · rw [loaded, good]
      rfl
  · change execUnloadLayerProgram m s = _
    rw [execUnloadLayerProgram, mbxCommand_of_mbxTakes _ takes]
    simp only [State.arg] at none_
    rw [none_]
    rfl
  · rw [exec_unloadLayerProgram takes found, if_pos runs]
    rfl
  · rw [exec_unloadLayerProgram takes found, if_neg (by simp only [halted]; simp)]
    rfl
  · intro n c lo lt fits
    change execSetCoelostatConfig m s = _
    rw [execSetCoelostatConfig]
    refine mbxCommand_of_done takes ?_
    simp only [n, c, State.arg] at lo lt fits ⊢
    rw [if_neg (show ¬ bits (Args.n (s.mailbox m).accArgs 0) 5 0 = 0x3F by omega)]
    refine if_neg ?_
    simp
    omega

end Sys2Proof.Machine
end
section
/-!
PROOF. Fetching, admission, selection, stealing, lending and accounting (05; O32 and O33).
-/

namespace Sys2Proof.Machine

/-! Fetching a descriptor. -/

/-- The task of a descriptor that queue `q` has fetched: it gets the next number and stands at the queue's head. -/
def fetched (q : Nat) (x : Queue) (d : Desc) (s : State) : State :=
  let t := s.mer.nextTask
  count .finderReads d.die 1 { s with mer := { s.mer with
    nextTask := t + 1
    tasks := kvSet t { desc := d, queue := q, stream := x.stream, cls := (s.stream x.stream).cls.getD 0
                       since := x.headSince, fetchAt := s.cyc, loc := d.home } s.mer.tasks
    queues := kvUpd q (fun x => ({ x with
      head := x.head + 1, reserved := x.reserved + 1, fetched := some t, cplSince := none
      exhausted := x.exhausted.filter (· != x.head) } : Queue).passSkips) s.mer.queues } }

theorem exec_descriptorFetch {q : Nat} {x : Queue} {bad : Option Nat} {bs : List Byte} {d : Desc} {s v w u : State}
    (found : kvFind q s.mer.queues = some x) (may : s.mayFetch x = true) (slot : x.hasSlot = true)
    (free : x.cplSince = none) (open_ : x.head ∉ x.exhausted)
    (read : devRead (x.ring + 64 * (x.head.toNat % 2 ^ x.log)) 64 s = (bad, bs, v)) (desc : bytesWords bs = d)
    (bridged : bridge d.die false (x.ring + 64 * (x.head.toNat % 2 ^ x.log)) 64 v = w) (task : fetched q x d w = u) :
    exec (.descriptorFetch q) s = finish (bad.elim
      ((checkDesc u d.home x.stream u.stepStreams 0 d).elim (noteWaits u)
        fun r => rejectTask w.mer.nextTask r.1 r.2 u)
      fun a => rejectTask w.mer.nextTask Ts.poisoned a u) := by
  change execDescriptorFetch q s = _
  rw [execDescriptorFetch, found]
  dsimp only
  rw [if_neg (by simp [may]), if_neg (by simp [slot]), free]
  dsimp only
  rw [read]
  dsimp only
  rw [if_neg (by simpa using open_), desc, bridged]
  subst task
  cases bad with
  | some a => rfl
  | none =>
    change (match checkDesc (fetched q x d w) d.home x.stream (fetched q x d w).stepStreams 0 d with
      | some (st, det) => finish (rejectTask w.mer.nextTask st det (fetched q x d w))
      | none => finish (noteWaits (fetched q x d w))) = _
    cases checkDesc (fetched q x d w) d.home x.stream (fetched q x d w).stepStreams 0 d <;> rfl

/-! Admission. -/

/-- The task of a core or a unit that the class, stream and queue order name. -/
theorem exec_taskAdmit {die : Fin 2} {t : Nat} {k : Task} {s : State}
    (next : (noteWaits (chargeAll s)).admitNext die.val = some (t, k)) (unit : k.desc.type ≤ 8) :
    let u := noteWaits (chargeAll s)
    exec (.taskAdmit die) s = finish (noteWaits (admitTask t
      (if k.desc.core then k.desc.home
        else if clusterUnit k.desc.type then (u.unitCluster k.desc).getD k.desc.cluster else k.desc.die)
      (tookTurn k u))) := by
  intro u
  change execTaskAdmit die s = _
  rw [execTaskAdmit, next]
  dsimp only
  rw [admitNow]
  split
  · omega
  · omega
  · omega
  · omega
  · rfl

theorem exec_taskComplete {t cyc stall : Nat} {k : Task} {s : State} (task : s.task t = some k)
    (phase : k.phase = .finished) (sent : s.fab.inject.any (fun x => x.task == some t) = false) :
    let u := setTask t (fun k => { k with overtime := s.overtime k }) s
    exec (.taskComplete t cyc stall) s = finish (noteWaits
      (if k.desc.core then endTask t false cyc stall u else endTask t false 0 0 u)) := by
  intro u
  change execTaskComplete t cyc stall s = _
  rw [execTaskComplete, task]
  exact if_neg (by simp [phase, sent])

/-- Settles O32. -/
theorem fetchAndAdmit : Obligations.FetchAndAdmit := by
  unfold Obligations.FetchAndAdmit
  refine fun s => ⟨fun q x found may slot free open_ => ?_, fun die c st q t k => ?_, fun t k cyc stall =>
    exec_taskComplete⟩
  · extract_lets r v0 d v t mer u
    have fetch {bad : Option Nat} (clean : r.1 = bad) := exec_descriptorFetch (d := d) (w := v) (u := u) found may slot
      free open_ (Prod.ext (y := (bad, r.2.1, r.2.2)) clean rfl) rfl rfl rfl
    refine ⟨fun a bad => ?_, fun st det clean bad => ?_, fun clean good => ?_⟩
    · rw [fetch bad, Option.elim_some]
      rfl
    · rw [fetch clean, Option.elim_none, bad, Option.elim_some]
      rfl
    · rw [fetch clean, Option.elim_none, good, Option.elim_none]
      rfl
  · intro u r0 r1 r2 cls stream queue found unit hc hst hq
    have next : u.admitNext die.val = some (t, k) := by
      rw [State.admitNext]
      simp only [r0, r1, r2] at cls stream queue found
      simp only [cls, stream, queue, found]
    rw [exec_taskAdmit next unit, tookTurn, hc, hst, hq]
    rfl

end Sys2Proof.Machine
end
section
/-!
PROOF. Selection, stealing, lending and accounting (05; O33).
-/

namespace Sys2Proof.Machine

/-! Charging. -/

/-- What charging leaves: time and the weights set for the next period. -/
def State.uncharged (s : State) : TimeS × Vector (BitVec 8) 16 := (s.time, s.mer.weightsNext)

theorem chargeTask_uncharged (t : Nat) (s : State) : (chargeTask t s).uncharged = s.uncharged := by
  unfold chargeTask
  split
  · rfl
  · split
    · rfl
    · dsimp only
      split
      · split <;> rfl
      · split <;> rfl

theorem chargeCopy_uncharged (slot : Nat) (x : StashCopy) (s : State) : (chargeCopy slot x s).uncharged = s.uncharged := by
  unfold chargeCopy
  split <;> rfl

theorem chargeAll_uncharged (s : State) : (chargeAll s).uncharged = s.uncharged := by
  have lends (u : State) : (endCreditLends u).uncharged = u.uncharged :=
    foldl_view (view := State.uncharged) (f := fun s (l : Lend) => setTask l.holder (fun k => { k with lent := none }) s)
      (fun _ _ => rfl) _ u
  exact (lends _).trans ((foldl_view (view := State.uncharged) (fun t _ => chargeCopy_uncharged _ _ t) _ _).trans
    (foldl_view (view := State.uncharged) (fun t _ => chargeTask_uncharged _ t) _ s))

/-! Selection. -/

/-- A task takes its place in a core's selection: 0 none, 1 next to run, 2 the one after it. -/
def place (t n : Nat) (s : State) : State :=
  setTask t (fun k => { k with place := n, phase := if n = 0 then .admitted else .selected }) s

theorem exec_coreSelect {core : Fin 512} {vec : Bool} {s : State} :
    exec (.coreSelect core vec) s = finish (issueAll core.val (coreSelect core.val vec s)) := rfl

/-- The tasks of a core of the kind that is selected. -/
def kindOf (core : Nat) (vec : Bool) (u : State) : List (Nat × Task) :=
  (u.runQueue core).filter fun p => p.2.desc.engine != vec

theorem coreSelect_down {core : Nat} {vec : Bool} {s : State} (down : (chargeAll s).clusterUp (core / 16) = false) :
    coreSelect core vec s = chargeAll s := by
  rw [coreSelect]
  exact if_pos (by simp [down])

/-- The first choice and the second among the rest. -/
theorem coreSelect_up {core : Nat} {vec : Bool} {s u v : State} {kind : List (Nat × Task)} (charged : chargeAll s = u)
    (up : u.clusterUp (core / 16) = true) (kinds : kindOf core vec u = kind)
    (put : kind.foldl (fun s p => place p.1 0 s) u = v) :
    let mine := kind.filter fun p => u.startable p.1 p.2
    coreSelect core vec s = (v.choose (core / 256) mine).elim v fun x =>
      let clash := (v.runQueue core).filter fun p => p.1 != x.1 && p.2.bound && stageClash x.2 p.2
      let w := place x.1 1 (clash.foldl (fun s p => unstage p.1 s) v)
      let rest := mine.filter fun p => p.1 != x.1 && !stageClash p.2 x.2 && !stageClash x.2 p.2
      (w.choose (core / 256) rest).elim w fun y => place y.1 2 w := by
  intro mine
  subst charged
  rw [coreSelect]
  dsimp only
  rw [if_neg (by simp [up])]
  have second (o : Option (Nat × Task)) (w : State) :
      (match o with | none => w | some (y, _) => place y 2 w) = o.elim w fun y => place y.1 2 w := by
    cases o <;> rfl
  subst kinds put
  change (match (State.choose (List.foldl (fun s p => place p.1 0 s) _ (kindOf core vec _)) _ mine) with
    | none => _
    | some (t, k) => _) = _
  cases State.choose _ _ mine with
  | none => rfl
  | some x => exact second _ _

/-! Stealing. -/

theorem exec_stealAttempt {core : Fin 512} {idle l v : Nat} {ts : List (Nat × Task)} {s : State}
    (still : (s.runQueue core.val).any (fun p => s.startable p.1 p.2) = false)
    (up : s.clusterUp (core.val / 16) = true) (open_ : s.inCompute = false)
    (free : s.mer.moves.any (fun m => m.thief == core.val) = false)
    (found : (if idle ≥ 512 then [1, 2, 3] else if idle ≥ 64 then [1, 2] else [1]).findSome?
      (fun l => (mostOf (s.victims core.val l)).map fun v => (l, v)) = some (l, v, ts)) :
    exec (.stealAttempt core idle) s = finish
      ((oldestN (Nat.min (match (generalizing := false) l with | 1 => 1 | 2 => 2 | _ => 4) (8 - s.runLoad core.val)) ts).foldl
        (fun s t => stealTask core.val v l t s) s) := by
  change execStealAttempt core idle s = _
  rw [execStealAttempt]
  dsimp only
  rw [if_neg (by simp [still, up, open_, free]), found] <;> rfl

/-! Lending. -/

theorem exec_lendStart {t h : Nat} {k x : Task} {want : Wanted} {s u : State} (charged : chargeAll s = u)
    (task : u.task t = some k) (waits : u.waiterOn t k = some want) (holder : u.holderOf k.payer want = some (h, x))
    (first : u.mer.lends.any (fun l => l.waiter == t) = false) (single : x.lent = none)
    (more : u.effective x.dieOf x.cls < u.effective x.dieOf k.payer)
    (depth : ((u.mer.lends.find? fun l => l.holder == t).map Lend.depth).getD 0 + 1 ≤ 4)
    (room : u.mer.lends.countP (fun l => l.die == x.dieOf) < 64) :
    exec (.lendStart t) s = finish (setTask h (fun x => { x with lent := some k.payer })
      { u with mer := { u.mer with lends := u.mer.lends ++
        [⟨x.dieOf, t, h, k.payer, ((u.mer.lends.find? fun l => l.holder == t).map Lend.depth).getD 0 + 1,
          match (generalizing := false) want with | .sem _ => none | .credit i v => some (i, v)⟩] } }) := by
  subst charged
  change execLendStart t s = _
  rw [execLendStart]
  dsimp only
  rw [task]
  dsimp only
  rw [waits]
  dsimp only
  rw [holder]
  dsimp only
  rw [if_neg (by simp [first, single, more]), if_neg (by omega)] <;> rfl

/-! The end of an accounting period. -/

/-- What charging and the period's end leave, and what the end gives. -/
theorem exec_accountingPeriodEnd (s : State) :
    ∃ t, exec .accountingPeriodEnd s = finish t ∧ t.mer.weights = s.mer.weightsNext ∧ t.mer.charged = [] ∧
      t.mer.unitCharged = [] ∧ t.mer.periodStart = s.cyc ∧
      ∀ c : Fin 16, t.mer.deficit[c] = clampD (let u := chargeAll s
        deficitStep ((List.range 16).map fun c => kvGet 0 c u.mer.charged).sum
          ((List.range 16).map fun c => if u.mer.active.contains c then u.weight c else 0).sum
          (u.weight c) (kvGet 0 c.val u.mer.charged) (u.mer.active.contains c.val) u.mer.deficit[c]) := by
  obtain ⟨time, weights⟩ := Prod.ext_iff.mp (chargeAll_uncharged s)
  refine ⟨_, rfl, ?_⟩
  generalize List.foldl _ 0 (List.range 16) = mask
  have same {c : Prop} [Decidable c] {ws : List Nat} (u : State) :
      (if c then u else post Ev.deficitBound ws u).mer = u.mer := by
    split
    · rfl
    · exact (post_posted _ _ (.refl u)).mer
  rw [same]
  refine ⟨weights, rfl, rfl, congrArg TimeS.tclk time, fun c => ?_⟩
  simp

/-- Settles O33. -/
theorem selectStealLend : Obligations.SelectStealLend := by
  unfold Obligations.SelectStealLend
  refine fun s => ⟨fun core vec => ?_, fun core idle l v ts => exec_stealAttempt, fun core => rfl,
    fun t k want h x => ?_, exec_accountingPeriodEnd s, rfl⟩
  · intro u kind mine put v
    have sel (up : u.clusterUp (core.val / 16) = true) : coreSelect core.val vec s =
        (v.choose (core.val / 256) mine).elim v _ := coreSelect_up (u := u) (kind := kind) (v := v) rfl up rfl rfl
    refine ⟨fun down => ?_, fun up none => ?_, fun t k up first => ?_⟩
    · rw [exec_coreSelect, coreSelect_down down]
      rfl
    · rw [exec_coreSelect, sel up, none]
      rfl
    · intro clash w rest
      have chosen : coreSelect core.val vec s = (w.choose (core.val / 256) rest).elim w fun y => put y.1 2 w := by
        rw [sel up, first]
        rfl
      refine ⟨fun none => ?_, fun x some => ?_⟩
      · rw [exec_coreSelect, chosen, none]
        rfl
      · rw [exec_coreSelect, chosen, some]
        rfl
  · intro u task waits holder depth
    exact exec_lendStart rfl task waits (by cases want <;> exact holder)

end Sys2Proof.Machine
end
section
/-!
PROOF. Errors in SRAM (17, R412 and R414; O48).
-/

namespace Sys2Proof.Machine

/-! Errors in core and cluster SRAM. -/

theorem sramMeet_once (w : Nat) (s : State) : sramMeet w false s =
    count .sramCe (if regionOf (8 * w) = some .coreSram then coreOf (8 * w) / 16 else clusterOf (8 * w)) 1
      { s with rel := { s.rel with sramErrs := kvDel w s.rel.sramErrs } } := by
  rw [sramMeet]
  by_cases core : regionOf (8 * w) = some .coreSram <;> simp [core]

theorem sramMeet_poisoned {w : Nat} {s : State} (poisoned : 8 * w / 64 ∈ s.rel.sramPoison) :
    sramMeet w true s = { s with rel := { s.rel with sramErrs := kvDel w s.rel.sramErrs } } := by
  simp [sramMeet, poisoned]

theorem sramMeet_twice {w : Nat} {s : State} (clean : 8 * w / 64 ∉ s.rel.sramPoison) :
    sramMeet w true s =
      sramLost (if regionOf (8 * w) = some .coreSram then 2 else 3)
        (if regionOf (8 * w) = some .coreSram then coreOf (8 * w) else clusterOf (8 * w))
        (if regionOf (8 * w) = some .coreSram then coreOf (8 * w) / 16 else clusterOf (8 * w)) (8 * w) false
        (count .sramUe (if regionOf (8 * w) = some .coreSram then coreOf (8 * w) / 16 else clusterOf (8 * w)) 1
          { s with rel := { s.rel with
            sramErrs := kvDel w s.rel.sramErrs, sramPoison := setIns (8 * w / 64) s.rel.sramPoison } }) := by
  rw [sramMeet]
  by_cases core : regionOf (8 * w) = some .coreSram <;> simp [core, clean]

theorem sramLost_sramPoison (wher idx unit a : Nat) (fatal : Bool) (s : State) :
    (sramLost wher idx unit a fatal s).rel.sramPoison = s.rel.sramPoison := by
  cases fatal
  · exact (congrArg Rel.sramPoison (post_posted Ev.sramUncorrectable [wher, idx, a, 0] (.refl s)).rel :)
  · exact (congrArg Rel.sramPoison (postFatal_posted Ev.sramUncorrectable [wher, idx, a, 1] (.refl s)).rel :)

/-- A word of clean SRAM in error poisons its line when two of its bits are wrong. -/
theorem sramMeet_sramPoison {w : Nat} {twice : Bool} {s : State} (clean : s.rel.sramPoison = []) :
    (sramMeet w twice s).rel.sramPoison = if twice = true then [8 * w / 64] else [] := by
  cases twice with
  | false =>
    rw [sramMeet_once]
    exact clean
  | true =>
    rw [sramMeet_twice (by simp [clean]), sramLost_sramPoison]
    exact congrArg (setIns _) clean

/-- A read of SRAM that takes in the one word in error. -/
theorem sramReads_single {w a n : Nat} {twice : Bool} {s : State} (errs : s.rel.sramErrs = [(w, twice)])
    (low : a ≤ 8 * w) (high : 8 * w + 8 ≤ a + n) : sramReads a n s = sramMeet w twice s := by
  rw [sramReads, if_neg (by omega), errs]
  have within : (decide (a / 8 ≤ w) && decide (w ≤ (a + n - 1) / 8)) = true := by
    simp only [Bool.and_eq_true, decide_eq_true_eq]
    omega
  simp [within]

theorem devRead_sram {a n : Nat} {s : State} (sram : regionOf a = some .coreSram ∨ regionOf a = some .clusterSram) :
    devRead a n s = ((sramReads a n s).firstPoison a n, (sramReads a n s).mem.read a n, sramReads a n s) := by
  rw [devRead]
  obtain core | cluster := sram
  · rw [core]
  · rw [cluster]

theorem inDram_of_sram {a : Nat} (sram : regionOf a = some .coreSram ∨ regionOf a = some .clusterSram) :
    inDram a = false := by
  obtain region | region := sram <;> simp [inDram, region]

/-- The first poison a read of SRAM meets, of one poisoned line that it takes in or of none. -/
theorem firstPoison_sram {a n w : Nat} {twice : Bool} {s : State} (sram : inDram a = false) (low : a ≤ 8 * w)
    (high : 8 * w + 8 ≤ a + n) (poison : s.rel.sramPoison = if twice = true then [8 * w / 64] else []) :
    s.firstPoison a n = if twice = true then some (max a (8 * w / 64 * 64)) else none := by
  rw [State.firstPoison, if_neg (by omega), if_neg (by simp [sram]), poison]
  have within : (decide (a / 64 ≤ 8 * w / 64) && decide (8 * w / 64 ≤ (a + n - 1) / 64)) = true := by
    simp only [Bool.and_eq_true, decide_eq_true_eq]
    omega
  cases twice with
  | false => rfl
  | true => simp [within]

/-- A write that takes in the one word in error whole reads nothing and leaves no error. -/
theorem sramOver_single {w a n : Nat} {twice : Bool} {s : State} (errs : s.rel.sramErrs = [(w, twice)])
    (low : a ≤ 8 * w) (high : 8 * w + 8 ≤ a + n) :
    sramOver a n s = { s with rel := { s.rel with sramErrs := [] } } := by
  have missed {b : Nat} (out : w < b / 8 ∨ b / 8 < w) : sramReads b 1 s = s := by
    have none : (decide (b / 8 ≤ w) && decide (w ≤ b / 8)) = false := by
      rw [← Bool.not_eq_true, Bool.and_eq_true, decide_eq_true_eq, decide_eq_true_eq]
      omega
    simp [sramReads, errs, none]
  have first : (if a % 8 = 0 then s else sramReads a 1 s) = s := by
    split
    · rfl
    · exact missed (by omega)
  have last : (if (a + n) % 8 = 0 then s else sramReads (a + n - 1) 1 s) = s := by
    split
    · rfl
    · exact missed (by omega)
  have gone : (decide (w < a / 8) || decide ((a + n - 1) / 8 < w)) = false := by
    rw [← Bool.not_eq_true, Bool.or_eq_true, decide_eq_true_eq, decide_eq_true_eq]
    omega
  rw [sramOver, if_neg (by rw [errs]; simp; omega)]
  dsimp only
  rw [first, last, errs]
  simp [gone]

theorem sramWrite_sramErrs (a : Nat) (bs : List Byte) (s : State) :
    (sramWrite a bs s).2.rel.sramErrs = (sramOver a bs.length s).rel.sramErrs := by
  rw [sramWrite]
  dsimp only
  split <;> rfl

theorem zeroCluster_sramErrs {w x : Nat} {twice : Bool} {s : State} (errs : s.rel.sramErrs = [(w, twice)])
    (high : 8 * w < 0x20000000000 + 0x1000000 * (x + 1)) (low : 0x20000000000 + 0x1000000 * x ≤ 8 * w / 64 * 64) :
    (zeroCluster x s).rel.sramErrs = [] := by
  rw [zeroCluster, errs]
  refine List.filter_eq_nil_iff.mpr fun p mem => ?_
  obtain rfl := List.mem_singleton.mp mem
  simp only [Bool.and_eq_true, Bool.or_eq_true, decide_eq_true_eq]
  omega

/-! What an error in a unit's SRAM leaves: bring-up's phase, so that a tick does nothing else. -/

theorem sramLost_boot (wher idx unit a : Nat) (fatal : Bool) (s : State) :
    (sramLost wher idx unit a fatal s).boot = s.boot :=
  (sramLost_dram wher idx unit a fatal (.refl s)).boot

/-- What discarding a task leaves: bring-up, memory and the numbers of the tasks. -/
def State.tasked (s : State) : Boot × Memory × List Nat := (s.boot, s.mem, s.mer.tasks.map Prod.fst)

theorem keys_kvUpd {α : Type} (k : Nat) (f : α → α) : ∀ t : KV α, (kvUpd k f t).map Prod.fst = t.map Prod.fst
  | [] => rfl
  | (j, y) :: t => by
    rw [kvUpd]
    split
    · rfl
    · exact congrArg (j :: ·) (keys_kvUpd k f t)

theorem kvFind_eq_none {α : Type} {k : Nat} : ∀ {t : KV α}, k ∉ t.map Prod.fst → kvFind k t = none
  | [], _ => rfl
  | (j, y) :: t, h => by
    rw [List.map_cons, List.mem_cons, not_or] at h
    rw [kvFind, if_neg (Ne.symm h.1)]
    exact kvFind_eq_none h.2

theorem kvFind_kvDel_single {α : Type} {k : Nat} : ∀ {t : KV α}, (t.map Prod.fst).count k ≤ 1 → kvFind k (kvDel k t) = none
  | [], _ => rfl
  | (j, y) :: t, h => by
    rw [kvDel]
    rw [List.map_cons, List.count_cons] at h
    split
    next same =>
      refine kvFind_eq_none (List.count_eq_zero.mp ?_)
      simpa [same] using h
    next other =>
      rw [kvFind, if_neg (Ne.symm other)]
      exact kvFind_kvDel_single (by omega)

theorem setTask_tasked (t : Nat) (f : Task → Task) (s : State) : (setTask t f s).tasked = s.tasked := by
  rw [State.tasked, State.tasked, ← keys_kvUpd t f s.mer.tasks]
  rfl

theorem chargeTask_tasked (t : Nat) (s : State) : (chargeTask t s).tasked = s.tasked := by
  unfold chargeTask
  split
  · rfl
  · split
    · rfl
    · extract_lets ns c u
      refine Eq.trans ?_ (setTask_tasked t (fun k => { k with charged := s.now }) s)
      split
      · split <;> rfl
      · split <;> rfl

theorem cancelWatch_tasked (k : Task) (s : State) : (cancelWatch k s).tasked = s.tasked := by
  unfold cancelWatch
  split
  · split <;> rfl
  · rfl

theorem collAbort_tasked (t st : Nat) (s : State) : (collAbort t st s).tasked = s.tasked := by
  unfold collAbort
  split
  · rfl
  · dsimp only
    split <;> split <;> rfl

/-- Discarding a task takes its entry and leaves memory and bring-up. -/
theorem discardTask_tasked (t : Nat) (s : State) :
    (discardTask t s).boot = s.boot ∧ (discardTask t s).mem = s.mem ∧
      ((s.mer.tasks.map Prod.fst).count t ≤ 1 → (discardTask t s).task t = none) := by
  unfold discardTask
  split
  next found => exact ⟨rfl, rfl, fun _ => found⟩
  next k found =>
    extract_lets u v
    have kept : u.tasked = s.tasked :=
      (cancelWatch_tasked k _).trans ((collAbort_tasked t Ts.aborted _).trans (chargeTask_tasked t s))
    rw [State.tasked, State.tasked, Prod.mk.injEq, Prod.mk.injEq] at kept
    obtain ⟨boot, mem, keys⟩ := kept
    refine ⟨boot, mem, fun single => kvFind_kvDel_single ?_⟩
    change (u.mer.tasks.map Prod.fst).count t ≤ 1
    rwa [keys]

/-- Clearing a half of a slot's record writes memory. -/
theorem clearHalf_wrote (die : Nat) (x : FactorSlot) (h : Bool) (s : State) : Wrote s (clearHalf die x h s) :=
  Wrote.foldl _ (fun u _ => diePut_wrote die _ _ (.refl u)) _ s

theorem kvFind_kvUpd_same {α : Type} (k : Nat) (f : α → α) : ∀ t : KV α, kvFind k (kvUpd k f t) = (kvFind k t).map f
  | [] => rfl
  | (j, y) :: t => by
    rw [kvUpd, kvFind]
    by_cases same : k = j
    · subst same
      rw [if_pos rfl, if_pos rfl, kvFind, if_pos rfl]
      rfl
    · rw [if_neg same, if_neg (Ne.symm same), kvFind, if_neg (Ne.symm same)]
      exact kvFind_kvUpd_same k f t

/-- A slot whose fold is abandoned, before the swap's semaphore is told. -/
def foldDropped (i : Nat) (x : FactorSlot) (s : State) : State :=
  let s := setSlot i (fun y => y.setHalf (!s.phot.epoch) {}) (clearHalf (x.fcore / 256) x (!s.phot.epoch) s)
  { s with phot := { s.phot with
    todo := s.phot.todo.filter (· != i), started := kvDel i s.phot.started, waits := kvDel i s.phot.waits } }

theorem abandonFold_kept {i : Nat} {x : FactorSlot} {s : State} (found : kvFind i s.phot.slots = some x)
    (open_ : i ∈ s.phot.todo) :
    (abandonFold i s).boot = s.boot ∧ (abandonFold i s).phot = (foldDropped i x s).phot := by
  have dropped : (foldDropped i x s).boot = s.boot := (clearHalf_wrote (x.fcore / 256) x (!s.phot.epoch) s).boot
  rw [abandonFold, found]
  change (if _ then s else if _ then (semAdd Config.foldSem.toNat 1 (foldDropped i x s)).2 else foldDropped i x s).boot = _ ∧
    (if _ then s else if _ then (semAdd Config.foldSem.toNat 1 (foldDropped i x s)).2 else foldDropped i x s).phot = _
  rw [if_neg (by simp [open_])]
  split
  · have told := semAdd_wrote Config.foldSem.toNat 1 (.refl (foldDropped i x s))
    exact ⟨told.boot.trans dropped, told.phot⟩
  · exact ⟨dropped, rfl⟩

theorem abandonFold_boot (i : Nat) (s : State) : (abandonFold i s).boot = s.boot := by
  cases found : kvFind i s.phot.slots with
  | none => rw [abandonFold, found]
  | some x =>
    by_cases open_ : i ∈ s.phot.todo
    · exact (abandonFold_kept found open_).1
    · rw [abandonFold, found]
      exact congrArg State.boot (if_pos (by simp [open_]))

/-- The generation of a slot whose fold is abandoned stays the current one. -/
theorem abandonFold_slot {i : Nat} {x k : FactorSlot} {s : State} (found : kvFind i s.phot.slots = some x)
    (open_ : i ∈ s.phot.todo) (after : kvFind i (abandonFold i s).phot.slots = some k) :
    k.gen = x.gen ∧ k.cur = x.cur ∧ i ∉ (abandonFold i s).phot.todo := by
  have cleared : (clearHalf (x.fcore / 256) x (!s.phot.epoch) s).phot = s.phot := (clearHalf_wrote _ _ _ _).phot
  rw [(abandonFold_kept found open_).2] at after ⊢
  have slot : kvFind i (foldDropped i x s).phot.slots = some (x.setHalf (!s.phot.epoch) {}) := by
    refine (kvFind_kvUpd_same i _ _).trans ?_
    rw [cleared, found]
    rfl
  obtain rfl := Option.some.inj (slot.symm.trans after)
  have done : i ∉ (foldDropped i x s).phot.todo := by
    simp [foldDropped]
  rw [FactorSlot.setHalf]
  split <;> exact ⟨rfl, rfl, done⟩

theorem freeRx_boot (i : Nat) (p : Packet) (s : State) : (freeRx i p s).boot = s.boot := by
  rw [freeRx, ringTakeBack]
  dsimp only
  split
  · rfl
  · exact foldl_view (view := State.boot) (fun u k => (devRead_dram _ _ (.refl u)).boot) _ _

theorem malformed_boot (i : Nat) (crc : Bool) (s : State) : (malformed i crc s).boot = s.boot := by
  have told (c : List Nat) (f : Fabric) :
      (post Ev.fabricMalformed c { count (if crc then .crcDrop else .malformed) (portDie i) 1 s with fab := f }).boot =
        s.boot := (post_posted _ _ (.refl _)).boot
  rw [malformed]
  dsimp only
  split
  · rw [apply_ite State.boot, told, ite_eq_right_iff]
    exact fun _ => rfl
  · exact told _ _

theorem scrubStart_phase (trigger : ScrubTrigger) (target : Mode) (tdisp : Tdisp) (rings : Option Bounce) (s : State) :
    (scrubStart trigger target tdisp rings s).boot.phase = s.boot.phase := by
  by_cases calm : s.sec.scrub = none
  · have started := congrArg (·.2.2) (scrubStart_secured (trigger := trigger) (target := target) (tdisp := tdisp)
      (rings := rings) calm rfl)
    have stopped : (abandonSlice (bounceFlush (mbxEndAll St.tenantEnded none s))).secured = s.secured :=
      (abandonSlice_secured _).trans ((bounceFlush_secured _).trans (mbxEndAll_secured _ _ s))
    exact started.trans (congrArg (·.2.2) stopped)
  · rw [scrubStart, if_pos (Option.isSome_iff_ne_none.mpr calm)]

theorem shutterLost_phase (s : State) : (shutterLost s).boot.phase = s.boot.phase := by
  rw [shutterLost]
  split
  · exact scrubStart_phase _ _ _ _ _
  · split <;> rfl

theorem unitLost_phase (e : UnitErr) (s : State) : (unitLost e s).boot.phase = s.boot.phase := by
  rw [unitLost]
  cases e.unit with
  | ephem => exact congrArg Boot.phase (sramLost_boot _ _ _ _ _ _)
  | slots => exact congrArg Boot.phase ((sramLost_boot _ _ _ _ _ _).trans (abandonFold_boot _ _))
  | tables => exact congrArg Boot.phase (sramLost_boot _ _ _ _ _ _)
  | meridian => exact congrArg Boot.phase ((sramLost_boot _ _ _ _ _ _).trans (discardTask_tasked _ _).1)
  | orrery =>
    dsimp only
    split
    · exact congrArg Boot.phase (sramLost_boot _ _ _ _ _ _)
    · exact congrArg Boot.phase ((sramLost_boot _ _ _ _ _ _).trans ((malformed_boot _ _ _).trans (freeRx_boot _ _ _)))
  | shutter => exact (congrArg Boot.phase (sramLost_boot _ _ _ _ _ _)).trans (shutterLost_phase s)
  | almanac => rfl

/-- A tick of a module that has left phase 0 meets the oldest error in a unit's SRAM, and does no more. -/
theorem step_unitErr {e : UnitErr} {rest : List UnitErr} {s u : State} (empty : s.pending = []) (powered : s.powered = true)
    (phase : s.boot.phase ≠ 0) (errs : s.rel.unitErrs = e :: rest)
    (tick : { tclkCycle s with rel := { s.rel with unitErrs := rest } } = u) :
    step s = .next (if e.twice then unitLost e u else u) := by
  have met : unitMeet (tclkCycle s) = if e.twice then unitLost e u else u := by
    subst tick
    rw [unitMeet]
    change (match s.rel.unitErrs with
      | [] => tclkCycle s
      | e :: rest => _) = _
    rw [errs]
    rfl
  have stays : (unitMeet (tclkCycle s)).boot.phase ≠ 0 := by
    rw [met]
    subst tick
    split
    · rwa [unitLost_phase]
    · exact phase
  rw [step, empty]
  dsimp only
  rw [idle, if_pos powered]
  dsimp only
  rw [if_neg fun h => stays h.1, met]

/-- Settles O48. -/
theorem sramErrors : Obligations.SramErrors := by
  unfold Obligations.SramErrors
  refine ⟨fun w s => ⟨sramMeet_once w s, sramMeet_poisoned, sramMeet_twice⟩, fun w a n x twice s errs some low high sram =>
    ⟨fun clean => ?_, fun bs len => ?_, fun _ within => zeroCluster_sramErrs errs within.1 within.2⟩,
    fun e rest s empty powered phase errs => ?_⟩
  · have reads := sramReads_single errs low high
    rw [devRead_sram sram, reads]
    exact ⟨firstPoison_sram (inDram_of_sram sram) low high (sramMeet_sramPoison clean), rfl⟩
  · subst len
    rw [sramWrite_sramErrs, sramOver_single errs low high]
  · intro u
    have met := step_unitErr (u := u) empty powered phase errs rfl
    have lost (twice : e.twice = true) : step s = .next (unitLost e u) := met.trans (congrArg _ (if_pos twice))
    refine ⟨fun once => met.trans (congrArg _ (if_neg (by simp [once]))), ?_, ?_, ?_, ?_, fun p rx twice unit queue => ?_,
      fun twice unit tenant => ?_, fun twice unit open_ calm => ?_, ?_, fun i x k => abandonFold_slot,
      fun t single => ?_⟩
    · intro twice unit
      rw [lost twice, unitLost, unit]
    · intro twice unit
      rw [lost twice, unitLost, unit]
    · intro twice unit
      rw [lost twice, unitLost, unit]
      rfl
    · intro twice unit
      rw [lost twice, unitLost, unit]
    · rw [lost twice, unitLost, unit]
      change Host.Outcome.next (match (s.port e.idx).rx with
        | [] => _
        | p :: _ => _) = _
      rw [queue]
    · rw [lost twice, unitLost, unit]
      exact congrArg (fun x => Host.Outcome.next (sramLost 4 e.idx 0 0 false x)) (if_pos tenant)
    · rw [lost twice, unitLost, unit]
      refine congrArg (fun x => Host.Outcome.next (sramLost 4 e.idx 0 0 false x)) ((if_neg ?_).trans (if_neg ?_))
      · exact Bool.eq_false_iff.mp open_
      · change ¬ s.sec.scrub.isSome = true
        simp [calm]
    · intro twice unit
      rw [lost twice, unitLost, unit]
    · have discarded := discardTask_tasked t u
      exact ⟨discarded.2.2 single.le, discarded.2.1⟩

end Sys2Proof.Machine
end
section
/-!
PROOF. Semaphore, timer and step tasks (04, 05; O35).
-/

namespace Sys2Proof.Machine

/-- A task that the class, stream and queue order names is admitted, by its type. -/
theorem admitOwn_atHead {t ty : Nat} {k : Task} {s : State} (head : (noteWaits (chargeAll s)).atHead t ty = some k) :
    admitOwn t ty s = admitNow t k (noteWaits (chargeAll s)) ∧ k.desc.type = ty := by
  have type : k.desc.type = ty := by
    rw [State.atHead] at head
    split at head
    · cases head
    · split at head
      next named =>
        cases head
        exact named.1
      · cases head
  rw [admitOwn, head]
  exact ⟨rfl, type⟩

/-- A SEM_WAIT's place once it is admitted: its deadline counts from now. -/
def waitAdmitted (t : Nat) (k : Task) (a : State) : State :=
  setTask t (fun x => { x with deadline := if k.desc.f 4 63 0 = 0 then 0 else a.now + k.desc.f 4 63 0 }) a

theorem semWait_remote {t : Nat} {k : Task} {s a : State} (admitted : admitTask t k.desc.die s = a)
    (remote : (waitAdmitted t k a).remote (k.desc.f 2 63 0) = true) :
    semWait t k s = parkWait t (waitAdmitted t k a) := by
  subst admitted
  rw [semWait]
  exact if_pos remote

theorem semWait_local {t : Nat} {k : Task} {s a : State} (admitted : admitTask t k.desc.die s = a)
    (home : (waitAdmitted t k a).remote (k.desc.f 2 63 0) = false) :
    let c := ((waitAdmitted t k a).sem ((gaAddr (k.desc.f 2 63 0) - 0x30000000000) / 8)).count.toNat
    semWait t k s =
      if k.desc.f 3 63 32 ≤ c then setTask t (fun k => { k with phase := .finished, result := c }) (waitAdmitted t k a)
      else setTask t (fun k => { k with phase := .parked }) (waitAdmitted t k a) := by
  intro c
  subst admitted
  rw [semWait]
  exact if_neg (Bool.eq_false_iff.mp home)

theorem exec_semWait {t : Nat} {k : Task} {s : State} (head : (noteWaits (chargeAll s)).atHead t 0x9 = some k) :
    exec (.semWait t) s = finish (noteWaits (semWait t k (tookTurn k (noteWaits (chargeAll s))))) := by
  obtain ⟨admitted, type⟩ := admitOwn_atHead head
  change finish (admitOwn t 0x9 s) = _
  rw [admitted, admitNow, type]
  rfl

theorem exec_semSignal {t : Nat} {k : Task} {s : State} (head : (noteWaits (chargeAll s)).atHead t 0xA = some k) :
    exec (.semSignal t) s = finish (noteWaits (semSignal t k (tookTurn k (noteWaits (chargeAll s))))) := by
  obtain ⟨admitted, type⟩ := admitOwn_atHead head
  change finish (admitOwn t 0xA s) = _
  rw [admitted, admitNow, type]
  rfl

theorem exec_timerTask {t : Nat} {k : Task} {s : State} (head : (noteWaits (chargeAll s)).atHead t 0xB = some k) :
    exec (.timerTask t) s = finish (noteWaits (timerTask t k (tookTurn k (noteWaits (chargeAll s))))) := by
  obtain ⟨admitted, type⟩ := admitOwn_atHead head
  change finish (admitOwn t 0xB s) = _
  rw [admitted, admitNow, type]
  rfl

theorem exec_stepMark {t : Nat} {k : Task} {s : State} (head : (noteWaits (chargeAll s)).atHead t 0xC = some k) :
    exec (.stepMark t) s = finish (noteWaits (stepMark t k (tookTurn k (noteWaits (chargeAll s))))) := by
  obtain ⟨admitted, type⟩ := admitOwn_atHead head
  change finish (admitOwn t 0xC s) = _
  rw [admitted, admitNow, type]
  rfl

/-- A SEM_SIGNAL to another module sends a SEM_OP, a local one sets the count or adds to it. -/
theorem semSignal_eq {t : Nat} {k : Task} {s u : State}
    (admitted : setTask t (fun k => { k with phase := .finished }) (admitTask t k.desc.die s) = u) :
    semSignal t k s =
      if u.remote (k.desc.f 2 63 0) then sendPkts [{
        pkt := { typ := .semOp, cls := 2, dst := gaModule (k.desc.f 2 63 0), src := u.ownId, flow := 0xFD
                 addr := gaAddr (k.desc.f 2 63 0), op := k.desc.f 3 63 62, operand := k.desc.f 3 31 0 }
        die := k.desc.die, task := some t }] u
      else if k.desc.f 3 63 62 = 1 then
        semSet ((gaAddr (k.desc.f 2 63 0) - 0x30000000000) / 8) (BitVec.ofNat 32 (k.desc.f 3 31 0)) u
      else
        let r := semAdd ((gaAddr (k.desc.f 2 63 0) - 0x30000000000) / 8) (k.desc.f 3 31 0) u
        if r.1 = true then setTask t (fun k => { k with status := Ts.semOverflow }) r.2 else r.2 := by
  subst admitted
  rfl

/-! Events of a task that stands parked or runs. -/

theorem exec_timerExpired {t : Nat} {k : Task} {s : State} (task : s.task t = some k) (type : k.desc.type = 0xB)
    (phase : k.phase = .admitted) (reached : if k.desc.b 3 0 then k.deadline ≤ s.cyc else k.deadline ≤ s.now) :
    exec (.timerExpired t) s = finish (setTask t (fun k => { k with phase := .finished }) s) := by
  change execTimerExpired t s = _
  rw [execTimerExpired, task]
  refine if_pos ⟨type, phase, ?_⟩
  split
  next cycles => simpa [cycles] using reached
  next ns => simpa [ns] using reached

theorem exec_semWaitTimeout {t : Nat} {k : Task} {s : State} (task : s.task t = some k) (type : k.desc.type = 0x9)
    (waiting : k.phase = .parked ∨ k.phase = .admitted ∧ k.waitWhy = 2) (limited : k.deadline ≠ 0)
    (reached : k.deadline ≤ s.now)
    (unanswered : ¬ (k.deadline = s.now ∧
      s.fab.inbox.any (fun x => k.watchedBy x.2 && x.2.op == 0 && x.2.status == 0) = true)) :
    exec (.semWaitTimeout t) s = finish (dropToken t (setTask t (fun x => { x with
      phase := .finished, status := Ts.timeout
      result := if s.remote (k.desc.f 2 63 0) then k.result
        else (s.sem ((gaAddr (k.desc.f 2 63 0) - 0x30000000000) / 8)).count.toNat
      token := none }) (endWait t (cancelWatch k s)))) := by
  change execSemWaitTimeout t s = _
  rw [execSemWaitTimeout, task]
  refine (if_pos ⟨type, waiting, limited, reached, unanswered⟩).trans ?_
  rw [timeoutWait, task]

theorem exec_watchResend {t b tk : Nat} {k : Task} {s : State} (task : s.task t = some k) (busy : k.busySince = some b)
    (token : k.token = some tk) (phase : k.phase = .parked) (due : b + 1000 ≤ s.cyc) :
    exec (.watchResend t) s = finish (count .watchRetry (tk / 4096) 1 (sendWatch k tk
      (setTask t (fun k => { k with busySince := none, remaining := 1, prog := s.cyc }) s))) := by
  change execWatchResend t s = _
  rw [execWatchResend, task]
  dsimp only
  rw [busy, token]
  exact if_pos ⟨phase, due⟩

theorem exec_parkTokenFree {t : Nat} {k : Task} {s : State} (task : s.task t = some k) (type : k.desc.type = 0x9)
    (phase : k.phase = .admitted) (waits : k.waitWhy = 2) : exec (.parkTokenFree t) s = finish (parkWait t s) := by
  change execParkTokenFree t s = _
  rw [execParkTokenFree, task]
  exact if_pos ⟨type, phase, waits⟩

/-- Settles O35. -/
theorem meridianTasks : Obligations.MeridianTasks := by
  unfold Obligations.MeridianTasks
  refine fun s t k => ⟨?_, exec_timerExpired, exec_semWaitTimeout, fun b tk => exec_watchResend, exec_parkTokenFree⟩
  intro v a d
  refine ⟨fun head => ?_, fun head => ?_, exec_timerTask, exec_stepMark⟩
  · intro u
    refine ⟨fun remote => ?_, fun home => ⟨fun met => ?_, fun unmet => ?_⟩⟩
    · rw [exec_semWait head, semWait_remote rfl remote]
      rfl
    · rw [exec_semWait head, semWait_local rfl home]
      exact congrArg (fun x => finish (noteWaits x)) (if_pos met)
    · rw [exec_semWait head, semWait_local rfl home]
      exact congrArg (fun x => finish (noteWaits x)) (if_neg (Nat.not_le_of_lt unmet))
  · intro u i
    have eq := semSignal_eq (t := t) (k := k) (s := tookTurn k v) (u := u) rfl
    refine ⟨fun remote => ?_, fun home => ⟨fun set => ?_, fun add => ?_⟩⟩
    · rw [exec_semSignal head, eq, if_pos remote]
      rfl
    · rw [exec_semSignal head, eq, if_neg (Bool.eq_false_iff.mp home), if_pos set]
      rfl
    · rw [exec_semSignal head, eq, if_neg (Bool.eq_false_iff.mp home), if_neg add]
      rfl

end Sys2Proof.Machine
end
section
/-!
PROOF. Block products, slices, the result path, write-back and vector tasks (03, 04, 06; O36).
-/

namespace Sys2Proof.Machine

/-! What a task meets in the SRAM it reads. -/

theorem taskMeets_of_poison {t a : Nat} {runs : List (Nat × Nat)} {s v : State}
    (read : runs.foldl (fun s r => sramReads r.1 r.2 s) s = v)
    (poison : runs.findSome? (fun r => v.firstPoison r.1 r.2) = some a) : taskMeets t runs s = taskPoison t a v := by
  subst read
  rw [taskMeets, poison]

theorem taskMeets_of_clean {t : Nat} {runs : List (Nat × Nat)} {s v : State}
    (read : runs.foldl (fun s r => sramReads r.1 r.2 s) s = v)
    (clean : runs.findSome? (fun r => v.firstPoison r.1 r.2) = none) : taskMeets t runs s = v := by
  subst read
  rw [taskMeets, clean]

theorem taskMeets_single (t a n : Nat) (s : State) : taskMeets t [(a, n)] s =
    ((sramReads a n s).firstPoison a n).elim (sramReads a n s) fun p => taskPoison t p (sramReads a n s) := by
  cases poison : (sramReads a n s).firstPoison a n with
  | none => exact taskMeets_of_clean rfl (by simp [poison])
  | some p => exact taskMeets_of_poison rfl (by simp [poison])

/-! Block products. -/

/-- A matrix or stats task that may start, whose core's engines are free and whose first slices are there. -/
theorem startTile_ready {t ty : Nat} {k : Task} {s : State} (task : s.task t = some k) (type : k.desc.type = ty)
    (may : s.mayStart t k = true) (free : s.enginesFree k.loc t = true)
    (landed : ∀ w, w = 2 ∨ w = 3 → k.desc.slices = 0 ∨ k.desc.res w = true ∨ (w, 0) ∈ k.landed) :
    let u := setTask t (fun k => { k with acc := accStart k s }) (startTask t s)
    startTile t ty s =
      if k.desc.tileValid = true then
        issueAll k.loc (runSlices t (k.desc.slices + 1) (if k.desc.accInit = 1 then taskMeets t
          ((List.range k.desc.mb).map fun bi => (coreBase k.desc.home + k.desc.pOff + 4 * bi * 4096, k.desc.nb * 4096)) u
          else u))
      else setTask t (fun k => { k with phase := .finished })
        (if k.desc.type = 1 then statsEnd k (startTask t s) else startTask t s) := by
  have there (w : Nat) (h : w = 2 ∨ w = 3) :
      (k.desc.slices == 0 || k.desc.res w || k.landed.contains (w, 0)) = true := by
    simpa [or_assoc] using landed w h
  intro u
  rw [startTile, task]
  dsimp only
  rw [if_neg (by rw [type, may, free, there 2 (.inl rfl), there 3 (.inr rfl)]; simp)]
  cases k.desc.tileValid <;> rfl

/-! Slices. -/

/-- A slice has come, with its bytes: it is placed and its products run. -/
def landSlice (t w i : Nat) (k : Task) (bs : List Byte) (s : State) : State :=
  issueAll k.loc (runSlices t (k.desc.slices + 1) (setTask t (fun k => { k with landed := k.landed ++ [(w, i)] })
    (placeSlice k.loc k.desc w i bs
      (count .stageBytes (k.loc / 16) ((k.desc.sliceRuns w i).map fun r => r.2.1).sum s))))

/-- A slice that is issued lands from the multicast buffer, or from memory. -/
theorem exec_sliceLanded {t i : Nat} {op : Fin 2} {k : Task} {r : StreamReq} {s v u : State} (task : s.task t = some k)
    (issued : issueAll k.loc s = v)
    (request : (kvGet [] (coelOf k.loc) v.strm.issued).find? (fun r => r.task == t && r.w == op.val + 2 && r.i == i) =
      some r)
    (taken : { v with strm := { v.strm with issued := kvMod [] (coelOf k.loc) (·.erase r) v.strm.issued } } = u) :
    exec (.sliceLanded t op i) s = finish
      (((kvGet [] (k.loc / 16) u.strm.mcast).find? fun x =>
          x.key == k.desc.sliceKey (op.val + 2) i && decide (k.age < x.issued)).elim
        (let g := taskReads (k.loc / 16 / 16) ((k.desc.sliceRuns (op.val + 2) i).map fun r => (r.1, r.2.1)) u
        match g.1 with
        | .held page => withdraw t page g.2
        | .poison a => landSlice t (op.val + 2) i k
          (List.replicate ((k.desc.sliceRuns (op.val + 2) i).map fun r => r.2.1).sum 0) (taskPoison t a g.2)
        | .ok bs => landSlice t (op.val + 2) i k bs
          (keepSlice (k.loc / 16) (k.desc.sliceKey (op.val + 2) i) r.stamp bs g.2))
        fun x => landSlice t (op.val + 2) i k x.data (count .mcastHits (k.loc / 16) 1 u)) := by
  subst issued taken
  change execSliceLanded t op i s = _
  rw [execSliceLanded, task]
  dsimp only
  rw [request]
  dsimp only
  generalize hit : List.find? _ (kvGet [] (k.loc / 16) _) = found
  cases found with
  | some x => rfl
  | none =>
    dsimp only [Option.elim_none]
    generalize taskReads (k.loc / 16 / 16) _ _ = g
    obtain ⟨read, w⟩ := g
    cases read <;> rfl

/-! The result path. -/

theorem exec_resultDrain {t b : Nat} {k : Task} {r : Drained} {s u : State} (task : s.task t = some k)
    (engine : k.desc.engine = true) (phase : k.phase = .running) (done : k.desc.slices ≤ k.prog)
    (block : b < k.desc.mb * k.desc.nb) (new : b ∉ k.drained)
    (drained : drainBlock k.desc (s.rng k) (b / k.desc.nb) (b % k.desc.nb) k.amax (k.acc.getD b []) = r)
    (noted : setTask t (fun x => { x with
      drained := setIns b x.drained, amax := r.amax
      phase := if k.drained.length + 1 = k.desc.mb * k.desc.nb ∧ (!k.desc.writesBack) = true
        then .finished else .running }) s = u) :
    exec (.resultDrain t b) s = finish (issueAll k.loc
      (let bb := bbytesOf (k.desc.fmt 4)
      let bs := patBytes (esizeOf (k.desc.fmt 4)) r.out
      let v := tallyTask t r.sat r.flush r.nan u
      if k.desc.type = 1 then u
      else if k.desc.res 4 then
        taskWrite t (k.desc.addr 4 + (b / k.desc.nb * k.desc.oStride + b % k.desc.nb) * bb) bs v
      else devPut (coreBase k.loc + k.desc.outOff + (4 * (b / k.desc.nb) + b % k.desc.nb) * bb) bs v)) := by
  subst drained noted
  change execResultDrain t b s = _
  rw [execResultDrain, task]
  dsimp only
  rw [if_neg (by simp [engine, phase, done, block, new])]

theorem writeBlock_matrix {t bi bj : Nat} {k : Task} {s : State} (task : s.task t = some k) (type : k.desc.type = 0) :
    writeBlock t bi bj s =
      let bb := bbytesOf (k.desc.fmt 4)
      let stage := coreBase k.loc + k.desc.outOff + (4 * bi + bj) * bb
      count .wbBytes (k.loc / 16) bb (taskWrite t (k.desc.addr 4 + (bi * k.desc.oStride + bj) * bb)
        (s.mem.read stage bb) (taskMeets t [(stage, bb)] s)) := by
  rw [writeBlock, task]
  exact if_neg (by omega)

theorem writeBlock_stats {t bi bj : Nat} {k : Task} {s : State} (task : s.task t = some k) (type : k.desc.type = 1) :
    writeBlock t bi bj s =
      let q := statsBlock k bi bj (drainBlock k.desc (s.rng k) bi bj 0 (k.acc.getD (bi * k.desc.nb + bj) [])).step1 s
      tallyTask t (q.1.countP (·.sat)) (q.1.countP (·.flush)) (q.1.countP (·.nan)) q.2 := by
  rw [writeBlock, task]
  exact if_pos type

theorem exec_writebackAccepted {t : Nat} {k x : Task} {s v : State} (task : s.task t = some k)
    (issued : issueAll k.loc s = v) (now : v.task t = some x) (back : x.desc.writesBack = true)
    (phase : x.phase = .running) (all : x.desc.nb ≤ x.wbCols.length) :
    exec (.writebackAccepted t) s = finish (setTask t (fun k => { k with phase := .finished })
      (if x.desc.type = 1 then statsEnd x v else v)) := by
  subst issued
  change execWritebackAccepted t s = _
  rw [execWritebackAccepted, task]
  dsimp only
  rw [now]
  exact if_neg (by simp [back, phase, all])

/-! Vector tasks. -/

theorem exec_vectorTaskStart {t : Nat} {k : Task} {s u : State} (task : s.task t = some k) (type : k.desc.type = 2)
    (may : s.mayStart t k = true)
    (free : s.mer.tasks.any (fun p => p.2.desc.type == 2 && p.2.loc == k.loc &&
      (p.2.phase == .running || p.2.phase == .finished)) = false)
    (met : taskMeets t ((k.desc.vwords.filter (· != 5)).flatMap k.desc.vruns) (startTask t s) = u) :
    exec (.vectorTaskStart t) s = finish (setTask t (fun k => { k with phase := .finished })
      (if k.desc.vcount = 0 then startTask t s
      else
        let o := vecRun u.mem k.desc (u.rng { k with step := (u.stream k.stream).step })
        setTask t (fun k => { k with sat := o.sat, flush := o.flush, nan := o.nan, amax := o.amax })
          (o.writes.foldl (fun s w => taskWrite t w.1 w.2 s) u))) := by
  subst met
  change execVectorTaskStart t s = _
  rw [execVectorTaskStart, task]
  dsimp only
  rw [if_neg (by simp [type, may, free])]
  split
  · rfl
  · rfl

/-- Settles O36. -/
theorem coreTasks : Obligations.CoreTasks := by
  unfold Obligations.CoreTasks
  intro s t k task d
  refine ⟨fun ty i start type may free landed => ?_, fun op i r => ?_, fun b engine phase done block new => ?_,
    fun bi bj => ⟨fun type => ?_, fun type => writeBlock_stats task type⟩, ?_, fun type may free => ?_⟩
  · have run : exec i s = finish (startTile t ty s) := by
      obtain ⟨rfl, rfl⟩ | ⟨rfl, rfl⟩ := start <;> rfl
    have eq := startTile_ready task type may free landed
    refine ⟨fun invalid => ?_, fun valid => ?_⟩
    · rw [run, eq, if_neg (Bool.eq_false_iff.mp invalid), type]
      rfl
    · intro u part v p
      refine ⟨fun init a poison => ?_, fun init clean => ?_, fun init => ?_⟩
      · rw [run, eq, if_pos valid, if_pos init, taskMeets_of_poison rfl poison]
        rfl
      · rw [run, eq, if_pos valid, if_pos init, taskMeets_of_clean rfl clean]
        rfl
      · rw [run, eq, if_pos valid, if_neg init]
        rfl
  · intro w q v request u c runs n land hit g
    have eq := exec_sliceLanded (u := u) task rfl request rfl
    have fresh (miss : hit = none) := eq.trans (congrArg (fun o => finish (Option.elim o _ _)) miss)
    refine ⟨fun x found => ?_, fun bs miss ok => ?_, fun a miss poison => ?_, fun page miss held => ?_⟩
    · refine eq.trans ((congrArg (fun o => finish (Option.elim o _ _)) found).trans ?_)
      rfl
    · refine (fresh miss).trans ?_
      change finish (match g.1 with
        | .held page => _
        | .poison a => _
        | .ok bs => _) = _
      rw [ok]
      rfl
    · refine (fresh miss).trans ?_
      change finish (match g.1 with
        | .held page => _
        | .poison a => _
        | .ok bs => _) = _
      rw [poison]
      rfl
    · refine (fresh miss).trans ?_
      change finish (match g.1 with
        | .held page => _
        | .poison a => _
        | .ok bs => _) = _
      rw [held]
      rfl
  · intro r last u bs bb
    have eq := exec_resultDrain (u := u) task engine phase done block new rfl (by simp [u, last, d, r])
    refine ⟨fun type resident => ?_, fun type streamed => ?_, fun type => ?_⟩
    · refine eq.trans (congrArg (fun x => finish (issueAll k.loc x)) ?_)
      exact (if_neg fun one => absurd (type.symm.trans one) (by decide)).trans (if_pos resident)
    · refine eq.trans (congrArg (fun x => finish (issueAll k.loc x)) ?_)
      exact (if_neg fun one => absurd (type.symm.trans one) (by decide)).trans (if_neg (Bool.eq_false_iff.mp streamed))
    · exact eq.trans (congrArg (fun x => finish (issueAll k.loc x)) (if_pos type))
  · intro bb stage v
    rw [writeBlock_matrix task type]
    dsimp only
    rw [taskMeets_single]
    change count _ _ _ (taskWrite _ _ _ ((v.firstPoison stage bb).elim v fun p => taskPoison t p v)) = _
    cases v.firstPoison stage bb <;> rfl
  · exact fun x now back phase all => exec_writebackAccepted task rfl now back phase all
  · intro done u
    have eq := exec_vectorTaskStart task type may free rfl
    refine ⟨fun empty => eq.trans (congrArg (fun x => finish (done x)) (if_pos empty)), fun some => ?_⟩
    intro runs w v o
    refine eq.trans ((congrArg (fun x => finish (done x)) (if_neg some)).trans ?_)
    have met : taskMeets t runs u = v := rfl
    rw [met]
    rfl

end Sys2Proof.Machine
end
section
/-!
PROOF. Gathers, scatters and transfers, and the answers of other modules (05, 06, 13; O37 and O38).
-/

namespace Sys2Proof.Machine

/-! Gathers and scatters. -/

theorem exec_moveTask_copy {c : Fin 32} {ty slot : Nat} {s : State}
    (pick : (chargeAll s).unitPick c.val c.val [3, 4, 7] 8 = some (.copy slot)) :
    moveTask c.val ty s = startCopy slot c.val (chargeAll s) := by
  rw [moveTask]
  dsimp only
  rw [pick]

/-- What a GATHER or a SCATTER has moved: its bytes are counted and the task finishes. -/
def finishMoved (c ty t : Nat) (d : Desc) (m : Moving) : State :=
  setTask t (fun k => { k with
    phase := .finished, sat := Nat.min m.sat 0xFFFFFFFF, flush := Nat.min m.flush 0xFFFFFFFF
    nan := Nat.min m.nan 0xFFFFFFFF, result := m.moved * 2 ^ 40 + m.oob * 2 ^ 16 + b2n d.finder })
    (count .unitBytes c (m.moved * (if ty = 3 then d.unitLen * esizeOf (d.fmt 4) else d.unitLen * esizeOf (d.fmt 3)))
      (count .oob c m.oob m.s))

/-- A task finishes with what it moved, or waits for the repair of a page that is held. -/
theorem moveTask_task {c : Fin 32} {ty t : Nat} {k k' : Task} {s v : State} {m : Moving}
    (pick : (chargeAll s).unitPick c.val c.val [3, 4, 7] 8 = some (.task t k)) (type : k.desc.type = ty)
    (started : startUnit t (chargeAll s) = v) (task : v.task t = some k')
    (moved : gatherRows t (c.val / 16) k.desc ((List.range (ceilDiv k.desc.gcount
      (4096 / Nat.max 1 (esizeOf (k.desc.fmt 2))))).foldl (movePiece t (c.val / 16) (v.rng k') k.desc) { s := v }) = m) :
    moveTask c.val ty s = m.held.elim (finishMoved c.val ty t k.desc m)
      fun page => setTask t (fun k => { k with heldBy := some page }) (taskReads (c.val / 16) m.again v).2 := by
  subst started moved
  rw [moveTask]
  dsimp only
  rw [pick]
  dsimp only
  rw [if_neg (not_not_intro type), task]
  dsimp only
  generalize gatherRows t (c.val / 16) k.desc _ = m
  cases m.held <;> rfl

/-! Transfers. -/

/-- Tasks that want a park token wait where none is free. -/
def tokenWaits (c : Nat) (s : State) : State :=
  (if (s.freeToken (c / 16)).isSome then [] else s.tasksWhere fun k =>
    k.desc.type == 7 && k.loc == c && k.phase == .admitted && s.needsToken k.desc).foldl (fun s p => waitToken p.1 s) s

theorem exec_transferTask_copy {c : Fin 32} {slot : Nat} {s u : State} (waits : tokenWaits c.val (chargeAll s) = u)
    (pick : u.unitPick c.val c.val [3, 4, 7] 8 = some (.copy slot)) :
    exec (.transferTask c) s = finish (startCopy slot c.val u) := by
  subst waits
  change execTransferTask c s = _
  unfold execTransferTask
  extract_lets u0 c' die wanting blocked u
  have pick' : u.unitPick c' c' [3, 4, 7] 8 = some (.copy slot) := pick
  rw [pick']
  rfl

/-- A transfer that has its token, or needs none, by where its source and its destination are. -/
def transferRun (c t tk : Nat) (d : Desc) (w : State) : State :=
  if w.remote (d.f 2 63 0) = true then transferCount c d (transferIn t (c / 16) tk d w)
  else if regionOf (gaAddr (d.f 2 63 0)) = some .hostWin then
    transferCount c d (transferHost t (w.remote (d.f 3 63 0) && d.b 5 31) d w)
  else
    let m := if w.remote (d.f 3 63 0) = true then transferOut t (c / 16) tk (d.b 5 31) d w
      else transferLocal t (c / 16) d w
    m.held.elim
      (if (w.remote (d.f 3 63 0) && d.b 5 31 && decide (m.moved > 0)) = true then
        setTask t (fun k => { k with
          phase := .parked, remaining := m.moved, ackWait := true, prog := (transferCount c d m.s).cyc })
          (transferCount c d m.s)
      else setTask t (fun k => { k with phase := .finished }) (transferCount c d m.s))
      fun page => waitRepair t (c / 16) page m w

theorem exec_transferTask_task {c : Fin 32} {t tk : Nat} {k : Task} {s u v : State}
    (waits : tokenWaits c.val (chargeAll s) = u) (pick : u.unitPick c.val c.val [3, 4, 7] 8 = some (.task t k))
    (type : k.desc.type = 7)
    (token : (if (u.needsToken k.desc && k.phase == .admitted) = true then takeToken t (c.val / 16) (endWait t u)
      else some (k.token.getD 0, u)) = some (tk, v)) :
    exec (.transferTask c) s = finish (transferRun c.val t tk k.desc
      (setTask t (fun k' => { k' with result := b2n (v.tfinder k.desc) }) (startUnit t v))) := by
  subst waits
  change execTransferTask c s = _
  unfold execTransferTask
  extract_lets u0 c' die wanting blocked u
  have pick' : u.unitPick c' c' [3, 4, 7] 8 = some (.task t k) := pick
  rw [pick']
  dsimp only
  rw [if_neg (not_not_intro type)]
  have token' : (if (u.needsToken k.desc && k.phase == .admitted) = true then takeToken t die (endWait t u)
      else some (k.token.getD 0, u)) = some (tk, v) := token
  rw [token']
  dsimp only
  generalize setTask t (fun k' => { k' with result := b2n (v.tfinder k.desc) }) (startUnit t v) = w
  rw [transferRun]
  split
  · rfl
  · split
    · rfl
    · dsimp only [die, c']
      generalize (if w.remote (k.desc.f 3 63 0) = true then _ else _ : Moving) = m
      cases m.held with
      | some page => rfl
      | none =>
        dsimp only [Option.elim_none]
        split <;> rfl

/-- Settles O37. -/
theorem moveTasks : Obligations.MoveTasks := by
  unfold Obligations.MoveTasks
  intro c s die
  refine ⟨fun ty i start => ?_, ?_⟩
  · have run : exec i s = finish (moveTask c.val ty s) := by
      obtain ⟨rfl, rfl⟩ | ⟨rfl, rfl⟩ := start <;> rfl
    intro u
    refine ⟨fun slot pick => ?_, fun t k k' pick type task => ?_⟩
    · rw [run, exec_moveTask_copy pick]
      rfl
    · intro d v m
      have eq := moveTask_task (m := m) pick type rfl task rfl
      refine ⟨fun page held => ?_, fun none => ?_⟩
      · rw [run, eq, held]
        rfl
      · rw [run, eq, none]
        rfl
  · intro u0 u
    have waits : tokenWaits c.val (chargeAll s) = u := by
      rw [tokenWaits]
    clear_value u
    refine ⟨fun slot => exec_transferTask_copy waits, fun t k tk v pick => ?_⟩
    intro d type token w ack out
    have eq := exec_transferTask_task waits pick type token
    refine ⟨fun remote => ?_, fun home host => ?_, fun home device => ?_⟩
    · exact eq.trans (congrArg finish (if_pos remote))
    · exact eq.trans (congrArg finish ((if_neg (Bool.eq_false_iff.mp home)).trans (if_pos host)))
    · intro m
      have moved : transferRun c.val t tk d w = m.held.elim _ _ :=
        (if_neg (Bool.eq_false_iff.mp home)).trans (if_neg device)
      have sent : (w.remote (d.f 3 63 0) && d.b 5 31 && decide (m.moved > 0)) = true ↔
          out = true ∧ ack = true ∧ 0 < m.moved := by
        rw [Bool.and_eq_true, Bool.and_eq_true, decide_eq_true_eq, and_assoc]
      refine ⟨fun page held => ?_, fun none => ?_⟩
      · refine eq.trans (congrArg finish (moved.trans ?_))
        rw [held]
        rfl
      · intro x
        refine ⟨fun away acked some => ?_, fun not => ?_⟩
        · refine eq.trans (congrArg finish (moved.trans ?_))
          rw [none]
          exact if_pos (sent.mpr ⟨away, acked, some⟩)
        · refine eq.trans (congrArg finish (moved.trans ?_))
          rw [none]
          exact if_neg fun h => not (sent.mp h)

/-! Answers of other modules. -/

/-- A READ_RSP that a parked TRANSFER awaits. -/
theorem readRsp_transfer {p : Packet} {t : Nat} {k : Task} {u : State} (token : u.byToken p = some (t, k))
    (type : k.desc.type = 7) (phase : k.phase = .parked) (source : gaModule (k.desc.f 2 63 0) = p.src)
    (low : gaAddr (k.desc.f 2 63 0) ≤ p.addr) (high : p.addr - gaAddr (k.desc.f 2 63 0) < k.desc.tbytes) :
    let ga := k.desc.f 2 63 0
    let o := p.addr - gaAddr ga
    let n := Nat.min (2048 - p.addr % 2048) (k.desc.tbytes - o)
    readRsp p u = some (answered t (landPieces t (decide (k.remaining ≤ 1))
      (if p.status = 0 then movedUnits t n (addPiece t o (p.data.take n) u)
      else addPiece t o (if p.status = 4 then List.replicate n 0 else [])
        (rspError t p.status (gaModule ga * 2 ^ 52 + p.addr) u)))) := by
  intro ga o n
  rw [readRsp, token]
  dsimp only
  rw [if_neg (by simp [type, phase, source, low, high])]
  by_cases ok : p.status = 0
  · simp [ok, ga, o, n]
  · simp [ok, ga, o, n]

theorem exec_readRspReceived {i : Nat} {p : Packet} {s v u : State}
    (taken : takeIn (fun k => k.typ == .readRsp) s = some (i, p, v)) (trip : tripDone i p v = u) :
    exec .readRspReceived s = finish ((readRsp p u).getD ((repairRsp p u).getD (lateRsp i u))) := by
  subst trip
  change execReadRspReceived s = _
  rw [execReadRspReceived, taken]
  dsimp only
  cases readRsp p (tripDone i p v) with
  | some w => rfl
  | none => cases repairRsp p (tripDone i p v) <;> rfl

theorem exec_writeAckReceived {i : Nat} {p : Packet} {s u : State}
    (taken : takeIn (fun k => k.typ == .writeAck) s = some (i, p, u)) (plain : p.flow ≠ 0xFF) :
    let missed := if (regionOf p.addr == some .sems && p.flow == 0xFD) = true
      then post Ev.remoteSignalFailed [p.src, p.addr, p.status] u else lateRsp i u
    exec .writeAckReceived s = finish ((u.byToken p).elim missed fun x =>
      let d := x.2.desc
      let ga := d.f 3 63 0
      if d.type = 7 ∧ x.2.phase = .parked ∧ u.remote ga = true ∧ gaModule ga = p.src ∧ gaAddr ga ≤ p.addr ∧
          p.addr - gaAddr ga < d.tbytes then
        answered x.1 (if p.status = 0
          then movedUnits x.1 (Nat.min (2048 - p.addr % 2048) (d.tbytes - (p.addr - gaAddr ga))) u
          else rspError x.1 p.status (gaModule ga * 2 ^ 52 + p.addr) u)
      else missed) := by
  intro missed
  change execWriteAckReceived s = _
  rw [execWriteAckReceived, taken]
  dsimp only
  rw [if_neg fun h => plain h.1]
  cases u.byToken p with
  | none => rfl
  | some x =>
    dsimp only [Option.elim_some]
    split <;> rfl

theorem exec_watchRspReceived {i t : Nat} {p : Packet} {k : Task} {s u : State}
    (taken : takeIn (fun k => k.typ == .watchRsp) s = some (i, p, u)) (token : u.byToken p = some (t, k)) :
    (k.watchedBy p = false → exec .watchRspReceived s = finish (lateWatch i p u)) ∧
    (k.watchedBy p = true → k.expired u.now = false → p.status = 0 → exec .watchRspReceived s = finish
      (if p.op = 1 then setTask t (fun k => { k with remaining := 0, result := p.operand }) u
      else if p.op = 2 then
        setTask t (fun k => { k with remaining := 0, busySince := some u.cyc, result := p.operand }) u
      else if p.operand < k.desc.f 3 63 32 then u
      else dropToken t (setTask t (fun k => { k with
        phase := .finished, token := none, remaining := 0, result := p.operand }) u))) := by
  change (_ → execWatchRspReceived s = _) ∧ (_ → _ → _ → execWatchRspReceived s = _)
  rw [execWatchRspReceived, taken]
  dsimp only
  rw [token]
  dsimp only
  refine ⟨fun late => if_pos (by simp [late]), fun own early ok => ?_⟩
  rw [if_neg (by simp [own]), if_neg (by simp [early]), if_neg (not_not_intro ok)]
  split
  · rfl
  · split
    · rfl
    · split <;> rfl

theorem exec_fabricTimeout {t : Nat} {k : Task} {s : State} (task : s.task t = some k) (phase : k.phase = .parked)
    (waits : k.desc.type = 7 ∧ k.ackWait = true ∨ k.desc.type = 9 ∧ k.token.isSome = true ∧ 0 < k.remaining)
    (due : k.prog + s.fab.timeoutUs * 1000 ≤ s.cyc) :
    exec (.fabricTimeout t) s = finish (count .fabricTimeouts k.dieOf 1 (dropToken t (setTask t (fun x => { x with
      phase := .finished, status := Ts.timeout
      detail := if k.desc.type = 9 ∨ s.remote (k.desc.f 2 63 0) = true then k.desc.f 2 63 0 else k.desc.f 3 63 0
      token := none, remaining := 0, ackWait := false })
      (if k.desc.type = 9 then cancelWatch k s else s)))) := by
  change execFabricTimeout t s = _
  rw [execFabricTimeout, task]
  exact if_pos ⟨⟨phase, waits⟩, due⟩

/-- Settles O38. -/
theorem fabricAnswers : Obligations.FabricAnswers := by
  unfold Obligations.FabricAnswers
  refine fun s => ⟨fun i p v taken => ?_, fun i p u taken plain => ⟨fun t k token => ?_, fun lost => ?_⟩,
    fun i p u t k taken token => ?_, fun t k task phase waits due => exec_fabricTimeout task phase waits due⟩
  · intro u
    have eq := exec_readRspReceived (u := u) taken rfl
    have missed (lost : u.byToken p = none) : readRsp p u = none := by
      rw [readRsp, lost]
    refine ⟨fun t k token => ?_, fun v lost repair => ?_, fun lost none => ?_⟩
    · intro d ga o type phase source low high n last
      have rsp := readRsp_transfer token type phase source low high
      refine ⟨fun ok => ?_, fun bad => ?_⟩
      · rw [eq, rsp, if_pos ok]
        rfl
      · rw [eq, rsp, if_neg bad]
        rfl
    · rw [eq, missed lost, repair]
      rfl
    · rw [eq, missed lost, none]
      rfl
  · intro ga type phase remote source low high n
    refine (exec_writeAckReceived taken plain).trans ?_
    rw [token]
    exact congrArg finish (if_pos ⟨type, phase, remote, source, low, high⟩)
  · have eq := exec_writeAckReceived taken plain
    dsimp only at eq
    rw [lost] at eq
    refine ⟨fun sems signal => eq.trans (congrArg finish (if_pos ?_)),
      fun other => eq.trans (congrArg finish (if_neg ?_))⟩
    · simp [sems, signal]
    · simp [other]
  · obtain ⟨late, own⟩ := exec_watchRspReceived taken token
    refine ⟨late, fun watched early ok => ⟨fun op => ?_, fun op => ?_, fun op enough => ?_⟩⟩
    · exact (own watched early ok).trans (congrArg finish (if_pos op))
    · exact (own watched early ok).trans (congrArg finish ((if_neg (by omega)).trans (if_pos op)))
    · exact (own watched early ok).trans (congrArg finish
        ((if_neg (by omega)).trans ((if_neg (by omega)).trans (if_neg (Nat.not_lt_of_le enough)))))

end Sys2Proof.Machine
end
section
/-!
PROOF. Ports: their commands and their training (13; O39 and O40), and a clause about packets that fails (O41).
-/

namespace Sys2Proof.Machine

/-! Commands on ports, the topology and routing. -/

theorem exec_retrainPort {m : Fin 16} {s : State} (takes : mbxTakes 0x0502 anyArgs m s = true) :
    exec (.retrainPort m) s = finish (Reply.settle m (
      if s.arg m 0 = 0 then .done St.portArgInvalid [] s
      else .done St.ok [] ((List.range 30).foldl (fun u i =>
        if bit (s.arg m 0) i then setPortAt i (fun p => { p with usable := 3, degrading := false })
          (retrain i (s.arg m 1 == 0) .detect u) else u) s))) := by
  change execRetrainPort m s = _
  rw [execRetrainPort, mbxCommand_of_mbxTakes _ takes]
  rfl

theorem exec_setPortConfig {m : Fin 16} {s : State} (takes : mbxTakes 0x0503 anyArgs m s = true)
    (first : bufCheck (s.arg m 1) (bits (s.arg m 0) 15 8 * 2 ^ 20) 65536 s = none)
    (second : bufCheck (s.arg m 2) (bits (s.arg m 0) 15 8 * 2 ^ 20) 65536 s = none)
    (rx : regionOf (s.arg m 1) = some .gddr7) (replay : regionOf (s.arg m 2) = some .gddr7)
    (ok : ¬ (bits (s.arg m 0) 4 0 < 14 ∨ bits (s.arg m 0) 4 0 > 29 ∨ bits (s.arg m 0) 15 8 > 64 ∨
      bits (s.arg m 0) 15 8 % 4 ≠ 0)) :
    let u := setPortAt (bits (s.arg m 0) 4 0) (fun p => { p with
      extMib := bits (s.arg m 0) 15 8, rxRing := s.arg m 1, replayRing := s.arg m 2 }) s
    exec (.setPortConfig m) s = .next (settle (mbxComplete m St.ok []
      (if (u.port (bits (s.arg m 0) 4 0)).st = .active then retrain (bits (s.arg m 0) 4 0) true .train u else u))) := by
  intro u
  change execSetPortConfig m s = _
  refine mbxCommand_of_done takes ?_
  simp only [State.arg] at first second rx replay ok
  rw [if_neg ok, first, second]
  exact if_neg (by simp [rx, replay])

theorem exec_setPortConfig_refused {m : Fin 16} {s : State} (takes : mbxTakes 0x0503 anyArgs m s = true)
    (bad : bits (s.arg m 0) 4 0 < 14 ∨ 29 < bits (s.arg m 0) 4 0 ∨ 64 < bits (s.arg m 0) 15 8 ∨
      bits (s.arg m 0) 15 8 % 4 ≠ 0) :
    exec (.setPortConfig m) s = .next (settle (mbxComplete m St.portArgInvalid [] s)) := by
  change execSetPortConfig m s = _
  exact mbxCommand_of_done takes (if_pos bad)

/-- Settles O39. -/
theorem portCommands : Obligations.PortCommands := by
  unfold Obligations.PortCommands
  refine fun m s => ⟨fun bs takes reply serves fits => ?_, fun takes => ⟨fun none => ?_, fun some => ?_⟩,
    fun takes => ⟨exec_setPortConfig_refused takes, fun low high max step first second rx replay => ?_⟩, fun takes => ?_,
    fun takes => ?_, fun takes => ⟨fun bad => ?_, fun low high => ?_⟩⟩
  · subst reply
    change execReadPortStatus m s = _
    exact mbxCommand_of_done takes (replyBytes_of_fits serves fits)
  · rw [exec_retrainPort takes, if_pos none]
    rfl
  · rw [exec_retrainPort takes, if_neg some]
    rfl
  · exact exec_setPortConfig takes first second rx replay (by omega)
  · change (_ → execSetTopology m s = _) ∧ (_ → _ → _ → execSetTopology m s = _) ∧
      (∀ id, _ → _ → _ → execSetTopology m s = _)
    refine ⟨fun bad => mbxCommand_of_done takes (if_pos bad), fun low high none => mbxCommand_of_done takes ?_,
      fun id low high set => mbxCommand_of_done takes ?_⟩
    · refine (if_neg fun h => h.elim (Nat.not_lt_of_le low) (Nat.not_lt_of_le high)).trans ?_
      rw [none]
    · refine (if_neg fun h => h.elim (Nat.not_lt_of_le low) (Nat.not_lt_of_le high)).trans ?_
      rw [set]
      rfl
  · intro g h spare
    change (_ → execSetGlobalLink m s = _) ∧ (∀ n, _ → _ → _ → execSetGlobalLink m s = _) ∧
      (∀ n, _ → _ → execSetGlobalLink m s = _)
    refine ⟨fun none => mbxCommand_of_done takes ?_, fun n set plain high => mbxCommand_of_done takes ?_,
      fun n set within => mbxCommand_of_done takes ?_⟩
    · rw [none]
    · rw [set]
      refine if_pos ?_
      change (!spare && decide (h ≥ n)) = true
      simp [plain, high]
    · rw [set]
      refine if_neg ?_
      change ¬ (!spare && decide (h ≥ n)) = true
      cases within <;> simp_all
  · change execSetRouting m s = _
    exact mbxCommand_of_done takes (if_pos bad)
  · change execSetRouting m s = _
    exact mbxCommand_of_done takes (if_neg fun h => h.elim (Nat.not_lt_of_le low) (Nat.not_lt_of_le high))

/-! The training of a port. -/

theorem exec_portTrainDone {i : Fin 30} {good : Nat} {s : State} {p : Port} (port : s.port i.val = p)
    (training : p.st = .train) :
    let lo := good % 4 == 3 && (p.usable == 3 || p.usable == 1)
    let hi := good / 4 % 4 == 3 && (p.usable == 3 || p.usable == 2)
    let lanes := if lo && hi then (if p.degrading then 1 else 3) else if lo then 1 else if hi then 2 else 0
    exec (.portTrainDone i good) s =
      if lanes ≠ 0 then finish (setPortAt i.val (fun p => { p with
        st := .length, lanes := lanes, good := good % 16, usable := if p.degrading then lanes else p.usable }) s)
      else if p.warm then finish (portFellBack i.val s)
      else finish (setPortAt i.val (fun p => { p with st := .failed, lanes := 0 }) s) := by
  intro lo hi lanes
  subst port
  change execPortTrainDone i good s = _
  rw [execPortTrainDone]
  exact if_neg (not_not_intro training)

/-- The CRC and the reserved fields of a capability record hold. -/
def capsGood (q : Nat → Nat) : Prop :=
  bits (q 7) 31 0 = (crc32c (wordBytes ((List.range 8).map fun k => if k = 7 then 0 else q k))).toNat ∧
  bits (q 7) 63 32 = 0 ∧ q 3 = 0 ∧ q 4 = 0 ∧ q 5 = 0 ∧ q 6 = 0 ∧ bits (q 1) 31 0 = 0 ∧ bits (q 0) 10 0 = 0

theorem capsGood_iff (q : Nat → Nat) :
    (bits (q 7) 31 0 == (crc32c (wordBytes ((List.range 8).map fun k => if k = 7 then 0 else q k))).toNat &&
      bits (q 7) 63 32 == 0 && q 3 == 0 && q 4 == 0 && q 5 == 0 && q 6 == 0 && bits (q 1) 31 0 == 0 &&
      bits (q 0) 10 0 == 0) = true ↔ capsGood q := by
  simp only [capsGood, Bool.and_eq_true, beq_iff_eq, and_assoc]

/-- A capability record's version is not ours. -/
def capsOther (q : Nat → Nat) : Bool := bits (q 0) 47 32 != 0x0009 || bits (q 0) 63 48 != 0x0402

/-- What a good record says of the partner. -/
def capsTaken (i : Nat) (q : Nat → Nat) (s : State) : State :=
  setPortAt i (fun p => { p with
    st := .active, incompatible := capsOther q, partner := q 0, partnerKnown := true, capsTries := 0
    peerResetting := bit (q 0) 11, degrading := false }) s

/-- A port becomes active with the credits the record announces. -/
def capsCredits (i : Nat) (q : Nat → Nat) (s : State) : State :=
  setPortAt i (fun p => { p with
    vcCr := Vector.replicate 8 (bits (q 2) 31 16), sharedCr := bits (q 2) 63 32, vcCr0 := bits (q 2) 31 16
    sharedCr0 := bits (q 2) 63 32, rxUsed := Vector.replicate 8 0 }) s

/-- A record that does not check is asked for again, at most eight times. -/
theorem exec_capsRecord_bad {i : Fin 30} {w : List Nat} {s : State} {p : Port} (port : s.port i.val = p)
    (known : p.st = .caps ∨ p.st = .active) (bad : ¬ capsGood fun k => w.getD k 0) :
    exec (.capsRecordReceived i w) s = finish (if p.capsTries ≥ 8 then leaveService i.val .failed s
      else emit (.link i.val "CAPS_REQUEST" []) (setPortAt i.val (fun p => { p with capsTries := p.capsTries + 1 }) s)) := by
  subst port
  change execCapsRecordReceived i w s = _
  rw [execCapsRecordReceived]
  refine (if_neg fun h => known.elim h.1 h.2).trans ?_
  refine (if_pos (by rw [Bool.not_eq_true']; exact Bool.eq_false_iff.mpr fun h => bad ((capsGood_iff _).mp h))).trans ?_
  split <;> rfl

/-- A port that comes up cold in phase 3 is to be saved. -/
def capsCold (p : Port) (s : State) : State :=
  if p.st = .active || p.warm || s.boot.phase != 3 then s
  else { s with boot := { s.boot with run := s.boot.run.map fun r => { r with cold := true } } }

/-- A partner of another version is told of once. -/
def capsTold (i : Nat) (q : Nat → Nat) (p : Port) (s : State) : State :=
  if capsOther q && !(p.incompatible && p.st == .active) then post Ev.portPartnerIncompatible [i, q 0] s else s

/-- A port that becomes active tells of it. -/
def capsUp (i : Nat) (p : Port) (s : State) : State :=
  if p.st = .active then s
  else post (if p.degrading then Ev.portDegraded else Ev.portUp) [i, (s.port i).lanes] s

theorem capsCold_active {p : Port} (active : p.st = .active) (s : State) : capsCold p s = s := if_pos (by simp [active])

theorem capsCold_other {p : Port} (other : p.st ≠ .active) (s : State) : capsCold p s =
    if p.warm || s.boot.phase != 3 then s
    else { s with boot := { s.boot with run := s.boot.run.map fun r => { r with cold := true } } } := by
  rw [capsCold, decide_eq_false other, Bool.false_or]

theorem capsTold_active {i : Nat} {q : Nat → Nat} {p : Port} (active : p.st = .active) (s : State) : capsTold i q p s =
    if capsOther q && !p.incompatible then post Ev.portPartnerIncompatible [i, q 0] s else s := by
  rw [capsTold, active, beq_self_eq_true, Bool.and_true]

theorem capsTold_other {i : Nat} {q : Nat → Nat} {p : Port} (other : p.st ≠ .active) (s : State) : capsTold i q p s =
    if capsOther q then post Ev.portPartnerIncompatible [i, q 0] s else s := by
  rw [capsTold, beq_false_of_ne other, Bool.and_false, Bool.not_false, Bool.and_true]

/-- A good record makes a port in CAPS active, with its credits and its events; to an active one it brings the
partner's fields up to date. -/
theorem exec_capsRecord_good {i : Fin 30} {w : List Nat} {q : Nat → Nat} {s : State} {p : Port}
    (words : (fun k => w.getD k 0) = q) (port : s.port i.val = p) (known : p.st = .caps ∨ p.st = .active)
    (good : capsGood q) : exec (.capsRecordReceived i w) s = finish (checkWiring i.val (capsUp i.val p (capsTold i.val q p
      (capsCold p (if p.st = .active then capsTaken i.val q s else capsCredits i.val q (capsTaken i.val q s)))))) := by
  subst port words
  change execCapsRecordReceived i w s = _
  rw [execCapsRecordReceived]
  refine (if_neg fun h => known.elim h.1 h.2).trans ?_
  exact if_neg (by rw [Bool.not_eq_true']; exact fun h => Bool.eq_false_iff.mp h ((capsGood_iff _).mpr good))

/-- Settles O40. -/
theorem portTraining : Obligations.PortTraining := by
  unfold Obligations.PortTraining
  intro i s p
  refine ⟨fun may idle => ?_, fun good training => ?_, fun xs medium turn measuring all => ?_, fun w => ?_,
    fun lane active => ⟨fun both => ?_, fun g alone => ?_⟩, fun up fine => ?_⟩
  · change execPortSignalDetect i s = _
    rw [execPortSignalDetect]
    exact if_pos (by simpa [may] using idle)
  · intro lo hi lanes
    have eq := exec_portTrainDone (good := good) (p := p) rfl training
    refine ⟨fun some => ?_, fun none warm => ?_, fun none cold => ?_⟩
    · exact eq.trans (if_pos some)
    · exact eq.trans ((if_neg (not_not_intro none)).trans (if_pos warm))
    · exact eq.trans ((if_neg (not_not_intro none)).trans (if_neg (Bool.eq_false_iff.mp cold)))
  · change execPortLengthDone i xs medium turn s = _
    rw [execPortLengthDone]
    exact if_neg (not_or.mpr ⟨not_not_intro measuring, not_not_intro all⟩)
  · intro q bare good known
    refine ⟨fun bad few => ?_, fun bad many => ?_, fun ok caps => ?_, fun ok active => ?_⟩
    · rw [exec_capsRecord_bad (p := p) rfl known bad, if_neg (by omega)]
      rfl
    · rw [exec_capsRecord_bad (p := p) rfl known bad, if_pos many]
      rfl
    · intro vc sh bad u1 u2 u3
      have idle : p.st ≠ .active := by
        rw [caps]
        decide
      rw [exec_capsRecord_good (p := p) rfl rfl known ok, if_neg idle, capsCold_other idle, capsTold_other idle, capsUp,
        if_neg idle]
      rfl
    · intro bad u
      rw [exec_capsRecord_good (p := p) rfl rfl known ok, if_pos active, capsCold_active active, capsTold_active active,
        capsUp, if_pos active]
      rfl
  · change execPortDegrade i lane true s = _
    rw [execPortDegrade]
    exact (if_neg (not_not_intro active)).trans (if_pos ⟨both, rfl⟩)
  · change execPortDegrade i lane g s = _
    rw [execPortDegrade]
    exact (if_neg (not_not_intro active)).trans (if_neg fun h => alone.elim (· h.1) (by simp [h.2]))
  · change execPortDown i s = _
    rw [execPortDown]
    exact if_neg (not_or.mpr ⟨up, fine⟩)

end Sys2Proof.Machine
end
section
/-!
PROOF. Injecting a READ_REQ (O41): the model notes in `asked` which read it asked for, which the statement leaves out.
-/

namespace Sys2Proof.Machine

/-- A READ_REQ to this module itself, from no task. -/
def ownRead : Inject := { pkt := { typ := .readReq, dst := 0, src := 0 }, die := 0 }

/-- The reset state with that packet to be injected. -/
def ownReadWaits : State := { State.reset with fab := { State.reset.fab with inject := [ownRead] } }

/-- That state once the packet has left the queue, where no read is noted. -/
def ownReadTaken : State := { ownReadWaits with fab := { ownReadWaits.fab with inject := [] } }

/-- The packet is injected, and the read is noted as asked for. -/
theorem exec_packetInject_ownRead : exec .packetInject ownReadWaits = finish (injectPkt ownRead
    { ownReadTaken with fab := { ownReadTaken.fab with asked := [(0, 0, 0)] } }) := by
  change execPacketInject ownReadWaits = _
  rfl

/-- Without an event ring what follows a command leaves the reads that are asked for. -/
theorem settle_asked {s : State} (ring : s.alm.ring = none) : (settle s).fab.asked = s.fab.asked := by
  have ringOk : s.ringOk := by
    rw [State.ringOk, ring]
    trivial
  rw [(settle_settled s ringOk).fab]

/-- Refutes O41: the injection of a READ_REQ also notes, in `asked`, the read that it asks for (the fabric timeout needs
it), where the statement has nothing change but the queue and what `injectPkt` does. -/
theorem not_linkAndRouter : ¬ Obligations.LinkAndRouter := by
  unfold Obligations.LinkAndRouter
  intro h
  obtain ⟨_, inject, _⟩ := h ownReadWaits
  have next : (collExpire (chargeAll ownReadWaits)).nextInject = some ownRead := rfl
  have claimed : exec .packetInject ownReadWaits = finish (injectPkt ownRead ownReadTaken) := (inject ownRead next).1 rfl
  have same := Host.Outcome.next.inj (exec_packetInject_ownRead.symm.trans claimed)
  have asked := congrArg (fun s => s.fab.asked) same
  rw [settle_asked rfl, settle_asked rfl] at asked
  exact absurd asked (by decide)

end Sys2Proof.Machine
end
section
/-!
PROOF. Requests of other modules, and collectives (13, 14; O42 and O43).
-/

namespace Sys2Proof.Machine

/-! Requests of other modules. -/

/-- A WRITE that arrives is stored where it checks clean, and is acknowledged where it asks. -/
theorem exec_inboundWrite {i : Nat} {k : Packet} {s u : State}
    (taken : takeIn (fun k => k.typ == .write) s = some (i, k, u)) :
    let st := inboundStatus k k.data.length u
    let v := if regionOf k.addr = some .sems then count .finderWrites (portDie i) 1 u else u
    let r := devWrite k.addr k.data v
    (st ≠ 0 → exec .inboundWrite s = finish (if k.ack = true then respond i k .writeAck st [] u else u)) ∧
    (st = 0 → exec .inboundWrite s = finish
      (if k.ack = true then respond i k .writeAck (if r.1 = true then 4 else 0) [] r.2 else r.2)) := by
  intro st v r
  change (_ → execInboundWrite s = _) ∧ (_ → execInboundWrite s = _)
  rw [execInboundWrite, taken]
  dsimp only
  refine ⟨fun bad => ?_, fun ok => ?_⟩
  · have off : ¬ inboundStatus k k.data.length u = 0 := bad
    simp only [off, false_and, if_false]
    rfl
  · have on : inboundStatus k k.data.length u = 0 := ok
    simp only [on, true_and, if_true]
    rfl

/-- A READ_REQ that arrives is answered with its status, or with what it reads. -/
theorem exec_inboundReadReq {i : Nat} {k : Packet} {s u : State}
    (taken : takeIn (fun k => k.typ == .readReq) s = some (i, k, u)) :
    let st := inboundStatus k (k.lenM1 + 1) u
    let sems := regionOf k.addr == some .sems && u.boot.reset.any (fun r => r.scope == 1)
    let v := if k.lenM1 + 1 ≤ 256 then count .finderReads (portDie i) (finderReqs [(k.addr, k.lenM1 + 1)]) u else u
    let r := devRead k.addr (k.lenM1 + 1) v
    exec .inboundReadReq s = finish (
      if st ≠ 0 then respond i k .readRsp st [] u
      else if sems = true then respond i k .readRsp 1 [] u
      else r.1.elim (respond i k .readRsp 0 r.2.1 r.2.2) fun _ => respond i k .readRsp 4 [] r.2.2) := by
  intro st sems v r
  change execInboundReadReq s = _
  rw [execInboundReadReq, taken]
  dsimp only
  change (if (if (decide (st = 0) && sems) = true then 1 else st) ≠ 0 then
    finish (respond i k .readRsp (if (decide (st = 0) && sems) = true then 1 else st) [] u)
    else match r.1 with
      | some a => finish (respond i k .readRsp 4 [] r.2.2)
      | none => finish (respond i k .readRsp 0 r.2.1 r.2.2)) = _
  by_cases clean : st = 0
  · by_cases held : sems = true
    · simp [clean, held]
    · rw [if_neg (by simp [clean, held]), if_neg (not_not_intro clean), if_neg held]
      cases r.1 <;> rfl
  · simp [clean]

/-- A semaphore word that a packet names well has an index. -/
theorem exec_inboundSemOp {i : Nat} {k : Packet} {s u : State}
    (taken : takeIn (fun k => k.typ == .semOp) s = some (i, k, u)) :
    (semStatus k u ≠ 0 → exec .inboundSemOp s = finish (respond i k .writeAck (semStatus k u) [] u)) ∧
    (∀ j, semStatus k u = 0 → semIndex k.addr = some j → exec .inboundSemOp s =
      if k.op = 0 then finish (semAdd j k.operand u).2 else finish (semSet j (BitVec.ofNat 32 k.operand) u)) := by
  change (_ → execInboundSemOp s = _) ∧ (∀ j, _ → _ → execInboundSemOp s = _)
  rw [execInboundSemOp, taken]
  dsimp only
  refine ⟨fun bad => ?_, fun j ok index => ?_⟩
  · cases semIndex k.addr with
    | none => rfl
    | some j => exact if_neg bad
  · rw [index]
    exact if_pos ok

theorem exec_inboundSemWatch {i : Nat} {k : Packet} {s u : State}
    (taken : takeIn (fun k => k.typ == .semWatch) s = some (i, k, u)) :
    (semStatus k u ≠ 0 → exec .inboundSemWatch s = finish (respond i k .watchRsp (semStatus k u) [] u)) ∧
    (∀ j, semStatus k u = 0 → semIndex k.addr = some j →
      let c := (u.sem j).count.toNat
      let w : Watch := ⟨semDie j, k.src, k.tdie * 4096 + k.token, j, k.operand⟩
      exec .inboundSemWatch s =
        if k.operand ≤ c then finish (sendPkts [watchAnswer u.ownId w 0 c] u)
        else if u.mer.watches.countP (fun x => x.die == w.die) ≥ 4096 then finish (sendPkts [watchAnswer u.ownId w 2 c] u)
        else finish (sendPkts [watchAnswer u.ownId w 1 c] { u with mer := { u.mer with watches := u.mer.watches ++ [w] } })) := by
  change (_ → execInboundSemWatch s = _) ∧ (∀ j, _ → _ → execInboundSemWatch s = _)
  rw [execInboundSemWatch, taken]
  dsimp only
  refine ⟨fun bad => ?_, fun j ok index => ?_⟩
  · cases semIndex k.addr with
    | none => rfl
    | some j => exact if_pos bad
  · rw [index]
    exact if_neg (not_not_intro ok)

/-- Settles O42. -/
theorem inboundRequests : Obligations.InboundRequests := by
  unfold Obligations.InboundRequests
  refine fun s i k u => ⟨exec_inboundWrite, fun taken => ?_, fun taken => ?_, fun taken => ?_, fun taken => ?_⟩
  · intro n st
    have eq := exec_inboundReadReq taken
    refine ⟨fun bad => eq.trans (congrArg finish (if_pos bad)), fun ok sems reset => ?_, fun ok open_ => ?_⟩
    · exact eq.trans (congrArg finish ((if_neg (not_not_intro ok)).trans (if_pos (by simp [sems, reset]))))
    · intro v r
      have read := eq.trans (congrArg finish ((if_neg (not_not_intro ok)).trans (if_neg (by
        rw [Bool.and_eq_true, beq_iff_eq]
        exact fun h => open_.elim (· h.1) (Bool.eq_false_iff.mp · h.2)))))
      exact ⟨fun a poison => read.trans (congrArg (fun o => finish (Option.elim o _ _)) poison),
        fun clean => read.trans (congrArg (fun o => finish (Option.elim o _ _)) clean)⟩
  · obtain ⟨bad, good⟩ := exec_inboundSemOp taken
    exact ⟨bad, fun j ok index => ⟨fun add => (good j ok index).trans (if_pos add),
      fun set => (good j ok index).trans (if_neg set)⟩⟩
  · obtain ⟨bad, good⟩ := exec_inboundSemWatch taken
    refine ⟨bad, fun j ok index => ?_⟩
    intro c w full
    have eq := good j ok index
    exact ⟨fun met => eq.trans (if_pos met),
      fun unmet busy => eq.trans ((if_neg (Nat.not_le_of_lt unmet)).trans (if_pos busy)),
      fun unmet room => eq.trans ((if_neg (Nat.not_le_of_lt unmet)).trans (if_neg room))⟩
  · change execInboundWatchCancel s = _
    rw [execInboundWatchCancel, taken]
    rfl

/-! Communicators. -/

/-- CREATE_COMMUNICATOR of a record that is accepted, or refused. -/
theorem exec_createCommunicator {m : Fin 16} {s : State} {r : (Nat × Comm × State) ⊕ Reply}
    (takes : mbxTakes 0x0508 anyArgs m s = true)
    (record : readComm (s.arg m 0) (fun id s => !kvHas id s.fab.comms && decide (s.fab.comms.length < 256)) s = r) :
    exec (.createCommunicator m) s = finish (Reply.settle m (r.elim
      (fun x => .done St.ok [] { x.2.2 with fab := { x.2.2.fab with comms := kvSet x.1 x.2.1 x.2.2.fab.comms } }) id)) := by
  change execCreateCommunicator m s = _
  rw [execCreateCommunicator, mbxCommand_of_mbxTakes _ takes]
  simp only [State.arg] at record
  rw [record]
  cases r <;> rfl

/-- SWITCH_LAYOUT of a communicator to its next epoch, its record read. -/
theorem exec_switchLayout {m : Fin 16} {c n : Comm} {x : Nat} {s u : State} (takes : mbxTakes 0x050A anyArgs m s = true)
    (found : kvFind (bits (s.arg m 0) 11 0) s.fab.comms = some c) (next : bits (s.arg m 0) 31 16 = (c.epoch + 1) % 65536)
    (record : readComm (s.arg m 1) (fun i _ => i == bits (s.arg m 0) 11 0) s = .inl (x, n, u)) :
    exec (.switchLayout m) s = finish (Reply.settle m (
      if u.collOpen (bits (s.arg m 0) 11 0) || (!c.stale && !c.owed.isEmpty) then .done St.commBusy [] u
      else .done St.ok [] (admitEpoch (bits (s.arg m 0) 11 0) (chargeAll (count .switches 0 1
        (setComm (bits (s.arg m 0) 11 0) (fun _ => { n with epoch := bits (s.arg m 0) 31 16 }) u)))))) := by
  change execSwitchLayout m s = _
  rw [execSwitchLayout, mbxCommand_of_mbxTakes _ takes]
  simp only [State.arg] at found next record ⊢
  rw [found]
  dsimp only
  rw [if_neg (not_not_intro next), record]
  rfl

/-! Collectives. -/

/-- An engine's next admission: none, or of the task that the unit order names among the oldest of each communicator. -/
theorem collTake_succ {n die : Nat} {s : State} (closed : s.inCompute = false)
    (room : s.fab.colls.countP (fun x => (s.task x.task).any Task.busy) < 16) {t : Nat} {k : Task}
    (chosen : s.unitChoose (66 + die) ((s.mer.tasks.filter fun p =>
      p.2.desc.type == 8 && p.2.loc == die && p.2.phase == .admitted && !s.awaitsSwitch p.2).filter fun p =>
        !((s.mer.tasks.filter fun p =>
          p.2.desc.type == 8 && p.2.loc == die && p.2.phase == .admitted && !s.awaitsSwitch p.2).any fun q =>
            q.2.desc.cgroup == p.2.desc.cgroup && decide (q.2.age < p.2.age))) = some (t, k)) :
    collTake (n + 1) die (fun _ => true) s = (collTry t die k s).elim (collTake n die (fun p => true && p.1 != t) (waitToken t s)) id := by
  rw [collTake]
  simp only [Bool.and_true]
  rw [if_neg (by simp [closed, room]), chosen]
  dsimp only
  cases collTry t die k s <;> rfl

/-- A task whose communicator is there, of the current epoch, is admitted. -/
theorem collTry_current {t die : Nat} {k : Task} {c : Comm} {s : State} (comm : kvFind k.desc.cgroup s.fab.comms = some c)
    (fresh : c.stale = false) (epoch : k.desc.cepoch = c.epoch) : collTry t die k s = collAdmit t die k c s := by
  rw [collTry, comm]
  dsimp only
  rw [if_neg (Bool.eq_false_iff.mp fresh), if_neg (not_not_intro epoch)]

theorem exec_collDataReceived {i : Nat} {p : Packet} {c : Comm} {s u v : State}
    (taken : takeIn (fun k => k.typ == .collData) (collExpire (chargeAll s)) = some (i, p, u))
    (current : collFilter i p u = (some c, v)) (access : checkAccess .remote p.addr p.data.length = none)
    (low : c.slotAt c.own (bits p.coll 35 20) ≤ p.addr)
    (high : p.addr < c.slotAt c.own (bits p.coll 35 20) + c.slot64k * 65536) (rank : bits p.coll 18 8 < c.ranks.length)
    (other : bits p.coll 18 8 ≠ c.own) :
    exec .collDataReceived s = finish (collPumpAll (fun x => x.comm == bits p.coll 63 52)
      (setComm (bits p.coll 63 52) (fun d => { d with landed := d.landed ++
        [(bits p.coll 35 20, bits p.coll 19 19, bits p.coll 18 8, p.addr - c.slotAt c.own (bits p.coll 35 20))] })
      (count .rxLines (c.dieOf c.own) (p.data.length / 64) (devPut p.addr p.data v)))) := by
  change execCollDataReceived s = _
  rw [execCollDataReceived, taken]
  dsimp only
  rw [current]
  dsimp only
  rw [access]
  dsimp only
  rw [if_pos ⟨low, high, rank, other⟩]

theorem exec_collFreeReceived {i : Nat} {p : Packet} {c : Comm} {s u v : State}
    (taken : takeIn (fun k => k.typ == .collCtrl && k.kind == 0x10) (collExpire (chargeAll s)) = some (i, p, u))
    (current : collFilter i p u = (some c, v)) :
    let e := (bits p.coll 18 8, bits p.coll 35 20)
    exec .collFreeReceived s = finish (collPumpAll (fun x => x.comm == bits p.coll 63 52)
      (setComm (bits p.coll 63 52) (fun d => { d with
        frees := if v.freeUsed (bits p.coll 63 52) e.2 c || d.frees.contains e then d.frees else d.frees ++ [e]
        owed := d.owed.filter (· != e) }) v)) := by
  intro e
  change execCollFreeReceived s = _
  rw [execCollFreeReceived, taken]
  dsimp only
  rw [current]

theorem exec_collAbortReceived {i : Nat} {p : Packet} {c : Comm} {x : Coll} {s u v : State}
    (taken : takeIn (fun k => k.typ == .collCtrl && k.kind == 0x11) s = some (i, p, u))
    (current : collFilter i p u = (some c, v))
    (named : v.fab.colls.find? (fun x => x.comm == bits p.coll 63 52 && x.num % 65536 == bits p.coll 35 20) = some x) :
    exec .collAbortReceived s = finish (collFail x.task Ts.aborted p.src (count .abortsRx (c.dieOf c.own) 1 v)) := by
  change execCollAbortReceived s = _
  rw [execCollAbortReceived, taken]
  dsimp only
  rw [current]
  dsimp only
  change (match v.fab.colls.find? (fun x => x.comm == bits p.coll 63 52 && x.num % 65536 == bits p.coll 35 20) with
    | some x => _
    | none => _) = _
  rw [named]

theorem exec_collectiveTimeout {t : Nat} {x : Coll} {c : Comm} {d : Desc} {s : State} (due : s.collOver t false = true)
    (found : (chargeAll s).coll t = some (x, c, d))
    (ends : s.collOver t true = true ∨ s.collArrives t = false ∨ s.collLacks t = none) :
    exec (.collectiveTimeout t) s =
      finish (collFail t Ts.timeout (((chargeAll s).collLacks t).getD (c.moduleOf c.own)) (chargeAll s)) := by
  change execCollectiveTimeout t s = _
  rw [execCollectiveTimeout, if_neg (by simp [due]), if_neg ?_, collTimeout, found]
  rintro ⟨early, lacks, arrives⟩
  obtain late | still | none := ends
  · simp [late] at early
  · simp [still] at arrives
  · simp [none] at lacks

/-- Settles O43. -/
theorem collectives : Obligations.Collectives := by
  unfold Obligations.Collectives
  refine fun s => ⟨fun m takes => ?_, fun m takes => ?_, fun m takes => ?_, fun m c takes => ?_, fun die => ?_,
    fun i p u c v taken current => ?_, fun i p u c v => exec_collFreeReceived,
    fun i p u c v x => exec_collAbortReceived, fun t x c d => exec_collectiveTimeout⟩
  · refine ⟨fun known => ?_, fun free => ?_⟩
    · change execSetModuleId m s = _
      exact mbxCommand_of_done takes (if_pos known)
    · intro u
      change execSetModuleId m s = _
      refine mbxCommand_of_done takes ((if_neg (by simp [free])).trans ?_)
      simp only [beq_iff_eq]
      rfl
  · intro r
    exact ⟨fun id c u record => exec_createCommunicator takes record, fun x refused => exec_createCommunicator takes refused⟩
  · intro id
    have open_ (some : kvHas id s.fab.comms = true) : ¬ (!kvHas id s.fab.comms) = true := by
      rw [some]
      decide
    refine ⟨fun none => ?_, fun some busy => ?_, fun some idle => ?_⟩
    · change execDestroyCommunicator m s = _
      exact mbxCommand_of_done takes (if_pos (Eq.trans (congrArg not none) rfl))
    · change execDestroyCommunicator m s = _
      exact mbxCommand_of_done takes ((if_neg (open_ some)).trans (if_pos busy))
    · change execDestroyCommunicator m s = _
      exact mbxCommand_of_done takes ((if_neg (open_ some)).trans (if_neg (Bool.eq_false_iff.mp idle)))
  · intro id e found
    refine ⟨fun wrong => ?_, fun x n u next record => ?_⟩
    · change execSwitchLayout m s = _
      refine mbxCommand_of_done takes ?_
      change (match kvFind id s.fab.comms with
        | none => _
        | some c => _) = _
      rw [found]
      exact if_pos wrong
    · refine ⟨fun busy => ?_, fun idle settled => ?_⟩
      · rw [exec_switchLayout takes found next record, if_pos]
        · rfl
        · simpa [List.isEmpty_eq_false_iff] using busy
      · rw [exec_switchLayout takes found next record, if_neg]
        · rfl
        · simpa [show u.collOpen (bits (s.arg m 0) 11 0) = false from idle, or_iff_not_imp_left] using settled
  · intro u
    have run : exec (.collectiveTask die) s = finish (collTake (u.collQueued + 1) die.val (fun _ => true) u) := rfl
    refine ⟨fun full => run.trans (congrArg finish (if_pos full)), fun t k v closed room => ?_⟩
    intro mine ready chosen
    have taken := run.trans (congrArg finish (collTake_succ (n := u.collQueued) closed room chosen))
    refine ⟨fun none => ?_, fun c comm fresh epoch admits => ?_⟩
    · have reject : collTry t die.val k u = some (rejectTask t Ts.descFieldInvalid 368 u) := by
        rw [collTry, none]
      rw [taken, reject, Option.elim_some, id, finish]
    · rw [taken, collTry_current comm fresh epoch, admits, Option.elim_some, id, finish]
  · intro id seq q base access low high rank other
    exact exec_collDataReceived taken current access low high rank other

end Sys2Proof.Machine
end
section
/-!
PROOF. Sites, the fence and the buddy (14; O44).
-/

namespace Sys2Proof.Machine

/-- CLEAR_FENCE without a fence, with a communicator that spans the sites, and otherwise. -/
theorem exec_clearFence {m : Fin 16} {s : State} (takes : mbxTakes 0x050C anyArgs m s = true) :
    exec (.clearFence m) s = finish (Reply.settle m (
      if s.fab.fenced.isNone then .done St.ok [] s
      else if s.fab.comms.any (fun p => s.spans p.2) then .done St.fenceSpanning [] s
      else .done St.ok [] (mirrorAgain (siteCheck (post Ev.fenceCleared []
        { s with fab := { s.fab with fenced := none, armed := false } }))))) := by
  change execClearFence m s = _
  rw [execClearFence, mbxCommand_of_mbxTakes _ takes]

theorem exec_siteStateSend {s : State} (on : s.fab.siteEn = true) (id : s.fab.id.isSome = true)
    (groups : s.fab.groups.isSome = true) :
    exec .siteStateSend s = finish (sendPkts ((siteCheck s).siteGroups.map fun g => mgmtPkt (8 * g + (siteCheck s).ownId % 8)
      [2 * 2 ^ 56 + b2n (siteCheck s).fab.fenced.isSome * 2 ^ 16 + (siteCheck s).crossCount, (siteCheck s).now, 0]
      (siteCheck s)) (siteCheck s)) := by
  change execSiteStateSend s = _
  rw [execSiteStateSend]
  exact if_neg (by rw [on, Option.isNone_eq_false_iff.mpr id, Option.isNone_eq_false_iff.mpr groups]; decide)

theorem exec_siteStateReceived {i : Nat} {k : Packet} {s u : State}
    (taken : takeIn (fun k => k.typ == .mgmt && k.kind == 2) s = some (i, k, u)) (on : u.fab.siteEn = true) :
    exec .siteStateReceived s = finish (siteCheck { u with fab := { u.fab with
      siteView := kvSet (k.src / 8) (k.mgmt.getD 0 0 % 65536, u.cyc) u.fab.siteView } }) := by
  change execSiteStateReceived s = _
  rw [execSiteStateReceived, taken]
  exact if_neg (by rw [on]; decide)

/-- The ring for the buddy's records is one of Table 14-9. -/
def buddyRingOk (base n : Nat) : Prop :=
  base % 65536 = 0 ∧ regionOf base = some .gddr7 ∧ regionOf (base + n - 1) = some .gddr7 ∧
    n % 65536 = 0 ∧ 2 ^ 26 ≤ n ∧ n ≤ 2 ^ 32

theorem buddyRingOk_iff (base n : Nat) : (!aligned base 65536 || regionOf base != some .gddr7 ||
    regionOf (base + n - 1) != some .gddr7 || !aligned n 65536 || decide (n < 2 ^ 26) || decide (n > 2 ^ 32)) = false ↔
    buddyRingOk base n := by
  simp only [buddyRingOk, Bool.or_eq_false_iff, aligned, bne_eq_false_iff_eq, Bool.not_eq_false',
    decide_eq_false_iff_not, beq_iff_eq, Nat.not_lt, and_assoc, gt_iff_lt]

/-- SET_BUDDY, off or with a ring that serves: the mirror starts afresh. -/
def buddySet (m : Fin 16) (s : State) : State :=
  mirrorPump (digestStep (fun u => { u with
    store := { u.store with
      mirroring := none, outQ := [], incoming := none, mirrorHalt := false, seqOut := 0, seqIn := 0, unacked := [], freed := 0 }
    fab := { u.fab with
      buddy := if bit (s.arg m 0) 10 = true then some (bits (s.arg m 0) 9 0) else none
      ringBase := s.arg m 1, ringBytes := s.arg m 2, rate := bits (s.arg m 0) 31 16, beatAt := u.cyc, buddyLost := false
      credit := s.arg m 2, mirrorAt := 0, drainAt := 0 } }) s)

theorem exec_setBuddy {m : Fin 16} {s : State} (takes : mbxTakes 0x050D anyArgs m s = true) :
    (bit (s.arg m 0) 10 = true → ¬ buddyRingOk (s.arg m 1) (s.arg m 2) →
      exec (.setBuddy m) s = .next (settle (mbxComplete m St.commArgInvalid [] s))) ∧
    (bit (s.arg m 0) 10 = false ∨ buddyRingOk (s.arg m 1) (s.arg m 2) →
      exec (.setBuddy m) s = .next (settle (mbxComplete m St.ok [] (buddySet m s)))) := by
  change (_ → _ → execSetBuddy m s = _) ∧ (_ → execSetBuddy m s = _)
  refine ⟨fun on bad => mbxCommand_of_done takes (if_pos ?_), fun ok => mbxCommand_of_done takes (if_neg ?_)⟩
  · rw [Bool.and_eq_true]
    exact ⟨on, Bool.not_eq_false _ |>.mp fun h => bad ((buddyRingOk_iff _ _).mp h)⟩
  · rw [Bool.and_eq_true]
    rintro ⟨on, bad⟩
    obtain off | good := ok
    · exact Bool.eq_false_iff.mp off on
    · exact Bool.eq_false_iff.mp ((buddyRingOk_iff _ _).mpr good) bad

theorem exec_buddyBeatReceived {i : Nat} {k : Packet} {s u : State}
    (taken : takeIn (fun k => k.typ == .mgmt && k.kind == 3) s = some (i, k, u)) (buddy : u.fab.buddy = some k.src) :
    let v := { u with fab := { u.fab with beatAt := u.cyc, buddyLost := false } }
    exec .buddyBeatReceived s =
      finish (if u.fab.buddyLost = true then mirrorAgain (post Ev.buddyRestored [k.src] v) else v) := by
  intro v
  change execBuddyBeatReceived s = _
  rw [execBuddyBeatReceived, taken]
  exact if_neg (not_not_intro buddy)

theorem exec_buddyLost {b : Nat} {s : State} (buddy : s.fab.buddy = some b) (there : s.fab.buddyLost = false)
    (silent : s.fab.beatAt + 5000000 ≤ s.cyc) : exec .buddyLost s =
      finish (mirrorLost (post Ev.buddyLost [b] { s with fab := { s.fab with buddyLost := true } })) := by
  change execBuddyLost s = _
  rw [execBuddyLost, buddy]
  exact if_neg (by simp [there, silent])

theorem exec_mirrorCreditReceived {i : Nat} {k : Packet} {s u : State}
    (taken : takeIn (fun k => k.typ == .mgmt && k.kind == 4) s = some (i, k, u)) (buddy : u.fab.buddy = some k.src) :
    exec .mirrorCreditReceived s = finish (mirrorPump { u with fab := { u.fab with
      credit := Nat.min u.fab.ringBytes (u.fab.credit + k.mgmt.getD 0 0 % 2 ^ 32 * 65536) } }) := by
  change execMirrorCreditReceived s = _
  rw [execMirrorCreditReceived, taken]
  exact if_neg (not_not_intro buddy)

/-- Settles O44. -/
theorem sitesAndBuddy : Obligations.SitesAndBuddy := by
  unfold Obligations.SitesAndBuddy
  refine fun s => ⟨fun m takes => ?_, fun u => rfl, fun m takes => ?_, exec_siteStateSend, fun i k u => exec_siteStateReceived,
    rfl, fun m => exec_setBuddy, fun b buddy => ?_, fun i k u => exec_buddyBeatReceived, fun b => exec_buddyLost,
    fun i k u => exec_mirrorCreditReceived⟩
  · change execSetSiteMap m s = _
    exact mbxCommand_of_done takes rfl
  · have eq := exec_clearFence takes
    refine ⟨fun none => ?_, fun some spans => ?_, fun some apart => ?_⟩
    · rw [eq, if_pos (by simp [none])]
      rfl
    · rw [eq, if_neg (Bool.eq_false_iff.mp (Option.isNone_eq_false_iff.mpr some)), if_pos spans]
      rfl
    · rw [eq, if_neg (Bool.eq_false_iff.mp (Option.isNone_eq_false_iff.mpr some)), if_neg (Bool.eq_false_iff.mp apart)]
      rfl
  · change execBuddyBeatSend s = _
    rw [execBuddyBeatSend, buddy]
    rfl

end Sys2Proof.Machine
end
section
/-!
PROOF. Checkpoints (18; O45).
-/

namespace Sys2Proof.Machine

/-- The generation that WRITE_CHECKPOINT starts, with the key, parent and depth of R430. -/
def newGen (full : Bool) (m : Fin 16) (s : State) (rs : List (Nat × Nat)) (v : State) : Generation :=
  { id := s.arg m 2, parent := if full = true then 0 else v.store.base, regions := rs
    keyId := ((kvFind (bits (s.arg m 0) 15 8) v.sec.keys).map KeySlot.keyId).getD 0xFFFFFFFF
    key := (kvFind (bits (s.arg m 0) 15 8) v.sec.keys).map KeySlot.key, source := v.fab.id.getD 0
    mirror := b2n (bit (s.arg m 0) 1)
    depth := if full = true then 0 else
      ((v.store.gens.find? fun g => g.id == if full = true then 0 else v.store.base).map fun g => g.depth + 1).getD 0 }

/-- A store that is mounted, a manifest that reads: the first refusal of R431, or the write starts. -/
theorem writeCheckpoint_read {full : Bool} {m : Fin 16} {w : List Nat} {rs : List (Nat × Nat)} {s v : State}
    (mounted : s.store.mounting = false) (takes : mbxTakes 0x0801 (fun a => bit (a.n 0) 0 == full) m s = true)
    (manifest : ∀ k, readManifest (s.arg m 1) true s k = k w rs v) :
    let u := setStore (fun x => { x with write := some {
      mbx := m.val, gen := newGen full m s rs v, since := v.cyc, stage := bits (w.getD 2 0) 51 0
      room := bits (w.getD 3 0) 63 32 } }) v
    writeCheckpoint full m s = finish (Reply.settle m
      ((ckptRefused full (bits (s.arg m 0) 15 8) (s.arg m 2) (bit (s.arg m 0) 1) rs v).elim
        (.run (if bit (w.getD 0 0) 0 = true then capture u else u)) fun st => .done st [] v)) := by
  intro u
  rw [writeCheckpoint, if_neg (Bool.eq_false_iff.mp mounted), mbxCommand_of_mbxTakes _ takes]
  refine (congrArg (fun r => finish (Reply.settle m r)) (manifest _)).trans ?_
  dsimp only
  change finish (Reply.settle m (match ckptRefused full (bits (s.arg m 0) 15 8) (s.arg m 2) (bit (s.arg m 0) 1) rs v with
    | some st => _
    | none => _)) = _
  cases ckptRefused full (bits (s.arg m 0) 15 8) (s.arg m 2) (bit (s.arg m 0) 1) rs v <;> rfl

theorem exec_captureOnDemand {a ns : Nat} {w : CkptWrite} {x : StoredGran} {s : State} (write : s.store.write = some w)
    (left : w.todo.find? (fun x => x.addr == a / granBytes * granBytes) = some x) (room : w.staged.length < w.room) :
    exec (.captureOnDemand a ns) s = finish (stageMore 1 (setStore (fun st => { st with write := some { w with
      todo := x :: w.todo.filter (fun y => y.addr != a / granBytes * granBytes), heldNs := w.heldNs + ns } }) s)) := by
  change execCaptureOnDemand a ns s = _
  rw [execCaptureOnDemand, write]
  dsimp only
  rw [left]
  exact if_neg (Nat.not_le_of_lt room)

theorem exec_checkpointCommit {w : CkptWrite} {s : State} (h : w.mbx < 16) (write : s.store.write = some w)
    (captured : w.captured = true) (done : w.todo = []) (empty : w.staged = []) :
    let g := { w.gen with tCommit := s.now }
    exec .checkpointCommit s = finish (mirrorPump (mbxComplete ⟨w.mbx, h⟩ St.ok [g.bytes]
      (post Ev.checkpointCommitted [g.id, g.bytes, s.cyc - w.since, w.heldNs, g.lost]
        (setStore (fun x => { x with gens := x.gens ++ [g], base := g.id, write := none }) s)))) := by
  intro g
  change execCheckpointCommit s = _
  rw [execCheckpointCommit, write]
  refine (if_neg (by rw [captured, done, empty]; decide)).trans ?_
  exact congrArg (fun x => finish (mirrorPump x)) (dif_pos h)

/-- RESTORE_CHECKPOINT of a manifest that reads. -/
theorem exec_restoreCheckpointLocal {m : Fin 16} {w : List Nat} {rs : List (Nat × Nat)} {s v : State}
    (takes : mbxTakes 0x0802 (fun a => !bit (a.n 0) 0) m s = true)
    (manifest : ∀ k, readManifest (s.arg m 1) false s k = k w rs v) (alive : v.store.failed = false) :
    exec (.restoreCheckpointLocal m) s = finish (Reply.settle m (
      (v.store.gens.find? fun g => g.id == s.arg m 2).elim (.done St.ckptNotFound [] v) fun g =>
        if !v.mayRead g then .done St.ckptKeyMismatch [] v
        else if g.regions.map Prod.snd ≠ rs.map Prod.snd then .done St.ckptManifestMismatch [] v
        else .run (setStore (fun x => { x with restore := some {
          mbx := m.val, gen := g.id, regions := rs, buddy := false
          todo := (restorePlan (v.store.chainOf g.id) g.regions rs).map fun p => (p.2.1, p.2.2) } }) v))) := by
  change execRestoreCheckpointLocal m s = _
  rw [execRestoreCheckpointLocal, mbxCommand_of_mbxTakes _ takes]
  refine (congrArg (fun r => finish (Reply.settle m r)) (manifest _)).trans ?_
  dsimp only
  rw [if_neg (Bool.eq_false_iff.mp alive)]
  change finish (Reply.settle m (match v.store.gens.find? (fun g => g.id == s.arg m 2) with
    | none => _
    | some g => _)) = _
  cases v.store.gens.find? (fun g => g.id == s.arg m 2) <;> rfl

/-- DELETE_CHECKPOINT of a generation that is there, childless or not. -/
theorem exec_deleteCheckpoint {m : Fin 16} {g : Generation} {s : State} (mounted : s.store.mounting = false)
    (takes : mbxTakes 0x0804 anyArgs m s = true) (alive : s.store.failed = false)
    (found : s.store.gens.find? (fun g => g.id == s.arg m 0) = some g) :
    exec (.deleteCheckpoint m) s = finish (Reply.settle m (
      if s.store.gens.any (fun x => x.parent == g.id) then .done St.ckptHasChildren [] s
      else if g.keyId ≠ 0xFFFFFFFF ∧ s.inTenant ∧ (s.storageKey g.keyId).isNone then .done St.ckptKeyMismatch [] s
      else .done St.ok [] (setStore (fun x => { x with
        gens := x.gens.filter fun y => y.id != g.id, base := if x.base = g.id then 0 else x.base }) s))) := by
  change execDeleteCheckpoint m s = _
  rw [execDeleteCheckpoint, if_neg (Bool.eq_false_iff.mp mounted), mbxCommand_of_mbxTakes _ takes]
  simp only [State.arg] at found
  rw [if_neg (Bool.eq_false_iff.mp alive), found]

/-- Settles O45. -/
theorem checkpointStore : Obligations.CheckpointStore := by
  unfold Obligations.CheckpointStore
  refine fun m s => ⟨fun full i w rs v start mounted takes manifest => ?_, fun a ns w x => exec_captureOnDemand,
    fun n bl w write => ?_, fun w h => exec_checkpointCommit h, fun w rs v takes manifest alive => ?_,
    fun n r restore local_ => ?_, fun bs takes reply serves fits => ?_, fun g mounted takes alive found => ?_,
    fun takes serves fits => ?_⟩
  · have run : exec i s = writeCheckpoint full m s := by
      obtain ⟨rfl, rfl⟩ | ⟨rfl, rfl⟩ := start <;> rfl
    have eq := run.trans (writeCheckpoint_read mounted takes manifest)
    intro slot mirror
    refine ⟨fun st refused => ?_, fun ok => ?_⟩
    · rw [eq, refused]
      rfl
    · rw [eq, ok]
      rfl
  · intro take put w' u
    change execStagingDrain n bl s = _
    rw [execStagingDrain, write]
    rfl
  · have eq := exec_restoreCheckpointLocal takes manifest alive
    refine ⟨fun none => ?_, fun g found => ⟨fun locked => ?_, fun open_ other => ?_, fun open_ same => ?_⟩⟩
    · rw [eq, none]
      rfl
    · rw [eq, found, Option.elim_some, if_pos (by rw [locked]; rfl)]
      rfl
    · rw [eq, found, Option.elim_some, if_neg (by rw [open_]; decide), if_pos other]
      rfl
    · rw [eq, found, Option.elim_some, if_neg (by rw [open_]; decide), if_neg (not_not_intro same)]
      rfl
  · intro p r' u
    have eq : exec (.restoreDone n) s = finish (if (r.todo.drop n).isEmpty then
        restoreEnd (if p.2 then St.ckptDataLost else 0) u else u) := by
      change execRestoreDone n s = _
      rw [execRestoreDone, restore]
      exact if_neg (Bool.eq_false_iff.mp local_)
    have all : (r.todo.drop n).isEmpty = true ↔ r.todo.length ≤ n := by
      rw [List.isEmpty_iff, List.drop_eq_nil_iff]
    exact ⟨fun last => eq.trans (congrArg finish (if_pos (all.mpr last))),
      fun more => eq.trans (congrArg finish (if_neg fun h => Nat.not_le_of_lt more (all.mp h)))⟩
  · subst reply
    change execListCheckpoints m s = _
    exact mbxCommand_of_done takes (replyBytes_of_fits serves fits)
  · have eq := exec_deleteCheckpoint mounted takes alive found
    refine ⟨fun children => ?_, fun childless may => ?_⟩
    · rw [eq, if_pos children]
      rfl
    · rw [eq, if_neg (Bool.eq_false_iff.mp childless), if_neg]
      · rfl
      · rintro ⟨sealed_, tenant, lost⟩
        obtain plain | open_ | key := may
        · exact sealed_ plain
        · exact Bool.eq_false_iff.mp open_ tenant
        · exact Bool.eq_false_iff.mp (Option.isNone_eq_false_iff.mpr key) lost
  · change execReadStoreHealth m s = _
    exact mbxCommand_of_done takes (replyBytes_of_fits serves fits)

end Sys2Proof.Machine
end
section
/-!
PROOF. Mirror records (18; O46).
-/

namespace Sys2Proof.Machine

/-- Why a generation that another module begins is refused (R440). -/
def beginCause (w : List Nat) (pb : List Byte) (u : State) : Option Nat :=
  let g := beginGen w pb
  if u.fab.buddy ≠ some (mrModule w) then some 3
  else if u.store.gens.any fun x => x.id == g.id then some 4
  else if g.parent ≠ 0 ∧ !(u.store.gens.any fun x => x.id == g.parent) then some 5
  else if u.store.failed ∨ (bytesWords (pb.take 64)).getD 7 0 > u.store.free then some 6 else none

/-- BEGIN of a generation that no restore waits for. -/
theorem exec_mirrorBegin_foreign {w : List Nat} {pb : List Byte} {s u : State} (taken : ringTake 1 s = some (w, pb, u))
    (foreign : u.restoreOf (beginGen w pb).id = none) :
    exec .mirrorBeginReceived s = finish ((beginCause w pb u).elim
      (setStore (fun x => { x with incoming := some (beginGen w pb) }) u) fun c =>
        mirrorPost { typ := 4, gen := (beginGen w pb).id, parent := (beginGen w pb).parent, arg := c, dst := mrModule w } u) := by
  change execMirrorBeginReceived s = _
  rw [execMirrorBeginReceived, taken]
  dsimp only
  rw [foreign]
  change (match beginCause w pb u with
    | some c => _
    | none => _) = _
  cases beginCause w pb u <;> rfl

/-- BEGIN heads a restore from the buddy. -/
theorem exec_mirrorBegin_restore {w : List Nat} {pb : List Byte} {r : CkptRestore} {s u : State}
    (taken : ringTake 1 s = some (w, pb, u)) (own : u.restoreOf (beginGen w pb).id = some r) (bare : r.head = none) :
    exec .mirrorBeginReceived s =
      if !u.mayRead (beginGen w pb) then finish (restoreEnd St.ckptKeyMismatch u)
      else if (beginGen w pb).regions.map Prod.snd ≠ r.regions.map Prod.snd then
        finish (restoreEnd St.ckptManifestMismatch u)
      else finish (setStore (fun x => { x with restore := some { r with head := some (beginGen w pb) } }) u) := by
  change execMirrorBeginReceived s = _
  rw [execMirrorBeginReceived, taken]
  dsimp only
  rw [own]
  exact if_pos (by rw [bare]; rfl)

/-- A granule of the record. -/
def mirroredGran (w : List Nat) (pb : List Byte) : StoredGran :=
  if mrSealed w = true then { addr := mrArg w, cells := [], sealed := pb }
  else { addr := mrArg w, cells := ((List.range granBytes).zip pb).filter fun c => c.2 != 0 }

/-- A granule of the incoming generation is kept: no restore asked for it. -/
theorem exec_mirrorGranule_incoming {w : List Nat} {pb : List Byte} {g : Generation} {s u : State}
    (taken : ringTake 2 s = some (w, pb, u)) (incoming : u.store.incoming = some g) (id : g.id = mrGen w) :
    exec .mirrorGranuleReceived s = finish (programmed granBytes [] (setStore (fun st => { st with
      incoming := some { g with grans := g.grans ++ [mirroredGran w pb] } }) u)) := by
  have foreign : u.restoreGranOf (mrGen w) = none := by
    simp [State.restoreGranOf, incoming, id]
  change execMirrorGranuleReceived s = _
  rw [execMirrorGranuleReceived, taken]
  dsimp only
  rw [foreign, incoming]
  exact if_neg (not_not_intro id)

theorem exec_mirrorGranule_restore {w : List Nat} {pb : List Byte} {r : CkptRestore} {h : Generation} {dst : Nat}
    {s u : State} (taken : ringTake 2 s = some (w, pb, u)) (own : u.restoreGranOf (mrGen w) = some r)
    (head : r.head = some h) (dest : r.dest h (mirroredGran w pb).addr = some dst) :
    let q := unsealGran { h with id := mrGen w, sealed := mrSealed w } (mirroredGran w pb) (u.storageKey h.keyId)
    let r' := { r with written := r.written + granBytes, lost := r.lost || !q.2.isEmpty }
    exec .mirrorGranuleReceived s = finish (setProgress r'.mbx r'.written
      (setStore (fun x => { x with restore := some r' }) (restoreGran q.1 q.2 dst u))) := by
  intro q r'
  obtain ⟨mbx, gen, regions, buddy, todo, headed, written, lost⟩ := r
  obtain rfl : headed = some h := head
  change execMirrorGranuleReceived s = _
  rw [execMirrorGranuleReceived, taken]
  dsimp only
  rw [own]
  change (match CkptRestore.dest _ h (mirroredGran w pb).addr with
    | none => _
    | some dst => _) = _
  rw [dest]
  rfl

theorem exec_mirrorCommit_incoming {w : List Nat} {pb : List Byte} {g : Generation} {s u : State}
    (taken : ringTake 3 s = some (w, pb, u)) (foreign : u.restoreOf (mrGen w) = none)
    (incoming : u.store.incoming = some g) (id : g.id = mrGen w) :
    let g := { g with tCommit := u.now }
    exec .mirrorCommitReceived s = finish (mirrorPost { typ := 5, gen := g.id, parent := g.parent, dst := mrModule w }
      (post Ev.mirrorReceived [g.id, mrModule w] (setStore (fun x => { x with gens := x.gens ++ [g], incoming := none }) u))) := by
  intro g
  change execMirrorCommitReceived s = _
  rw [execMirrorCommitReceived, taken]
  dsimp only
  rw [foreign, incoming]
  exact if_neg (not_not_intro id)

theorem exec_mirrorCommit_restore {w : List Nat} {pb : List Byte} {r : CkptRestore} {s u : State}
    (taken : ringTake 3 s = some (w, pb, u)) (own : u.restoreOf (mrGen w) = some r) (head : r.head.isSome = true) :
    exec .mirrorCommitReceived s = finish (restoreEnd (if r.lost = true then St.ckptDataLost else 0) u) := by
  change execMirrorCommitReceived s = _
  rw [execMirrorCommitReceived, taken]
  dsimp only
  rw [own]
  exact if_pos head

theorem exec_mirrorAbort_mirroring {w : List Nat} {pb : List Byte} {s u : State} (taken : ringTake 4 s = some (w, pb, u))
    (foreign : u.restoreOf (mrGen w) = none) (mirroring : u.store.mirroring = some (mrGen w)) :
    exec .mirrorAbortReceived s = finish (mirrorPump (post Ev.mirrorFailed [mrGen w, mrArg w] (setStore (fun x => { x with
      mirroring := none, outQ := x.outQ.filter fun r => r.typ != 2 && r.typ != 3 }) (setMirror (mrGen w) 3 u)))) := by
  change execMirrorAbortReceived s = _
  rw [execMirrorAbortReceived, taken]
  dsimp only
  rw [foreign]
  exact if_pos mirroring

theorem exec_mirrorAbort_restore {w : List Nat} {pb : List Byte} {r : CkptRestore} {s u : State}
    (taken : ringTake 4 s = some (w, pb, u)) (own : u.restoreOf (mrGen w) = some r) :
    exec .mirrorAbortReceived s = finish (restoreEnd (abortStatus (mrArg w)) u) := by
  change execMirrorAbortReceived s = _
  rw [execMirrorAbortReceived, taken]
  dsimp only
  rw [own]

theorem exec_mirrorDone {w : List Nat} {pb : List Byte} {s u : State} (taken : ringTake 5 s = some (w, pb, u))
    (mirroring : u.store.mirroring = some (mrGen w)) :
    exec .mirrorDoneReceived s = finish (mirrorPump (post Ev.mirrorDone [mrGen w, u.fab.buddy.getD 0]
      (setStore (fun x => { x with mirroring := none }) (setMirror (mrGen w) 2 u)))) := by
  change execMirrorDoneReceived s = _
  rw [execMirrorDoneReceived, taken]
  exact if_pos mirroring

/-- A restore request for a generation that is here. -/
theorem exec_restoreReq {w : List Nat} {pb : List Byte} {g : Generation} {s u : State}
    (taken : ringTake 6 s = some (w, pb, u)) (found : u.store.gens.find? (fun g => g.id == mrGen w) = some g) :
    exec .restoreReqReceived s =
      if u.fab.buddy ≠ some (mrModule w) ∨ g.source ≠ mrModule w then
        finish (mirrorPost { typ := 4, gen := g.id, parent := g.parent, arg := 3, dst := mrModule w } u)
      else finish (mirrorPump (setStore (fun st => { st with
        outQ := st.outQ ++ genRecords g ((regionGrans g.regions).filterMap (resolve ((draw u).2.store.chainOf g.id)))
          (mrModule w) (draw u).1 }) (draw u).2)) := by
  change execRestoreReqReceived s = _
  rw [execRestoreReqReceived, taken]
  dsimp only
  rw [found]

/-- RESTORE_CHECKPOINT from the buddy. -/
theorem exec_restoreCheckpointBuddy {m : Fin 16} {w : List Nat} {rs : List (Nat × Nat)} {s v : State}
    (takes : mbxTakes 0x0802 (fun a => bit (a.n 0) 0) m s = true)
    (manifest : ∀ k, readManifest (s.arg m 1) false s k = k w rs v) (alive : v.store.failed = false) :
    exec (.restoreCheckpointBuddy m) s = finish (Reply.settle m (v.fab.buddy.elim (.done St.ckptNoBuddy [] v) fun b =>
      if v.mirrorDown then .done St.ckptBuddyLost [] v
      else .run (mirrorPost { typ := 6, gen := s.arg m 2, dst := b } (setStore (fun x => { x with restore := some {
        mbx := m.val, gen := s.arg m 2, regions := rs, buddy := true } }) v)))) := by
  change execRestoreCheckpointBuddy m s = _
  rw [execRestoreCheckpointBuddy, mbxCommand_of_mbxTakes _ takes]
  refine (congrArg (fun r => finish (Reply.settle m r)) (manifest _)).trans ?_
  dsimp only
  rw [if_neg (Bool.eq_false_iff.mp alive)]
  cases v.fab.buddy <;> rfl

/-- Settles O46. -/
theorem mirrorRecords : Obligations.MirrorRecords := by
  unfold Obligations.MirrorRecords
  refine fun s => ⟨fun w pb u taken => ⟨fun foreign => ?_, fun r own bare => ?_⟩, fun w pb u taken => ?_,
    fun w pb u taken => ⟨fun g => exec_mirrorCommit_incoming taken, fun r => exec_mirrorCommit_restore taken⟩,
    fun w pb u taken => ⟨exec_mirrorAbort_mirroring taken, fun r => exec_mirrorAbort_restore taken⟩,
    fun w pb u => exec_mirrorDone, fun w pb u g taken found => ?_, fun b buddy => ?_,
    fun m w rs v b takes manifest alive => ?_⟩
  · have eq := exec_mirrorBegin_foreign taken foreign
    intro known bytes ans
    have abort {c : Nat} (cause : beginCause w pb u = some c) : exec .mirrorBeginReceived s = finish (ans c) := by
      rw [eq, cause]
      rfl
    refine ⟨fun other => abort (if_pos other), fun buddy twice => abort ((if_neg (not_not_intro buddy)).trans (if_pos twice)),
      fun buddy new child orphan => abort ?_, fun buddy new parent => ?_⟩
    · refine (if_neg (not_not_intro buddy)).trans ((if_neg (Bool.eq_false_iff.mp new)).trans (if_pos ⟨child, ?_⟩))
      exact congrArg not orphan
    · have later : beginCause w pb u = if u.store.failed ∨ bytes > u.store.free then some 6 else none := by
        refine (if_neg (not_not_intro buddy)).trans ((if_neg (Bool.eq_false_iff.mp new)).trans (if_neg ?_))
        rintro ⟨child, orphan⟩
        obtain root | there := parent
        · exact child root
        · exact Bool.eq_false_iff.mp (congrArg not there) orphan
      refine ⟨fun full => abort (later.trans (if_pos full)), fun alive fits => ?_⟩
      have none : beginCause w pb u = none := later.trans (if_neg (by simp [alive, fits]))
      rw [eq, none]
      rfl
  · have eq := exec_mirrorBegin_restore taken own bare
    refine ⟨fun locked => ?_, fun open_ same => ?_⟩
    · exact eq.trans (if_pos (by rw [locked]; rfl))
    · exact eq.trans ((if_neg (by rw [open_]; decide)).trans (if_neg (not_not_intro same)))
  · intro cells x
    exact ⟨fun g => exec_mirrorGranule_incoming taken, fun r h dst => exec_mirrorGranule_restore taken⟩
  · have eq := exec_restoreReq taken found
    refine ⟨fun other => eq.trans (if_pos other), fun buddy own => ?_⟩
    exact eq.trans (if_neg fun h => h.elim (· buddy) (· own))
  · intro n some
    change execMirrorRingDrained s = _
    rw [execMirrorRingDrained, buddy]
    exact if_neg some
  · have eq := exec_restoreCheckpointBuddy takes manifest alive
    refine ⟨fun none => ?_, fun buddy down => ?_, fun buddy up => ?_⟩
    · rw [eq, none]
      rfl
    · rw [eq, buddy, Option.elim_some, if_pos down]
      rfl
    · rw [eq, buddy, Option.elim_some, if_neg (Bool.eq_false_iff.mp up)]
      rfl

end Sys2Proof.Machine
end
section
/-!
PROOF. Interleave, fills, dirty maps, channels and the store's media (07, 18; O47).
-/

namespace Sys2Proof.Machine

/-! Interleave and fills. -/

theorem exec_setMemoryInterleave {m : Fin 16} {s : State} (takes : mbxTakes 0x0201 anyArgs m s = true) :
    let bg := bits (s.arg m 0) 15 0
    let bl := bits (s.arg m 0) 31 16
    let u := { s with tiers := { s.tiers with bg := bg, bl := bl } }
    let v := if bg ≠ s.tiers.bg then startFill 0 (.interleave m.val) u else u
    exec (.setMemoryInterleave m) s = finish (Reply.settle m (
      if bg % 8 ≠ 0 ∨ bg > 232 ∨ bl % 16 ≠ 0 ∨ bl > 464 then .done St.memArgInvalid [] s
      else if bg = s.tiers.bg ∧ bl = s.tiers.bl then .done St.ok [] s
      else .run (if bl ≠ s.tiers.bl then startFill 1 (.interleave m.val) v else v))) := by
  intro bg bl u v
  change execSetMemoryInterleave m s = _
  rw [execSetMemoryInterleave, mbxCommand_of_mbxTakes _ takes]
  rfl

/-- The end of the last fill of an interleave completes its command. -/
theorem exec_tierFillDone_interleave {t : Fin 2} {m : Fin 16} {s v : State}
    (fill : kvFind t.val s.tiers.fills = some (.interleave m.val))
    (filled : { fillTier t.val s with tiers := { (fillTier t.val s).tiers with
      fills := kvDel t.val (fillTier t.val s).tiers.fills } } = v)
    (last : v.tiers.fills.all (fun p => decide (2 ≤ p.1)) = true) (runs : mbxRuns 0x0201 m v = true) :
    exec (.tierFillDone t) s = finish (mbxComplete m St.ok [] v) := by
  subst filled
  change execTierFillDone t s = _
  rw [execTierFillDone, fill]
  exact (dif_pos m.isLt).trans (if_pos ⟨last, runs⟩)

/-! Reads of a channel. -/

/-- A read that is granted: the run of latency-critical reads, the guards it used, and the read itself. -/
def readGranted (chan : Nat) (r : ChanRead) (run : Nat) (forced : Bool) (s : State) : State :=
  let u := { s with tiers := { s.tiers with lcRun := kvPut 0 chan run s.tiers.lcRun } }
  let u := if forced then count .lcGuard (s.loc r.a).die 1 u else u
  (devRead r.a r.n (if readServed r != r.cls then count .aged (s.loc r.a).die 1 u else u)).2.2

theorem exec_channelRead {chan : Nat} {rs : List ChanRead} {r : ChanRead} {forced : Bool} {s : State}
    (granted : grantRead (kvGet 0 chan s.tiers.lcRun) (rs.filter fun r => readFits r chan s) = some (r, forced)) :
    exec (.channelRead chan rs) s = finish (readGranted chan r
      (if readServed r == .lc && (rs.filter fun r => readFits r chan s).any (fun x => readServed x == .bulk)
        then kvGet 0 chan s.tiers.lcRun + 1 else 0) forced s) := by
  change execChannelRead chan rs s = _
  rw [execChannelRead, granted]
  rfl

/-- A read is served in its own class, or as a latency-critical one. -/
theorem cls_of_readServed {r : ChanRead} {c : ReadCls} (served : readServed r = c) (low : c ≠ .lc) : r.cls = c := by
  unfold readServed at served
  cases own : r.cls with
  | lc =>
    rw [own] at served
    exact absurd served.symm low
  | bulk =>
    rw [own] at served
    dsimp only at served
    split at served
    · exact absurd served.symm low
    · exact served
  | bg =>
    rw [own] at served
    dsimp only at served
    split at served
    · exact absurd served.symm low
    · exact served

/-- The oldest read of a class is of that class. -/
theorem readServed_of_first {l : List ChanRead} {c : ReadCls} {r : ChanRead}
    (first : l.find? (fun r => readServed r == c) = some r) : readServed r = c :=
  eq_of_beq (List.find?_some (p := fun r => readServed r == c) first)

/-- A latency-critical read, aged or not. -/
theorem readGranted_lc {chan run : Nat} {r : ChanRead} {s : State} (served : readServed r = .lc) :
    readGranted chan r run false s =
      if r.cls = .lc then (devRead r.a r.n { s with tiers := { s.tiers with lcRun := kvPut 0 chan run s.tiers.lcRun } }).2.2
      else (devRead r.a r.n (count .aged (s.loc r.a).die 1 { s with tiers := { s.tiers with
        lcRun := kvPut 0 chan run s.tiers.lcRun } })).2.2 := by
  rw [readGranted, served]
  by_cases own : r.cls = .lc
  · rw [own]
    rfl
  · rw [if_neg own]
    dsimp only
    rw [if_pos (bne_iff_ne.mpr (Ne.symm own))]
    rfl

theorem readGranted_own {chan run : Nat} {r : ChanRead} {forced : Bool} {s : State} (served : readServed r = r.cls) :
    readGranted chan r run forced s =
      let u := { s with tiers := { s.tiers with lcRun := kvPut 0 chan run s.tiers.lcRun } }
      (devRead r.a r.n (if forced then count .lcGuard (s.loc r.a).die 1 u else u)).2.2 := by
  rw [readGranted, served]
  exact congrArg (fun x => (devRead r.a r.n x).2.2) (if_neg (by simp))

/-! The store's media. -/

theorem exec_storeBlockRefresh {block into live : Nat} {s : State} (powered : s.powered = true)
    (alive : s.store.failed = false) (due : block ∈ s.store.due) : exec (.storeBlockRefresh block into live) s =
      finish (setStore (fun x => { x with refreshed := x.refreshed + 1 }) (erased [block] (programmed live [into] s))) := by
  change execStoreBlockRefresh block into live s = _
  have marked : s.store.due.contains block = true := List.contains_iff_mem.mpr due
  rw [execStoreBlockRefresh, marked, powered, alive]
  simp only [Bool.or_true, Bool.true_or, Bool.and_true, Bool.not_false, if_true]
  rfl

theorem exec_nandFrameRead {gen block : Nat} {frame : List NandPage} {s : State} (powered : s.powered = true)
    (known : s.store.gens.any (fun g => g.id == gen) = true) (some : frame ≠ [])
    (levels : frame.all (fun p => !p.levels.isEmpty) = true) :
    let r := frame.foldl (fun (r : State × Nat × Bool × Bool) p => let q := readNandPage gen p r.1
      (q.1, r.2.1 + q.2.1, r.2.2.1 || q.2.2.1, r.2.2.2 || q.2.2.2)) (s, 0, false, false)
    exec (.nandFrameRead gen block frame) s = finish (setStore (fun x => { x with
      strongReads := x.strongReads + b2n r.2.2.1, retries := x.retries + b2n r.2.2.2
      due := if r.2.2.1 || r.2.2.2 || decide (r.2.1 ≥ 24) then setIns block x.due else x.due }) r.1) := by
  intro r
  change execNandFrameRead gen block frame s = _
  rw [execNandFrameRead]
  refine if_neg ?_
  have read : frame.any (fun p => p.levels.isEmpty) = false := by
    simpa [List.any_eq_not_all_not] using levels
  rw [powered, known, List.isEmpty_eq_false_iff.mpr some, read]
  decide

/-- Settles O47. -/
theorem tiersAndMedia : Obligations.TiersAndMedia := by
  unfold Obligations.TiersAndMedia
  refine fun s => ⟨fun m takes => ?_, fun t why fill => ?_, fun m => ?_, fun chan rs r => ?_, fun a bs dram some page => ?_,
    fun chan x t queue => ?_, fun chan => rfl, fun powered => ⟨fun gen block frame known some levels => ?_,
    fun block into live => exec_storeBlockRefresh powered, fun block cause good low => ?_, if_pos powered,
    fun bl alive => ?_⟩⟩
  · intro bg bl
    have eq := exec_setMemoryInterleave takes
    refine ⟨fun bad => eq.trans (congrArg (fun r => finish (Reply.settle m r)) (if_pos bad)), fun g1 g2 l1 l2 => ?_⟩
    have good : ¬ (bg % 8 ≠ 0 ∨ bg > 232 ∨ bl % 16 ≠ 0 ∨ bl > 464) := by omega
    refine ⟨fun g l => ?_, fun other => ?_⟩
    · exact eq.trans (congrArg (fun r => finish (Reply.settle m r)) ((if_neg good).trans (if_pos ⟨g, l⟩)))
    · intro u v
      refine eq.trans (congrArg (fun r => finish (Reply.settle m r)) ((if_neg good).trans (if_neg ?_)))
      exact fun h => other.elim (· h.1) (· h.2)
  · intro u v
    refine ⟨fun why => ?_, fun m why => ?_⟩
    · change execTierFillDone t s = _
      rw [execTierFillDone, fill]
      obtain rfl | rfl := why <;> rfl
    · subst why
      exact exec_tierFillDone_interleave fill rfl
  · refine ⟨fun takes => ⟨fun arg => ?_, fun arg => ?_⟩, fun takes => ?_, fun takes => ?_, fun takes => ?_⟩
    · change execSnapshotDirtyAtBoundary m s = _
      exact mbxCommand_of_done takes (if_pos arg)
    · change execSnapshotDirtyAtBoundary m s = _
      exact mbxCommand_of_done takes (if_neg fun h => absurd (arg.symm.trans h) (by decide))
    · change execSnapshotDirtyNow m s = _
      exact mbxCommand_of_done takes rfl
    · change execSnapshotDirtyRelease m s = _
      exact mbxCommand_of_done takes rfl
    · intro n base bs serves fits
      change execReadDirtyMap m s = _
      exact mbxCommand_of_done takes (replyBytes_of_fits serves fits)
  · intro fit first run die grant agedRead
    have bulks : fit.any (fun x => readServed x == .bulk) = (first .bulk).isSome := by
      rw [Bool.eq_iff_iff, List.any_eq_true, List.find?_isSome]
    have next {r' : ChanRead} {forced : Bool} (granted : grantRead run fit = some (r', forced)) :
        exec (.channelRead chan rs) s = finish (readGranted chan r'
          (if readServed r' == .lc && (first .bulk).isSome then run + 1 else 0) forced s) := by
      rw [← bulks]
      exact exec_channelRead granted
    have grantOf : grantRead run fit = match first .bulk, first .lc with
        | some b, some l => if run ≥ 16 then some (b, true) else some (l, false)
        | some b, none => some (b, false)
        | none, some l => some (l, false)
        | none, none => (first .bg).map fun r => (r, false) := rfl
    have served {c : ReadCls} (found : first c = some r) : readServed r = c := readServed_of_first found
    have own {c : ReadCls} (found : first c = some r) (low : c ≠ .lc) : readServed r = r.cls :=
      (served found).trans (cls_of_readServed (served found) low).symm
    have other {c : ReadCls} {b : Bool} (found : first c = some r) (low : c ≠ .lc) : (readServed r == .lc && b) = false := by
      rw [served found, beq_false_of_ne low, Bool.false_and]
    clear_value first
    refine ⟨fun lc bulk => ?_, fun lc bulk few => ?_, fun lc bulk many => ?_, fun lc bulk => ?_, fun lc bulk bg => ?_⟩
    · have granted : grantRead run fit = some (r, false) := by
        rw [grantOf, bulk, lc]
      rw [next granted, readGranted_lc (served lc), bulk, Option.isSome_none, Bool.and_false, if_neg Bool.false_ne_true]
      rfl
    · have granted : grantRead run fit = some (r, false) := by
        obtain ⟨b, found⟩ := Option.isSome_iff_exists.mp bulk
        rw [grantOf, found, lc]
        exact if_neg (by omega)
      rw [next granted, readGranted_lc (served lc), bulk, served lc, beq_self_eq_true, Bool.and_true, if_pos rfl]
      rfl
    · have granted : grantRead run fit = some (r, true) := by
        obtain ⟨l, found⟩ := Option.isSome_iff_exists.mp lc
        rw [grantOf, bulk, found]
        exact if_pos many
      rw [next granted, readGranted_own (own bulk (by decide)), other bulk (by decide), if_neg Bool.false_ne_true]
      rfl
    · have granted : grantRead run fit = some (r, false) := by
        rw [grantOf, bulk, lc]
      rw [next granted, readGranted_own (own bulk (by decide)), other bulk (by decide), if_neg Bool.false_ne_true]
      rfl
    · have granted : grantRead run fit = some (r, false) := by
        rw [grantOf, bulk, lc, bg]
        rfl
      rw [next granted, readGranted_own (own bg (by decide)), other bg (by decide), if_neg Bool.false_ne_true]
      rfl
  · change execChannelWrite a bs s = _
    exact if_pos (by simp [dram, some, page])
  · intro i
    change execChannelWriteDrain chan s = _
    rw [execChannelWriteDrain, queue]
    rfl
  · intro r
    refine (exec_nandFrameRead powered known some levels).trans ?_
    have due : (r.2.2.1 || r.2.2.2 || decide (r.2.1 ≥ 24)) = true ↔ r.2.2.1 = true ∨ r.2.2.2 = true ∨ 24 ≤ r.2.1 := by
      simp [or_assoc]
    exact congrArg (fun d : Store → List Nat => finish (setStore (fun x => { x with
      strongReads := x.strongReads + b2n r.2.2.1, retries := x.retries + b2n r.2.2.2, due := d x }) r.1))
      (funext fun x => if_congr due rfl rfl)
  · intro d u
    change execNandProgramFail block cause s = _
    rw [execNandProgramFail]
    exact if_neg (by simp [powered, good, low])
  · change execStoreReclaimDone bl s = _
    exact if_pos (by rw [powered, alive]; rfl)

end Sys2Proof.Machine
end
section
/-!
PROOF. The end of a repair (O49): its record in the error log names the page's place in its frame, the statement the
page's address.
-/

namespace Sys2Proof.Machine

/-- A running repair of the page at 2,048, which has been written whole meanwhile. -/
def writtenRepair : Repair :=
  { page := 2048, entry := 0, ent := ⟨2048, false, 0, 0, 1, 0, 0, 0⟩, since := 0, running := true, superseded := true }

/-- The reset state with that repair. -/
def writtenRepairRuns : State := { State.reset with rel := { State.reset.rel with repairs := [writtenRepair] } }

/-- A state that sends nothing, by the addresses of its error log. -/
def QuietLog (as : List Nat) (s : State) : Prop :=
  s.alm.ring = none ∧ s.sec.bounce.waiting = [] ∧ s.rel.log.map ErrRec.addr = as

theorem QuietLog.settle {as : List Nat} {s : State} (h : QuietLog as s) : QuietLog as (settle s) := by
  obtain ⟨ring, quiet, log⟩ := h
  rw [settleQuiet s ring quiet]
  exact ⟨ring, quiet, log⟩

theorem QuietLog.addrs_eq {as bs : List Nat} {s : State} (h : QuietLog as (Machine.settle s)) (k : QuietLog bs s) : as = bs :=
  h.2.2.symm.trans k.settle.2.2

/-- The page is the first of its channel: its place in its frame is 0. -/
theorem exec_repairDone_written : ∃ t, exec (.repairDone 2048) writtenRepairRuns = finish t ∧ QuietLog [0] t :=
  ⟨_, rfl, rfl, rfl, rfl⟩

/-- Refutes O49: the error log's record of a repair that has ended holds the page's place in its frame (`Loc.raw`, 0
for the page at 2,048), where the statement has the page's address. -/
theorem not_errorsAndRepairs : ¬ Obligations.ErrorsAndRepairs := by
  unfold Obligations.ErrorsAndRepairs
  intro h
  obtain ⟨_, _, _, _, _, _, repairs⟩ := h writtenRepairRuns
  obtain ⟨_, _, done, _⟩ := repairs 2048 writtenRepair rfl
  have claimed := done 2 rfl (.inl ⟨rfl, rfl⟩)
  obtain ⟨t, runs, log⟩ := exec_repairDone_written
  have same := Host.Outcome.next.inj (runs.symm.trans claimed)
  have logged := log.settle
  rw [same] at logged
  exact absurd (logged.addrs_eq (bs := [2048]) ⟨rfl, rfl, rfl⟩) (by decide)

end Sys2Proof.Machine
end
section
/-!
PROOF. The stash (08; O50).
-/

namespace Sys2Proof.Machine

/-- A pool of the stash lies in its region, in pieces of 64 KiB. -/
def stashPoolOk (r : Region) (x n : Nat) : Prop := x % 65536 = 0 ∧ n % 65536 = 0 ∧ r.lo ≤ x ∧ x + n ≤ r.hi

theorem stashPoolOk_iff (r : Region) (x n : Nat) :
    (aligned x 65536 && aligned n 65536 && decide (r.lo ≤ x) && decide (x + n ≤ r.hi)) = true ↔ stashPoolOk r x n := by
  simp only [stashPoolOk, aligned, Bool.and_eq_true, decide_eq_true_eq, beq_iff_eq, and_assoc]

/-- Values that Table 8-1 allows. -/
def stashArgsOk (m : Fin 16) (s : State) : Prop :=
  4 ≤ bits (s.arg m 1) 3 0 ∧ bits (s.arg m 1) 3 0 ≤ 14 ∧ s.arg m 0 % 4096 = 0 ∧ Region.gddr7.lo ≤ s.arg m 0 ∧
  s.arg m 0 + 64 * 2 ^ bits (s.arg m 1) 3 0 ≤ Region.gddr7.hi ∧ stashPoolOk .gddr7 (s.arg m 2) (s.arg m 3) ∧
  stashPoolOk .lpddr (s.arg m 4) (s.arg m 5) ∧ (bits (s.arg m 1) 31 24 = 0 ∨ 17 ≤ bits (s.arg m 1) 31 24)

theorem exec_configureStash {m : Fin 16} {s : State} (takes : mbxTakes 0x0204 anyArgs m s = true) :
    (¬ stashArgsOk m s → exec (.configureStash m) s = .next (settle (mbxComplete m St.argInvalid [] s))) ∧
    (stashArgsOk m s → exec (.configureStash m) s = .next (settle (mbxComplete m St.ok [] { s with stash := {
      ctx := some ⟨s.arg m 0, bits (s.arg m 1) 3 0, s.arg m 2, s.arg m 3, s.arg m 4, s.arg m 5, bits (s.arg m 1) 15 8,
        bits (s.arg m 1) 20 16, bits (s.arg m 1) 31 24⟩
      ranges := s.stash.ranges.filter fun r => decide (3 ≤ r.kind) } }))) := by
  have ok : (decide (4 ≤ bits (s.arg m 1) 3 0) && decide (bits (s.arg m 1) 3 0 ≤ 14) && aligned (s.arg m 0) 4096 &&
      decide (Region.gddr7.lo ≤ s.arg m 0) && decide (s.arg m 0 + 64 * 2 ^ bits (s.arg m 1) 3 0 ≤ Region.gddr7.hi) &&
      (aligned (s.arg m 2) 65536 && aligned (s.arg m 3) 65536 && decide (Region.gddr7.lo ≤ s.arg m 2) &&
        decide (s.arg m 2 + s.arg m 3 ≤ Region.gddr7.hi)) &&
      (aligned (s.arg m 4) 65536 && aligned (s.arg m 5) 65536 && decide (Region.lpddr.lo ≤ s.arg m 4) &&
        decide (s.arg m 4 + s.arg m 5 ≤ Region.lpddr.hi)) &&
      (bits (s.arg m 1) 31 24 == 0 || decide (17 ≤ bits (s.arg m 1) 31 24))) = true ↔ stashArgsOk m s := by
    rw [stashArgsOk, ← stashPoolOk_iff, ← stashPoolOk_iff]
    simp only [aligned, Bool.and_eq_true, Bool.or_eq_true, decide_eq_true_eq, beq_iff_eq, and_assoc]
  change (_ → execConfigureStash m s = _) ∧ (_ → execConfigureStash m s = _)
  refine ⟨fun bad => mbxCommand_of_done takes (if_pos ?_), fun good => mbxCommand_of_done takes (if_neg ?_)⟩
  · exact congrArg not (Bool.eq_false_iff.mpr fun h => bad (ok.mp h))
  · exact Bool.eq_false_iff.mp (congrArg not (ok.mpr good))

/-! Triggers. -/

/-- A trigger that is observed acts after those of the kinds before it and of lower slots. -/
theorem observe_at {before : List StashTrig} {k : StashTrig} {slot : Nat} {c : StashCtx} {e : StashEntry} {s : State}
    (found : s.stashAt slot = some (c, e)) :
    observe before k slot s = k.act c slot (actTrigs c [k]
      ((s.stash.entries.map Prod.fst).filter fun j => decide (j < slot))
      (actTrigs c before (s.stash.entries.map Prod.fst) s)) := by
  rw [observe, found]

theorem onBind_triggered {slot : Nat} {c : StashCtx} {e : StashEntry} {s : State}
    (found : kvFind slot s.stash.entries = some e) (fresh : e.bindTrig = false) (triggered : s.triggered e.sBind = true) :
    let u := setEntry slot (fun e => { e with bindTrig := true }) s
    onBind c slot s = if e.policy = 2 ∨ (u.stash.rcFlags.contains e.inst = true ∧ e.rcOk = true) then bindRc slot e u
      else bindLoop c slot u := by
  intro u
  rw [onBind, found]
  exact if_neg (by rw [fresh, triggered]; decide)

theorem onFwdDone_triggered {slot t : Nat} {c : StashCtx} {e : StashEntry} {s : State}
    (found : kvFind slot s.stash.entries = some e) (released : e.fwdRel = some t) (fresh : e.fwdDone = false)
    (triggered : s.triggered e.sFwdDone = true) :
    let v := noteSpan c e (s.cyc - t) (setEntry slot (fun e => { e with fwdDone := true }) s)
    onFwdDone c slot s = if e.policy = 1 ∧ (!e.bwdTrig) = true ∧ (!v.triggered e.sBwdNeed) = true
      then (startOff c slot v).getD v else v := by
  intro v
  rw [onFwdDone, found]
  dsimp only
  rw [released]
  exact if_neg (by rw [fresh, triggered]; decide)

/-- What s_bwd_need does, by where the entry's content is. -/
theorem onBwdNeed_triggered {slot : Nat} {c : StashCtx} {e : StashEntry} {s : State}
    (found : kvFind slot s.stash.entries = some e) (fresh : e.bwdTrig = false) (asked : e.fwdReq = true)
    (triggered : s.triggered e.sBwdNeed = true) :
    let u := setEntry slot (fun e => { e with bwdTrig := true }) s
    (e.place = .none → onBwdNeed c slot s = u) ∧
    (∀ a, e.place = .rc a → onBwdNeed c slot s = needRc slot e u) ∧
    (∀ a, e.place = .off a → onBwdNeed c slot s = reload c slot u) ∧
    (∀ a, e.place = .pool a → e.copy = none → onBwdNeed c slot s = releaseBwd slot a u) ∧
    (∀ a x, e.place = .pool a → e.copy = some x → onBwdNeed c slot s = retryStash c (unwait slot (releaseBwd slot a
      (count .offloadCancel 0 1 (freeL c x.dst (setEntry slot (fun e => { e with copy := none })
        (copyPartly 65536 x e.size (chargeAll u)))))))) := by
  intro u
  rw [onBwdNeed, found]
  dsimp only
  rw [if_neg (by rw [fresh, asked, triggered]; decide)]
  refine ⟨fun place => ?_, fun a place => ?_, fun a place => ?_, fun a place copy => ?_, fun a x place copy => ?_⟩
  · rw [place]
  · rw [place]
  · rw [place]
  · rw [place]
    dsimp only
    rw [copy]
  · rw [place]
    dsimp only
    rw [copy]

/-- What s_free does: the entry's runs are freed, its ranges discarded. -/
theorem onFree_triggered {slot : Nat} {c : StashCtx} {e : StashEntry} {s w : State}
    (found : kvFind slot s.stash.entries = some e) (triggered : s.triggered e.sFree = true)
    (copied : (e.copy.elim s fun x => copyPartly 65536 x e.size (chargeAll s)) = w) :
    let u := freeRuns c e w
    let v := { u with stash := { u.stash with ranges := u.stash.ranges.map fun r =>
      if r.slot = slot ∧ r.kind < 3 then { r with act := .discard } else r } }
    let v := if e.fwdReq = true then v else askRange slot 0 .discard v
    let v := if e.rcReq = true ∨ e.rcN = 0 then v else askRange slot 1 .discard v
    let v := if e.bwdReq = true then v else askRange slot 2 .discard v
    onFree c slot s = retryStash c (unwait slot { v with stash := { v.stash with
      entries := kvDel slot v.stash.entries } }) := by
  have recomputed (x y : State) :
      (if (e.rcReq || e.rcN == 0) = true then x else y) = if e.rcReq = true ∨ e.rcN = 0 then x else y :=
    if_congr (by rw [Bool.or_eq_true, beq_iff_eq]) rfl rfl
  subst copied
  rw [onFree, found]
  refine (if_neg (by rw [triggered]; decide)).trans ?_
  simp only [recomputed]
  cases e.copy <;> rfl

/-! The end of a copy. -/

theorem exec_stashCopyDone {slot k : Nat} {c : StashCtx} {e : StashEntry} {x : StashCopy} {s : State}
    (found : s.stashAt slot = some (c, e)) (copy : e.copy = some x) (run : x.run = some k)
    (there : s.heldPage x.src (65536 * e.size) = none) :
    let n := 65536 * e.size
    let u := count .unitBytes k n ((copyParts e.size).foldl (fun s p => copyBytes (k / 16) x p.1 (65536 * p.2) s)
      (actTrigs c [.free] ((s.stash.entries.map Prod.fst).filter fun j => decide (j < slot)) (chargeAll s)))
    exec (.stashCopyDone slot) s =
      if x.out then finish (retryStash c (unwait slot (setEntry slot (fun e => { e with place := .off x.dst, copy := none })
        (count .offloadBytes 0 n (count .offloads 0 1 (freeG c x.src u))))))
      else finish (retryStash c (releaseBwd slot x.dst (setEntry slot (fun e => { e with place := .pool x.dst, copy := none })
        (count .reloadBytes 0 n (count .reloads 0 1 (freeL c x.src u)))))) := by
  intro n u
  change execStashCopyDone slot s = _
  rw [execStashCopyDone, found]
  dsimp only
  have both : (e.copy.bind fun x => x.run.map fun k => (x, k)) = some (x, k) := by
    rw [copy, Option.bind_some, run]
    rfl
  rw [both]
  exact if_neg (by rw [there]; decide)

/-- Settles O50. -/
theorem stashManager : Obligations.StashManager := by
  unfold Obligations.StashManager
  refine fun s => ⟨fun m => exec_configureStash, fun slot c e0 found => ?_⟩
  intro all low atBind atDone atNeed atFree
  have bind : exec (.stashSBind slot) s = finish (onBind c slot atBind) := congrArg finish (observe_at found)
  have fwdDone : exec (.stashSFwdDone slot) s = finish (onFwdDone c slot atDone) := congrArg finish (observe_at found)
  have need : exec (.stashSBwdNeed slot) s = finish (onBwdNeed c slot atNeed) := congrArg finish (observe_at found)
  have free : exec (.stashSFree slot) s = finish (onFree c slot atFree) := congrArg finish (observe_at found)
  refine ⟨fun e here fresh triggered => ?_, fun e t here released fresh triggered => ?_,
    fun e here fresh asked triggered => ?_, fun recompute asked needed waits triggered => ?_,
    fun e here triggered => ?_, fun x k copy run there => ?_⟩
  · rw [bind, onBind_triggered here fresh triggered]
    refine ⟨fun again => congrArg finish (if_pos again), fun loops noFlag => congrArg finish (if_neg ?_)⟩
    rintro (rc | ⟨flag, allowed⟩)
    · exact loops rc
    · rcases noFlag with noFlag | notAllowed
      · exact absurd flag (Bool.eq_false_iff.mp noFlag)
      · exact absurd allowed (Bool.eq_false_iff.mp notAllowed)
  · rw [fwdDone, onFwdDone_triggered here released fresh triggered]
    refine ⟨fun eager idle early => congrArg finish (if_pos ⟨eager, congrArg not idle, congrArg not early⟩),
      fun notNow => congrArg finish (if_neg ?_)⟩
    rintro ⟨eager, idle, early⟩
    rcases notNow with lazy | needed | needed
    · exact lazy eager
    · exact absurd idle (by rw [needed]; decide)
    · exact absurd early (by rw [needed]; decide)
  · obtain ⟨none, rc, off, pool, copying⟩ := onBwdNeed_triggered (c := c) here fresh asked triggered
    rw [need]
    exact ⟨fun p => congrArg finish (none p), fun a p => congrArg finish (rc a p),
      fun a p => congrArg finish (off a p), fun a p q => congrArg finish (pool a p q),
      fun a x p q => congrArg finish (copying a x p q)⟩
  · change execStashSRcDone slot s = _
    rw [execStashSRcDone, found]
    exact if_pos (by rw [recompute, asked, needed, waits, triggered]; decide)
  · rw [free]
    refine congrArg finish (onFree_triggered here triggered ?_)
    cases e.copy <;> rfl
  · rw [exec_stashCopyDone found copy run there]
    exact ⟨fun out => if_pos out, fun back => if_neg (Bool.eq_false_iff.mp back)⟩

end Sys2Proof.Machine
end
section
/-!
PROOF. Numerics control (09; O51).
-/

namespace Sys2Proof.Machine

/-- Values that Table 9-2 allows. -/
def numericsArgsOk (m : Fin 16) (s : State) : Prop :=
  1 ≤ s.arg m 1 ∧ s.arg m 1 ≤ 65536 ∧ 4 ≤ s.arg m 3 ∧ s.arg m 3 ≤ 12 ∧ s.arg m 0 % 64 = 0 ∧ s.arg m 2 % 4096 = 0 ∧
  Region.gddr7.lo ≤ s.arg m 0 ∧ s.arg m 0 + 64 * s.arg m 1 ≤ Region.gddr7.hi ∧
  Region.gddr7.lo ≤ s.arg m 2 ∧ s.arg m 2 + 64 * 2 ^ s.arg m 3 ≤ Region.gddr7.hi

theorem exec_configureNumerics {m : Fin 16} {s : State} (takes : mbxTakes 0x0301 anyArgs m s = true) :
    (¬ numericsArgsOk m s → exec (.configureNumerics m) s = .next (settle (mbxComplete m St.argInvalid [] s))) ∧
    (numericsArgsOk m s → exec (.configureNumerics m) s = .next (settle (mbxComplete m St.ok [] { s with
      num := { s.num with ctx := some ⟨s.arg m 0, s.arg m 1, s.arg m 2, s.arg m 3⟩, tail := 0, guards := [] }
      stash := { s.stash with ranges := s.stash.ranges.filter fun r => decide (r.kind < 3) } }))) := by
  have ok : (decide (1 ≤ s.arg m 1) && decide (s.arg m 1 ≤ 65536) && decide (4 ≤ s.arg m 3) && decide (s.arg m 3 ≤ 12) &&
      aligned (s.arg m 0) 64 && aligned (s.arg m 2) 4096 &&
      (decide (Region.gddr7.lo ≤ s.arg m 0) && decide (s.arg m 0 + 64 * s.arg m 1 ≤ Region.gddr7.hi)) &&
      (decide (Region.gddr7.lo ≤ s.arg m 2) && decide (s.arg m 2 + 64 * 2 ^ s.arg m 3 ≤ Region.gddr7.hi))) = true ↔
      numericsArgsOk m s := by
    simp only [numericsArgsOk, aligned, Bool.and_eq_true, decide_eq_true_eq, beq_iff_eq, and_assoc]
  change (_ → execConfigureNumerics m s = _) ∧ (_ → execConfigureNumerics m s = _)
  refine ⟨fun bad => mbxCommand_of_done takes (if_pos ?_), fun good => mbxCommand_of_done takes (if_neg ?_)⟩
  · exact congrArg not (Bool.eq_false_iff.mpr fun h => bad (ok.mp h))
  · exact Bool.eq_false_iff.mp (congrArg not (ok.mpr good))

theorem exec_readWatch {m : Fin 16} {s : State} (takes : mbxTakes 0x0303 anyArgs m s = true) :
    let i := s.arg m 0
    let n := s.arg m 1
    let bs := (List.range n).flatMap fun k => (s.watchEntry (i + k)).bytes
    (n = 0 ∨ 16384 < i + n → exec (.readWatch m) s = .next (settle (mbxComplete m St.argInvalid [] s))) ∧
    (n ≠ 0 → i + n ≤ 16384 → bufCheck (s.arg m 2) (32 * n) 1 s = none → bs.length ≤ 32 * n →
      exec (.readWatch m) s = .next (settle (mbxComplete m St.ok [bs.length] (devPut (s.arg m 2) bs s)))) := by
  intro i n bs
  change (_ → execReadWatch m s = _) ∧ (_ → _ → _ → _ → execReadWatch m s = _)
  refine ⟨fun bad => mbxCommand_of_done takes (if_pos bad), fun some' inside serves fits =>
    mbxCommand_of_done takes ((if_neg ?_).trans (replyBytes_of_fits serves fits))⟩
  exact fun bad => bad.elim some' (fun past => absurd past (Nat.not_lt.mpr inside))

/-- The entry SET_WATCH would leave. -/
def watchSet (m : Fin 16) (s : State) : WatchEntry :=
  let on := fun (b : Nat) => bit (s.arg m 0) (16 + b) = true
  let w := fun (k hi lo : Nat) => BitVec.ofNat 32 (bits (s.arg m k) hi lo)
  let x := s.watchEntry (bits (s.arg m 0) 13 0)
  { x with
    lo := if on 0 then w 1 31 0 else x.lo, hi := if on 1 then w 1 63 32 else x.hi
    zeroLimit := if on 2 then w 2 31 0 else x.zeroLimit, zeroRun := if on 3 then w 2 63 32 else x.zeroRun }

theorem exec_setWatch {m : Fin 16} {s : State} (takes : mbxTakes 0x0304 anyArgs m s = true) :
    let y := watchSet m s
    let bad := bandBad y.lo = true ∨ bandBad y.hi = true ∨ fgt y.lo.toNat y.hi.toNat = true
    (bad → exec (.setWatch m) s = .next (settle (mbxComplete m St.watchArgInvalid [] s))) ∧
    (¬ bad → exec (.setWatch m) s =
      .next (settle (mbxComplete m St.ok [] (setWatchEntry (bits (s.arg m 0) 13 0) y s)))) := by
  intro y bad
  have refused : (bandBad y.lo || bandBad y.hi || fgt y.lo.toNat y.hi.toNat) = true ↔ bad := by
    rw [Bool.or_eq_true, Bool.or_eq_true, or_assoc]
  change (_ → execSetWatch m s = _) ∧ (_ → execSetWatch m s = _)
  exact ⟨fun b => mbxCommand_of_done takes (if_pos (refused.mpr b)),
    fun b => mbxCommand_of_done takes (if_neg fun h => b (refused.mp h))⟩

/-! Scale guards. -/

theorem exec_guardTrigger {slot : Nat} {c : NumCtx} {g : Guard} {s : State} (ctx : s.num.ctx = some c)
    (found : kvFind slot s.num.guards = some g) (calm : s.inCompute = false) (powered : s.powered = true)
    (idle : g.cur = none) (triggered : s.triggered g.sTrig = true) :
    exec (.guardTrigger slot) s = .next (settle (startGuard c slot s)) := by
  change execGuardTrigger slot s = _
  rw [execGuardTrigger, ctx, found]
  exact if_neg (by rw [calm, powered, idle, triggered]; decide)

theorem exec_guardRangeComplete {slot : Nat} {c : NumCtx} {g : Guard} {i : Nat} {s : State} (ctx : s.num.ctx = some c)
    (found : kvFind slot s.num.guards = some g) (calm : s.inCompute = false) (powered : s.powered = true)
    (running : g.cur = some i) (counted : g.n i ≤ g.counted) :
    let q := readRec c g.recNo s
    (recRefused q.1 = true → exec (.guardRangeComplete slot) s = finish (refuseGuard slot 48 q.2)) ∧
    (∀ r, q.1 = some r → r.malformed = false → exec (.guardRangeComplete slot) s =
      if i = 0 then
        let p := g.amax
        let use := fpos p && !fisInf p
        let k := if use then kFrom p (fmtMax r.fmt0) r.room else r.kInit
        finish (runGuard c slot 1 k r.fmt0 (if use then foldAmax c g p false q.2 else q.2))
      else finish (variantDone c slot i g r q.2)) := by
  intro q
  change (_ → execGuardRangeComplete slot s = _) ∧ ∀ r, _ → _ → execGuardRangeComplete slot s = _
  rw [execGuardRangeComplete, ctx, found]
  dsimp only
  rw [running]
  dsimp only
  rw [if_neg (by rw [calm, powered, decide_eq_false (Nat.not_lt.mpr counted)]; decide)]
  have read : readRec c g.recNo s = (q.1, q.2) := rfl
  rw [read]
  generalize q.1 = o
  refine ⟨fun refused => ?_, fun r here wellFormed => ?_⟩
  · cases o with
    | none => rfl
    | some r => exact if_pos refused
  · subst here
    exact if_neg (Bool.eq_false_iff.mp wellFormed)

/-- Settles O51. -/
theorem numericsControl : Obligations.NumericsControl := by
  unfold Obligations.NumericsControl
  refine fun s => ⟨fun m => exec_configureNumerics, fun m => exec_setRngSeed,
    fun m => exec_readWatch, fun m => exec_setWatch, fun slot c g ctx found calm powered =>
      ⟨exec_guardTrigger ctx found calm powered, fun i running counted => ?_⟩⟩
  intro q
  obtain ⟨refused, served⟩ := exec_guardRangeComplete ctx found calm powered running counted
  refine ⟨refused, fun r here wellFormed => ?_⟩
  have run := served r here wellFormed
  refine ⟨fun probe pos finite => ?_, fun probe useless => ?_, fun variant => run.trans (if_neg variant)⟩
  · have use : (fpos g.amax && !fisInf g.amax) = true := by rw [pos, finite]; decide
    rw [run, if_pos probe]
    dsimp only
    rw [use]
    rfl
  · have use : (fpos g.amax && !fisInf g.amax) = false := by
      rcases useless with h | h
      · rw [h, Bool.false_and]
      · rw [h, Bool.not_true, Bool.and_false]
    rw [run, if_pos probe]
    dsimp only
    rw [use]
    rfl

end Sys2Proof.Machine
end
section
/-!
PROOF. The Photometer (10, 11; O52).
-/

namespace Sys2Proof.Machine

/-- A buffer that serves and reads without poison is handed on. -/
theorem readBuffer_of_readable {a n align : Nat} {s : State} {k : List Byte → State → Reply}
    (reads : bufReadable a n align s = true) : readBuffer a n align s k = k (bufBytes a n s) (bufAfter a n s) := by
  obtain ⟨serves, clean⟩ := Bool.and_eq_true _ _ ▸ reads
  rw [readBuffer, Option.isNone_iff_eq_none.mp serves]
  dsimp only
  rw [Option.isNone_iff_eq_none.mp clean]
  rfl

theorem drawLists_nil {t : Nat} {s : State} (sets : s.phot.sets = []) : drawLists t s = s := by
  rw [drawLists, sets]
  rfl

/-! Tables. -/

theorem exec_configurePhotometer_refused {m : Fin 16} {s : State} (takes : mbxTakes 0x0401 anyArgs m s = true)
    (bad : s.arg m 1 = 0 ∨ 65536 < s.arg m 1 ∨ 256 < s.arg m 3 ∨ s.arg m 2 = 0 ∧ s.arg m 3 ≠ 0 ∨
      regionOf (s.arg m 0) ≠ some .gddr7) :
    exec (.configurePhotometer m) s = .next (settle (mbxComplete m St.photometerArgInvalid [] s)) := by
  change execConfigurePhotometer m s = _
  exact mbxCommand_of_done takes (if_pos bad)

/-- The slot records of the buffer CONFIGURE_PHOTOMETER names that are in use, and what Table 10 finds wrong. -/
def photValid (m : Fin 16) (s : State) : List (Nat × List Nat) :=
  ((List.range (s.arg m 1)).zip
    (records 8 (s.arg m 1) (bytesWords (bufBytes (s.arg m 0) (64 * s.arg m 1) s)))).filter fun r => bit (r.2.getD 0 0) 30

def photBad (m : Fin 16) (s : State) : Option (Nat × Nat) :=
  let all := ((photValid m s).flatMap fun r => (slotRegions r.2).map fun g => (r.1, g)) ++
    [(s.arg m 1, (s.arg m 0, 64 * s.arg m 1, 0))]
  (photValid m s).findSome? fun r => (slotBad all r.1 r.2).map fun b => (r.1, b)

theorem exec_configurePhotometer {m : Fin 16} {s : State} (takes : mbxTakes 0x0401 anyArgs m s = true)
    (some' : s.arg m 1 ≠ 0) (few : s.arg m 1 ≤ 65536) (noList : s.arg m 2 = 0) (noSet : s.arg m 3 = 0)
    (inG : regionOf (s.arg m 0) = some .gddr7) (reads : bufReadable (s.arg m 0) (64 * s.arg m 1) 64 s = true) :
    let u := bufAfter (s.arg m 0) (64 * s.arg m 1) s
    (∀ i b, photBad m s = some (i, b) →
      exec (.configurePhotometer m) s = .next (settle (mbxComplete m St.photometerArgInvalid [i, b] u))) ∧
    (photBad m s = none → exec (.configurePhotometer m) s = .next (settle (mbxComplete m St.ok [] { u with phot :=
      { table := some (s.arg m 0, s.arg m 1), sets := [], epoch := u.phot.epoch
        slots := (photValid m s).map fun r => (r.1, slotOf r.2 (kvFind r.1 u.phot.slots)) } }))) := by
  intro u
  change (∀ i b, _ → execConfigurePhotometer m s = _) ∧ (_ → execConfigurePhotometer m s = _)
  have right : ¬ (s.arg m 1 = 0 ∨ s.arg m 1 > 65536 ∨ s.arg m 3 > 256 ∨ (s.arg m 2 = 0 ∧ s.arg m 3 ≠ 0) ∨
      regionOf (s.arg m 0) ≠ some .gddr7) := by
    rw [noList, noSet, inG]
    rintro (h | h | h | h | h)
    · exact some' h
    · omega
    · omega
    · exact h.2 rfl
    · exact h rfl
  refine ⟨fun i b bad => mbxCommand_of_done takes ((if_neg right).trans ((readBuffer_of_readable reads).trans ?_)),
    fun good => mbxCommand_of_done takes ((if_neg right).trans ((readBuffer_of_readable reads).trans ?_))⟩
  · simp only [photBad, photValid, State.arg] at noList bad
    simp only [noList, if_true, List.filter_nil, List.map_nil, List.append_nil, List.map_cons, State.arg]
    rw [bad]
    rfl
  · simp only [photBad, photValid, State.arg] at noList good
    simp only [noList, if_true, List.filter_nil, List.map_nil, List.append_nil, List.map_cons, State.arg]
    rw [good]
    exact congrArg (Reply.done St.ok []) (drawLists_nil rfl)

theorem exec_foldSwap {w : SwapDue} {rest : List SwapDue} {s : State} (swaps : s.phot.swaps = w :: rest)
    (calm : s.inCompute = false) (folded : s.phot.todo = []) :
    let u := if w.late = true then post Ev.foldSwapLate [w.step, s.cyc - w.at_] (count .swapLate 0 1 s) else s
    exec .foldSwap s = .next (settle (drawLists w.step { u with phot := { u.phot with
      swaps := rest, epoch := !u.phot.epoch,
      noted := u.phot.noted.filter fun n => n % 2 == b2n u.phot.epoch, todo := u.phot.slots.map Prod.fst
      started := [], waits := [], closedStep := u.phot.openStep, openStep := w.step } })) := by
  intro u
  change execFoldSwap s = _
  rw [execFoldSwap, swaps]
  exact if_neg (by rw [calm, folded]; decide)

/-! Folds. -/

theorem exec_foldStart {i : Nat} {x : FactorSlot} {s : State} (found : kvFind i s.phot.slots = some x)
    (due : i ∈ s.phot.todo) (fresh : kvHas i s.phot.started = false) (calm : s.inCompute = false)
    (closed : s.mer.tasks.any (fun t => t.2.desc.type == 1 && t.2.epoch == !s.phot.epoch && t.2.phase != .head) = false)
    (first : (s.phot.todo.all fun j => decide (i ≤ j) ||
      ((kvFind j s.phot.slots).all fun y => s.foldCore y.fcore != s.foldCore x.fcore)) = true)
    (free : s.phot.started.any (fun q => some q.2 == s.foldCore x.fcore) = false) :
    (x.holds (!x.cur) ≠ 0 → exec (.foldStart i) s = .next (settle { s with phot := { s.phot with
      waits := if kvHas i s.phot.waits = true then s.phot.waits else kvSet i s.cyc s.phot.waits } })) ∧
    (∀ c, x.holds (!x.cur) = 0 → s.foldCore x.fcore = some c → kvFind i s.phot.waits = none →
      exec (.foldStart i) s = .next (settle { s with phot := { s.phot with
        started := kvSet i c s.phot.started, waits := kvDel i s.phot.waits } })) := by
  change (_ → execFoldStart i s = _) ∧ ∀ c, _ → _ → _ → execFoldStart i s = _
  rw [execFoldStart, found]
  dsimp only
  rw [if_neg (by rw [List.contains_iff_mem.mpr due, fresh, closed, first, free, calm]; decide)]
  refine ⟨fun held => if_pos (Nat.pos_of_ne_zero held), fun c unheld core unwaited => (if_neg ?_).trans ?_⟩
  · exact Nat.not_lt.mpr (Nat.le_of_eq unheld)
  · rw [core]
    dsimp only
    rw [unwaited]
    rfl

theorem exec_foldPublish {i core : Nat} {x : FactorSlot} {s : State} (found : kvFind i s.phot.slots = some x)
    (started : kvFind i s.phot.started = some core) (calm : s.inCompute = false) :
    let h := !s.phot.epoch
    let y := x.half h
    let n := packedCount x.nb
    let cap := fun (n : Nat) => Nat.min (n + 1) 0xFFFFFFFF
    let done := fun (u : State) =>
      let v := { u with phot := { u.phot with
        todo := u.phot.todo.filter (· != i), started := kvDel i u.phot.started } }
      if v.phot.todo.isEmpty = true then (semAdd Config.foldSem.toNat 1 v).2 else v
    (y.tainted = true → let u := setSlot i (fun x => { x.setHalf h {} with skips := cap x.skips }) (clearHalf (core / 256) x h s)
      exec (.foldPublish i) s = .next (settle (done (count .foldBytes core (8192 * n)
        (count .foldsSkipped 0 1 (writeSlot i (post Ev.factorFoldSkipped [i, u.phot.closedStep, y.reason] u))))))) ∧
    (y.tainted = false → y.tokens = 0 → exec (.foldPublish i) s = .next (settle (done (count .foldsIdle 0 1 s)))) ∧
    (y.tainted = false → y.tokens ≠ 0 → exec (.foldPublish i) s = .next (settle (done (count .foldBytes core (24576 * n)
      (count .folds 0 1 (writeSlot i (setSlot i (fun x => { x.setHalf h {} with
        cur := !x.cur, gen := if x.gen = 0xFFFFFFFF then 1 else x.gen + 1, nLast := y.tokens, folds := cap x.folds })
        ((List.range n).foldl (foldBlock (core / 256) i x h (fdiv f1 (ffromInt y.tokens)) (fsub f1 x.beta)) s)))))))) := by
  intro h y n cap done
  have run : exec (.foldPublish i) s = execFoldPublish i s := rfl
  rw [run, execFoldPublish, found, started]
  dsimp only
  rw [if_neg (Bool.eq_false_iff.mp calm)]
  exact ⟨fun tainted => if_pos tainted,
    fun clean idle => (if_neg (Bool.eq_false_iff.mp clean)).trans (if_pos idle),
    fun clean used => (if_neg (Bool.eq_false_iff.mp clean)).trans (if_neg used)⟩

/-! Holds. -/

theorem setJob_tables (t : Nat) (f : SpJob → SpJob) (s : State) : (setJob t f s).spec.tables = s.spec.tables := rfl

theorem stopWait_tables (t : Nat) (s : State) : (stopWait t s).spec.tables = s.spec.tables := by
  rw [stopWait]
  cases kvFind t s.spec.jobs with
  | none => rfl
  | some j =>
    dsimp only
    cases j.waitFrom <;> rfl

/-- What a job does once its hold is taken: it carries its entry where that shows the source it has, or goes on. -/
theorem holdCompare_of_table {j : SpJob} {d : Desc} {tb : PTable} {s : State}
    (table : kvFind d.stable s.spec.tables = some tb) :
    holdCompare j d s = jobRead j [(tb.entry j.entry, 64)] s fun bs u =>
      let w := bytesWords bs
      if 1 ≤ tb.gen ∧ entAge w (tb.gen % 2) ≠ 0xFFFF ∧ entSrc w (tb.gen % 2) = j.src then decideJob j.task 3 0 0 u
      else setJob j.task (fun j => { j with stage := .passes }) u := by
  rw [holdCompare, table]

theorem exec_photometerHold {c : Fin 32} {j : SpJob} {k : Task} {s : State} (job : s.jobIn c.val [.hold] = some j)
    (task : s.task j.task = some k) :
    exec (.photometerHold c) s = finish (
      if k.desc.sdeadline < s.now then missed j s
      else if j.held.isSome = true then holdCompare j k.desc s
      else (kvFind (j.f 0 55 40) s.phot.slots).elim (infeasible j k.desc 6 (count .holdsRefused 0 1 s)) fun x =>
        if x.gen = 0 then infeasible j k.desc 6 (count .holdsRefused 0 1 s)
        else if 65535 ≤ x.holds x.cur then startWait j.task s
        else
          let j' := { j with held := some (j.f 0 55 40, x.cur), src := x.gen, waitFrom := none }
          holdCompare j' k.desc (setJob j.task (fun _ => j')
            (setSlot (j.f 0 55 40) (fun x => x.addHold x.cur) (stopWait j.task s)))) := by
  change execPhotometerHold c s = _
  rw [execPhotometerHold, job]
  dsimp only
  rw [task]
  dsimp only
  simp only [State.expired, decide_eq_true_eq, apply_ite finish]
  cases kvFind (j.f 0 55 40) s.phot.slots with
  | none => rfl
  | some x => simp only [Option.elim_some, apply_ite finish, ge_iff_le]

/-- Settles O52. -/
theorem photometer : Obligations.Photometer := by
  unfold Obligations.Photometer
  refine fun s => ⟨fun m takes => ⟨exec_configurePhotometer_refused takes, exec_configurePhotometer takes⟩,
    fun w rest => exec_foldSwap, fun i x => exec_foldStart, fun i x core => exec_foldPublish,
    fun c j k job task => ?_, fun c t j job => ?_⟩
  · intro slot none_ compare
    have run := exec_photometerHold job task
    refine ⟨fun late => run.trans (congrArg finish (if_pos late)), fun inTime => ?_⟩
    replace run := run.trans (congrArg finish (if_neg (Nat.not_lt.mpr inTime)))
    refine ⟨fun tb held table => ?_, fun unheld noSlot => ?_, fun x unheld slot' => ?_⟩
    · exact run.trans (congrArg finish ((if_pos held).trans (holdCompare_of_table table)))
    · rw [unheld, noSlot] at run
      exact run
    · rw [unheld, slot'] at run
      refine ⟨fun empty => run.trans (congrArg finish (if_pos empty)), fun made full => ?_, fun tb made room table => ?_⟩
      · exact run.trans (congrArg finish ((if_neg made).trans (if_pos full)))
      · refine run.trans (congrArg finish ((if_neg made).trans ((if_neg (Nat.not_le.mpr room)).trans ?_)))
        refine holdCompare_of_table ?_
        rw [← table, setJob_tables]
        exact congrArg (kvFind k.desc.stable) (stopWait_tables j.task s)
  · change execPhotometerHoldRelease c s = _
    rw [execPhotometerHoldRelease, job]
    rfl

end Sys2Proof.Machine
end
section
/-!
PROOF. The Spectrograph (11; O53).
-/

namespace Sys2Proof.Machine

/-! Sizes. -/

/-- The sizes CONFIGURE_SPECTROGRAPH gives the clusters fit them. -/
def sgSizesOk (kib k : Nat) (ks : List Nat) (s : State) : Prop :=
  (kib = 1024 ∨ kib = 2048 ∨ kib = 4096) ∧ (k < 32 ∨ k = 0x3F) ∧ ∀ c ∈ ks, kvGet 2048 c s.strm.mcastKib + kib ≤ 8192

theorem sgSizesOk_iff (kib k : Nat) (ks : List Nat) (s : State) :
    ((kib != 1024 && kib != 2048 && kib != 4096) || (decide (k ≥ 32) && k != 0x3F) ||
      ks.any fun c => decide (kvGet 2048 c s.strm.mcastKib + kib > 8192)) = false ↔ sgSizesOk kib k ks s := by
  simp only [sgSizesOk, Bool.or_eq_false_iff, Bool.and_eq_false_iff, bne_eq_false_iff_eq, decide_eq_false_iff_not,
    List.any_eq_false, decide_eq_true_eq, ge_iff_le, gt_iff_lt, Nat.not_le, Nat.not_lt, and_assoc, or_assoc]

theorem exec_configureSpectrograph {m : Fin 16} {s : State} (takes : mbxTakes 0x0402 anyArgs m s = true)
    (noDir : s.arg m 0 = 0) :
    let x := s.arg m 2
    let kib := bits x 31 16
    let k := bits x 5 0
    let ks := if k = 0x3F then List.range 32 else [k]
    (bit x 6 = false → exec (.configureSpectrograph m) s = .next (settle (mbxComplete m St.ok [] s))) ∧
    (bit x 6 = true →
      (¬ sgSizesOk kib k ks s → exec (.configureSpectrograph m) s =
        .next (settle (mbxComplete m St.spectroArgInvalid [] s))) ∧
      (sgSizesOk kib k ks s → exec (.configureSpectrograph m) s = .next (settle (mbxComplete m St.ok []
        { s with spec := { s.spec with sgKib := ks.foldl (fun t c => kvPut 2048 c kib t) s.spec.sgKib } })))) := by
  intro x kib k ks
  have run : exec (.configureSpectrograph m) s = execConfigureSpectrograph m s := rfl
  rw [run]
  have whole : (s.arg m 0 != 0) = false := bne_eq_false_iff_eq.mpr noDir
  refine ⟨fun noSize => mbxCommand_of_done takes ((if_neg ?_).trans ((if_pos noDir).trans ?_)),
    fun size => ⟨fun bad => mbxCommand_of_done takes (if_pos ?_),
      fun good => mbxCommand_of_done takes ((if_neg ?_).trans ((if_pos noDir).trans ?_))⟩⟩
  · refine Bool.eq_false_iff.mp ?_
    change (bit x 6 && _ || (s.arg m 0 != 0 && _)) = false
    rw [noSize, whole]
    rfl
  · exact congrArg (Reply.done St.ok []) (if_neg (Bool.eq_false_iff.mp noSize))
  · change (bit x 6 && _ || _) = true
    rw [size, Bool.true_and, Bool.or_eq_true]
    exact .inl (Bool.not_eq_false _ ▸ fun fits => bad ((sgSizesOk_iff kib k ks s).mp fits))
  · refine Bool.eq_false_iff.mp ?_
    change (bit x 6 && _ || (s.arg m 0 != 0 && _)) = false
    rw [size, whole, Bool.true_and, Bool.false_and, Bool.or_false]
    exact (sgSizesOk_iff kib k ks s).mpr good
  · exact congrArg (Reply.done St.ok []) (if_pos size)

/-! Assembly. -/

theorem exec_spectroTask {c : Fin 32} {t : Nat} {k : Task} {s : State}
    (pick : (chargeAll s).unitPick c.val (32 + c.val) [5] 64 = some (.task t k))
    (up : (chargeAll s).clusterUp c.val = true) (free : (chargeAll s).jobIn c.val [.hold, .passes, .ready] = none)
    (unstuck : (chargeAll s).mer.tasks.any (fun p => p.2.desc.type == 5 && p.2.loc == c.val && p.2.phase == .running &&
      p.2.heldBy.isSome) = false ∨ k.phase = .running) :
    exec (.spectroTask c) s = .next (settle (takeProblem c.val t k.desc (startUnit t (chargeAll s)))) := by
  change execSpectroTask c s = _
  rw [execSpectroTask, pick]
  refine if_neg ?_
  rw [up, free]
  rcases unstuck with unstuck | running
  · rw [unstuck]
    exact Bool.false_ne_true
  · rw [running, bne_self_eq_false, Bool.and_false]
    exact Bool.false_ne_true

theorem exec_assemblerPassDone {c : Fin 32} {j : SpJob} {k : Task} {s : State}
    (job : s.jobIn c.val [.passes] = some j) (task : s.task j.task = some k) :
    (k.desc.sdeadline < s.now → exec (.assemblerPassDone c) s = .next (settle (missed j s))) ∧
    (s.now ≤ k.desc.sdeadline → j.kindSrc < 2 → exec (.assemblerPassDone c) s = .next (settle (denseDone j k.desc s))) ∧
    (s.now ≤ k.desc.sdeadline → j.kindSrc = 2 → exec (.assemblerPassDone c) s = .next (settle (bsrDone j k.desc s))) ∧
    (s.now ≤ k.desc.sdeadline → j.kindSrc = 3 → exec (.assemblerPassDone c) s = .next (settle (operDone j k.desc s))) := by
  have run : exec (.assemblerPassDone c) s = execAssemblerPassDone c s := rfl
  rw [run, execAssemblerPassDone, job]
  dsimp only
  rw [task]
  refine ⟨fun late => if_pos (decide_eq_true late), fun inTime dense => (if_neg ?_).trans ?_,
    fun inTime sparse => (if_neg ?_).trans ?_, fun inTime operator => (if_neg ?_).trans ?_⟩
  case refine_1 | refine_3 | refine_5 => exact fun late => Nat.not_lt.mpr inTime (of_decide_eq_true late)
  · split
    · omega
    · omega
    · rfl
  · rw [sparse]
    rfl
  · rw [operator]
    rfl

/-! The array. -/

theorem exec_spectroDecision {c : Fin 32} {j : SpJob} {k : Task} {s : State}
    (job : s.jobIn c.val [.array] = some j ∨ s.jobIn c.val [.array] = none ∧
      s.jobIn c.val [.applying, .draining, .out] = none ∧ s.jobIn c.val [.ready] = some j)
    (task : s.task j.task = some k) :
    (k.desc.sdeadline < s.now → exec (.spectroDecision c) s = .next (settle (missed j s))) ∧
    (s.now ≤ k.desc.sdeadline → let d := draw s
      exec (.spectroDecision c) s = .next (settle (arrayTurn { j with stage := .array } k.desc
        (setJob j.task (fun j => { j with stage := .array }) (count .spArrayBusy c.val d.1 d.2))))) := by
  have run : exec (.spectroDecision c) s = execSpectroDecision c s := rfl
  rw [run, execSpectroDecision]
  rcases job with job | ⟨noArray, idle, job⟩
  · rw [job]
    dsimp only
    rw [task]
    exact ⟨fun late => if_pos (decide_eq_true late),
      fun inTime => if_neg fun late => Nat.not_lt.mpr inTime (of_decide_eq_true late)⟩
  · rw [noArray, idle, job]
    dsimp only
    rw [Option.isSome_none, if_neg Bool.false_ne_true]
    dsimp only
    rw [task]
    exact ⟨fun late => if_pos (decide_eq_true late),
      fun inTime => if_neg fun late => Nat.not_lt.mpr inTime (of_decide_eq_true late)⟩

theorem exec_operatorApplyDone {c : Fin 32} {j : SpJob} {o : List Nat} {cols : List PcgCol} {s : State}
    (job : s.jobIn c.val [.applying, .draining] = some j) (work : j.work = .oper o cols)
    (reached : j.apps ≤ (s.sem (wf o 0 47 34)).count.toNat) :
    (j.stage = .draining → exec (.operatorApplyDone c) s = .next (settle (clusterResume c.val
      (setJob j.task (fun j => { j with stage := .out }) (stopWait j.task s))))) ∧
    (j.stage = .applying → exec (.operatorApplyDone c) s = .next (settle (clusterResume c.val
      (jobRead j [(wf o 3 51 0, j.nbr * 8192)] (stopWait j.task s) fun bs u =>
        let xs := patterns 4 (j.dim * 64) bs
        setJob j.task (fun j => { j with
          stage := .array
          q := some ((List.range cols.length).map fun i => blockCol 2 j.dim xs i) }) u)))) := by
  have run : exec (.operatorApplyDone c) s = execOperatorApplyDone c s := rfl
  rw [run, execOperatorApplyDone, job]
  dsimp only
  rw [work]
  dsimp only
  rw [if_neg (Nat.not_lt.mpr reached)]
  exact ⟨fun draining => if_pos draining, fun applying => if_neg (by rw [applying]; decide)⟩

/-! Write-out. -/

theorem exec_spectroWriteOut {c : Fin 32} {j : SpJob} {k : Task} {t : PTable} {s : State}
    (job : s.jobIn c.val [.out] = some j) (task : s.task j.task = some k)
    (table : kvFind k.desc.stable s.spec.tables = some t) :
    (t.pinned = true → exec (.spectroWriteOut c) s =
      .next (settle (setJob j.task (fun j => { j with waitFrom := some (j.waitFrom.getD s.cyc) }) s))) ∧
    (t.pinned = false → exec (.spectroWriteOut c) s = .next (settle
      (jobRead j [(t.entry j.entry, 64)] (stopWait j.task s) fun bs u =>
        let w := bytesWords bs
        let xs := j.result k.desc
        let bytes := patBytes (if j.bf16 = true then 2 else 4) (xs.map Prod.fst)
        let u := if j.outcome < 2 then
            count .writeBytes j.cluster bytes.length (addMarks j.task (j.resultMarks xs)
              (count .readBytes j.cluster (if j.kindSrc < 2 then qHalf j.dim else 0)
                (taskWrite j.task (entBuf w (1 - entSel w (t.gen % 2))) bytes u)))
          else u
        let v := setTable k.desc.stable (fun t => { t with done := setIns j.entry t.done })
          (diePut (j.cluster / 16) (t.entry j.entry) (wordBytes (finishEntry w (genSucc t.gen) (t.gen % 2) j)) u)
        closeJob j j.status 0 (specResult j.reason j.outcome j.iters j.rho) (countOutcome c.val j.outcome v)))) := by
  have run : exec (.spectroWriteOut c) s = execSpectroWriteOut c s := rfl
  rw [run, execSpectroWriteOut, job]
  dsimp only
  rw [task]
  dsimp only
  rw [table]
  exact ⟨fun pinned => if_pos pinned, fun loose => if_neg (Bool.eq_false_iff.mp loose)⟩

/-! Table holds. -/

theorem exec_tableHold {die : Fin 2} {e : OpenRec} {s : State}
    (first : s.ephem.openRecs.find? (fun e => e.die == die.val && e.hold.isNone) = some e) :
    (∀ u, tableHold e.table s = (none, u) → exec (.tableHold die) s = .next (settle u)) ∧
    (∀ g u t k, tableHold e.table s = (some g, u) →
      let v := setOpen die.val e.record (fun e => { e with hold := some g }) u
      (v.acceptedOn die.val).find? (fun p => p.2.phase == .running && p.2.desc.ostate == e.record) = some (t, k) →
      exec (.tableHold die) s = .next (settle (optGo t die.val (chargeAll v)))) := by
  have run : exec (.tableHold die) s = execTableHold die s := rfl
  rw [run, execTableHold]
  dsimp only
  rw [first]
  dsimp only
  refine ⟨fun u full => ?_, fun g u t k held task => ?_⟩
  · rw [full]
    rfl
  · rw [held]
    dsimp only
    rw [task]
    rfl

/-- Settles O53. -/
theorem spectrograph : Obligations.Spectrograph := by
  unfold Obligations.Spectrograph
  refine fun c s => ⟨fun m => exec_configureSpectrograph, fun t k => exec_spectroTask,
    fun j k => exec_assemblerPassDone, fun j k => exec_spectroDecision, rfl,
    fun j o cols => exec_operatorApplyDone, fun j k t => exec_spectroWriteOut, fun die e => exec_tableHold,
    fun i g rest releases => ?_⟩
  change execTableHoldRelease s = _
  rw [execTableHoldRelease, releases]
  rfl

end Sys2Proof.Machine
end
section
/-!
PROOF. Ephemeris and the step boundary (12, 04; O54).
-/

namespace Sys2Proof.Machine

/-! The hyperparameter table. -/

/-- The records of the buffer CONFIGURE_EPHEMERIS names, and the first bad one. -/
def hyperRecords (m : Fin 16) (s : State) : List (List Nat) :=
  let n := bits (s.arg m 1) 12 0
  chunks 8 n (bytesWords (bufBytes (s.arg m 0) (64 * n) s))

def hyperFirstBad (m : Fin 16) (s : State) : Option (Nat × Nat) :=
  ((List.range (bits (s.arg m 1) 12 0)).zip (hyperRecords m s)).findSome? fun r => (hyperBad r.2).map fun b => (r.1, b)

theorem exec_configureEphemeris_refused {m : Fin 16} {s : State} (takes : mbxTakes 0x0403 anyArgs m s = true)
    (bad : bits (s.arg m 1) 12 0 = 0 ∨ 4096 < bits (s.arg m 1) 12 0) :
    exec (.configureEphemeris m) s = .next (settle (mbxComplete m St.ephemerisArgInvalid [] s)) := by
  change execConfigureEphemeris m s = _
  exact mbxCommand_of_done takes (if_pos bad)

theorem exec_configureEphemeris {m : Fin 16} {s : State} (takes : mbxTakes 0x0403 anyArgs m s = true)
    (some' : bits (s.arg m 1) 12 0 ≠ 0) (few : bits (s.arg m 1) 12 0 ≤ 4096)
    (reads : bufReadable (s.arg m 0) (64 * bits (s.arg m 1) 12 0) 64 s = true) :
    let u := bufAfter (s.arg m 0) (64 * bits (s.arg m 1) 12 0) s
    (∀ i b, hyperFirstBad m s = some (i, b) → exec (.configureEphemeris m) s =
      .next (settle (mbxComplete m St.ephemerisArgInvalid [i, b] u))) ∧
    (hyperFirstBad m s = none → exec (.configureEphemeris m) s =
      .next (settle (mbxComplete m St.ok [] { u with ephem := { u.ephem with hyper := hyperRecords m s } }))) := by
  intro u
  have right : ¬ (bits (s.arg m 1) 12 0 = 0 ∨ bits (s.arg m 1) 12 0 > 4096) := by
    rintro (none' | many)
    · exact some' none'
    · exact Nat.not_lt.mpr few many
  change (∀ i b, _ → execConfigureEphemeris m s = _) ∧ (_ → execConfigureEphemeris m s = _)
  refine ⟨fun i b bad => mbxCommand_of_done takes ((if_neg right).trans ((readBuffer_of_readable reads).trans ?_)),
    fun good => mbxCommand_of_done takes ((if_neg right).trans ((readBuffer_of_readable reads).trans ?_))⟩
  · simp only [hyperFirstBad, hyperRecords, State.arg] at bad ⊢
    rw [bad]
    rfl
  · simp only [hyperFirstBad, hyperRecords, State.arg] at good ⊢
    rw [good]
    rfl

/-! OPTIM tasks. -/

/-- Where nothing of a list is passed by, its first is what is found. -/
theorem find?_not_of_filter_nil {α : Type} {p : α → Bool} {l : List α} (none' : l.filter p = []) :
    (l.find? fun a => !p a) = l.head? := by
  cases l with
  | nil => rfl
  | cons a l =>
    have first : p a = false := Bool.eq_false_iff.mpr (List.filter_eq_nil_iff.mp none' a List.mem_cons_self)
    rw [List.find?_cons_of_pos (by rw [first]; rfl), List.head?_cons]

/-- The state Ephemeris of a die goes on in: gone tasks forgotten, the accepted queue filled. -/
def ephemFilled (die : Nat) (s : State) : State :=
  acceptMore 64 die (chargeAll { s with ephem := { s.ephem with
    accepted := s.ephem.accepted.filter fun p => kvHas p.1 s.mer.tasks } })

theorem exec_optimTask {die : Fin 2} {s u : State} (filled : ephemFilled die.val s = u) (calm : u.inCompute = false) :
    let mine := u.acceptedOn die.val
    let held := mine.find? fun p => p.2.phase == .running && p.2.heldBy.any fun g => (u.heldPage g 1).isNone
    (∀ t k, held = some (t, k) → exec (.optimTask die) s =
      .next (settle (optGo t die.val (setTask t (fun k => { k with heldBy := none }) u)))) ∧
    (∀ t k, held = none → mine.countP (fun p => p.2.phase != .admitted) < 8 →
      let ready := mine.filter fun p => p.2.phase == .admitted &&
        (mine.find? fun q => q.2.desc.ostate == p.2.desc.ostate).map Prod.fst == some p.1
      (ready.filter fun p => u.noEntry die.val p.2.desc) = [] → ready.head? = some (t, k) → k.waitWhy ≠ 4 →
      exec (.optimTask die) s = .next (settle (optGo t die.val (startTask t (endWait t
        (count .stateWait die.val (u.cyc - (kvFind t u.ephem.accepted).getD u.cyc) u)))))) := by
  intro mine held
  have run : exec (.optimTask die) s = execOptimTask die s := rfl
  have repaired (f : Nat × Task → Bool) (same : ∀ p, f p = (p.2.phase == .running &&
      p.2.heldBy.any fun g => (u.heldPage g 1).isNone)) : mine.find? f = held :=
    congrArg (fun f => mine.find? f) (funext same)
  unfold ephemFilled at filled
  rw [run, execOptimTask]
  dsimp only
  rw [filled, if_neg (Bool.eq_false_iff.mp calm), repaired _ fun p => by cases p.2.heldBy <;> rfl]
  refine ⟨fun t k repairs => ?_, fun t k none' room => ?_⟩
  · rw [repairs]
    rfl
  · intro entered first other
    have all : u.acceptedOn die.val = mine := rfl
    rw [none']
    dsimp only
    rw [all, entered, List.foldl_nil, if_neg (Nat.not_le.mpr room), find?_not_of_filter_nil entered, first]
    dsimp only
    rw [if_neg other]
    rfl

/-! Step boundaries. -/

theorem exec_stepBoundary {t : Nat} {k : Task} {s : State} (task : s.task t = some k) (step : k.desc.type = 0xC)
    (bounds : k.desc.b 3 0 = true) (running : k.phase = .running)
    (done : s.mer.tasks.any (fun p => p.2.desc.type == 6 && decide (p.2.age ≠ 0) && decide (p.2.age < k.age)) = false)
    (closed : s.ephem.openRecs.any (fun e => decide (e.age ≠ 0) && decide (e.age < k.age)) = false) :
    let u := count .commitWait 0 (s.cyc - k.startCyc) s
    let v := { u with mer := { u.mer with boundary := some k.stream } }
    exec (.stepBoundary t) s =
      .next (settle (noteWaits (endTask t false 0 0 (boundary (v.stream k.stream).step v)))) := by
  intro u v
  have run : exec (.stepBoundary t) s = execStepBoundary t s := rfl
  rw [run, execStepBoundary, task]
  refine if_neg ?_
  simp only [Bool.and_assoc] at done
  rw [done, closed, step, bounds, running]
  rintro (h | h | h | h)
  · exact h rfl
  · exact absurd h (by decide)
  · exact h rfl
  · exact absurd h (by decide)

/-- Settles O54. -/
theorem ephemerisAndSteps : Obligations.EphemerisAndSteps := by
  unfold Obligations.EphemerisAndSteps
  refine fun s => ⟨fun m takes => ⟨exec_configureEphemeris_refused takes, exec_configureEphemeris takes⟩,
    fun die => ?_, fun t k => exec_stepBoundary⟩
  intro u mine held calm
  obtain ⟨goesOn, starts⟩ := exec_optimTask (die := die) (s := s) (u := u) rfl calm
  have same : held = mine.find? fun p => p.2.phase == .running && p.2.heldBy.any fun g => (u.heldPage g 1).isNone :=
    congrArg (fun f => mine.find? f) (funext fun p => by cases p.2.heldBy <;> rfl)
  rw [same]
  exact ⟨goesOn, starts⟩

end Sys2Proof.Machine
end
